-- ==== Sys2Proof/Word.lean ====
section
/-! DEFINITION. Bytes, little-endian words (R6) and bit fields (R7). -/

namespace Sys2Proof

/-- One byte of a packet, record, frame or memory (R6). -/
abbrev Byte := BitVec 8

/-- The number a little-endian byte list spells (R6). -/
def leNat : List Byte → Nat
  | [] => 0
  | b :: bs => b.toNat + 256 * leNat bs

/-- `n` bytes of `v`, least significant byte first (R6); higher bits are dropped. -/
def leBytes : Nat → Nat → List Byte
  | 0, _ => []
  | n + 1, v => BitVec.ofNat 8 v :: leBytes n (v / 256)

/-- The `len` bytes at offset `off` of a record (R7). -/
def slice (bs : List Byte) (off len : Nat) : List Byte := (bs.drop off).take len

/-- The little-endian field of `len` bytes at offset `off` (R7). -/
def field (bs : List Byte) (off len : Nat) : Nat := leNat (slice bs off len)

/-- Bits `lo + len - 1` down to `lo` of `v` (R7). -/
def bits (v lo len : Nat) : Nat := v / 2 ^ lo % 2 ^ len

/-- The byte field `len` bytes wide at byte `off` of a value held as one little-endian number. -/
def byteField (v off len : Nat) : Nat := bits v (8 * off) (8 * len)

/-- `n` zero bytes. -/
def zeros (n : Nat) : List Byte := List.replicate n 0#8

/-- Whether every byte is zero. -/
def allZero (bs : List Byte) : Bool := bs.all (· == 0#8)

/-- The two's-complement reading of a `w`-bit field. -/
def toSigned (w v : Nat) : Int :=
  if v % 2 ^ w < 2 ^ (w - 1) then (v % 2 ^ w : Nat) else ((v % 2 ^ w : Nat) : Int) - (2 ^ w : Nat)

/-- The `w`-bit two's-complement field that holds `x`. -/
def ofSigned (w : Nat) (x : Int) : Nat := (x % (2 ^ w : Nat)).toNat

/-- Pads a byte list with zero bytes up to `n` bytes (a longer list is unchanged). -/
def padTo (n : Nat) (bs : List Byte) : List Byte := bs ++ zeros (n - bs.length)

/-- A Boolean as a bit. -/
def bit (b : Bool) : Nat := if b then 1 else 0

end Sys2Proof
end

