-- ==== Sys2Proof/Syntax.lean ====
section
/-! DEFINITION. The commands the block takes: one constructor of `Instr` per row of spec/opcode_table.json,
with the operands the row's rule names. -/

namespace Sys2Proof

/-- Where a command packet came from: a PCI Express queue pair (R376) or a UDP session (R386). -/
inductive Origin where
  | qp (n : Nat)
  | session (n : Nat)
  deriving DecidableEq, Repr

/-- The authentication trailer of a command packet (Table 14.11). -/
structure Trailer where
  slot : Nat
  zero : Nat
  counter : Nat
  mac : List Byte
  deriving DecidableEq, Repr

/-- A command packet (R382, Table 14.10) with what its queue slot adds (Table 14.8); the opcode is the row's own.
`t` is the DT of its fetch or arrival. -/
structure Packet where
  t : Nat
  origin : Origin
  resultSize : Nat
  resultAddr : Nat
  version : Nat
  flags : Nat
  length : Nat
  tag : Nat
  scope : Nat
  zero : Nat
  params : List Byte
  trailer : Option Trailer
  deriving DecidableEq, Repr

/-- The BAR0 registers of Table 14.2 that host software writes and that have no row of their own. -/
inductive Bar0Reg where
  | sqBase | cqBase | cfg
  | mod (v : Nat)
  deriving DecidableEq, Repr

/-- A write of the MSI-X table or of the MSI-X capability that clears a mask (R399). -/
inductive MsixWrite where
  | entry (v addr data : Nat) (masked : Bool)
  | control (enable functionMask : Bool)
  deriving DecidableEq, Repr

/-- A write of a host read offset (R195): through STREAM_READ[s] of BAR0, or by `PARAM_SET`. -/
inductive StreamReadWrite where
  | bar0 (t s v : Nat)
  | param (p : Packet)
  deriving DecidableEq, Repr

/-- What the board and the silicon show BOOT (R561): which DDR5 channels fail training, which core sets pass
(R562), the self-test's outcome, the DT of STANDBY entry, and what a programmer wrote into the
flash during RESET (R558). -/
structure BootInputs where
  dramFail : Nat
  setAPass : Bool
  setBPass : Bool
  selfTestPass : Bool
  tEnd : Nat
  temp : List Int
  programmed : List (Nat × List Byte)
  deriving DecidableEq, Repr

/-- What an on-die SRAM word of R455 belongs to (Table 17.2): a profile set, the burst buffer of a DMA channel, the state of loop
island `i`, the memory of a firmware core set, or anything else. -/
inductive OnDie where
  | other
  | profileSet (k : Nat)
  | burstBuffer (c : Nat)
  | loopIsland (i : Nat)
  | coreSet (set : Nat)
  deriving DecidableEq, Repr


/-- The commands of spec/opcode_table.json, in the table's order. -/
inductive Instr where
  /-- DEV_IDENTIFY (R403). -/
  | devIdentify (p : Packet)
  /-- PARAM_GET (R406). -/
  | paramGet (p : Packet)
  /-- PARAM_SET (R408). -/
  | paramSet (p : Packet)
  /-- PROFILE_SELECT (R44). -/
  | profileSelect (p : Packet)
  /-- PROFILE_CHECK (R44). -/
  | profileCheck (p : Packet)
  /-- READY_ENTER (R36). -/
  | readyEnter (p : Packet)
  /-- STANDBY_ENTER (R36). -/
  | standbyEnter (p : Packet)
  /-- ARM (R139). -/
  | arm (p : Packet)
  /-- DISARM (R36). -/
  | disarm (p : Packet)
  /-- HOLD (R39). -/
  | hold (p : Packet)
  /-- RESUME (R39). -/
  | resume (p : Packet)
  /-- SAFE_REQUEST (R38). -/
  | safeRequest (p : Packet)
  /-- RECOVER (R36). -/
  | recover (p : Packet)
  /-- RECOVERY_EXIT (R36). -/
  | recoveryExit (p : Packet)
  /-- SERVICE_ENTER (R36). -/
  | serviceEnter (p : Packet)
  /-- DEVICE_RESET (R556). -/
  | deviceReset (p : Packet)
  /-- DEVICE_RESET_DELAY_END (R556). -/
  | deviceResetDelayEnd (t : Nat)
  /-- CYCLE_RUN (R33). -/
  | cycleRun (p : Packet)
  /-- CYCLE_PHASE (R34). -/
  | cyclePhase (p : Packet)
  /-- CYCLE_RELEASE (R32). -/
  | cycleRelease (p : Packet)
  /-- CYCLE_STOP (R33). -/
  | cycleStop (p : Packet)
  /-- QUEUE_CREATE (R381). -/
  | queueCreate (p : Packet)
  /-- QUEUE_DELETE (R381). -/
  | queueDelete (p : Packet)
  /-- STREAM_FENCE (R392). -/
  | streamFence (p : Packet)
  /-- NOP (R403). -/
  | nop (p : Packet)
  /-- KEY_LOAD (R396). -/
  | keyLoad (p : Packet)
  /-- KEY_RETIRE (R397). -/
  | keyRetire (p : Packet)
  /-- COUNTER_READ (R394). -/
  | counterRead (p : Packet)
  /-- QUIRE_APPEND (R74). -/
  | quireAppend (p : Packet)
  /-- SIG_LOAD (R75). -/
  | sigLoad (p : Packet)
  /-- QUIRE_FLUSH (R76). -/
  | quireFlush (p : Packet)
  /-- SIG_DISCARD (R77). -/
  | sigDiscard (p : Packet)
  /-- TRJ_FC_LOAD (R105). -/
  | trjFcLoad (p : Packet)
  /-- TRJ_FC_READ (R413). -/
  | trjFcRead (p : Packet)
  /-- LAS_HEAD_RESTORE (R138). -/
  | lasHeadRestore (p : Packet)
  /-- GUT_REPLAY_LOAD (R148). -/
  | gutReplayLoad (p : Packet)
  /-- GUT_STITCH_TABLE (R168). -/
  | gutStitchTable (p : Packet)
  /-- MPS_RATIO_LOAD (R178). -/
  | mpsRatioLoad (p : Packet)
  /-- MPS_RATIO_READ (R413). -/
  | mpsRatioRead (p : Packet)
  /-- LOOP_INJECT (R233). -/
  | loopInject (p : Packet)
  /-- LOOP_CAPTURE (R235). -/
  | loopCapture (p : Packet)
  /-- LOOP_CAPTURE_READ (R236). -/
  | loopCaptureRead (p : Packet)
  /-- LOOP_MAP_LOAD (R226). -/
  | loopMapLoad (p : Packet)
  /-- LDG_CLEAR (R244). -/
  | ldgClear (p : Packet)
  /-- LDG_READ (R249). -/
  | ldgRead (p : Packet)
  /-- LDG_SNAPSHOT_LOAD (R253). -/
  | ldgSnapshotLoad (p : Packet)
  /-- IMG_CONTROL (R260). -/
  | imgControl (p : Packet)
  /-- IMG_SNAP (R262). -/
  | imgSnap (p : Packet)
  /-- IMG_TONE_LOAD (R272). -/
  | imgToneLoad (p : Packet)
  /-- IMG_PORT_RESET (R281). -/
  | imgPortReset (p : Packet)
  /-- MOT_MOVE (R288). -/
  | motMove (p : Packet)
  /-- MOT_STOP (R293). -/
  | motStop (p : Packet)
  /-- MOT_SET_POSITION (R297). -/
  | motSetPosition (p : Packet)
  /-- MOT_FAULT_CLEAR (R296). -/
  | motFaultClear (p : Packet)
  /-- MOT_STREAM_START (R307). -/
  | motStreamStart (p : Packet)
  /-- FBK_SET_COUNT (R325). -/
  | fbkSetCount (p : Packet)
  /-- EMD_FRAME_LOAD (R336). -/
  | emdFrameLoad (p : Packet)
  /-- EMD_LATCH (R342). -/
  | emdLatch (p : Packet)
  /-- EMD_DARK (R344). -/
  | emdDark (p : Packet)
  /-- HLK_RETRAIN (R359). -/
  | hlkRetrain (p : Packet)
  /-- HLK_LOOPBACK (R368). -/
  | hlkLoopback (p : Packet)
  /-- DMA_STOP (R443). -/
  | dmaStop (p : Packet)
  /-- DMA_RETRY (R443). -/
  | dmaRetry (p : Packet)
  /-- DMA_SKIP (R443). -/
  | dmaSkip (p : Packet)
  /-- MEM_CHANNEL_MAPOUT (R473). -/
  | memChannelMapout (p : Packet)
  /-- PAIR_GUTTER_TABLE (R494). -/
  | pairGutterTable (p : Packet)
  /-- PAIR_WITNESS_GRANT (R499). -/
  | pairWitnessGrant (p : Packet)
  /-- REC_READ (R509). -/
  | recRead (p : Packet)
  /-- REC_FREEZE (R511). -/
  | recFreeze (p : Packet)
  /-- REC_UNFREEZE (R511). -/
  | recUnfreeze (p : Packet)
  /-- REC_CLEAR (R512). -/
  | recClear (p : Packet)
  /-- REC_BUILD_BEGIN (R520). -/
  | recBuildBegin (p : Packet)
  /-- REC_BUILD_END (R521). -/
  | recBuildEnd (p : Packet)
  /-- SVC_FW_LOAD (R531). -/
  | svcFwLoad (p : Packet)
  /-- SVC_FW_SWITCH (R532). -/
  | svcFwSwitch (p : Packet)
  /-- SVC_FW_COMMIT (R533). -/
  | svcFwCommit (p : Packet)
  /-- SVC_MODE_SET (R535). -/
  | svcModeSet (p : Packet)
  /-- SVC_TRIM_RUN (R539). -/
  | svcTrimRun (p : Packet)
  /-- SVC_TRIM_CAPTURE (R545). -/
  | svcTrimCapture (p : Packet)
  /-- SVC_TRIM_SET (R545). -/
  | svcTrimSet (p : Packet)
  /-- SVC_LOOPBACK (R546). -/
  | svcLoopback (p : Packet)
  /-- SVC_SELF_TEST (R547). -/
  | svcSelfTest (p : Packet)
  /-- OP_STATUS (R416). -/
  | opStatus (p : Packet)
  /-- OP_ARM (R416). -/
  | opArm (p : Packet)
  /-- OP_DISARM (R416). -/
  | opDisarm (p : Packet)
  /-- OP_PAUSE (R416). -/
  | opPause (p : Packet)
  /-- OP_CONTINUE (R416). -/
  | opContinue (p : Packet)
  /-- OP_ABORT (R416). -/
  | opAbort (p : Packet)
  /-- OP_RUN (R416). -/
  | opRun (p : Packet)
  /-- OP_FENCE (R416). -/
  | opFence (p : Packet)
  /-- OP_LOAD_LAYER (R418). -/
  | opLoadLayer (p : Packet)
  /-- OP_FLUSH (R416). -/
  | opFlush (p : Packet)
  /-- OP_SET_JUMP (R417). -/
  | opSetJump (p : Packet)
  /-- OP_SET_DELAYS (R417). -/
  | opSetDelays (p : Packet)
  /-- OP_SET_POWER_LIMIT (R417). -/
  | opSetPowerLimit (p : Packet)
  /-- OP_HEAD_RESET (R416). -/
  | opHeadReset (p : Packet)
  /-- OP_MOVE_AXIS (R416). -/
  | opMoveAxis (p : Packet)
  /-- OP_RETRAIN (R416). -/
  | opRetrain (p : Packet)
  /-- SIG_LONG_WRITE (R72). -/
  | sigLongWrite (p : Packet)
  /-- LAS_POWER_MAX_WRITE (R129). -/
  | lasPowerMaxWrite (p : Packet)
  /-- LAS_EMIT_MASK_WRITE (R589). -/
  | lasEmitMaskWrite (p : Packet)
  /-- LDG_ORIGIN_WRITE (R244). -/
  | ldgOriginWrite (p : Packet)
  /-- RING_PARAM_WRITE (R196). -/
  | ringParamWrite (p : Packet)
  /-- STREAM_READ_WRITE (R195). -/
  | streamReadWrite (w : StreamReadWrite)
  /-- LOOP_FLAGS_CLEAR (R220). -/
  | loopFlagsClear (p : Packet)
  /-- MOT_DECEL_WRITE (R289). -/
  | motDecelWrite (p : Packet)
  /-- MOT_JERK_WRITE (R290). -/
  | motJerkWrite (p : Packet)
  /-- MOT_LIMITS_WRITE (R298). -/
  | motLimitsWrite (p : Packet)
  /-- FBK_CHANNEL_CFG_WRITE (R324). -/
  | fbkChannelCfgWrite (p : Packet)
  /-- FBK_DIVIDER_WRITE (R320). -/
  | fbkDividerWrite (p : Packet)
  /-- FBK_SPARE_MODE_WRITE (R540). -/
  | fbkSpareModeWrite (p : Packet)
  /-- IMG_PORT_CFG_WRITE (R281). -/
  | imgPortCfgWrite (p : Packet)
  /-- IMG_SETTINGS_WRITE (R272). -/
  | imgSettingsWrite (p : Packet)
  /-- IMG_OUT_RELEASE (R271). -/
  | imgOutRelease (p : Packet)
  /-- EMD_BUS_CFG_WRITE (R335). -/
  | emdBusCfgWrite (p : Packet)
  /-- EMD_LEVELS_WRITE (R336). -/
  | emdLevelsWrite (p : Packet)
  /-- HLK_PORT_CFG_WRITE (R369). -/
  | hlkPortCfgWrite (p : Packet)
  /-- NET_PORT_CFG_WRITE (R500). -/
  | netPortCfgWrite (p : Packet)
  /-- PAIR_ROLE_WRITE (R488). -/
  | pairRoleWrite (p : Packet)
  /-- DMA_CHANNEL_CFG_WRITE (R441). -/
  | dmaChannelCfgWrite (p : Packet)
  /-- SQ_TAIL_WRITE (R376). -/
  | sqTailWrite (t qp v : Nat)
  /-- CQ_HEAD_WRITE (R380). -/
  | cqHeadWrite (t qp v : Nat)
  /-- QP0_CFG_WRITE (R374). -/
  | qp0CfgWrite (t : Nat) (reg : Bar0Reg) (v : Nat)
  /-- PAUSE_WRITE (R401). -/
  | pauseWrite (t v : Nat)
  /-- BAR0_BAD_ACCESS (R373). -/
  | bar0BadAccess (t offset size : Nat) (write : Bool)
  /-- DMA_DOORBELL (R436). -/
  | dmaDoorbell (t c w : Nat)
  /-- DMA_RING_HEAD_WRITE (R428). -/
  | dmaRingHeadWrite (t c v : Nat)
  /-- SQ_FETCH (R376). -/
  | sqFetch (t : Nat) (slot packet : List Byte)
  /-- LEASE_COMMIT (R394). -/
  | leaseCommit (t slot : Nat) (ok : Bool)
  /-- FENCE_RELEASE (R390). -/
  | fenceRelease (t acc : Nat)
  /-- FENCE_TIMEOUT (R391). -/
  | fenceTimeout (t acc : Nat)
  /-- CQ_ENTRY_WRITE (R379). -/
  | cqEntryWrite (t qp : Nat)
  /-- MODERATION_TIMER_EXPIRE (R398). -/
  | moderationTimerExpire (t v : Nat)
  /-- MSIX_UNMASK (R399). -/
  | msixUnmask (t : Nat) (w : MsixWrite)
  /-- FUNCTION_D0_RETURN (R400). -/
  | functionD0Return (t : Nat)
  /-- FUNCTION_D3HOT_ENTRY (R400). -/
  | functionD3hotEntry (t : Nat) (d3hot pmeEn : Bool)
  /-- FUNCTION_RESET (R372). -/
  | functionReset (t : Nat)
  /-- UDP_DATAGRAM (R385). -/
  | udpDatagram (t port src srcPort dstPort : Nat) (fragment : Bool) (payload : List Byte)
  /-- SESSION_TIMEOUT (R386). -/
  | sessionTimeout (t index : Nat)
  /-- RAILS_IN_WINDOW (R550). -/
  | railsInWindow (t : Nat)
  /-- RAIL_OUT_OF_WINDOW (R551). -/
  | railOutOfWindow (t rail : Nat)
  /-- SUPPLY_WARNING (R551). -/
  | supplyWarning (t rail : Nat)
  /-- PWRFAIL_ASSERT (R551). -/
  | pwrfailAssert (t lowNs : Nat)
  /-- RESET_PIN (R555). -/
  | resetPin (t lowNs : Nat)
  /-- JUNCTION_OVER_115 (R36). -/
  | junctionOver115 (t : Nat) (die : Nat) (temp : Int)
  /-- JUNCTION_OVER_125 (R555). -/
  | junctionOver125 (t : Nat) (die : Nat) (temp : Int)
  /-- WATCHDOG_RESET (R554). -/
  | watchdogReset (t : Nat)
  /-- RESET_RELEASE (R554). -/
  | resetRelease (t : Nat) (b : BootInputs)
  /-- INTERLOCK_OPEN (R132). -/
  | interlockOpen (t ch : Nat)
  /-- INTERLOCK_CLOSE (R134). -/
  | interlockClose (t ch : Nat)
  /-- INTLK_DISCREPANCY (R134). -/
  | intlkDiscrepancy (t : Nat)
  /-- WITNESS_PIN (R499). -/
  | witnessPin (t : Nat)
  /-- WITNESS_TIMEOUT (R499). -/
  | witnessTimeout (t : Nat)
  /-- ISLAND_FAULT (R528). -/
  | islandFault (t island set : Nat)
  /-- ISLAND_SELF_TEST_END (R530). -/
  | islandSelfTestEnd (t island : Nat) (pass : Bool)
  /-- FW_STANDBY_READY (R531). -/
  | fwStandbyReady (t : Nat)
  /-- FW_QUIESCENT_POINT (R532). -/
  | fwQuiescentPoint (t : Nat) (incomingFault : Bool)
  /-- FW_COMMIT_DONE (R533). -/
  | fwCommitDone (t : Nat) (flashOk : Bool)
  /-- QUIRE_LOAD_START (R73). -/
  | quireLoadStart (t : Nat)
  /-- SIGNATURE_LOAD_END (R62). -/
  | signatureLoadEnd (t : Nat)
  /-- LONG_SEGMENT_FREE (R71). -/
  | longSegmentFree (t : Nat)
  /-- EXPOSE_START (R28). -/
  | exposeStart (t : Nat)
  /-- SLOT_BOUNDARY (R351). -/
  | slotBoundary (t : Nat)
  /-- LOOP_DEADLINE_MISS (R207). -/
  | loopDeadlineMiss (t l : Nat)
  /-- SAMPLE_UP (R353). -/
  | sampleUp (t h : Nat) (frame : List Byte)
  /-- SAMPLE_MISSING (R190). -/
  | sampleMissing (t h i : Nat)
  /-- FRAME_RESULT (R184). -/
  | frameResult (t h : Nat)
  /-- FRAME_TRUNCATED (R180). -/
  | frameTruncated (t h : Nat)
  /-- MPS_FLUSH_TIMEOUT (R193). -/
  | mpsFlushTimeout (t : Nat)
  /-- MPS_RING_WRITE (R194). -/
  | mpsRingWrite (t : Nat)
  /-- HOST_RING_COPY (R195). -/
  | hostRingCopy (t i : Nat)
  /-- LINK_LOSS (R365). -/
  | linkLoss (t h : Nat) (lock : Bool)
  /-- CFG_ACK_TIMEOUT (R353). -/
  | cfgAckTimeout (t h : Nat)
  /-- BLOCK_LOCK_LOST (R348). -/
  | blockLockLost (t h : Nat)
  /-- BLOCK_LOCK_HELD (R359). -/
  | blockLockHeld (t h : Nat)
  /-- CAP_DOWN_SEND (R359). -/
  | capDownSend (t h : Nat)
  /-- CAP_UP (R358). -/
  | capUp (t h : Nat) (frame : List Byte)
  /-- ECHO_DOWN_SEND (R359). -/
  | echoDownSend (t h : Nat)
  /-- ECHO_UP (R359). -/
  | echoUp (t h : Nat) (frame : List Byte)
  /-- TRAINING_TIMEOUT (R359). -/
  | trainingTimeout (t h : Nat)
  /-- LOOPBACK_END (R368). -/
  | loopbackEnd (t h bits errors : Nat)
  /-- KETTLE_FENCE (R165). -/
  | kettleFence (t : Nat)
  /-- KETTLE_TIMEOUT (R166). -/
  | kettleTimeout (t : Nat)
  /-- TRIGGER_DUE (R261). -/
  | triggerDue (t p : Nat)
  /-- KETTLE_END (R263). -/
  | kettleEnd (t : Nat)
  /-- RECOAT_START (R299). -/
  | recoatStart (t : Nat)
  /-- RECOAT_END (R299). -/
  | recoatEnd (t : Nat)
  /-- IMAGE_END (R517). -/
  | imageEnd (t : Nat)
  /-- FRAME_TIMEOUT (R263). -/
  | frameTimeout (t p : Nat)
  /-- CXP_SOF (R262). -/
  | cxpSof (t p fmt w h : Nat)
  /-- STRIPE_ARRIVAL (R265). -/
  | stripeArrival (t p : Nat)
  /-- STRIPE_RETURN (R265). -/
  | stripeReturn (t p : Nat)
  /-- PIPELINE_STRIPE_DONE (R267). -/
  | pipelineStripeDone (t : Nat)
  /-- CXP_CONTROL_ACK (R260). -/
  | cxpControlAck (t p : Nat) (valid : Bool) (code : Nat) (data : List Byte)
  /-- CXP_CONTROL_TIMEOUT (R260). -/
  | cxpControlTimeout (t p : Nat)
  /-- CXP_DISCOVERY (R258). -/
  | cxpDiscovery (t p : Nat) (ok : Bool) (speed : Nat)
  /-- CXP_LINK_LOSS (R258). -/
  | cxpLinkLoss (t p : Nat)
  /-- CXP_EVENT_PACKET (R257). -/
  | cxpEventPacket (t p : Nat) (bytes : List Byte)
  /-- CXP_HEARTBEAT (R257). -/
  | cxpHeartbeat (t : Nat)
  /-- AXIS_TICK (R287). -/
  | axisTick (t : Nat)
  /-- MOVE_IN_POSITION (R292). -/
  | moveInPosition (t a : Nat)
  /-- POSITION_REESTABLISH (R294). -/
  | positionReestablish (t a : Nat)
  /-- MOT_FAULT_PIN (R296). -/
  | motFaultPin (t a : Nat) (low : Bool)
  /-- SYNC_IN_EDGE (R303). -/
  | syncInEdge (t i : Nat)
  /-- SINCOS_CONVERSION (R311). -/
  | sincosConversion (t c sc cc : Nat)
  /-- QUAD_EDGE (R314). -/
  | quadEdge (t c : Nat) (a b : Bool)
  /-- QUAD_INDEX (R314). -/
  | quadIndex (t c : Nat)
  /-- SSI_FRAME_END (R315). -/
  | ssiFrameEnd (t c raw extra : Nat) (good : Bool) (latch : Nat)
  /-- TRIM_PERIOD (R539). -/
  | trimPeriod (t : Nat)
  /-- TRIM_HANDOVER (R540). -/
  | trimHandover (t : Nat) (maxDiff : Nat) (pairError : Bool)
  /-- TRIM_FIT (R541). -/
  | trimFit (t : Nat) (codes : List (Nat × Nat))
  /-- TRIM_HANDBACK (R540). -/
  | trimHandback (t : Nat) (maxDiff : Nat) (pairError : Bool)
  /-- SWEEPER_TICK (R243). -/
  | sweeperTick (t : Nat)
  /-- LDG_READOUT_COPY (R249). -/
  | ldgReadoutCopy (t i : Nat)
  /-- LDG_SNAPSHOT_LOADED (R253). -/
  | ldgSnapshotLoaded (t : Nat)
  /-- EMD_LATCH_DUE (R339). -/
  | emdLatchDue (t b : Nat)
  /-- EMD_REFRESH_LATCH (R334). -/
  | emdRefreshLatch (t b : Nat)
  /-- EMD_TRANSFER_END (R337). -/
  | emdTransferEnd (t b : Nat) (replies : List (Nat × List (List Byte)))
  /-- EMD_STATUS_POLL (R345). -/
  | emdStatusPoll (t b d : Nat) (reply : List Byte)
  /-- DMA_DESCRIPTOR_FETCH (R422). -/
  | dmaDescriptorFetch (t c : Nat) (bytes : List Byte)
  /-- DMA_BURST_END (R424). -/
  | dmaBurstEnd (t c : Nat) (src dst : List Byte)
  /-- DMA_DESCRIPTOR_END (R427). -/
  | dmaDescriptorEnd (t c : Nat)
  /-- DMA_LINK_READ_RETURN (R435). -/
  | dmaLinkReadReturn (t c w : Nat)
  /-- DMA_READ_FAILED (R430). -/
  | dmaReadFailed (t c : Nat)
  /-- PERIPH_REQUEST (R437). -/
  | periphRequest (t e : Nat)
  /-- PERIPH_WITHDRAW (R438). -/
  | periphWithdraw (t e c n : Nat) (bytes : List Byte)
  /-- SOURCE_LEVEL_CHANGE (R445). -/
  | sourceLevelChange (t n : Nat) (level : Bool)
  /-- SOURCE_TAKE (R447). -/
  | sourceTake (t c : Nat) (wake : Option Nat)
  /-- EOI_WRITE (R450). -/
  | eoiWrite (t c v : Nat)
  /-- ROUTE_WRITE (R446). -/
  | routeWrite (t n v : Nat)
  /-- CORE_ONLINE_WRITE (R449). -/
  | coreOnlineWrite (t c v : Nat)
  /-- SWI_WRITE (R444). -/
  | swiWrite (t v : Nat)
  /-- STORE_UNCORRECTABLE (R456). -/
  | storeUncorrectable (t store offset reader : Nat) (part : OnDie)
  /-- STORE_CORRECTABLE (R456). -/
  | storeCorrectable (t store offset : Nat)
  /-- SCRUB_READ (R457). -/
  | scrubRead (t store : Nat)
  /-- ROW_REPAIR (R458). -/
  | rowRepair (t store row : Nat)
  /-- DRAM_CORRECTED (R464). -/
  | dramCorrected (t ch rank sub dev : Nat)
  /-- DRAM_POISON (R464). -/
  | dramPoison (t addr : Nat)
  /-- REFRESH_DUE (R467). -/
  | refreshDue (t ch rank : Nat) (burst : Bool) (stall : Nat)
  /-- RETRAIN_PAUSE (R468). -/
  | retrainPause (t ch margin stall : Nat)
  /-- NEIGHBOUR_REFRESH (R469). -/
  | neighbourRefresh (t ch rank bank : Nat) (acts : List Nat)
  /-- RFM_ISSUE (R470). -/
  | rfmIssue (t ch rank bank raaimt : Nat) (forced : Bool) (stall : Nat)
  /-- REFRESH_WINDOW_CLEAR (R469). -/
  | refreshWindowClear (t ch : Nat)
  /-- MIGRATION_BLOCK (R471). -/
  | migrationBlock (t : Nat) (ok : Bool)
  /-- MIGRATION_END (R471). -/
  | migrationEnd (t : Nat)
  /-- ETH_FRAME (R476). -/
  | ethFrame (t p : Nat) (good : Bool) (frame : List Byte)
  /-- PTP_MESSAGE (R480). -/
  | ptpMessage (t p master : Nat) (utc : Int) (offset : Option Int)
  /-- TIME_HOLDOVER (R483). -/
  | timeHoldover (t : Nat)
  /-- REFCLK_BAD (R484). -/
  | refclkBad (t i : Nat)
  /-- REFCLK_GOOD (R484). -/
  | refclkGood (t i : Nat)
  /-- PEER_CAP (R489). -/
  | peerCap (t : Nat) (frame : List Byte)
  /-- PAIR_CAP_RETRY (R488). -/
  | pairCapRetry (t : Nat)
  /-- PEER_ECHO (R490). -/
  | peerEcho (t : Nat) (frame : List Byte)
  /-- PEER_OFFSET_ECHO_TIMER (R490). -/
  | peerOffsetEchoTimer (t : Nat)
  /-- PEER_SLOT (R496). -/
  | peerSlot (t : Nat) (frame : List Byte)
  /-- PEER_CYCLE (R493). -/
  | peerCycle (t : Nat) (frame : List Byte)
  /-- PEER_CLAIM (R495). -/
  | peerClaim (t : Nat) (frame : List Byte)
  /-- PEER_RELEASE (R496). -/
  | peerRelease (t : Nat) (frame : List Byte)
  /-- PEER_RELATION (R491). -/
  | peerRelation (t : Nat) (frame : List Byte)
  /-- MESSAGE_RESEND (R486). -/
  | messageResend (t seq : Nat)
  /-- PEER_LINK_DOWN (R498). -/
  | peerLinkDown (t : Nat)
  /-- EVENT_ARRIVAL (R505). -/
  | eventArrival (t i : Nat)
  /-- FREEZE_TIMEOUT (R511). -/
  | freezeTimeout (t : Nat)
  /-- JOURNAL_WRITE_END (R523). -/
  | journalWriteEnd (t : Nat) (ok : Bool)
  /-- COMPACTION_END (R526). -/
  | compactionEnd (t : Nat)
  /-- SELF_TEST_END (R547). -/
  | selfTestEnd (t rowsTested : Nat) (failed : List (Nat × Nat)) (margins : List Nat)
  /-- SVC_LOOPBACK_END (R546). -/
  | svcLoopbackEnd (t iface index bits errors : Nat)
  /-- PEER_LINK_UP (R488). -/
  | peerLinkUp (t : Nat)
  /-- STRIPE_READY (R267). -/
  | stripeReady (t p : Nat) (lines : List (List Nat)) (crcFails : Nat) (badLine ends : Bool)
  /-- CLKREQ_N_ASSERTED (R371). -/
  | clkreqNAsserted (t : Nat)
  /-- ETH_PORT_LINK_CHANGE (R475). -/
  | ethPortLinkChange (t p : Nat) (lock : Bool)
  deriving DecidableEq, Repr

end Sys2Proof
end

