-- ==== Sys2Proof/Config.lean ====
section
/-! DEFINITION. What the spec leaves open: free values and identities that no rule gives. None has a body, so nothing can be
proved of a particular value. -/

namespace Sys2Proof.Config

/-- The n-th free value (log entry 2). -/
opaque freeValue : Nat → Nat

/-- The mean of R269 over a window that holds no site of the channel, by frame number, x, y and channel (log entry 20). -/
opaque emptyMean : Nat → Nat → Nat → Nat → Nat

/-- The device key in OTP that wraps stored keys (R395). -/
opaque deviceKey : List Byte

/-- The signature that the holder of the firmware-signing key makes of bytes 0 to 63 + PAYLOAD_LENGTH of an image, ECDSA P-384 with
SHA-384 (Table 20.2); the key in OTP is no rule's number (log entry 62). -/
opaque signatureOf : List Byte → List Byte

/-- Whether another signature of a whole image verifies as well (log entry 62). -/
opaque alsoSigned : List Byte → Bool

end Sys2Proof.Config
end

