-- ==== Sys2Proof/Machine/Arith.lean ====
section
/-! DEFINITION. Exact arithmetic: the rounding of R13, saturation, square roots and the transcendental
functions that rules compute "exactly, then round once". -/

namespace Sys2Proof.Machine

/-- Round to nearest, ties away from zero (R13), of `n / d` for `d > 0`. -/
def roundDiv (n : Int) (d : Nat) : Int :=
  let q := (2 * n.natAbs + d) / (2 * d)
  if n < 0 then -(q : Int) else q

/-- R13 for an unsigned quotient. -/
def roundNat (n d : Nat) : Nat := (2 * n + d) / (2 * d)

/-- Saturate a computed result to `lo .. hi` (R13). -/
def clampInt (lo hi x : Int) : Int := if x < lo then lo else if hi < x then hi else x

/-- Saturate a computed unsigned result at `hi` (R13). -/
def satNat (hi x : Nat) : Nat := if hi < x then hi else x

/-- Saturate to a signed field of `w` bits (R13, R19). -/
def satSigned (w : Nat) (x : Int) : Int := clampInt (-(2 ^ (w - 1) : Nat)) ((2 ^ (w - 1) : Nat) - 1) x

/-- A counter of 32 bits that saturates. -/
def inc32 (n : Nat) : Nat := satNat 4294967295 (n + 1)

/-- A counter of 32 bits that saturates, raised by `k`. -/
def add32 (n k : Nat) : Nat := satNat 4294967295 (n + k)

/-- Ceiling of `a / b`. -/
def ceilDiv (a b : Nat) : Nat := (a + b - 1) / b

/-- Floor division of integers. -/
def floorDiv (a : Int) (b : Nat) : Int := Int.fdiv a b

/-- One bit of the integer square root per unit of `k`: the root of `n` below `2 ^ k`, given root `r`. -/
def isqrtFrom : Nat → Nat → Nat → Nat
  | 0, _, r => r
  | k + 1, n, r =>
    let c := r + 2 ^ k
    isqrtFrom k n (if c * c ≤ n then c else r)

/-- Floor of the square root of `n`. -/
def isqrt (n : Nat) : Nat := isqrtFrom (n.log2 / 2 + 1) n 0

/-- `sqrt (n / d)` rounded to nearest, ties away from zero (R13); `d > 0`. -/
def roundSqrt (n d : Nat) : Nat := (isqrt (4 * n / d) + 1) / 2

/-- The scale of the fixed-point numbers below: `2 ^ 160`. A result is right unless the exact value lies
within `2 ^ -140` of a rounding boundary. -/
def fixOne : Int := (2 ^ 160 : Nat)

/-- Product of two fixed-point numbers. -/
def fixMul (a b : Int) : Int := Int.fdiv (a * b) fixOne

/-- Alternating arctangent series of `x` (|x| at most 1/2): `x - x^3/3 + x^5/5 - …`, `k` terms. -/
def atanSeries : Nat → Int → Int → Nat → Int
  | 0, _, _, _ => 0
  | k + 1, p, x2, n => Int.fdiv p n - atanSeries k (fixMul p x2) x2 (n + 2)

/-- Arctangent of a fixed-point `x` with `|x| ≤ 1/2`. -/
def fixAtanSmall (x : Int) : Int := atanSeries 84 x (fixMul x x) 1

/-- π in fixed point, by Machin's formula. -/
def fixPi : Int := 16 * fixAtanSmall (Int.fdiv fixOne 5) - 4 * fixAtanSmall (Int.fdiv fixOne 239)

/-- Arctangent of `y / x` for integers `x > 0`, `0 ≤ y ≤ x`, in fixed point: ratios above 1/2 are turned by
`atan (1/2)` first. -/
def fixAtanRatio (y x : Int) : Int :=
  if 2 * y ≤ x then fixAtanSmall (Int.fdiv (y * fixOne) x)
  else fixAtanSmall (Int.fdiv fixOne 2) + fixAtanSmall (Int.fdiv ((2 * y - x) * fixOne) (2 * x + y))

/-- The angle of `(x, y)` in fixed-point radians, in `(-π, π]`; 0 for the origin. -/
def fixAtan2 (y x : Int) : Int :=
  let ax := (x.natAbs : Int)
  let ay := (y.natAbs : Int)
  let first := if ax = 0 ∧ ay = 0 then 0
    else if ay ≤ ax then fixAtanRatio ay ax
    else Int.fdiv fixPi 2 - fixAtanRatio ax ay
  let half := if x < 0 then fixPi - first else first
  if y < 0 then -half else half

/-- Power series `Σ z^n / n!` from term `t` = z^n/n!, `k` terms. -/
def expSeries : Nat → Int → Int → Nat → Int
  | 0, _, _, _ => 0
  | k + 1, t, z, n => t + expSeries k (Int.fdiv (fixMul t z) n) z (n + 1)

/-- `exp z` of a fixed-point `z` with `|z| ≤ 1`. -/
def fixExpSmall (z : Int) : Int := expSeries 48 fixOne z 1

/-- Repeated squaring: `x ^ (2 ^ k)`. -/
def fixSquares : Nat → Int → Int
  | 0, x => x
  | k + 1, x => fixSquares k (fixMul x x)

/-- `exp (-(n / d))` in fixed point for naturals `n`, `d > 0`: the argument is halved until it is at most 1,
and the result squared back. -/
def fixExpNeg (n d : Nat) : Int :=
  let k := (n / d + 1).log2 + 1
  fixSquares k (fixExpSmall (-Int.fdiv ((n : Int) * fixOne) (d * 2 ^ k : Nat)))

/-- Sine series terms of `x` in fixed point, `|x| ≤ 4`. -/
def sinSeries : Nat → Int → Int → Nat → Int
  | 0, _, _, _ => 0
  | k + 1, t, x2, n => t - sinSeries k (Int.fdiv (fixMul t x2) (n * (n + 1))) x2 (n + 2)

/-- Sine of a fixed-point angle with `|x| ≤ 4`. -/
def fixSin (x : Int) : Int := sinSeries 40 x (fixMul x x) 2

/-- Cosine of a fixed-point angle with `|x| ≤ 4`. -/
def fixCos (x : Int) : Int := sinSeries 40 fixOne (fixMul x x) 1

/-- A fixed-point number times `k`, rounded by R13. -/
def fixRound (x : Int) (k : Nat) : Int := roundDiv (x * k) (2 ^ 160)

end Sys2Proof.Machine
end

