-- ==== Sys2Proof/Machine/StateCore.lean ====
section
/-! DEFINITION. State of the layer cycle (01), the host interface (14), power and reset (21) and service (20). -/

namespace Sys2Proof.Machine

/-- The device states of Table 00.6, numbered 0 to 9 in that order. -/
inductive DevState where
  | off | reset | boot | standby | ready | armed | hold | safe | service | recovery
  deriving DecidableEq, Repr

/-- The phases of Table 01.7. -/
inductive Phase where
  | idle | load | expose | kettle | recoat | image
  deriving DecidableEq, Repr

/-- The phase boundaries of Table 01.5. -/
inductive Boundary where
  | beforeExpose | beforeRecoat | beforeImage | afterImage
  deriving DecidableEq, Repr

/-- The grades of Table 00.1. -/
inductive Grade where
  | sx32 | sx16 | sx08
  deriving DecidableEq, Repr

/-- A balance profile descriptor (Table 01.17), filled as R41 states. -/
structure Profile where
  profile : Nat := 0
  heads : Nat := 32
  ts : Nat := 1
  gang : Nat := 0
  pitch : Nat := 1
  raw : Nat := 0
  servo : Nat := 0
  extraOps : Nat := 0
  cam : Nat := 1
  deriving DecidableEq, Repr

/-- One-time-programmable identity (21: Boot; R395, R538). It survives every reset. -/
structure Otp where
  grade : Grade := .sx32
  stepLetter : Nat := 11
  stepNumber : Nat := 0
  serial : Nat := 0
  /-- factory calibration of front ends 0 to 8: OFF_S, OFF_C, GAIN_S, GAIN_C, PHASE (R538) -/
  factory : List (List Int) := List.replicate 9 [0, 0, 16384, 16384, 0]
  /-- A_REF of the reference generator -/
  aRef : Nat := 16384
  deriving DecidableEq, Repr

/-- The sequencer's state (R29 to R39). -/
structure Cycle where
  state : DevState := .off
  cause : Nat := 0
  profile : Profile := {}
  phase : Phase := .idle
  /-- host-assisted: the phase has ended and the next `CYCLE_PHASE` is expected (R34); hardware: KETTLE or RECOAT has ended
  and a boundary or the peer holds the next phase back -/
  phaseDone : Bool := false
  /-- the boundary of a RELEASE wait (R32) -/
  boundary : Option Boundary := none
  layersLeft : Nat := 0
  /-- layer number of the layer in progress -/
  layer : Nat := 0
  /-- its LAYER_THICKNESS (R299) -/
  thickness : Nat := 0
  /-- DT_s of the EXPOSE in progress, and its next sample index -/
  dtS : Nat := 0
  sample : Nat := 0
  /-- DT of the latest slot boundary outside EXPOSE -/
  lastSlot : Nat := 0
  /-- acceptance number of a `DISARM` waiting for the end of IMAGE (R36) -/
  disarm : Option Nat := none
  /-- acceptance number of the `CYCLE_PHASE` whose phase has not ended (R34) -/
  hostPhase : Option Nat := none
  /-- the phase a `CYCLE_PHASE` named, while it has not begun -/
  asked : Option Phase := none
  /-- an imaging-island fault or a peer split asks for HOLD at the fence, with this cause (R36, R498) -/
  holdAtFence : Option Nat := none
  /-- DT of ARM or RESUME, for LAS.EMIT_LEAD (R135) -/
  armedAt : Nat := 0
  deriving DecidableEq, Repr

/-- One queue pair (R374 to R381, R388). -/
structure QueuePair where
  enabled : Bool := false
  sizeExp : Nat := 0
  vector : Nat := 0
  sqBase : Nat := 0
  cqBase : Nat := 0
  sqHead : Nat := 0
  sqTail : Nat := 0
  /-- next entry the host has to release, and next entry the device writes -/
  cqHead : Nat := 0
  cqTail : Nat := 0
  /-- entries written and not yet released -/
  cqUsed : Nat := 0
  phase : Bool := true
  version : Option Nat := none
  /-- acceptance number of the `QUEUE_DELETE` that waits for it -/
  deleting : Option Nat := none
  deriving DecidableEq, Repr

/-- One UDP session (R386, R387). -/
structure Session where
  src : Nat
  port : Nat
  lastDt : Nat
  version : Option Nat := none
  /-- final status packets of the latest 256 distinct tags, newest first -/
  stored : List (Nat × List Byte) := []
  deriving DecidableEq, Repr

/-- A status packet or marker waiting to be written to a completion queue (R379). -/
structure CqItem where
  qp : Nat
  packet : List Byte
  resultAddr : Nat
  marker : Bool
  deriving DecidableEq, Repr

/-- An accepted command that has not started (R376, R390, R394). -/
structure WaitingCmd where
  acc : Nat
  opcode : Nat
  packet : Packet
  since : Nat
  /-- the lease ceiling it waits for (R394) -/
  lease : Option Nat := none
  deriving DecidableEq, Repr

/-- A started command without its final status (R384, R390). -/
structure InProg where
  acc : Nat
  opcode : Nat
  packet : Packet
  /-- its completion is discarded: the PCI Express function was reset or the queue pair disabled (R372, R381) -/
  mute : Bool := false
  /-- it has written no status yet: its first status is its final one (R376) -/
  silent : Bool := false
  deriving DecidableEq, Repr

/-- Key slot states (Table 14.13). -/
inductive KeyState where
  | empty | active | retired
  deriving DecidableEq, Repr

/-- A key slot (R393 to R396): the key, the last accepted counter and the committed lease. -/
structure KeySlot where
  state : KeyState := .empty
  key : List Byte := []
  last : Nat := 0
  lease : Nat := 0
  /-- a lease whose journal entry has not yet been committed -/
  wanted : Option Nat := none
  /-- acceptance number of the `KEY_RETIRE` (R397): commands accepted before it are still authenticated -/
  retiredAt : Nat := 0
  deriving DecidableEq, Repr

/-- Moderation state of one MSI-X vector (R398, R399) and its table entry. -/
structure Vector64 where
  count : Nat := 1
  timer : Nat := 100
  entries : Nat := 0
  first : Nat := 0
  due : Bool := false
  pba : Bool := false
  addr : Nat := 0
  data : Nat := 0
  masked : Bool := true
  deriving DecidableEq, Repr

/-- A host-memory write that waits while the function may not write (R400): destination, bytes, vector. -/
structure HeldWrite where
  addr : Nat
  bytes : List Byte
  vector : Nat
  deriving DecidableEq, Repr

/-- The PCI Express function and the command protocol (14). -/
structure HostIf where
  qps : List QueuePair := List.replicate 64 {}
  sessions : List (Option Session) := List.replicate 16 none
  cqWait : List CqItem := []
  held : List HeldWrite := []
  waiting : List WaitingCmd := []
  inProg : List InProg := []
  nextAcc : Nat := 1
  fenceNumber : Nat := 0
  lastQp : Nat := 63
  vectors : List Vector64 := List.replicate 64 {}
  msixEnable : Bool := false
  functionMask : Bool := false
  busMaster : Bool := false
  d3hot : Bool := false
  pmeEn : Bool := false
  /-- the link is in L1.1 or L1.2 (R371), and the level the device gives CLKREQ_N -/
  linkL1 : Bool := false
  /-- the host island is ready and Retry Status has ended (R372) -/
  ready : Bool := false
  pauseRequest : Bool := false
  qp0SqBase : Nat := 0
  qp0CqBase : Nat := 0
  qp0Cfg : Nat := 0
  keys : List KeySlot := List.replicate 8 {}
  rsvdWrites : Nat := 0
  authFails : Nat := 0
  doorbellErrs : Nat := 0
  /-- `STREAM_FENCE`s that wait for their sample boundary (R392): acceptance number, DT at which the command started -/
  fences : List (Nat × Nat) := []
  /-- DT of the pending `DEVICE_RESET` (R556) -/
  resetAt : Option Nat := none
  /-- the high half that a 4-byte read of an 8-byte BAR0 register has latched, with the register's offset (R373) -/
  readLatch : Option (Nat × Nat) := none
  deriving DecidableEq, Repr

/-- Results of BOOT (Table 21.10). -/
structure BootStatus where
  result : Nat := 0
  slot : Nat := 255
  copy : Nat := 255
  fallback : Bool := false
  setARetired : Bool := false
  setBRetired : Bool := false
  dramFail : Nat := 0
  standbyDt : Nat := 0
  deriving DecidableEq, Repr

/-- Supplies, temperature, reset and boot (21). -/
structure Power where
  railsIn : Bool := false
  /-- DT at which every rail has been in its window for 2 ms (R554) -/
  railsOkAt : Nat := 0
  /-- DT from which RESET_N is high again -/
  pinUntil : Nat := 0
  resetCause : Nat := 0
  /-- the junction in 0.125 °C as last reported: logic die, link die, hottest store die, highest since reset -/
  temp : List Int := [0, 0, 0, 0]
  warn : Nat := 0
  warnSeen : Nat := 0
  /-- DT from which PWRFAIL_N is high again -/
  pwrfailUntil : Nat := 0
  boot : BootStatus := {}
  record : List Byte := []
  deriving DecidableEq, Repr

/-- Status of an island (DEV.ISLAND_STATUS). -/
inductive IslandStatus where
  | inService | faulted | testing | retired
  deriving DecidableEq, Repr

/-- One island of Table 20.1: its status, its fault count and the DTs of its latest faults (R530). -/
structure Island where
  status : IslandStatus := .inService
  faults : Nat := 0
  recent : List Nat := []
  /-- its latest self-test passed and it waits for RECOVERY to return to service (R530) -/
  passed : Bool := false
  deriving DecidableEq, Repr

/-- Standby states of Table 20.4. -/
inductive Standby where
  | mirror | loading | staged | trial
  deriving DecidableEq, Repr

/-- A firmware image held by a core set (Table 20.2): its version, formats and bytes. -/
structure FwImage where
  version : Nat := 0
  stateFormat : Nat := 16
  oldest : Nat := 16
  bytes : List Byte := []
  deriving DecidableEq, Repr

/-- Firmware exchange (R531 to R534). -/
structure Firmware where
  /-- 0 set A, 1 set B (FW_SET) -/
  activeSet : Nat := 0
  standby : Standby := .mirror
  active : FwImage := {}
  other : FwImage := {}
  /-- the load in progress and the command it completes; `none` for a reload with the active image -/
  loading : Option (Nat × FwImage) := none
  /-- acceptance number of `SVC_FW_SWITCH` in progress and the DT it started -/
  switching : Option Nat := none
  /-- acceptance number of `SVC_FW_COMMIT` in progress, and PERSIST -/
  committing : Option (Nat × Bool) := none
  lastSwitch : Nat := 0
  switches : Nat := 0
  takeovers : Nat := 0
  /-- a set with a failing core is retired (R562): no standby set -/
  setRetired : Bool := false
  /-- a takeover waits for the loading set (R534) -/
  takeoverWait : Bool := false
  deriving DecidableEq, Repr

/-- What a trim in progress is for (R539, R545). -/
inductive TrimKind where
  | rotation
  | run (acc : Nat)
  | capture (acc addr : Nat)
  deriving DecidableEq, Repr

/-- A trim in progress: front end, step of Table 20.6 (3 stands for 3 and 4), purpose, DT at which the step began, DT of
conversion 0. -/
structure Trim where
  fe : Nat
  step : Nat
  inPlace : Bool
  kind : TrimKind
  since : Nat
  conv0 : Nat := 0
  /-- the candidate delta of the fit, its result of R542 and its residual -/
  candidate : List Int := [0, 0, 0, 0, 0]
  result : Nat := 0
  residual : Nat := 0
  codes : List (Nat × Nat) := []
  /-- SVC.TRIM_CFG and SVC.TRIM_LIMITS as they stood at its start (R548) -/
  cfg : Nat := 0
  limits : Nat := 0
  deriving DecidableEq, Repr

/-- One front end's trim data (R538, R543): current delta, the slew in progress (old delta, conversions done),
and the fields of SVC.TRIM_STATUS. -/
structure FrontEnd where
  delta : List Int := [0, 0, 0, 0, 0]
  slewFrom : List Int := [0, 0, 0, 0, 0]
  slewDone : Nat := 1024
  result : Nat := 0
  residual : Nat := 0
  lastDt : Nat := 0
  applied : Nat := 0
  rejected : Nat := 0
  deriving DecidableEq, Repr

/-- A loopback of `SVC_LOOPBACK` (R546). -/
structure Loopback where
  acc : Nat
  iface : Nat
  index : Nat
  depth : Nat
  pattern : Nat
  endsAt : Nat
  deriving DecidableEq, Repr

/-- Service (20). -/
structure Service where
  islands : List Island := List.replicate 45 {}
  fw : Firmware := {}
  /-- SVC.MODES: modes in force -/
  modes : Nat := 0
  /-- pending mode requests: bit, value, acceptance number (R535) -/
  modeReq : List (Nat × Bool × Nat) := []
  frontEnds : List FrontEnd := List.replicate 9 {}
  trim : Option Trim := none
  /-- trims asked for while another runs, oldest first: front end, purpose -/
  trimQueue : List (Nat × TrimKind) := []
  /-- next front end of the rotation: 8, 0, 1, …, 7 (R539) -/
  nextTrim : Nat := 8
  lastPeriod : Nat := 0
  /-- writes of FBK.SPARE_MODE that wait for the trim in progress (R540): acceptance number, value -/
  spareWrite : List (Nat × Nat) := []
  loopback : List Loopback := []
  /-- acceptance number and mask of `SVC_SELF_TEST` in progress -/
  selfTest : Option (Nat × Nat) := none
  rowsTested : Nat := 0
  rowsRepaired : Nat := 0
  margin : Nat := 0
  deriving DecidableEq, Repr

end Sys2Proof.Machine
end

