-- ==== Sys2Proof/Machine/ParamRows.lean ====
section
/-! DEFINITION. The parameter catalogue as data (Tables 15.5 and 15.6 and the chapters' parameter tables): value size (R405),
scope kind (R404), access, states that permit a write, reset value, timing of a write (R408) and field ranges (R407). -/

namespace Sys2Proof.Machine

/-- Scope kinds of Table 15.1. -/
inductive ParamScope where
  | device | head | port | axis | channel | bus | loop
  deriving DecidableEq, Repr

/-- Access of a parameter. -/
inductive Access where
  | ro | rw | rw1c
  deriving DecidableEq, Repr

/-- When a write takes effect: at once, at the next kettle fence in ARMED and HOLD (R84, R172, R201, R247), or as the
parameter's own rule says. -/
inductive Timing where
  | now | fence | own
  deriving DecidableEq, Repr

/-- A field of a value: bit offset, width, range; signed when the lower bound is negative. -/
structure Fld where
  off : Nat
  len : Nat
  lo : Int
  hi : Int
  deriving DecidableEq, Repr

structure ParamRow where
  id : Nat
  size : Nat
  scope : ParamScope := .device
  access : Access := .rw
  permit : List DevState := []
  /-- a write is permitted in ARMED only with PHASE = IDLE -/
  armedIdle : Bool := false
  reset : Nat := 0
  timing : Timing := .now
  fields : List Fld := []
  deriving DecidableEq, Repr

/-- "from STANDBY" (R402). -/
def fromStandby : List DevState := [.standby, .ready, .armed, .hold, .safe, .service, .recovery]
def inStandbyReady : List DevState := [.standby, .ready]

/-- An unrestricted field of `len` bytes at byte `off`. -/
def byteFld (off len : Nat) : Fld := { off := 8 * off, len := 8 * len, lo := 0, hi := (2 ^ (8 * len) - 1 : Nat) }
/-- A field at byte `off`, `len` bytes, with a range. -/
def rangeFld (off len : Nat) (lo hi : Int) : Fld := { off := 8 * off, len := 8 * len, lo := lo, hi := hi }
def bitFld (off len : Nat) : Fld := { off := off, len := len, lo := 0, hi := (2 ^ len - 1 : Nat) }

/-- The number of a field's bits in a value, signed where the field is. -/
def Fld.get (f : Fld) (v : Nat) : Int := if f.lo < 0 then toSigned f.len (bits v f.off f.len) else (bits v f.off f.len : Nat)

/-- Whether a value of `size` bytes lies within its fields, with every other bit zero (R407). -/
def ParamRow.fits (r : ParamRow) (v : Nat) : Bool :=
  r.fields.all (fun f => decide (f.lo ≤ f.get v ∧ f.get v ≤ f.hi)) &&
  decide (v = r.fields.foldl (fun a f => a ||| bits v f.off f.len * 2 ^ f.off) 0)

/-- A 4-byte value 0 to `hi`. -/
def rwRow (id lo hi reset : Nat) (scope : ParamScope) (timing : Timing) : ParamRow :=
  { id := id, size := 4, scope := scope, permit := fromStandby, reset := reset, timing := timing, fields := [rangeFld 0 4 lo hi] }
def roRow (id size : Nat) (scope : ParamScope) : ParamRow := { id := id, size := size, scope := scope, access := .ro }

def u32 : Nat := 4294967295

/-- DEV (Tables 01.14, 14.15). -/
def rowsDev : List ParamRow := [
  roRow 0x0010 4 .device, roRow 0x0011 4 .device, roRow 0x0012 16 .device, roRow 0x0013 4 .device,
  { id := 0x0014, size := 4, permit := fromStandby, fields := [bitFld 0 4] },
  roRow 0x0015 4 .device, roRow 0x0016 4 .device,
  rwRow 0x0017 1 u32 10000 .device .now, rwRow 0x0018 1 65535 60 .device .now,
  roRow 0x0019 4 .device, roRow 0x001A 4 .device]

/-- TRJ (Tables 03.4, 03.9, 03.15). -/
def rowsTrj : List ParamRow := [
  rwRow 0x2000 0 u32 20000 .head .fence, rwRow 0x2001 0 255 15 .head .fence, rwRow 0x2002 0 65535 20000 .head .fence,
  { id := 0x2003, size := 4, scope := .head, permit := fromStandby, timing := .fence, fields := [rangeFld 0 4 (-32768) 32767] },
  rwRow 0x2004 0 65535 500 .head .fence, rwRow 0x2005 0 500000 0 .head .fence, rwRow 0x2006 0 100000 0 .head .fence,
  rwRow 0x2007 0 100000 0 .head .fence,
  { id := 0x2008, size := 8, scope := .head, permit := fromStandby, timing := .fence, fields := [byteFld 0 3, byteFld 3 3] },
  roRow 0x2009 4 .head,
  roRow 0x2010 4 .head, roRow 0x2011 4 .head, roRow 0x2012 4 .head, roRow 0x2013 4 .head, roRow 0x2014 4 .head, roRow 0x2015 12 .head,
  { id := 0x2018, size := 16, scope := .head, permit := fromStandby, fields := [byteFld 0 16] },
  roRow 0x2019 16 .head, rwRow 0x201A 0 u32 262144 .head .now, rwRow 0x201B 0 u32 4295 .head .now,
  { id := 0x2020, size := 16, scope := .head, permit := [.standby, .ready, .armed], armedIdle := true, fields := [byteFld 0 8, byteFld 8 4] },
  { id := 0x2021, size := 4, scope := .head, permit := [.ready, .armed, .hold, .safe, .service, .recovery], fields := [byteFld 0 4] },
  roRow 0x2022 4 .head, roRow 0x2023 8 .head, roRow 0x2024 4 .head]

/-- LAS (Table 04.8). -/
def rowsLas : List ParamRow := [
  rwRow 0x3000 0 65535 65535 .head .own, rwRow 0x3001 0 u32 u32 .device .own,
  { rwRow 0x3002 0 1000000 1000 .device .now with permit := inStandbyReady },
  roRow 0x3003 4 .device,
  { rwRow 0x3004 0 1000 50 .device .now with permit := inStandbyReady },
  { id := 0x3005, size := 4, permit := fromStandby, reset := 0x55,
    fields := [⟨0, 2, 0, 2⟩, ⟨2, 2, 0, 2⟩, ⟨4, 2, 0, 2⟩, ⟨6, 2, 0, 2⟩] },
  roRow 0x3006 4 .head, roRow 0x3007 4 .device, roRow 0x3008 4 .head, roRow 0x3009 4 .head, roRow 0x300A 4 .head, roRow 0x300B 4 .device,
  rwRow 0x300C 0 255 0 .head .fence]

/-- GUT (Table 05.7). -/
def rowsGut : List ParamRow := [
  rwRow 0x4000 0 u32 5000 .device .fence, rwRow 0x4001 0 65535 200 .device .fence, rwRow 0x4002 1 64 16 .device .fence,
  rwRow 0x4003 0 1 1 .device .fence, rwRow 0x4004 1 u32 60000 .device .fence,
  { id := 0x4005, size := 8, permit := fromStandby, timing := .fence, reset := 16384, fields := [byteFld 0 2, byteFld 2 2] },
  { id := 0x4006, size := 8, scope := .head, permit := fromStandby, timing := .fence, reset := 20000 + 2 ^ 32 * 1000 + 2 ^ 48 * 2000,
    fields := [rangeFld 0 4 0 1000000, byteFld 4 2, byteFld 6 2] },
  rwRow 0x4007 0 1000000 5000 .device .fence, rwRow 0x4008 0 20000 20000 .device .fence, rwRow 0x4009 0 100000 500 .device .fence,
  rwRow 0x400A 0 65535 50 .device .fence, rwRow 0x400B 0 u32 2000 .device .fence,
  roRow 0x4010 4 .device, roRow 0x4011 4 .head, roRow 0x4012 16 .head, roRow 0x4013 4 .head, roRow 0x4014 4 .head, roRow 0x4015 4 .device,
  roRow 0x4016 4 .device, roRow 0x4017 4 .device,
  rwRow 0x4020 0 1 0 .head .fence,
  { id := 0x4021, size := 8, permit := fromStandby, timing := .fence, reset := 2621440 + 2 ^ 32 * 42950, fields := [byteFld 0 4, byteFld 4 4] },
  rwRow 0x4022 0 65535 20 .device .fence, rwRow 0x4023 0 1023 512 .device .fence, rwRow 0x4024 1 65535 16 .device .fence,
  roRow 0x4025 32 .head]

/-- A DRAM ring (R196): base and size of 8 bytes each; a host ring: 32 bytes. -/
def ringPermit : List DevState := [.standby, .ready, .armed]
def dramRingRow (id : Nat) : ParamRow :=
  { id := id, size := 16, permit := ringPermit, armedIdle := true, fields := [byteFld 0 8, byteFld 8 8] }
def hostRingRow (id : Nat) : ParamRow :=
  { id := id, size := 32, permit := ringPermit, armedIdle := true, fields := [byteFld 0 8, byteFld 8 8, byteFld 16 8, rangeFld 24 1 0 63] }
def hostReadRow (id : Nat) : ParamRow := { id := id, size := 8, permit := fromStandby, fields := [byteFld 0 8] }

/-- MPS (Table 06.7). -/
def rowsMps : List ParamRow := [
  { id := 0x5000, size := 8, scope := .head, permit := fromStandby, timing := .fence, reset := 2 ^ 32 * 128 + 2 ^ 40 * 128,
    fields := [byteFld 0 2, byteFld 2 2, rangeFld 4 1 8 128, rangeFld 5 1 8 128] },
  rwRow 0x5001 1 65535 100 .head .fence, rwRow 0x5002 0 65535 20000 .head .fence, rwRow 0x5003 0 1023 0 .head .fence,
  rwRow 0x5004 0 1023 256 .head .fence, rwRow 0x5005 0 1023 512 .head .fence,
  { id := 0x5006, size := 4, scope := .head, permit := fromStandby, timing := .fence, reset := 1 + 65536 * 64, fields := [byteFld 0 2, byteFld 2 2] },
  rwRow 0x5007 0 65535 400 .head .fence,
  { id := 0x5008, size := 8, scope := .head, permit := fromStandby, timing := .fence, reset := 65536 * 0x4000 + 2 ^ 48 * 0x4000,
    fields := [byteFld 0 2, byteFld 2 2, byteFld 4 2, byteFld 6 2] },
  rwRow 0x5009 0 131070 256 .head .fence, rwRow 0x500A 0 4095 0 .head .fence, rwRow 0x500B 0 1 0 .head .fence,
  dramRingRow 0x5010, hostRingRow 0x5011, dramRingRow 0x5012, hostRingRow 0x5013,
  rwRow 0x5014 1 1000 10 .device .now, hostReadRow 0x5015, hostReadRow 0x5016,
  roRow 0x5018 4 .device, roRow 0x5019 4 .device, roRow 0x501A 4 .device, roRow 0x501B 4 .head, roRow 0x501C 4 .head, roRow 0x501D 4 .head,
  roRow 0x501E 4 .head]

/-- Reset of `LOOP.TARGET`: sixteen entries, zero but SCALE 1.0. -/
def targetReset : Nat := (List.range 16).foldl (fun a n => a + 0x01000000 * 2 ^ (8 * (16 * n + 4))) 0
def targetFields : List Fld := (List.range 16).flatMap fun n => [rangeFld (16 * n) 1 0 12, byteFld (16 * n + 1) 3, byteFld (16 * n + 4) 12]

/-- LOOP (Tables 07.13, 07.14); the per-loop rows are found by their base. -/
def rowsLoop : List ParamRow := [
  { id := 0x6000, size := 256, scope := .head, permit := fromStandby, timing := .fence, reset := targetReset, fields := targetFields },
  roRow 0x6001 4 .head, roRow 0x6002 4 .head, roRow 0x6003 32 .head,
  { rwRow 0x6020 1 65535 64 .device .now with permit := inStandbyReady },
  roRow 0x6021 8 .device, roRow 0x6022 32 .device, roRow 0x6023 72 .device, roRow 0x6024 16 .device]

/-- `LOOP.RULE` n, 0 to 7 (Table 07.9). -/
def ruleRow (n : Nat) : ParamRow :=
  { id := 0x6010 + n, size := 16, scope := .head, permit := fromStandby, timing := .fence, reset := 2 ^ 64 + 2 ^ 80,
    fields := [rangeFld 0 1 0 12, rangeFld 1 1 0 3, rangeFld 2 1 0 3, rangeFld 3 1 0 3, byteFld 4 4, rangeFld 8 2 1 65535,
      rangeFld 10 2 1 65535, rangeFld 12 2 0 0x4000, byteFld 14 2] }

def inputReset : Nat := (List.range 5).foldl (fun a n => a + 0x01000000 * 2 ^ (8 * (12 * n + 8))) 0
def biquadReset : Nat := (List.range 4).foldl (fun a n => a + 0x01000000 * 2 ^ (8 * (20 * n))) 0
def limitsReset : Nat := 0x80000000 + 2 ^ 32 * 0x7FFFFFFF + 2 ^ 64 * 0x7FFFFFFF + 2 ^ 96 * 0x40000000

/-- A per-loop row at its base (Table 07.14). -/
def loopRow (base loop : Nat) : Option ParamRow :=
  let r (size reset : Nat) (fields : List Fld) : Option ParamRow :=
    some { id := base + loop, size := size, scope := .loop, permit := fromStandby, reset := reset, timing := .own, fields := fields }
  match base with
  | 0x6400 => r 16 0 [⟨0, 2, 0, 2⟩, ⟨8, 3, 0, 4⟩, byteFld 2 1, bitFld 24 2, rangeFld 4 1 0 2, byteFld 5 1]
  | 0x6500 => r 64 inputReset ((List.range 5).flatMap fun n => [rangeFld (12 * n) 1 0 8, byteFld (12 * n + 1) 2, byteFld (12 * n + 4) 8])
  | 0x6600 => r 8 (0x01000000 + 2 ^ 32 * 0x7FFFFFFF) [rangeFld 0 4 0 0x01000000, rangeFld 4 4 0 0x7FFFFFFF]
  | 0x6700 => r 16 0 [byteFld 0 12]
  | 0x6800 => r 80 biquadReset [byteFld 0 80]
  | 0x6900 => r 16 0 [byteFld 0 16]
  | 0x6A00 => r 16 limitsReset [byteFld 0 8, rangeFld 8 4 0 0x7FFFFFFF, byteFld 12 4]
  | 0x6B00 => r 8 0x40000000 [byteFld 0 4]
  | 0x6C00 => some { id := base + loop, size := 4, scope := .loop, access := .rw1c, permit := fromStandby, fields := [bitFld 1 15] }
  | 0x6D00 => some { roRow (base + loop) 64 .loop with access := .ro }
  | 0x6E00 => some { roRow (base + loop) 16 .loop with access := .ro }
  | 0x6F00 => r 4 0 [byteFld 0 4]
  | _ => none

/-- LDG (Table 08.5). -/
def kernelReset : Nat := [4096, 8192, 4096, 8192, 16384, 8192, 4096, 8192, 4096].zipIdx.foldl (fun a p => a + p.1 * 2 ^ (16 * p.2)) 0
def rowsLdg : List ParamRow := [
  { id := 0x7000, size := 8, permit := inStandbyReady, timing := .own, fields := [byteFld 0 3, byteFld 3 3] },
  rwRow 0x7001 1000 100000000 500000 .device .fence, rwRow 0x7002 0 65535 26214 .device .fence, rwRow 0x7003 0 8 0 .device .fence,
  rwRow 0x7004 0 4095 0 .head .fence,
  { id := 0x7005, size := 32, permit := fromStandby, timing := .fence, reset := kernelReset, fields := [byteFld 0 18] },
  roRow 0x7006 4 .device, roRow 0x7007 1284 .device, roRow 0x7008 16 .device,
  { rwRow 0x7009 0 255 8 .device .now with permit := [.standby] },
  roRow 0x7010 4 .head, roRow 0x7011 4 .head, roRow 0x7012 4 .device, roRow 0x7013 4 .device, roRow 0x7014 4 .device]

/-- REC (Table 19.11). -/
def recRing (r : ParamRow) : ParamRow := { r with permit := [.standby, .ready, .service, .armed] }
def rowsRec : List ParamRow := [
  roRow 0xE100 4 .device, roRow 0xE101 48 .device, recRing (dramRingRow 0xE102), recRing (hostRingRow 0xE103), hostReadRow 0xE104,
  recRing (dramRingRow 0xE105), recRing (hostRingRow 0xE106), hostReadRow 0xE107,
  rwRow 0xE108 0 1 1 .device .fence, rwRow 0xE109 1 600 60 .device .now,
  roRow 0xE10A 4 .device, roRow 0xE10B 4 .device, roRow 0xE10C 32 .device, roRow 0xE10D 24 .device]

/-- IMG (Table 09.13). -/
def imgCfgPermit (r : ParamRow) : ParamRow := { r with permit := [.standby, .ready, .service, .armed], armedIdle := true }
def coeffs (n : Nat) (f : Nat → Nat) : Nat := (List.range n).foldl (fun a k => a + f k * 2 ^ (16 * k)) 0
def colourReset : Nat := coeffs 12 fun k => if k = 0 ∨ k = 5 ∨ k = 10 then 4096 else 0
def rowsImg : List ParamRow := [
  { id := 0x8000, size := 16, scope := .port, permit := [.standby, .ready, .service, .armed], armedIdle := true,
    fields := [⟨0, 1, 0, 1⟩, ⟨1, 2, 0, 2⟩, ⟨3, 1, 0, 1⟩, rangeFld 1 1 0 6, byteFld 2 2, byteFld 4 2, rangeFld 6 1 0 15, rangeFld 7 1 0 4] },
  { id := 0x8001, size := 16, scope := .port, permit := fromStandby, timing := .fence, reset := 256,
    fields := [⟨0, 2, 0, 3⟩, rangeFld 1 1 1 8, rangeFld 4 4 0 10000000, rangeFld 8 4 0 10000000] },
  { id := 0x8002, size := 4, scope := .port, permit := fromStandby, timing := .fence, fields := [rangeFld 0 4 (-16000) 16000] },
  rwRow 0x8003 0 15 2 .port .fence,
  { id := 0x8004, size := 72, scope := .port, permit := fromStandby, timing := .own, fields := [rangeFld 0 1 0 8, byteFld 8 64] },
  { id := 0x8005, size := 8, scope := .port, permit := fromStandby, timing := .own, fields := [byteFld 0 8] },
  { id := 0x8006, size := 8, scope := .port, permit := fromStandby, timing := .own, reset := 0x1000100010001000, fields := [byteFld 0 8] },
  { id := 0x8007, size := 32, scope := .port, permit := fromStandby, timing := .own, reset := colourReset, fields := [byteFld 0 24] },
  { id := 0x8008, size := 72, scope := .port, permit := fromStandby, timing := .fence, fields := [byteFld 0 72] },
  rwRow 0x8009 1 60000 1000 .device .fence, rwRow 0x800A 0 1 1 .device .fence,
  imgCfgPermit (dramRingRow 0x800B),
  { id := 0x800C, size := 16, scope := .port, permit := [.standby, .ready, .service, .armed], armedIdle := true, fields := [byteFld 0 8, byteFld 8 4, byteFld 12 2] },
  { id := 0x800D, size := 4, scope := .port, permit := fromStandby, timing := .own, fields := [byteFld 0 4] },
  imgCfgPermit (dramRingRow 0x800E), imgCfgPermit (hostRingRow 0x800F), hostReadRow 0x8010, rwRow 0x8011 1 10000 100 .device .now,
  roRow 0x8012 4 .port, roRow 0x8013 16 .port, roRow 0x8014 4 .port, roRow 0x8015 4 .port, roRow 0x8016 4 .port, roRow 0x8017 4 .port,
  roRow 0x8018 4 .port, roRow 0x8019 4 .device, roRow 0x801A 8 .device]

/-- MOT (Table 10.6). -/
def axisRow (id lo hi reset : Nat) : ParamRow := rwRow id lo hi reset .axis .own
def syncFields : List Fld := (List.range 2).flatMap fun o =>
  [rangeFld (16 * o) 1 0 5, rangeFld (16 * o + 1) 1 0 7, byteFld (16 * o + 2) 1, byteFld (16 * o + 4) 4, byteFld (16 * o + 8) 2]
def recoatFields : List Fld := rangeFld 0 1 0 16 :: (List.range 16).flatMap fun n =>
  [rangeFld (16 + 16 * n) 1 0 7, rangeFld (17 + 16 * n) 1 0 3, rangeFld (18 + 16 * n) 1 0 3, byteFld (20 + 16 * n) 12]
def rowsMot : List ParamRow := [
  { id := 0x9000, size := 8, scope := .axis, permit := fromStandby, timing := .own, reset := 255 * 256, fields := [⟨0, 3, 0, 7⟩, byteFld 1 1] },
  { id := 0x9001, size := 8, scope := .axis, permit := fromStandby, timing := .own, reset := 125 + 65536 * 125 + 2 ^ 32 * 1000,
    fields := [rangeFld 0 2 100 10000, rangeFld 2 2 100 10000, rangeFld 4 4 100 100000] },
  axisRow 0x9002 1 4000000 100000, axisRow 0x9003 1 u32 1000000, axisRow 0x9004 1 u32 1000000, axisRow 0x9005 1 u32 100000,
  { id := 0x9006, size := 8, scope := .axis, permit := fromStandby, timing := .own, reset := 0x7FFFFFFF80000000,
    fields := [byteFld 0 4, byteFld 4 4] },
  axisRow 0x9007 0 1024 1024, axisRow 0x9008 0 4000000 0,
  { id := 0x9009, size := 4, scope := .axis, permit := fromStandby, timing := .own, reset := 0x10000, fields := [byteFld 0 4] },
  axisRow 0x900A 1 u32 100, axisRow 0x900B 0 u32 0x10000,
  { id := 0x900C, size := 272, permit := fromStandby, timing := .own, fields := recoatFields },
  { id := 0x900D, size := 32, permit := fromStandby, timing := .own, fields := syncFields },
  { id := 0x900E, size := 16, permit := fromStandby, timing := .own, fields := [byteFld 0 12] },
  { id := 0x900F, size := 4, permit := [.ready, .armed, .hold, .safe, .service, .recovery], timing := .own, fields := [byteFld 0 4] },
  roRow 0x9010 4 .device, rwRow 0x9011 1 10000 100 .device .own,
  roRow 0x9018 8 .axis,
  { id := 0x9019, size := 4, scope := .axis, access := .rw1c, permit := fromStandby, timing := .own, fields := [bitFld 0 3, bitFld 4 8, bitFld 16 4] },
  roRow 0x901A 16 .device, roRow 0x901B 4 .axis, roRow 0x901C 4 .axis]

/-- FBK (Table 11.4). -/
def axisCalReset : Nat := (List.range 3).foldl (fun a n => a + 2 ^ (128 * n) * (0x4000 * 2 ^ 32 + 0x4000 * 2 ^ 48 + 12 * 2 ^ 80 + 8192 * 2 ^ 96 + 24576 * 2 ^ 112)) 0
def axisCalFields : List Fld := (List.range 3).flatMap fun n =>
  [byteFld (16 * n) 10, rangeFld (16 * n + 10) 1 2 12, rangeFld (16 * n + 11) 1 0 1, byteFld (16 * n + 12) 4]
def rowsFbk : List ParamRow := [
  { id := 0xA000, size := 16, scope := .channel, permit := [.standby, .ready, .service, .recovery], timing := .own,
    fields := [rangeFld 0 1 0 3, ⟨8, 2, 0, 3⟩, byteFld 2 3, byteFld 8 4] },
  { id := 0xA001, size := 16, scope := .channel, permit := [.standby, .ready, .service, .recovery], timing := .own,
    reset := 25 + 1000 * 2 ^ 32 + 25 * 2 ^ 64 + 100 * 2 ^ 80,
    fields := [rangeFld 0 1 8 32, rangeFld 1 1 0 3, rangeFld 2 1 0 1, rangeFld 4 2 100 10000, rangeFld 6 2 0 2000, rangeFld 8 2 1 100, rangeFld 10 2 1 65535] },
  { roRow 0xA002 16 .channel with access := .ro },
  { id := 0xA003, size := 8, scope := .channel, permit := fromStandby, timing := .own, reset := 8192 + 65536 * 24576, fields := [byteFld 0 4] },
  rwRow 0xA004 1 65535 1000 .channel .own,
  { id := 0xA005, size := 16, scope := .channel, permit := fromStandby, timing := .own, reset := 65536 + 2 ^ 32 + 25 * 2 ^ 48,
    fields := [rangeFld 0 1 0 2, byteFld 2 4, rangeFld 6 2 25 10000] },
  { id := 0xA006, size := 4, permit := [.standby, .service], timing := .own, fields := [rangeFld 0 4 0 1] },
  roRow 0xA008 24 .channel,
  { id := 0xA009, size := 4, scope := .channel, access := .rw1c, permit := fromStandby, timing := .own, fields := [bitFld 0 4, bitFld 5 7] },
  roRow 0xA00A 4 .channel, roRow 0xA00B 16 .channel,
  { id := 0xA010, size := 48, scope := .head, permit := fromStandby, timing := .fence, reset := axisCalReset, fields := axisCalFields },
  roRow 0xA011 16 .head,
  { id := 0xA012, size := 16, scope := .head, access := .rw1c, permit := fromStandby, timing := .own,
    fields := (List.range 3).flatMap fun (a : Nat) => [bitFld (32 * a) 4, bitFld (32 * a + 5) 7] },
  roRow 0xA013 16 .head]

end Sys2Proof.Machine
end

