-- ==== Sys2Proof/Machine/ParamTables.lean ====
section
/-! DEFINITION. The parameter tables of chapters 02, 12, 13, 16, 17, 18, 20 and 21. -/

namespace Sys2Proof.Machine

/-- Sixteen bytes and fewer as a reset value, lowest first. -/
def bytesReset (l : List Nat) : Nat := l.foldr (fun (b a : Nat) => b + 256 * a) 0

/-- SIG (Table 02.19). -/
def rowsSig : List ParamRow := [
  { rwRow 0x1000 0 1 0 .device .own with permit := [.standby, .ready, .armed], armedIdle := true },
  { rwRow 0x1001 0 u32 0 .device .now with permit := [.standby, .ready, .armed, .hold] },
  { rwRow 0x1002 0 1 1 .device .now with permit := inStandbyReady },
  roRow 0x1003 4 .device, roRow 0x1004 4 .device, roRow 0x1005 4 .device, roRow 0x1006 4 .device, roRow 0x1007 4 .device, roRow 0x1008 4 .device]

/-- DEV of chapter 21 (Table 21.8). -/
def rowsPower : List ParamRow := [
  roRow 0x0020 4 .device, roRow 0x0021 16 .device, roRow 0x0022 4 .device, roRow 0x0023 8 .device, roRow 0x0024 256 .device]

/-- EMD (Table 12.8). -/
def emdPermit : List DevState := [.standby, .ready, .service, .armed]
def rowsEmd : List ParamRow := [
  { id := 0xB000, size := 16, scope := .bus, permit := emdPermit, armedIdle := true, timing := .own, reset := bytesReset [0, 8, 1, 64],
    fields := [bitFld 0 2, rangeFld 1 1 8 255, rangeFld 2 1 1 255, rangeFld 3 1 1 64, byteFld 8 8] },
  { id := 0xB001, size := 64, scope := .bus, permit := fromStandby, timing := .own, fields := (List.range 32).map fun (i : Nat) => rangeFld (2 * i) 2 0 256 },
  { id := 0xB002, size := 16, scope := .bus, permit := emdPermit, armedIdle := true, timing := .own,
    fields := [rangeFld 0 1 0 7, bitFld 8 3, rangeFld 2 1 0 1, rangeFld 3 1 0 1, rangeFld 4 4 0 1000000, rangeFld 8 4 1 10000000] },
  roRow 0xB003 16 .bus, roRow 0xB004 256 .bus, roRow 0xB005 4 .bus, roRow 0xB006 4 .bus, roRow 0xB007 4 .bus]

/-- HLK (Table 13.15). -/
def rowsHlk : List ParamRow := [
  { id := 0xC000, size := 8, scope := .head, permit := [.standby, .service, .recovery], timing := .own, reset := bytesReset [1, 8, 0x20],
    fields := [bitFld 0 3, rangeFld 1 1 0 15, byteFld 2 1] },
  roRow 0xC001 4 .head, roRow 0xC002 128 .head, roRow 0xC003 16 .head, roRow 0xC004 24 .head]

/-- PAIR (Table 18.10). -/
def rowsPair : List ParamRow := [
  { rwRow 0xC100 0 2 0 .device .own with permit := [.standby] },
  { rwRow 0xC101 1 3600000 60000 .device .now with permit := inStandbyReady },
  { rwRow 0xC102 10 10000 20 .device .now with permit := inStandbyReady },
  { id := 0xC103, size := 104, permit := inStandbyReady, fields := [rangeFld 0 1 0 16, byteFld 8 96] },
  { id := 0xC104, size := 8, permit := [.standby], timing := .own, reset := bytesReset [0, 8], fields := [bitFld 0 2, rangeFld 1 1 0 15] },
  roRow 0xC108 4 .device, roRow 0xC109 16 .device, roRow 0xC10A 16 .device]

/-- MEM (Table 17.8). -/
def memRow (id lo hi reset : Nat) : ParamRow := rwRow id lo hi reset .device .now
def memService (r : ParamRow) : ParamRow := { r with permit := [.standby, .service] }
def rowsMem : List ParamRow := [
  roRow 0xD000 32 .device, roRow 0xD001 32 .device,
  memRow 0xD002 2 3600 10, memRow 0xD003 1 255 4, memService (memRow 0xD004 0 10000 100), memService (memRow 0xD005 256 65535 4096),
  memService (memRow 0xD006 1 32 6), memRow 0xD007 1 u32 1000, memRow 0xD008 0 1 1, memRow 0xD009 100 16000 4000,
  roRow 0xD00A 16 .device, roRow 0xD010 4 .device, roRow 0xD011 4 .device, roRow 0xD012 4 .device, roRow 0xD013 4 .device,
  roRow 0xD020 96 .device, roRow 0xD021 96 .device, roRow 0xD022 96 .device, roRow 0xD023 96 .device,
  roRow 0xD030 32 .device, roRow 0xD031 32 .device, roRow 0xD032 32 .device, roRow 0xD033 32 .device]

/-- DMA and INT (Tables 16.17 to 16.19). -/
def rowsDma : List ParamRow := [roRow 0xD180 16 .device, roRow 0xD181 4 .device, roRow 0xD200 4 .device, roRow 0xD201 4 .device,
  roRow 0xD202 64 .device, roRow 0xD203 48 .device, roRow 0xD204 1024 .device, roRow 0xD205 4 .device]
/-- The three per-channel groups, channel `c`. -/
def dmaRow (id : Nat) : Option ParamRow :=
  let c := id % 32
  if id / 32 * 32 = 0xD100 then
    some (if c < 16 then { id := id, size := 32, permit := fromStandby, timing := .own, fields := [bitFld 0 2, byteFld 1 1, byteFld 2 1, byteFld 8 16] }
      else roRow id 32 .device)
  else if id / 32 * 32 = 0xD120 ∨ id / 32 * 32 = 0xD140 then some (roRow id 32 .device)
  else none

/-- NET (Table 18.9). -/
def rowsNet : List ParamRow := [
  { id := 0xE000, size := 8, scope := .port, permit := fromStandby, timing := .own, reset := bytesReset [0, 8], fields := [bitFld 0 2, rangeFld 1 1 0 15] },
  roRow 0xE001 8 .device,
  { id := 0xE002, size := 16, permit := fromStandby, fields := [byteFld 0 4, rangeFld 4 1 0 32, byteFld 8 4] },
  { id := 0xE003, size := 48, permit := fromStandby, fields := [byteFld 0 16, rangeFld 16 1 0 128, byteFld 32 16] },
  { rwRow 0xE004 1 65535 47130 .device .own with permit := fromStandby },
  { id := 0xE005, size := 16, permit := fromStandby, reset := 300 * 2 ^ 32 + 1500 * 2 ^ 64,
    fields := [bitFld 0 1, rangeFld 2 2 0 4094, rangeFld 4 4 10 1000000, rangeFld 8 4 1500 9000] },
  roRow 0xE006 4 .port, roRow 0xE007 48 .port,
  { id := 0xE010, size := 12, permit := fromStandby, reset := 109951 * 2 ^ 32 + 1000000 * 2 ^ 64,
    fields := [rangeFld 0 1 0 2, rangeFld 1 1 0 2, byteFld 2 1, rangeFld 4 4 1 u32, rangeFld 8 4 1000 u32] },
  roRow 0xE011 32 .device, roRow 0xE012 32 .device,
  { id := 0xE018, size := 8, permit := fromStandby, timing := .own, fields := [rangeFld 0 1 0 1, bitFld 8 1] },
  roRow 0xE019 4 .device]

/-- SVC (Table 20.11). -/
def rowsSvc : List ParamRow := [
  roRow 0xF000 32 .device, roRow 0xF008 16 .device, roRow 0xF010 48 .device, roRow 0xF011 180 .device,
  { id := 0xF018, size := 8, permit := fromStandby, reset := 60 + 16 * 2 ^ 32, fields := [rangeFld 0 4 1 86400, rangeFld 4 2 1 256] },
  { id := 0xF019, size := 16, permit := fromStandby,
    reset := 512 + 328 * 2 ^ 16 + 164 * 2 ^ 32 + 64 * 2 ^ 48 + 82 * 2 ^ 64 + 33 * 2 ^ 80 + 16 * 2 ^ 96, fields := [byteFld 0 14] },
  roRow 0xF01A 48 .channel, roRow 0xF01B 32 .channel, roRow 0xF200 32 .device]

end Sys2Proof.Machine
end

