-- ==== Sys2Proof/Machine/Catalogue.lean ====
section
/-! DEFINITION. The whole parameter catalogue (Tables 15.5 and 15.6) and the lookup of a row by its ID. -/

namespace Sys2Proof.Machine

/-- Every row with an ID of its own. -/
def fixedRows : List ParamRow := rowsDev ++ rowsTrj ++ rowsLas ++ rowsGut ++ rowsMps ++ rowsLoop ++ rowsLdg ++ rowsImg ++ rowsMot ++ rowsFbk ++ rowsRec ++
  rowsSig ++ rowsPower ++ rowsEmd ++ rowsHlk ++ rowsPair ++ rowsMem ++ rowsDma ++ rowsNet ++ rowsSvc

/-- The row of an ID; `none` for an ID that no table assigns (R414). -/
def rowOf (id : Nat) : Option ParamRow :=
  if 0x6400 ≤ id ∧ id ≤ 0x6FFF then loopRow (id / 256 * 256) (id % 256)
  else if 0x6010 ≤ id ∧ id ≤ 0x6017 then some (ruleRow (id - 0x6010))
  else if 0xD100 ≤ id ∧ id < 0xD160 then dmaRow id
  else fixedRows.find? fun r => r.id == id

/-- The reset value of an ID. -/
def resetOf (id : Nat) : Nat := ((rowOf id).map (·.reset)).getD 0

end Sys2Proof.Machine
end

