-- ==== Sys2Proof/Machine/Crypto.lean ====
section
/-! DEFINITION. AES-256 (FIPS 197), AES-256-CMAC (NIST SP 800-38B, R393), AES key wrap (NIST SP 800-38F, R396)
and the CRCs of the record and image formats. The standards are the spec's references. -/

namespace Sys2Proof.Machine

/-- The AES substitution table. -/
def aesSbox : List Nat :=
  [99, 124, 119, 123, 242, 107, 111, 197, 48, 1, 103, 43, 254, 215, 171, 118] ++
  [202, 130, 201, 125, 250, 89, 71, 240, 173, 212, 162, 175, 156, 164, 114, 192] ++
  [183, 253, 147, 38, 54, 63, 247, 204, 52, 165, 229, 241, 113, 216, 49, 21] ++
  [4, 199, 35, 195, 24, 150, 5, 154, 7, 18, 128, 226, 235, 39, 178, 117] ++
  [9, 131, 44, 26, 27, 110, 90, 160, 82, 59, 214, 179, 41, 227, 47, 132] ++
  [83, 209, 0, 237, 32, 252, 177, 91, 106, 203, 190, 57, 74, 76, 88, 207] ++
  [208, 239, 170, 251, 67, 77, 51, 133, 69, 249, 2, 127, 80, 60, 159, 168] ++
  [81, 163, 64, 143, 146, 157, 56, 245, 188, 182, 218, 33, 16, 255, 243, 210] ++
  [205, 12, 19, 236, 95, 151, 68, 23, 196, 167, 126, 61, 100, 93, 25, 115] ++
  [96, 129, 79, 220, 34, 42, 144, 136, 70, 238, 184, 20, 222, 94, 11, 219] ++
  [224, 50, 58, 10, 73, 6, 36, 92, 194, 211, 172, 98, 145, 149, 228, 121] ++
  [231, 200, 55, 109, 141, 213, 78, 169, 108, 86, 244, 234, 101, 122, 174, 8] ++
  [186, 120, 37, 46, 28, 166, 180, 198, 232, 221, 116, 31, 75, 189, 139, 138] ++
  [112, 62, 181, 102, 72, 3, 246, 14, 97, 53, 87, 185, 134, 193, 29, 158] ++
  [225, 248, 152, 17, 105, 217, 142, 148, 155, 30, 135, 233, 206, 85, 40, 223] ++
  [140, 161, 137, 13, 191, 230, 66, 104, 65, 153, 45, 15, 176, 84, 187, 22]

/-- The inverse substitution table. -/
def aesInvSbox : List Nat :=
  [82, 9, 106, 213, 48, 54, 165, 56, 191, 64, 163, 158, 129, 243, 215, 251] ++
  [124, 227, 57, 130, 155, 47, 255, 135, 52, 142, 67, 68, 196, 222, 233, 203] ++
  [84, 123, 148, 50, 166, 194, 35, 61, 238, 76, 149, 11, 66, 250, 195, 78] ++
  [8, 46, 161, 102, 40, 217, 36, 178, 118, 91, 162, 73, 109, 139, 209, 37] ++
  [114, 248, 246, 100, 134, 104, 152, 22, 212, 164, 92, 204, 93, 101, 182, 146] ++
  [108, 112, 72, 80, 253, 237, 185, 218, 94, 21, 70, 87, 167, 141, 157, 132] ++
  [144, 216, 171, 0, 140, 188, 211, 10, 247, 228, 88, 5, 184, 179, 69, 6] ++
  [208, 44, 30, 143, 202, 63, 15, 2, 193, 175, 189, 3, 1, 19, 138, 107] ++
  [58, 145, 17, 65, 79, 103, 220, 234, 151, 242, 207, 206, 240, 180, 230, 115] ++
  [150, 172, 116, 34, 231, 173, 53, 133, 226, 249, 55, 232, 28, 117, 223, 110] ++
  [71, 241, 26, 113, 29, 41, 197, 137, 111, 183, 98, 14, 170, 24, 190, 27] ++
  [252, 86, 62, 75, 198, 210, 121, 32, 154, 219, 192, 254, 120, 205, 90, 244] ++
  [31, 221, 168, 51, 136, 7, 199, 49, 177, 18, 16, 89, 39, 128, 236, 95] ++
  [96, 81, 127, 169, 25, 181, 74, 13, 45, 229, 122, 159, 147, 201, 156, 239] ++
  [160, 224, 59, 77, 174, 42, 245, 176, 200, 235, 187, 60, 131, 83, 153, 97] ++
  [23, 43, 4, 126, 186, 119, 214, 38, 225, 105, 20, 99, 85, 33, 12, 125]

/-- Multiplication by x in GF(2^8). -/
def gfDouble (a : Nat) : Nat := if a < 128 then 2 * a else Nat.xor (2 * a) 283

/-- Multiplication in GF(2^8), over the low `k` bits of `b`. -/
def gfMul : Nat → Nat → Nat → Nat
  | 0, _, _ => 0
  | k + 1, a, b => Nat.xor (if b % 2 = 1 then a else 0) (gfMul k (gfDouble a) (b / 2))

/-- Bytewise exclusive or. -/
def xorList (a b : List Nat) : List Nat := List.zipWith Nat.xor a b

/-- The round constants' successive doubling and the key schedule words of AES-256: `k` more words appended to the
reversed list `ws` of words, `i` being the next word's number. -/
def aesExpand : Nat → Nat → Nat → List (List Nat) → List (List Nat)
  | 0, _, _, ws => ws.reverse
  | k + 1, i, rc, ws =>
    let t := ws.getD 0 []
    let sub := t.map (aesSbox.getD · 0)
    let t' := if i % 8 = 0 then xorList (sub.drop 1 ++ sub.take 1) [rc, 0, 0, 0]
      else if i % 8 = 4 then sub else t
    aesExpand k (i + 1) (if i % 8 = 0 then gfDouble rc else rc) (xorList (ws.getD 7 []) t' :: ws)

/-- The 60 words of the AES-256 key schedule. -/
def aesKeyWords (key : List Nat) : List (List Nat) :=
  aesExpand 52 8 1 ((List.range 8).map (fun i => (key.drop (4 * i)).take 4)).reverse

/-- Round key `r`, 16 bytes. -/
def aesRoundKey (ws : List (List Nat)) (r : Nat) : List Nat := ((ws.drop (4 * r)).take 4).flatten

/-- ShiftRows, on the column-ordered state. -/
def aesShift (s : List Nat) : List Nat :=
  [0, 5, 10, 15, 4, 9, 14, 3, 8, 13, 2, 7, 12, 1, 6, 11].map (s.getD · 0)

/-- Inverse ShiftRows. -/
def aesUnshift (s : List Nat) : List Nat :=
  [0, 13, 10, 7, 4, 1, 14, 11, 8, 5, 2, 15, 12, 9, 6, 3].map (s.getD · 0)

/-- One column times a circulant matrix whose first row is `m0 m1 m2 m3`. -/
def aesMixColumn (m : List Nat) (c : List Nat) : List Nat :=
  (List.range 4).map fun i =>
    ((List.range 4).map fun j => gfMul 8 (c.getD j 0) (m.getD ((j + 4 - i) % 4) 0)).foldl Nat.xor 0

/-- MixColumns with the given first row. -/
def aesMix (m s : List Nat) : List Nat :=
  ((List.range 4).map fun i => aesMixColumn m ((s.drop (4 * i)).take 4)).flatten

/-- Rounds `r` to 13 of encryption (`k` rounds left before the last). -/
def aesRounds (ws : List (List Nat)) : Nat → Nat → List Nat → List Nat
  | 0, r, s => xorList (aesShift (s.map (aesSbox.getD · 0))) (aesRoundKey ws r)
  | k + 1, r, s =>
    aesRounds ws k (r + 1) (xorList (aesMix [2, 3, 1, 1] (aesShift (s.map (aesSbox.getD · 0)))) (aesRoundKey ws r))

/-- AES-256 encryption of one block. -/
def aesEncrypt (key block : List Nat) : List Nat :=
  let ws := aesKeyWords key
  aesRounds ws 13 1 (xorList block (aesRoundKey ws 0))

/-- Rounds of decryption, `r` counting down. -/
def aesUnrounds (ws : List (List Nat)) : Nat → List Nat → List Nat
  | 0, s => xorList ((aesUnshift s).map (aesInvSbox.getD · 0)) (aesRoundKey ws 0)
  | r + 1, s =>
    aesUnrounds ws r (aesMix [14, 11, 13, 9] (xorList ((aesUnshift s).map (aesInvSbox.getD · 0)) (aesRoundKey ws (r + 1))))

/-- AES-256 decryption of one block. -/
def aesDecrypt (key block : List Nat) : List Nat :=
  let ws := aesKeyWords key
  aesUnrounds ws 13 (xorList block (aesRoundKey ws 14))

/-- A byte list as numbers. -/
def toNats (bs : List Byte) : List Nat := bs.map BitVec.toNat

/-- Numbers as bytes. -/
def toBytes (ns : List Nat) : List Byte := ns.map (BitVec.ofNat 8)

/-- Doubling of a 128-bit block, most significant byte first (SP 800-38B subkeys). -/
def cmacDouble (b : List Nat) : List Nat :=
  let v := b.foldl (fun a x => a * 256 + x) 0
  let d := (2 * v) % 2 ^ 128
  let d' := if v < 2 ^ 127 then d else Nat.xor d 135
  (List.range 16).map fun i => d' / 256 ^ (15 - i) % 256

/-- CBC chain over whole blocks, `k` of them. -/
def cbcChain (key : List Nat) : Nat → List Nat → List Nat → List Nat
  | 0, c, _ => c
  | k + 1, c, m => cbcChain key k (aesEncrypt key (xorList c (m.take 16))) (m.drop 16)

/-- AES-256-CMAC of a message (R393). -/
def cmacNat (key msg : List Nat) : List Nat :=
  let k1 := cmacDouble (aesEncrypt key (List.replicate 16 0))
  let k2 := cmacDouble k1
  let n := if msg.length = 0 then 1 else (msg.length + 15) / 16
  let last := msg.drop (16 * (n - 1))
  let lastBlock := if last.length = 16 then xorList last k1
    else xorList (last ++ [128] ++ List.replicate (15 - last.length) 0) k2
  let c := cbcChain key (n - 1) (List.replicate 16 0) msg
  aesEncrypt key (xorList c lastBlock)

/-- AES-256-CMAC on bytes: the whole 16-byte tag. -/
def cmac (key msg : List Byte) : List Byte := toBytes (cmacNat (toNats key) (toNats msg))

/-- Eight bytes of a number, most significant first. -/
def beBytes8 (n : Nat) : List Nat := (List.range 8).map fun i => n / 256 ^ (7 - i) % 256

/-- One step of AES key wrap: registers `a` and `rs` (semiblocks), step number `t`. -/
def wrapStep (key : List Nat) (t : Nat) (a : List Nat) (rs : List (List Nat)) : List Nat × List (List Nat) :=
  let b := aesEncrypt key (a ++ rs.getD 0 [])
  (xorList (b.take 8) (beBytes8 t), rs.drop 1 ++ [b.drop 8])

/-- `k` steps of key wrap from step `t`. -/
def wrapSteps (key : List Nat) : Nat → Nat → List Nat → List (List Nat) → List Nat × List (List Nat)
  | 0, _, a, rs => (a, rs)
  | k + 1, t, a, rs =>
    let x := wrapStep key t a rs
    wrapSteps key k (t + 1) x.1 x.2

/-- AES key wrap of a 32-byte key: 40 bytes. -/
def keyWrap (kek key : List Byte) : List Byte :=
  let ks := toNats key
  let x := wrapSteps (toNats kek) 24 1 (List.replicate 8 166) ((List.range 4).map fun i => (ks.drop (8 * i)).take 8)
  toBytes (x.1 ++ x.2.flatten)

/-- `k` steps of key unwrap, down from step `t`. -/
def unwrapSteps (key : List Nat) : Nat → Nat → List Nat → List (List Nat) → List Nat × List (List Nat)
  | 0, _, a, rs => (a, rs)
  | k + 1, t, a, rs =>
    let b := aesDecrypt key (xorList a (beBytes8 t) ++ rs.getD 3 [])
    unwrapSteps key k (t - 1) (b.take 8) (b.drop 8 :: rs.take 3)

/-- AES key unwrap of 40 bytes; `none` when the integrity check fails (R396). -/
def keyUnwrap (kek wrapped : List Byte) : Option (List Byte) :=
  let ws := toNats wrapped
  let x := unwrapSteps (toNats kek) 24 24 (ws.take 8) ((List.range 4).map fun i => (ws.drop (8 * i + 8)).take 8)
  if x.1 = List.replicate 8 166 then some (toBytes x.2.flatten) else none

/-- `k` shift steps of a reflected CRC with polynomial `p`. -/
def crcShift (p : Nat) : Nat → Nat → Nat
  | 0, c => c
  | k + 1, c => crcShift p k (if c % 2 = 1 then Nat.xor (c / 2) p else c / 2)

/-- A reflected CRC register after the bytes of a list. -/
def crcFold (p : Nat) : Nat → List Byte → Nat
  | c, [] => c
  | c, b :: bs => crcFold p (crcShift p 8 (Nat.xor c b.toNat)) bs

/-- CRC-32C (Table 02.2): reflected Castagnoli polynomial, all-ones start, complemented. -/
def crc32c (bs : List Byte) : Nat := Nat.xor (crcFold 2197175160 4294967295 bs) 4294967295

/-- CRC-32 of IEEE 802.3, as format-1 images carry it (R79). -/
def crc32 (bs : List Byte) : Nat := Nat.xor (crcFold 3988292384 4294967295 bs) 4294967295

/-- `k` shift steps of an unreflected CRC of width `w` with polynomial `p`. -/
def crcLeft (w p : Nat) : Nat → Nat → Nat
  | 0, c => c
  | k + 1, c => crcLeft w p k (if c / 2 ^ (w - 1) % 2 = 1 then Nat.xor (2 * c % 2 ^ w) p else 2 * c % 2 ^ w)

/-- An unreflected CRC of width `w` (at least 8) over bytes, from register value `c`. -/
def crcMsb (w p : Nat) : Nat → List Byte → Nat
  | c, [] => c
  | c, b :: bs => crcMsb w p (crcLeft w p 8 (Nat.xor c (b.toNat * 2 ^ (w - 8)))) bs

end Sys2Proof.Machine
end

