-- ==== Sys2Proof/Machine/Flags.lean ====
section
/-! DEFINITION. Status codes of replies (Table 00.5 and the block-specific tables). -/

namespace Sys2Proof.Machine

def stOk : Nat := 0x0000
def stAccepted : Nat := 0x0001
def stNotLinked : Nat := 0x0010
def stInterlockOpen : Nat := 0x0011
def stPhaseOrder : Nat := 0x0012
def stFaultActive : Nat := 0x0013
def stQueueState : Nat := 0x0014
def stLease : Nat := 0x0015
def stResultSpace : Nat := 0x0016
def stUnknownParam : Nat := 0x0017
def stReadOnly : Nat := 0x0018
def stUnknownOpcode : Nat := 0x0101
def stVersion : Nat := 0x0102
def stLength : Nat := 0x0103
def stRange : Nat := 0x0104
def stAlign : Nat := 0x0105
def stState : Nat := 0x0106
def stBudget : Nat := 0x0107
def stBusy : Nat := 0x0108
def stAuth : Nat := 0x0201
def stReplay : Nat := 0x0202
def stKey : Nat := 0x0203
def stFenceTimeout : Nat := 0x0301
def stAborted : Nat := 0x0302
def stIntegrity : Nat := 0x0401
def stHwFault : Nat := 0x0402
def stMagic : Nat := 0x1000
def stLayout : Nat := 0x1001
def stPolygon : Nat := 0x1002
def stOutside : Nat := 0x1003
def stProfile : Nat := 0x1004
def stClass : Nat := 0x1005
def stGeometry : Nat := 0x1006
def stChain : Nat := 0x1007
def stPin : Nat := 0x1008
def stAssign : Nat := 0x1009
def stGutter : Nat := 0x100A
def stHeadUnused : Nat := 0x100B
def stTooLong : Nat := 0x100C
def stLayerOrder : Nat := 0x100D
def stQuireFull : Nat := 0x100E
def stNoMotion : Nat := 0x2000
def stFcFormat : Nat := 0x2001
def stFcMissing : Nat := 0x2002
def stStreamRing : Nat := 0x2003
def stSourceNotReady : Nat := 0x3000
def stSourceFault : Nat := 0x3001
def stEmitWiring : Nat := 0x3002
def stIntlkDiscrepancy : Nat := 0x3003
def stReplayLayer : Nat := 0x4000
def stStitchTable : Nat := 0x4001
def stMpsRing : Nat := 0x5000
def stCamera : Nat := 0x5001
def stRatioFormat : Nat := 0x5002
def stDmaState : Nat := 0xD040
def stReadFailed : Nat := 0xD041
def stMapoutDenied : Nat := 0xD000
def stPairDown : Nat := 0xC080
def stNoWitness : Nat := 0xC081
def stWitnessExpired : Nat := 0xC082
def stPairTable : Nat := 0xC083
def stFwImage : Nat := 0xF000
def stFwSignature : Nat := 0xF001
def stFwIncompatible : Nat := 0xF002
def stFwState : Nat := 0xF003
def stIslandRetired : Nat := 0xF004
def stTrimLimit : Nat := 0xF005
def stTrimState : Nat := 0xF006
def stLoopDepth : Nat := 0xF080
def stJournalFail : Nat := 0xE080

/-- The first status whose condition holds, in the order of the list (R23, R412). -/
def firstFail : List (Bool × Nat) → Option Nat
  | [] => none
  | (c, st) :: rest => if c then some st else firstFail rest

end Sys2Proof.Machine
end

