-- ==== Sys2Proof/Machine/Mem.lean ====
section
/-! DEFINITION. Byte memories: a canonical list of the cells that differ from what an unlisted address reads as. -/

namespace Sys2Proof.Machine

/-- A byte memory: addresses strictly rising, no entry equal to the default. -/
abbrev Mem := List Host.Cell

/-- The byte at `a`, `d` where nothing is listed. -/
def Mem.read (d : Byte) : Mem → Nat → Byte
  | [], _ => d
  | (b, v) :: m, a => if a = b then v else if a < b then d else Mem.read d m a

/-- The list with `a` bound to `v`, before the default is taken out. -/
def Mem.write (d : Byte) : Mem → Nat → Byte → Mem
  | [], a, v => if v = d then [] else [(a, v)]
  | (b, w) :: m, a, v =>
    if a < b then (if v = d then (b, w) :: m else (a, v) :: (b, w) :: m)
    else if a = b then (if v = d then m else (b, v) :: m)
    else (b, w) :: Mem.write d m a v

/-- All addresses of a memory lie above `lo`, strictly rising, and no entry equals the default. -/
def Mem.wfFrom (d : Byte) : Option Nat → Mem → Bool
  | _, [] => true
  | lo, (a, v) :: m =>
    (match lo with | none => true | some l => decide (l < a)) && decide (v ≠ d) && Mem.wfFrom d (some a) m

/-- The canonical form of a memory whose unlisted bytes read `d`. -/
def Mem.wf (d : Byte) (m : Mem) : Bool := Mem.wfFrom d none m

/-- `n` bytes from `a`. -/
def Mem.readBytes (d : Byte) (m : Mem) (a : Nat) : Nat → List Byte
  | 0 => []
  | n + 1 => Mem.read d m a :: Mem.readBytes d m (a + 1) n

/-- Bytes written from `a` upward. -/
def Mem.writeBytes (d : Byte) : Mem → Nat → List Byte → Mem
  | m, _, [] => m
  | m, a, b :: bs => Mem.writeBytes d (Mem.write d m a b) (a + 1) bs

/-- What a DRAM or host byte that nothing has written reads as (DESIGN CHOICE, log entry 3). -/
def dramDefault : Byte := 0#8

/-- An erased flash byte (R522). -/
def flashErased : Byte := 255#8

end Sys2Proof.Machine
end

