-- ==== Sys2Proof/Machine/StateRec.lean ====
section
/-! DEFINITION. State of the output streams (06, 09, 19), the event recorder, the build record and the journal (19). -/

namespace Sys2Proof.Machine

/-- A run of dropped entries whose GAP marker is not yet written (R194, R514, R516). -/
structure Gap where
  first : Nat
  last : Nat
  count : Nat
  deriving DecidableEq, Repr

/-- One output stream (R193 to R195): bytes written to the DRAM ring, bytes copied to the host ring (both since the
ring parameter was last written), the host ring's write offset, the open GAP and the drop count. -/
structure Stream where
  written : Nat := 0
  copied : Nat := 0
  hostWrite : Nat := 0
  hostRead : Nat := 0
  gap : Option Gap := none
  drops : Nat := 0
  /-- entries that are never dropped and wait for room, oldest first -/
  waiting : List (List Byte) := []
  /-- DT of the last entry written -/
  lastDt : Nat := 0
  /-- bytes of the statistics entry in hand that are still to be copied -/
  left : Nat := 0
  deriving DecidableEq, Repr

/-- A log record (Table 19.1); KEY and DETAIL as little-endian numbers. -/
structure LogRec where
  dt : Nat
  seq : Nat := 0
  code : Nat
  source : Nat := 255
  flags : Nat := 0
  repeats : Nat := 0
  lastDt : Nat := 0
  key : Nat := 0
  detail : Nat := 0
  /-- the slot holds an uncorrectable word (R508) -/
  corrupt : Bool := false
  deriving DecidableEq, Repr

/-- What a journal entry being written is for (R523): who is told when it is made or given up. -/
inductive JournalUse where
  | lease (slot : Nat)
  | keySlot (acc slot : Nat)
  | capture
  | imported
  | trim (fe : Nat)
  | trimSet (acc fe : Nat)
  | bootSelect (acc : Nat)
  | header
  deriving DecidableEq, Repr

/-- A journal entry not yet made (Table 19.9). -/
structure JournalReq where
  type : Nat
  payload : List Byte
  use : JournalUse
  attempts : Nat := 0
  since : Nat := 0
  deriving DecidableEq, Repr

/-- The journal of the persistent store (R522 to R526). -/
structure Journal where
  bank : Nat := 0
  pos : Nat := 0
  generation : Nat := 0
  nextSeq : Nat := 0
  compacting : Bool := false
  bad : Bool := false
  torn : Bool := false
  queue : List JournalReq := []
  longest : Nat := 0
  failed : Nat := 0
  deriving DecidableEq, Repr

/-- Totals of the open build for the colophon (Table 19.8). -/
structure Build where
  id : Nat
  begun : Nat
  entries : Nat := 0
  /-- CRC-32C register over the entries so far (R519), before the final complement -/
  crc : Nat := 4294967295
  firstLayer : Option Nat := none
  lastLayer : Nat := 0
  complete : Nat := 0
  aborted : Nat := 0
  exposed : Nat := 0
  unexposed : Nat := 0
  holds : Nat := 0
  breaches : Nat := 0
  firings : Nat := 0
  lost : Nat := 0
  deriving DecidableEq, Repr

/-- Accumulators of the current layer's summary (Table 19.7). -/
structure LayerSum where
  open_ : Bool := false
  layer : Nat := 0
  buildId : Nat := 0
  gap : Bool := false
  /-- a GAP fell within EXPOSE or KETTLE (R518) -/
  strictGap : Bool := false
  replayed : Bool := false
  diverged : Bool := false
  exposed : Nat := 0
  unexposed : Nat := 0
  holds : Nat := 0
  breaches : Nat := 0
  firings : Nat := 0
  deriving DecidableEq, Repr

/-- The event recorder and the build record (19). -/
structure Recorder where
  /-- events on their way to the recorder, oldest first (R502) -/
  arriving : List LogRec := []
  /-- the log, newest first -/
  log : List LogRec := []
  nextSeq : Nat := 0
  lost : Nat := 0
  clears : Nat := 0
  corrupt : Nat := 0
  full : Bool := false
  frozen : Option Nat := none
  /-- events held while frozen, newest first, and those beyond the queue's 256 (R511) -/
  held : List LogRec := []
  heldOver : Nat := 0
  retained : Bool := false
  build : Option Build := none
  sum : LayerSum := {}
  /-- acceptance number, key slot and counter of a `REC_BUILD_END` that waits for the layer (R521) -/
  buildEnd : Option (Nat × Nat × Nat) := none
  lastLayer : Nat := 0
  journal : Journal := {}
  deriving DecidableEq, Repr

end Sys2Proof.Machine
end

