-- ==== Sys2Proof/Machine/StateSense.lean ====
section
/-! DEFINITION. State of melt-pool sensing (06). -/

namespace Sys2Proof.Machine

/-- The photodiode values of one sample (R176, R190). -/
structure Sense where
  a : Nat := 0
  b : Nat := 0
  sat : Bool := false
  missing : Bool := false
  temp : Nat := 0
  deriving DecidableEq, Repr

/-- A completed camera frame result (R183, R184). -/
structure FrameResult where
  number : Nat := 0
  /-- sample at which its exposure began, and the DT of its completion -/
  start : Nat := 0
  done : Nat := 0
  truncated : Bool := false
  empty : Bool := false
  edge : Bool := false
  area : Nat := 0
  peak : Nat := 0
  integral : Nat := 0
  cx : Nat := 0
  cy : Nat := 0
  major : Nat := 0
  minor : Nat := 0
  angle : Int := 0
  spatter : Nat := 0
  deriving DecidableEq, Repr

/-- What the laser and path stages gave sample `k` of a head, kept until its sensing is known (R187, R188, R191). -/
structure PendingRec where
  k : Nat
  head : Nat
  dt : Nat
  x : Nat
  y : Nat
  cls : Nat
  flags : Nat
  power : Nat
  corr : Int
  ledger : Nat
  /-- camera values of the sample (R185): the newest frame result of the head at DT(k) -/
  frame : Option FrameResult := none
  deriving DecidableEq, Repr

/-- A ratio table in force (R177, R178). -/
structure RatioTable where
  generation : Nat
  image : List Byte
  deriving DecidableEq, Repr

/-- A deferred table load: acceptance number, DRAM address (R105, R178). -/
structure TableLoad where
  acc : Nat
  addr : Nat
  deriving DecidableEq, Repr

/-- Melt-pool sensing of one head. -/
structure MpsHead where
  ratio : Option RatioTable := none
  ratioLoad : Option TableLoad := none
  /-- sensing of samples whose records are not yet written, and of the latest ones, newest first -/
  sense : List (Nat × Sense) := []
  /-- number of the frame being delivered, its pixel bytes so far (missing ones as zero), how many have arrived -/
  frameNo : Nat := 0
  pixels : List Byte := []
  got : Nat := 0
  /-- the latest frame results, newest first -/
  results : List FrameResult := []
  /-- a sample of the frame's span carried RETAIN (R197), by frame number -/
  retain : List Nat := []
  missingCount : Nat := 0
  truncCount : Nat := 0
  pdSat : Nat := 0
  deriving DecidableEq, Repr

/-- Melt-pool sensing: heads, pending records, staging (R194). -/
structure MpsState where
  heads : List MpsHead := List.replicate 32 {}
  pendingRecs : List PendingRec := []
  /-- FRAME markers that follow the records of a sample: head, sample, marker -/
  frameMarks : List (Nat × List Byte) := []
  /-- FENCE markers that stand before the records of a slot: slot, marker -/
  fenceMarks : List (Nat × List Byte) := []
  /-- 32-byte units in staging, oldest first -/
  staged : List (List Byte) := []
  /-- records and FRAME markers among them -/
  stagedRecs : Nat := 0
  gap : Option Gap := none
  /-- DT at which the last record entered the stream, while a half unit waits (R193) -/
  lastIn : Nat := 0
  drops : Nat := 0
  rawDrops : Nat := 0
  rawDropping : Bool := false
  deriving DecidableEq, Repr

end Sys2Proof.Machine
end

