-- ==== Sys2Proof/Machine/Ledger.lean ====
section
/-! DEFINITION. The heat ledger (08): cells, decay, sweeper, deposits, feed-forward reads, snapshots. -/

namespace Sys2Proof.Machine

/-- A ledger cell (Table 08.1). -/
structure LedgerCell where
  idx : Nat
  heat : Nat
  stamp : Nat
  deriving DecidableEq, Repr

/-- States of a snapshot slot (R251). -/
inductive SnapState where
  | empty | loading | valid | active
  deriving DecidableEq, Repr

/-- A snapshot slot: its state, layer, 16-bit values as bytes from `2 × cell index` (unlisted bytes are 0), and the load
in progress (acceptance number, address, whether an earlier snapshot of the layer stays until it ends). -/
structure SnapSlot where
  state : SnapState := .empty
  layer : Nat := 0
  vals : Mem := []
  load : Option (Nat × Nat) := none
  deriving DecidableEq, Repr

/-- A readout not yet completed (R249). -/
structure Readout where
  acc : Nat
  addr : Nat
  col : Nat
  row : Nat
  width : Nat
  height : Nat
  kind : Nat
  fence : Bool
  /-- DT_r once fixed, and the output as the ledger stands at it -/
  at_ : Option Nat := none
  out : List Byte := []
  deriving DecidableEq, Repr

/-- A peer deposit waiting for its key (R255). -/
structure PeerDeposit where
  key : Nat
  head : Nat
  cell : Nat
  heat : Nat
  deriving DecidableEq, Repr

/-- The ledger. A cell that is not listed has H = 0 and the stamp of its last sweeper visit or of the clear. -/
structure Ledger where
  cells : List LedgerCell := []
  /-- tick count U of the last clear and of the last tick swept (R243) -/
  clearU : Nat := 0
  sweptU : Nat := 0
  /-- the memory island faulted and the ledger has not been cleared since (R248) -/
  stopped : Bool := false
  ticks : Nat := 0
  slots : List SnapSlot := [{}, {}]
  readouts : List Readout := []
  peer : List PeerDeposit := []
  outside : List Nat := List.replicate 32 0
  sat : List Nat := List.replicate 32 0
  ecc : Nat := 0
  peerLate : Nat := 0
  /-- decay constant for which the tables are computed -/
  tau : Nat := 500000
  deriving DecidableEq, Repr

/-- The tick count of a DT without and with the wrap (R239, R243). -/
def tickU (dt : Nat) : Nat := dt / 1024000
def tickOf (dt : Nat) : Nat := tickU dt % 65536

/-- Decay-table entries (R241). -/
def eLo (tau b : Nat) : Nat := (fixRound (fixExpNeg (64 * b) tau) 65536).toNat
def eHi (tau a : Nat) : Nat := (fixRound (fixExpNeg (16384 * a) tau) 65536).toNat

/-- `decay(H)` at an age (R241). -/
def decay (tau heat age : Nat) : Nat := roundNat (roundNat (heat * eHi tau (age / 256)) 65536 * eLo tau (age % 256)) 65536

/-- Age of a stamp at a tick. -/
def ageAt (now stamp : Nat) : Nat := (now + 65536 - stamp % 65536) % 65536

/-- Cell pitch in bed units (R238). -/
def pitchUnits (code : Nat) : Nat := 500 * 2 ^ code

/-- The cell of a bed point (R238). -/
def cellOf (pitch ox oy : Nat) (p : Nat × Nat) : Option Nat :=
  if p.1 < ox ∨ p.2 < oy then none
  else
    let i := (p.1 - ox) / pitch
    let j := (p.2 - oy) / pitch
    if 4096 ≤ i ∨ 4096 ≤ j then none else some (4096 * j + i)

/-- The last tick at or before `u` and after the clear at which the sweeper visits the group of a cell; the clear's tick
if there is none (R243). -/
def Ledger.lastVisit (l : Ledger) (idx : Nat) : Nat :=
  let g := idx / 1024
  let u := l.sweptU
  let v := if g ≤ u % 16384 then u - (u % 16384 - g) else u - (u % 16384 + 16384 - g)
  if l.clearU < v ∧ v ≤ u then v else l.clearU

/-- A cell as stored. -/
def Ledger.cell (l : Ledger) (idx : Nat) : LedgerCell :=
  (l.cells.find? (fun c => c.idx == idx)).getD { idx := idx, heat := 0, stamp := l.lastVisit idx % 65536 }

/-- Stores a cell, keeping the list in rising cell order and free of cells that read as an unlisted one. -/
def Ledger.insertCell (c : LedgerCell) : List LedgerCell → List LedgerCell
  | [] => [c]
  | d :: ds => if c.idx < d.idx then c :: d :: ds else if c.idx = d.idx then c :: ds else d :: Ledger.insertCell c ds

def Ledger.setCell (l : Ledger) (c : LedgerCell) : Ledger :=
  if c.heat = 0 ∧ c.stamp = l.lastVisit c.idx % 65536 then { l with cells := l.cells.filter fun d => d.idx != c.idx }
  else { l with cells := Ledger.insertCell c l.cells }

/-- The sweeper's visits of one cell at the ticks of its group in `(from, to]`, oldest first (R243). -/
def sweepCell (tau : Nat) : Nat → Nat → Nat → LedgerCell → LedgerCell
  | 0, _, _, c => c
  | n + 1, v, to_, c =>
    if to_ < v then c
    else sweepCell tau n (v + 16384) to_ { c with heat := decay tau c.heat (ageAt (v % 65536) c.stamp), stamp := v % 65536 }

/-- The first tick after `u` at which group `g` is visited. -/
def firstVisit (u g : Nat) : Nat :=
  let v := u - u % 16384 + g
  if u < v then v else v + 16384

/-- Every sweeper visit up to tick count `u` (R240, R243). -/
def Ledger.sweepTo (u : Nat) (l : Ledger) : Ledger :=
  if l.stopped ∨ u ≤ l.sweptU then l
  else
    let n := (u - l.sweptU) / 16384 + 1
    let cells := l.cells.map fun c => sweepCell l.tau n (firstVisit l.sweptU (c.idx / 1024)) u c
    let l' := { l with sweptU := u, ticks := l.ticks + (u - l.sweptU) }
    { l' with cells := cells.filter fun c => !(decide (c.heat = 0) && decide (c.stamp = l'.lastVisit c.idx % 65536)) }

/-- Clears every cell at a DT (R244). -/
def Ledger.clear (dt : Nat) (l : Ledger) : Ledger :=
  { l with cells := [], clearU := tickU dt, sweptU := tickU dt, ticks := 0, stopped := false }

/-- ΔH of a deposit (R242). -/
def depositHeat (power ts absorb shift : Nat) : Nat := roundNat (power * ts * absorb * 2 ^ shift) 2097152000

/-- Adds heat to a cell at a DT (R242); whether it saturated. -/
def Ledger.addHeat (dt idx heat : Nat) (l : Ledger) : Ledger × Bool :=
  let l := l.sweepTo (tickU dt)
  let c := l.cell idx
  let now := tickOf dt
  let h := decay l.tau c.heat (ageAt now c.stamp) + heat
  (l.setCell { idx := idx, heat := min 65535 h, stamp := now }, decide (65535 < h))

/-- The decayed value of a cell at a tick; while a snapshot is in use, its value (R245, R252). -/
def Ledger.value (now : Nat) (l : Ledger) (idx : Nat) : Nat :=
  let c := l.cell idx
  decay l.tau c.heat (ageAt now c.stamp)

def SnapSlot.value (s : SnapSlot) (idx : Nat) : Nat := leNat (s.vals.readBytes 0#8 (2 * idx) 2)

/-- The feed-forward value of the look-ahead cell (R245); `val` gives V of a cell. -/
def feedForward (kernel : Nat) (val : Nat → Nat) (cell : Nat) : Nat :=
  let i := cell % 4096
  let j := cell / 4096
  let term (n : Nat) : Nat :=
    let a := i + n % 3
    let b := j + n / 3
    if a = 0 ∨ b = 0 ∨ 4096 < a ∨ 4096 < b then 0 else byteField kernel (2 * n) 2 * val (4096 * (b - 1) + (a - 1))
  min 65535 (roundNat ((List.range 9).foldl (fun s n => s + term n) 0) 65536)

/-- The ACTIVE snapshot (R251). -/
def Ledger.active (l : Ledger) : Option SnapSlot := l.slots.find? fun s => s.state == .active

end Sys2Proof.Machine
end

