-- ==== Sys2Proof/Machine/StateDma.lean ====
section
/-! DEFINITION. State of the DMA channels and the interrupt controller (16). -/

namespace Sys2Proof.Machine

/-- Channel states (Table 16.8). -/
inductive DmaMode where
  | disabled | parked | running | halted
  deriving DecidableEq, Repr

/-- What a RUNNING channel does next: reads a LINK word, fetches a descriptor, moves bursts, or ends the descriptor. -/
inductive DmaStep where
  | decide | fetch | move | ending
  deriving DecidableEq, Repr

/-- One DMA channel (R419 to R443). -/
structure DmaChannel where
  mode : DmaMode := .disabled
  step : DmaStep := .decide
  dbPending : Bool := false
  /-- the end decision in progress was started by a doorbell on the PARKED channel -/
  belled : Bool := false
  /-- the descriptor (or anchor) the channel is on, and the one to fetch -/
  addr : Nat := 0
  next : Nat := 0
  /-- the descriptor in progress, as fetched -/
  desc : List Byte := []
  moved : Nat := 0
  /-- the channel was disabled in a burst, which still finishes (R420) -/
  draining : Bool := false
  /-- bytes of a burst held for a destination endpoint (R439) -/
  held : List Byte := []
  splitUsed : Bool := false
  bufferOut : Bool := false
  short : Bool := false
  mismatch : Bool := false
  /-- STOPs that wait for the burst in progress: acceptance numbers -/
  stops : List Nat := []
  tail : Nat := 0
  head : Nat := 0
  used : Nat := 0
  phase : Bool := true
  completed : Nat := 0
  written : Nat := 0
  doorbells : Nat := 0
  parkedBells : Nat := 0
  splits : Nat := 0
  shorts : Nat := 0
  deriving DecidableEq, Repr

/-- States of an interrupt source (R445); ACTIVE names its owner. -/
inductive SourceState where
  | idle | pending | active (core : Nat)
  deriving DecidableEq, Repr

/-- One interrupt source: level, state and ROUTE (Table 16.15). -/
structure IntSource where
  level : Bool := false
  state : SourceState := .idle
  priority : Nat := 0
  enable : Bool := false
  target : Nat := 15
  deriving DecidableEq, Repr

/-- One core's window (Table 16.14, Table 16.16). -/
structure IntCore where
  online : Bool := false
  fallback : Nat := 0
  vbar : Nat := 0
  taken : Option Nat := none
  /-- the vector address of the latest take (R447) -/
  entered : Nat := 0
  deriving DecidableEq, Repr

/-- DMA engines. -/
structure DmaState where
  channels : List DmaChannel := List.replicate 32 {}
  readFails : Nat := 0
  staging : Nat := 0
  /-- request lines of the endpoints of Table 16.6 -/
  requests : List Bool := [false, false, false, false]
  deriving DecidableEq, Repr

/-- The interrupt controller. -/
structure IntState where
  sources : List IntSource := List.replicate 256 {}
  cores : List IntCore := (List.range 12).map fun c => { online := c == 0, fallback := c }
  spuriousEoi : Nat := 0
  redirects : Nat := 0
  wakeMax : Nat := 0
  deriving DecidableEq, Repr

end Sys2Proof.Machine
end

