-- ==== Sys2Proof/Machine/StateEmd.lean ====
section
/-! DEFINITION. State of the emitter buses (12). -/

namespace Sys2Proof.Machine

/-- What a page's buffer is against its drivers (Table 12.6; ACTIVE is shown while the page is active or scheduled). -/
inductive PageContent where
  | loaded | dirty | transferring | fault
  deriving DecidableEq, Repr

/-- What fixes the due DT of an `EMD_LATCH` (R342). -/
inductive LatchWhen where
  | at_ (due : Nat)
  | syncIn (i delay : Nat)
  | phase (code delay : Nat)
  deriving DecidableEq, Repr

/-- The `EMD_LATCH` a bus holds. -/
structure EmdLatch where
  page : Nat
  when_ : LatchWhen
  late : Bool := false
  acc : Nat
  deriving DecidableEq, Repr

/-- A latch of a light sequence (R343). -/
structure SeqLatch where
  page : Nat
  due : Nat
  deriving DecidableEq, Repr

/-- A driver device as the device knows it (R335, R345): last status word, replies missed in a row. -/
structure EmdDriver where
  word : Nat := 0
  misses : Nat := 0
  missing : Bool := false
  deriving DecidableEq, Repr

/-- One page of a bus: frame buffer (R326), its state, the commands that wait for it to be LOADED, and for each driver the
slice and level table last verified (R337). -/
structure EmdPage where
  buffer : Mem := []
  content : PageContent := .loaded
  loads : List Nat := []
  verified : List (Option (Mem × Nat)) := List.replicate 64 none
  deriving DecidableEq, Repr

structure EmdBus where
  pages : List EmdPage := [{}, {}]
  active : Option Nat := none
  lastLatch : Nat := 0
  latch : Option EmdLatch := none
  seq : List SeqLatch := []
  drivers : List EmdDriver := List.replicate 64 {}
  driverFault : Bool := false
  lates : Nat := 0
  skips : Nat := 0
  retries : Nat := 0
  deriving DecidableEq, Repr

end Sys2Proof.Machine
end

