-- ==== Sys2Proof/Machine/StateFbk.lean ====
section
/-! DEFINITION. State of position and speed feedback (11): nine local channels, 96 scanner-axis tracks. -/

namespace Sys2Proof.Machine

/-- An interpolator with its count (R311 to R313, R318). `cond` holds the errors present at the latest sample and `sticky` the
sticky bits, both at their places in Table 11.7. -/
structure Track where
  active : Bool := false
  started : Bool := false
  p : Int := 0
  aPrev : Int := 0
  r : Int := 0
  c : Int := 0
  lost : Bool := false
  cond : Nat := 0
  sticky : Nat := 0
  errors : Nat := 0
  deriving DecidableEq, Repr

/-- A local channel. -/
structure FbkChannel where
  track : Track := {}
  lastDt : Nat := 0
  /-- filtered levels of A and B (R314) -/
  a : Bool := false
  b : Bool := false
  extra : Nat := 0
  ssiFails : Nat := 0
  ssiStarted : Bool := false
  /-- count at motion ticks, newest first: the tick at which the value was first seen (R316, R317) -/
  hist : List (Nat × Int) := []
  speed : Int := 0
  latchC : Int := 0
  latchDt : Nat := 0
  /-- divider: O, DTs of the steps that wait, DT from which the next may go, levels of OA and OB -/
  o : Int := 0
  steps : List Nat := []
  nextAt : Nat := 0
  oa : Bool := false
  ob : Bool := false
  deriving DecidableEq, Repr

/-- One scanner axis of a head: its track, and whether every pair of the latest sample arrived (R322). -/
structure AxisTrack where
  track : Track := {}
  whole : Bool := false
  /-- count and validity after each slot's pairs, newest first -/
  hist : List (Nat × Int × Bool) := []
  deriving DecidableEq, Repr

structure FbkState where
  channels : List FbkChannel := List.replicate 9 {}
  /-- axis a of head h at 3·h + a -/
  axes : List AxisTrack := List.replicate 96 {}
  deriving DecidableEq, Repr

end Sys2Proof.Machine
end

