-- ==== Sys2Proof/Machine/StateSig.lean ====
section
/-! DEFINITION. State of the signatures, banks, profile sets and quire (02). -/

namespace Sys2Proof.Machine

/-- A point in bed units (R16). -/
abbrev Pt := Nat × Nat

/-- One head's sheet (Table 02.3). -/
structure Sheet where
  offset : Nat := 0
  count : Nat := 0
  verts : List Pt := []
  deriving DecidableEq, Repr

/-- A gutter pool (Table 02.4). -/
structure Pool where
  eligible : Nat := 0
  offset : Nat := 0
  count : Nat := 0
  verts : List Pt := []
  pinHead : Option Nat := none
  assign : List Nat := []
  deriving DecidableEq, Repr

/-- A vector record (Table 02.5). -/
structure VecRec where
  x0 : Nat := 0
  y0 : Nat := 0
  x1 : Nat := 0
  y1 : Nat := 0
  profile : Nat := 0
  cls : Nat := 0
  part : Nat := 0
  flags : Nat := 0
  deriving DecidableEq, Repr

/-- An exposure-profile entry (Table 02.9). -/
structure ExpProfile where
  speed : Nat := 0
  power : Nat := 0
  focus : Int := 0
  mode : Nat := 0
  corner : Nat := 0
  period : Nat := 0
  width : Nat := 0
  runUp : Nat := 0
  runOut : Nat := 0
  cornerTol : Nat := 0
  dwell : Nat := 0
  rampInLen : Nat := 0
  rampOutLen : Nat := 0
  rampIn : List Nat := []
  rampOut : List Nat := []
  mpClass : Nat := 0
  ruleMask : Nat := 0
  valid : Bool := false
  deriving DecidableEq, Repr

/-- A loaded signature. -/
structure Signature where
  layer : Nat := 0
  buildId : Nat := 0
  thickness : Nat := 0
  fixedAssign : Bool := false
  total : Nat := 0
  sheets : List Sheet := []
  pools : List Pool := []
  records : List VecRec := []
  deriving DecidableEq, Repr

/-- Bank states (Table 02.16). -/
inductive BankState where
  | empty | loading | valid | active | retained
  deriving DecidableEq, Repr

/-- A bank, or a signature slot in long-signature mode (R65, R70). -/
structure Bank where
  state : BankState := .empty
  sig : Signature := {}
  /-- quire entry it came from; `none` for `SIG_LOAD` -/
  quire : Option Nat := none
  loadEnd : Nat := 0
  /-- long-signature mode: the segments assigned, in the order of the records, each with whether it has become free again -/
  segments : List (Nat × Bool) := []
  /-- records that a lost head left unexposed: they are consumed at the kettle fence (R70) -/
  left : List Nat := []
  deriving DecidableEq, Repr

/-- A quire entry (R73): its number, its `QUIRE_APPEND`, the image, and the layer of an earlier successful load. -/
structure QuireEntry where
  id : Nat
  acc : Nat
  addr : Nat
  len : Nat
  loadedOnce : Option Nat := none
  bank : Option Nat := none
  /-- the completion of its `QUIRE_APPEND` has been sent -/
  completed : Bool := false
  deriving DecidableEq, Repr

/-- A load in progress (R62). -/
structure Loading where
  bank : Nat
  start : Nat
  addr : Nat
  len : Nat
  /-- quire entry, or `none` for the `SIG_LOAD` whose acceptance number is `acc` -/
  quire : Option Nat
  acc : Nat
  /-- long-signature mode: segments the image needs -/
  need : Nat := 0
  /-- it was in progress at the kettle fence of the layer before: its success makes the bank ACTIVE (R67) -/
  activate : Bool := false
  deriving DecidableEq, Repr

/-- Signatures, profile sets and the quire. -/
structure SigState where
  banks : List Bank := [{}, {}]
  sets : List (List ExpProfile) := [[], []]
  activeSet : Option Nat := none
  lastFilled : Option Nat := none
  loading : Option Loading := none
  quire : List QuireEntry := []
  nextQuire : Nat := 0
  zeroLength : Nat := 0
  reloads : Nat := 0
  format1 : Nat := 0
  /-- READY has been entered since reset (Table 02.20) -/
  everReady : Bool := false
  deriving DecidableEq, Repr

end Sys2Proof.Machine
end

