-- ==== Sys2Proof/Machine/StateLayer.lean ====
section
/-! DEFINITION. State of the layer in exposure: path generators (03), gate windows (04), arbiter and guard (05). -/

namespace Sys2Proof.Machine

/-- Segment kinds of Table 03.5; a REST ends after its samples, with its focus, with its release, or as a POINT. -/
inductive SegKind where
  | jump | runUp | mark | runOut | restN | restFocus | restRelease | restPoint
  deriving DecidableEq, Repr

/-- A segment of the path (R86, R87), in sub-units: ends, length, cruise speed, join speed at its end (0 a stop),
the record it belongs to, the focus target set at its first sample, what it does to the gate. -/
structure Seg where
  kind : SegKind
  ax : Int
  ay : Int
  bx : Int
  by_ : Int
  len : Nat
  v : Nat
  w : Nat
  ri : Nat
  cls : Nat
  flags : Nat
  prof : Nat
  zNew : Option Int := none
  opens : Bool := false
  closes : Bool := false
  n : Nat := 0
  deriving DecidableEq, Repr

/-- A record of a unit with coordinates in sub-units, so that a remainder (R111, R162) fits too. -/
structure URec where
  idx : Nat
  x0 : Int
  y0 : Int
  x1 : Int
  y1 : Int
  prof : Nat
  cls : Nat
  flags : Nat
  deriving DecidableEq, Repr

/-- An exposure or dispatch unit (R58): its pool (none for a sheet), first record index, records, and the exposed
fraction of its first record. -/
structure WUnit where
  pool : Option Nat := none
  first : Nat := 0
  recs : List URec := []
  start : Nat := 0
  orphan : Bool := false
  deriving DecidableEq, Repr

/-- A gate window (R98, R120): on instant, off instant once known, profile at the start, BLEND joins with the later
profile, all as DT after DT_s; the unit it belongs to; a window ended by a cut is never taken up again (R127). -/
structure Win where
  tOn : Int
  tOff : Option Int := none
  prof : Nat
  joins : List (Int × Nat) := []
  /-- record index of each join's later record -/
  jri : List Nat := []
  unit : Nat
  cls : Nat
  ri : Nat
  dead : Bool := false
  deriving DecidableEq, Repr

/-- One past sample of the unfiltered path: the spot, focus, step length, the record whose segment held the spot, the
MARK if it was one, and whether that record's exposure lay ahead (0), was under way (1) or was over (2) (R110). -/
structure Sample where
  x : Int
  y : Int
  z : Int
  v : Nat
  mark : Option URec := none
  part : Nat := 0
  unit : Nat := 0
  ri : Nat := 0
  cls : Nat := 0
  flags : Nat := 0
  prof : Nat := 0
  deriving DecidableEq, Repr

/-- The path generator of one head (R91 to R98). -/
structure HeadPath where
  x : Int := 0
  y : Int := 0
  s : Nat := 0
  v : Nat := 0
  landed : Bool := true
  segs : List Seg := []
  z : Int := 0
  zTarget : Int := 0
  restLeft : Nat := 0
  granted : Bool := false
  /-- RESUME asks for the release of this unit at once (R156) -/
  asked : Bool := false
  /-- the sample boundary at which a wait before a POINT ended, or the arrival crossing: time in samples as a ratio -/
  pointAt : Option (Int × Nat) := none
  hist : List Sample := []
  wins : List Win := []
  jumpRun : Nat := 0
  vf : Int := 0
  af : Int := 0
  shortRunups : Nat := 0
  zeroLength : Nat := 0
  deriving DecidableEq, Repr

/-- Head sharing states of Table 05.4. -/
inductive ShareState where
  | out | sheet | pool | idle | guardHold | finished | lost
  deriving DecidableEq, Repr

/-- A head in the layer: its path and its work. -/
structure LayHead where
  path : HeadPath := {}
  takesPart : Bool := false
  lost : Bool := false
  /-- the head's samples come from a host stream (R114) and whether that stream is over (R116) -/
  streamed : Bool := false
  streamDone : Bool := false
  /-- sheet units not yet taken, and in fixed sharing the head's pool runs and orphans -/
  sheet : List WUnit := []
  runs : List WUnit := []
  cur : Option WUnit := none
  /-- serial number of the current unit -/
  serial : Nat := 0
  /-- units the path has finished and the light may still be on: serial, step of the landing, unit; newest first (R110) -/
  past : List (Nat × Nat × WUnit) := []
  /-- units taken before a cut that come after the current one (R111) -/
  redo : List WUnit := []
  /-- items taken (R147), and pool units and orphans among them (R167) -/
  taken : Nat := 0
  claimed : Nat := 0
  /-- remaining cost R_h (R140) -/
  cost : Nat := 0
  /-- round of the first request that found nothing (R142) -/
  firstRequest : Option Nat := none
  /-- a sheet unit given back for a pool unit (R155) is taken next without arbitration -/
  back : Bool := false
  /-- release request: the round it began, the cause of the hold so far, the conflicting head -/
  holdSince : Option Nat := none
  holdCause : Nat := 0
  holdHead : Nat := 255
  /-- guard-hold time in samples, and the number of holds -/
  holdTime : Nat := 0
  holds : Nat := 0
  wouldHolds : Nat := 0
  /-- step at which the last sheet record was consumed, and step of the last landing on a final stop -/
  sheetDone : Option Nat := none
  landedAt : Nat := 0
  /-- the head's latest lit sample and its filtered bed point (R151) -/
  anchor : Option (Nat × Pt) := none
  /-- the head is the peer's (R495), and its CLAIM waits for this device's next round -/
  remote : Bool := false
  asks : Bool := false
  /-- on the secondary: 1 a CLAIM has been sent, 2 it was answered without a unit, 3 a RELEASE request has been sent -/
  waits : Nat := 0
  deriving DecidableEq, Repr

/-- A released exposure unit (R153): its head, lines, the round of its grant, and the round its release ends. -/
structure Released where
  head : Nat
  serial : Nat
  lines : List URec
  round : Nat
  until_ : Option Nat := none
  deriving DecidableEq, Repr

/-- A guard episode of an ordered pair (R157). -/
structure Episode where
  h : Nat
  g : Nat
  first : Nat
  last : Nat
  minSq : Nat
  breach : Bool
  deriving DecidableEq, Repr

/-- A replay list entry (R148). -/
structure ReplayEntry where
  ri : Nat
  pool : Nat
  head : Nat
  pos : Nat
  deriving DecidableEq, Repr

/-- What the layer's rounds send to the build record and the recorder, in order (R147, R149, R156, R159, R163). -/
inductive LayOut where
  | claim (ri pool head cause pos start round : Nat)
  | hold (head cause other ri since dur : Nat)
  | wouldHold (head cause other ri since : Nat)
  | diverged (entry : Nat)
  | unexposed (ri head cause frac : Nat)
  | interruption (ri head frac : Nat)
  deriving DecidableEq, Repr

/-- The layer in exposure: every head's path, the arbiter and the guard, at one generator step. -/
structure Lay where
  /-- the next generator step -/
  k : Nat := 0
  heads : List LayHead := []
  /-- unclaimed units of each pool, in storage order -/
  pools : List (List WUnit) := []
  orphans : List WUnit := []
  /-- released units in the order of their grants -/
  released : List Released := []
  nextSerial : Nat := 1
  replay : List (Nat × ReplayEntry) := []
  replaying : Bool := false
  diverged : Bool := false
  episodes : List Episode := []
  /-- the gates are cut by HOLD and every head comes to rest (R109); samples go on -/
  hold : Bool := false
  outs : List LayOut := []
  orphanCount : Nat := 0
  deriving DecidableEq, Repr

end Sys2Proof.Machine
end

