-- ==== Sys2Proof/Machine/Guard.lean ====
section
/-! DEFINITION. Geometry of the plume guard: corridors, the release test and its lines (R150 to R152). -/

namespace Sys2Proof.Machine

/-- The gas direction and margins of the guard in bed units (R150, R152). -/
structure GuardGeom where
  gx : Int
  gy : Int
  /-- `GUT.GUARD_MARGIN` and `GUT.MIN_SEP`, in bed units -/
  margin : Int
  minSep : Int
  deriving DecidableEq, Repr

/-- A corridor: length downstream, length upstream, half width, in bed units. -/
structure Corridor where
  down : Int
  up : Int
  half : Int
  deriving DecidableEq, Repr

/-- A line in bed units, as the record's coordinates give it; a remainder's start may lie between bed units, so the
line is held in sub-units. -/
structure GLine where
  x0 : Int
  y0 : Int
  x1 : Int
  y1 : Int
  deriving DecidableEq, Repr

/-- Whether `q` lies in the corridor of an emitter at `e` (R150), in bed units. -/
def inCorridor (g : GuardGeom) (c : Corridor) (e q : Pt) : Bool :=
  let dx : Int := (q.1 : Int) - e.1
  let dy : Int := (q.2 : Int) - e.2
  let a := dx * g.gx + dy * g.gy
  let w := dx * g.gy - dy * g.gx
  let g2 := g.gx * g.gx + g.gy * g.gy
  decide (w * w ≤ c.half * c.half * g2) &&
    (if 0 ≤ a then decide (a * a ≤ c.down * c.down * g2) else decide (a * a ≤ c.up * c.up * g2))

/-- `x · sqrt(g2) < y`, decided by signs and then squares (R152). -/
def rootLess (x y g2 : Int) : Bool :=
  if x < 0 then decide (0 ≤ y) || decide (y * y < x * x * g2)
  else decide (0 < y) && decide (x * x * g2 < y * y)

/-- The least and the greatest of a list of integers (of a non-empty list). -/
def minOf : List Int → Int
  | [] => 0
  | [x] => x
  | x :: xs => min x (minOf xs)
def maxOf : List Int → Int
  | [] => 0
  | [x] => x
  | x :: xs => max x (maxOf xs)

/-- `conflict` of R152: emitter line `e` with corridor `c` (already enlarged), victim line `v`; lines in sub-units, the
corridor in bed units. -/
def lineConflict (g : GuardGeom) (c : Corridor) (e v : GLine) : Bool :=
  let g2 := g.gx * g.gx + g.gy * g.gy
  let q : List (Int × Int) := [(v.x0 - e.x0, v.y0 - e.y0), (v.x1 - e.x0, v.y1 - e.y0), (v.x1 - e.x1, v.y1 - e.y1), (v.x0 - e.x1, v.y0 - e.y1)]
  let axes : List (Int × Int) := [(g.gx, g.gy), (-g.gy, g.gx), (-(v.y1 - v.y0), v.x1 - v.x0), (-(e.y1 - e.y0), e.x1 - e.x0)]
  axes.all fun n =>
    if n.1 = 0 ∧ n.2 = 0 then true
    else
      let dots := q.map fun p => p.1 * n.1 + p.2 * n.2
      let gn := g.gx * n.1 + g.gy * n.2
      let pn := -g.gy * n.1 + g.gx * n.2
      let cs := [c.down, -c.up].flatMap fun al => [c.half, -c.half].map fun be => 65536 * (al * gn + be * pn)
      !(rootLess (maxOf dots) (minOf cs) g2 || rootLess (-minOf dots) (-maxOf cs) g2)

/-- Whether the squared distance of the point `p` from the closed segment `s` is below `m2`. -/
def pointNear (px py : Int) (s : GLine) (m2 : Int) : Bool :=
  let dx := s.x1 - s.x0
  let dy := s.y1 - s.y0
  let wx := px - s.x0
  let wy := py - s.y0
  let l2 := dx * dx + dy * dy
  let t := wx * dx + wy * dy
  if l2 = 0 ∨ t ≤ 0 then decide (wx * wx + wy * wy < m2)
  else if l2 ≤ t then decide ((px - s.x1) * (px - s.x1) + (py - s.y1) * (py - s.y1) < m2)
  else decide ((wx * dy - wy * dx) * (wx * dy - wy * dx) < m2 * l2)

/-- Twice the signed area of `a`, `b`, `p`. -/
def area (ax ay bx by_ px py : Int) : Int := (bx - ax) * (py - ay) - (by_ - ay) * (px - ax)

/-- Whether two segments come closer than the square root of `m2` (R152 condition 3), exactly. -/
def linesNear (p q : GLine) (m2 : Int) : Bool :=
  let crosses := decide (area q.x0 q.y0 q.x1 q.y1 p.x0 p.y0 * area q.x0 q.y0 q.x1 q.y1 p.x1 p.y1 < 0) &&
    decide (area p.x0 p.y0 p.x1 p.y1 q.x0 q.y0 * area p.x0 p.y0 p.x1 p.y1 q.x1 q.y1 < 0)
  (crosses && decide (0 < m2)) || pointNear p.x0 p.y0 q m2 || pointNear p.x1 p.y1 q m2 || pointNear q.x0 q.y0 p m2 || pointNear q.x1 q.y1 p m2

/-- A corridor enlarged by the guard margin (R152). -/
def Corridor.widen (m : Int) (c : Corridor) : Corridor := { down := c.down + m, up := c.up + m, half := c.half + m }

/-- A unit's record as a guard line: an exposed line from P0 to P1, a POINT of zero length; no line for the others. -/
def guardLine (r : URec) : Option GLine :=
  if r.cls = 0 ∨ r.cls = 1 ∨ r.cls = 2 ∨ r.cls = 6 then some { x0 := r.x0, y0 := r.y0, x1 := r.x1, y1 := r.y1 }
  else if r.cls = 3 then some { x0 := r.x0, y0 := r.y0, x1 := r.x0, y1 := r.y0 }
  else none

/-- The lines of an exposure unit (05: Fields, gutters and items). -/
def unitLines (u : WUnit) : List GLine := u.recs.filterMap guardLine

/-- The conditions 1, 2 and 3 of R152 on one pair of lines: the cause of the first that holds. -/
def pairFail (g : GuardGeom) (cu cg : Corridor) (c u : GLine) : Option Nat :=
  let m2 := (65536 * (g.minSep + g.margin)) * (65536 * (g.minSep + g.margin))
  if lineConflict g (cu.widen g.margin) u c then some 1
  else if lineConflict g (cg.widen g.margin) c u then some 2
  else if linesNear c u m2 then some 3
  else none

/-- The first failing pair of lines of one released unit: lines of C, then lines of U. -/
def unitFail (g : GuardGeom) (cu cg : Corridor) (us : List GLine) : List GLine → Option Nat
  | [] => none
  | c :: cs =>
    match us.findSome? (fun u => pairFail g cu cg c u) with
    | some k => some k
    | none => unitFail g cu cg us cs

/-- The release test (R152) of head `h`'s lines against released units, given as head and lines in their order: the
cause and the conflicting head. -/
def releaseFail (g : GuardGeom) (cor : List Corridor) (h : Nat) (cs : List GLine) : List (Nat × List GLine) → Option (Nat × Nat)
  | [] => none
  | (r, us) :: rest =>
    match unitFail g (cor.getD r ⟨0, 0, 0⟩) (cor.getD h ⟨0, 0, 0⟩) us cs with
    | some k => some (k, r)
    | none => releaseFail g cor h cs rest

end Sys2Proof.Machine
end

