-- ==== Sys2Proof/Machine/Path.lean ====
section
/-! DEFINITION. From records to segments, the path generator, focus, smoothing and gate windows (R83 to R99). -/

namespace Sys2Proof.Machine

/-- What one head's path generator runs with in a layer (Table 03.3): generator values and delays in ns. -/
structure PathEnv where
  ts : Nat
  acc : Nat
  jumpV : Nat
  n : Nat
  zStep : Nat
  focusBase : Int
  onDelay : Nat
  offDelay : Nat
  scanDelay : Nat
  profs : List ExpProfile
  /-- host-assisted guard or streamed head: no release is asked for (R159) -/
  noRelease : Bool := false
  deriving DecidableEq, Repr

/-- Cruise speed v_s of a SPEED (Table 03.3). -/
def cruise (ts speed : Nat) : Nat := max 1 (roundNat (speed * ts * 65536) 500000)

/-- Acceleration A of `TRJ.ACCEL` (Table 03.3). -/
def accelGen (ts a : Nat) : Nat := max 1 (roundNat (a * ts * ts * 262144) 1000000000000)

/-- Focus step of `TRJ.FOCUS_RATE` (Table 03.3). -/
def focusStep (ts rate : Nat) : Nat := max 1 (roundNat (rate * ts * 256) 1000000)

/-- Integer length of a vector (R87). -/
def vecLen (dx dy : Int) : Nat := isqrt ((dx * dx + dy * dy).toNat)

/-- Ceiling of samples in a time (R90, R98). -/
def samplesOf (ns ts : Nat) : Nat := ceilDiv ns ts

/-- Whether a record is an exposed line by CLASS. -/
def isLine (cls : Nat) : Bool := decide (cls = 0 ∨ cls = 1 ∨ cls = 2 ∨ cls = 6)

/-- Whether a unit record is an exposed line of non-zero length (R56). -/
def URec.live (r : URec) : Bool := isLine r.cls && decide (r.x0 ≠ r.x1 ∨ r.y0 ≠ r.y1)

/-- A unit record from a vector record. -/
def URec.ofRec (i : Nat) (r : VecRec) : URec :=
  { idx := i, x0 := 65536 * r.x0, y0 := 65536 * r.y0, x1 := 65536 * r.x1, y1 := 65536 * r.y1,
    prof := r.profile, cls := r.cls, flags := r.flags }

/-- The expansion in progress: the point reached, the segments so far in reverse, and the earlier chained record. -/
structure Expand where
  x : Int
  y : Int
  out : List Seg := []
  prev : Option URec := none
  released : Bool := false
  zeroLength : Nat := 0
  deriving DecidableEq, Repr

/-- A moving segment to `(bx, by)` for record `r`; omitted when its length is zero. -/
def Expand.move (e : Expand) (kind : SegKind) (bx by_ : Int) (v w : Nat) (r : URec) (zNew : Option Int) (opens closes : Bool) : Expand :=
  if e.x = bx ∧ e.y = by_ then e
  else
    { e with x := bx, y := by_,
             out := { kind := kind, ax := e.x, ay := e.y, bx := bx, by_ := by_, len := vecLen (bx - e.x) (by_ - e.y), v := v,
                      w := w, ri := r.idx, cls := r.cls, flags := r.flags, prof := r.prof, zNew := zNew, opens := opens,
                      closes := closes } :: e.out }

/-- A REST segment. -/
def Expand.rest (e : Expand) (kind : SegKind) (n : Nat) (r : URec) (zNew : Option Int) : Expand :=
  { e with out := { kind := kind, ax := e.x, ay := e.y, bx := e.x, by_ := e.y, len := 0, v := 0, w := 0, ri := r.idx,
                    cls := r.cls, flags := r.flags, prof := r.prof, zNew := zNew, n := n } :: e.out }

/-- The release wait before the first line of a unit (R153). -/
def Expand.release (env : PathEnv) (e : Expand) (r : URec) : Expand :=
  if e.released || env.noRelease then { e with released := true }
  else { e.rest .restRelease 0 r none with released := true }

/-- Sets the join speed of the last segment, and whether the gate closes there. -/
def Expand.join (e : Expand) (w : Nat) (closes : Bool) : Expand :=
  match e.out with
  | [] => e
  | s :: ss => { e with out := { s with w := w, closes := closes } :: ss }

/-- The focus target of a record (R94). -/
def zTargetOf (env : PathEnv) (r : URec) : Int := 256 * (env.focusBase + (env.profs.getD r.prof {}).focus)

/-- The join speed limit v_c of R89; `none` for no limit. -/
def cornerSpeed (env : PathEnv) (p q : URec) : Option Nat :=
  let d1x := p.x1 - p.x0
  let d1y := p.y1 - p.y0
  let d2x := q.x1 - q.x0
  let d2y := q.y1 - q.y0
  let l1 := vecLen d1x d1y
  let l2 := vecLen d2x d2y
  let den : Int := (l1 * l2 : Nat) - (d1x * d2x + d1y * d2y)
  let tol := (env.profs.getD p.prof {}).cornerTol * 262144
  if env.n = 0 ∨ den ≤ 0 then none
  else some (isqrt (32 * tol * tol * l1 * l2 / (env.n * env.n * den.toNat)))

/-- JUMP to S, focus REST, release, RUN_UP and MARK of a line (Table 03.6). -/
def Expand.freshLine (env : PathEnv) (e : Expand) (r : URec) : Expand :=
  let p := env.profs.getD r.prof {}
  let dx := r.x1 - r.x0
  let dy := r.y1 - r.y0
  let l := vecLen dx dy
  let ru := p.runUp * 262144
  let v := cruise env.ts p.speed
  let z := some (zTargetOf env r)
  let sx := r.x0 - roundDiv (ru * dx) l
  let sy := r.y0 - roundDiv (ru * dy) l
  let e := (e.move .jump sx sy env.jumpV 0 r z false false).rest .restFocus 0 r z
  let e := (e.release env r).move .runUp r.x0 r.y0 v v r none false false
  e.move .mark r.x1 r.y1 v 0 r none true true

/-- RUN_OUT after the line `r` (Table 03.6). -/
def Expand.runOut (env : PathEnv) (e : Expand) (r : URec) : Expand :=
  let p := env.profs.getD r.prof {}
  let dx := r.x1 - r.x0
  let dy := r.y1 - r.y0
  let l := vecLen dx dy
  let ro := p.runOut * 262144
  let v := cruise env.ts p.speed
  if ro = 0 then e
  else (e.join v true).move .runOut (r.x1 + roundDiv (ro * dx) l) (r.y1 + roundDiv (ro * dy) l) v 0 r none false false

/-- Closes the chained record in progress: a live line gets its RUN_OUT. -/
def Expand.close (env : PathEnv) (e : Expand) : Expand :=
  match e.prev with
  | some p => if p.live then { e.runOut env p with prev := none } else { e with prev := none }
  | none => e

/-- One record of a unit (Tables 03.6 and 03.7); `chain` is its CHAIN, taken as clear where nothing precedes it. -/
def Expand.record (env : PathEnv) (e : Expand) (r : URec) : Expand :=
  let chain := decide (r.flags % 2 = 1) && e.prev.isSome
  let z := some (zTargetOf env r)
  if r.cls = 5 then e
  else
    let e := if chain then e else e.close env
    if isLine r.cls then
      if !r.live then
        let e := e.move .jump r.x0 r.y0 env.jumpV 0 r z false false
        { e with prev := some r, zeroLength := e.zeroLength + 1 }
      else
        let v := cruise env.ts (env.profs.getD r.prof {}).speed
        match (if chain then e.prev else none) with
        | none => { e.freshLine env r with prev := some r }
        | some p =>
          if !p.live then { (e.release env r).move .mark r.x1 r.y1 v 0 r z true true with prev := some r }
          else
            let pp := env.profs.getD p.prof {}
            let v1 := cruise env.ts pp.speed
            if pp.corner = 1 then
              let w := min v1 v
              let w := match cornerSpeed env p r with | some c => min w c | none => w
              { (e.join w (decide (w = 0))).move .mark r.x1 r.y1 v 0 r z (decide (w = 0)) true with prev := some r }
            else if pp.corner = 2 then
              { (e.runOut env p).freshLine env r with prev := some r }
            else
              let e := if env.n = 0 then e else e.rest .restN env.n r z
              { e.move .mark r.x1 r.y1 v 0 r z true true with prev := some r }
    else if r.cls = 3 then
      let p := env.profs.getD r.prof {}
      let e := if chain then e else e.move .jump r.x0 r.y0 env.jumpV 0 r z false false
      let e := (e.rest .restFocus 0 r z).release env r
      { e.rest .restPoint (env.n + samplesOf (p.dwell * 1000) env.ts) r none with prev := some r }
    else
      let e := if chain then e else e.move .jump r.x0 r.y0 env.jumpV 0 r none false false
      { e.move .jump r.x1 r.y1 env.jumpV 0 r none false false with prev := some r }

/-- The segments of a unit from the point `(x, y)` (R86), and the zero-length lines counted (R56). -/
def expandUnit (env : PathEnv) (x y : Int) (u : WUnit) : List Seg × Nat :=
  let e := u.recs.foldl (Expand.record env) { x := x, y := y }
  let e := e.close env
  (e.out.reverse, e.zeroLength)

/-- DT after DT_s of an event on the path: step to sample `j`, at distance `d` of a step of length `v` (R97, R99). -/
def edgeDt (env : PathEnv) (j : Nat) (d v : Nat) (delay : Int) : Int :=
  roundDiv (16 * env.ts * (((j : Int) - 1) * v + d) + (v : Int) * (8 * env.n * env.ts + 16 * delay)) v

/-- On-edge and off-edge delays of R99. -/
def onDelay (env : PathEnv) : Int := (env.scanDelay : Int) - env.onDelay
def offDelay (env : PathEnv) : Int := (env.scanDelay : Int) - env.offDelay

/-- Opens a window at the departure crossing. -/
def HeadPath.open_ (env : PathEnv) (unit j d v : Nat) (g : Seg) (p : HeadPath) : HeadPath :=
  { p with wins := { tOn := edgeDt env j d v (onDelay env), prof := g.prof, unit := unit, cls := g.cls, ri := g.ri } :: p.wins }

/-- Closes the newest window at the arrival crossing. -/
def HeadPath.close (env : PathEnv) (j d v : Nat) (p : HeadPath) : HeadPath :=
  match p.wins with
  | [] => p
  | w :: ws => { p with wins := { w with tOff := some (edgeDt env j d v (offDelay env)) } :: ws }

/-- A BLEND join inside the newest window (R121). -/
def HeadPath.blend (env : PathEnv) (j d v : Nat) (g : Seg) (p : HeadPath) : HeadPath :=
  match p.wins with
  | [] => p
  | w :: ws => { p with wins := { w with joins := w.joins ++ [(edgeDt env j d v (onDelay env), g.prof)], jri := w.jri ++ [g.ri] } :: ws }

/-- The speed limit of the joins in the horizon (R91), and the distance to a true stop; `k` segments left of the 64. -/
def horizon (acc : Nat) : Nat → Nat → Nat → List Seg → Nat × Option Nat
  | _, _, lim, [] => (lim, none)
  | k, d, lim, g :: gs =>
    let d' := d + g.len
    if g.w = 0 then (min lim (isqrt (2 * acc * d')), some d')
    else if k = 0 then (min lim (isqrt (2 * acc * d')), none)
    else horizon acc (k - 1) d' (min lim (isqrt (g.w * g.w + 2 * acc * d'))) gs

/-- The spot at path parameter `s` of a segment (R87). -/
def Seg.point (g : Seg) (s : Nat) : Int × Int :=
  if g.len = 0 ∨ g.len ≤ s then (g.bx, g.by_)
  else (g.ax + roundDiv (s * (g.bx - g.ax)) g.len, g.ay + roundDiv (s * (g.by_ - g.ay)) g.len)

/-- What the spot does to the gate on leaving the start of segment `g` at distance `d` of the step (R93, R98). -/
def HeadPath.enter (env : PathEnv) (unit j d v : Nat) (g : Seg) (p : HeadPath) : HeadPath :=
  if g.kind = .mark then
    let p := if v < g.v then { p with shortRunups := p.shortRunups + 1 } else p
    if g.opens then p.open_ env unit j d v g else p.blend env j d v g
  else p

/-- Advances the spot by the rest `r` of a step of length `v` to sample `j`, `d` being the distance covered; segment
joins are crossed, and a true stop is landed on (R91, R97). The list has at least one segment per unit of fuel. -/
def HeadPath.advance (env : PathEnv) (unit j v : Nat) : Nat → Nat → HeadPath → HeadPath
  | 0, _, p => p
  | fuel + 1, r, p =>
    match p.segs with
    | [] => p
    | g :: gs =>
      let left := g.len - p.s
      if r < left then { p with s := p.s + r, landed := false }
      else
        let p := if g.closes then p.close env j (v - r + left) v else p
        if g.w = 0 then { p with s := g.len, landed := true, pointAt := some (((j : Int) - 1) * v + (v - r + left : Nat), v) }
        else
          match gs with
          | [] => { p with s := g.len, landed := true }
          | g' :: _ =>
            let p := { p with segs := gs, s := 0, landed := false,
                              zTarget := match g'.zNew with | some z => z | none => p.zTarget }
            if r = left then p
            else (p.enter env unit j (v - r + left) v g').advance env unit j v fuel (r - left)

/-- Focus moves toward its target by at most z_step (R94). -/
def HeadPath.focus (env : PathEnv) (p : HeadPath) : HeadPath :=
  { p with z := p.z + clampInt (-(env.zStep : Int)) env.zStep (p.zTarget - p.z) }

/-- Passes to the next segment from a stop (R91): a focus REST whose target is reached and a granted release take no
sample. -/
def HeadPath.pass (env : PathEnv) : Nat → HeadPath → HeadPath
  | 0, p => p
  | fuel + 1, p =>
    if !p.landed then p
    else match p.segs with
    | [] => p
    | _ :: gs =>
      match gs with
      | [] => { p with segs := [] }
      | g :: _ =>
        let zT := match g.zNew with | some z => z | none => p.zTarget
        let p := { p with segs := gs, s := 0, zTarget := zT }
        match g.kind with
        | .restFocus => if p.z = zT then ({ p with landed := true }).pass env fuel else { p with landed := false }
        | .restRelease => if p.granted then ({ p with landed := true }).pass env fuel else { p with landed := false }
        | .restN => { p with landed := false, restLeft := g.n }
        | .restPoint =>
          if g.n = 0 then ({ p with landed := true }).pass env fuel else { p with landed := false, restLeft := g.n }
        | _ => { p with landed := false }

/-- The window of a POINT (R98), opened when its own REST begins; `pointAt` holds t_a. -/
def HeadPath.pointWindow (env : PathEnv) (unit : Nat) (g : Seg) (p : HeadPath) : HeadPath :=
  let dw := (env.profs.getD g.prof {}).dwell * 1000
  if dw = 0 then p
  else
    match p.pointAt with
    | none => p
    | some (num, v) =>
      let base := 16 * env.ts * num + (v : Int) * (16 * env.n * env.ts)
      let on := roundDiv (base + (v : Int) * (16 * onDelay env)) v
      let off := roundDiv (base + (v : Int) * (16 * (dw + offDelay env))) v
      { p with wins := { tOn := on, tOff := some off, prof := g.prof, unit := unit, cls := g.cls, ri := g.ri } :: p.wins }

/-- Whether the current segment is a REST. -/
def SegKind.isRest : SegKind → Bool
  | .restN | .restFocus | .restRelease | .restPoint => true
  | _ => false

/-- The generator step to sample `j` in exposure (R91); `unit` is the serial of the current unit. A spot that has landed on a stop
is at rest there (R92). -/
def HeadPath.step (env : PathEnv) (unit j : Nat) (p0 : HeadPath) : HeadPath :=
  let wasLanded := p0.landed
  let p := (if wasLanded then { p0 with v := 0 } else p0).pass env (p0.segs.length + 1)
  match p.segs with
  | [] => (({ p with v := 0 } : HeadPath)).focus env
  | g :: gs =>
    if g.kind.isRest then
      let p := ({ p with v := 0 } : HeadPath).focus env
      match g.kind with
      | .restFocus => if p.z = p.zTarget then { p with landed := true, pointAt := some (j, 1) } else p
      | .restRelease => p
      | .restPoint =>
        let p := if wasLanded && decide (p.restLeft = g.n) then p.pointWindow env unit g else p
        if p.restLeft ≤ 1 then { p with landed := true, restLeft := 0 } else { p with restLeft := p.restLeft - 1 }
      | _ => if p.restLeft ≤ 1 then { p with landed := true, restLeft := 0, pointAt := some (j, 1) } else { p with restLeft := p.restLeft - 1 }
    else
      let h := horizon env.acc 63 0 g.v ({ g with len := g.len - p.s } :: gs)
      let v1 := max (min h.1 (p.v + env.acc)) (p.v - env.acc)
      let v2 := match h.2 with | some d => if d ≤ v1 then d else v1 | none => v1
      let p := if p.s = 0 ∧ 0 < v2 ∧ p.v = 0 then p.enter env unit j 0 v2 g
        else if p.s = 0 ∧ 0 < v2 ∧ !wasLanded then p.enter env unit j 0 v2 g else p
      (({ p with v := v2 } : HeadPath).advance env unit j v2 (p.segs.length + 1) v2).focus env

/-- Distance to the first true stop ahead. -/
def stopAhead : Nat → List Seg → Nat
  | d, [] => d
  | d, g :: gs => if g.w = 0 then d + g.len else stopAhead (d + g.len) gs

/-- The generator step in HOLD (R109): deceleration to rest along the path, landing on a true stop reached first. -/
def HeadPath.holdStep (env : PathEnv) (j : Nat) (p : HeadPath) : HeadPath :=
  match p.segs with
  | [] => (({ p with v := 0 } : HeadPath)).focus env
  | g :: gs =>
    if p.landed || g.kind.isRest then (({ p with v := 0 } : HeadPath)).focus env
    else
      let v := p.v - env.acc
      let d := stopAhead 0 ({ g with len := g.len - p.s } :: gs)
      let v := if d ≤ v then d else v
      let wins := p.wins
      let p := (({ p with v := v } : HeadPath).advance env 0 j v (p.segs.length + 1) v)
      ({ p with wins := wins } : HeadPath).focus env

/-- Where the spot is after a step. -/
def HeadPath.spot (p : HeadPath) : Int × Int :=
  match p.segs with
  | [] => (p.x, p.y)
  | g :: _ => if g.kind.isRest then (g.ax, g.ay) else g.point p.s

/-- The samples of history that matter: the window, and the delays of R110. -/
def histKeep : Nat := 8192

/-- How far the exposure of a segment's record has come while the spot is in it (R110, R111). -/
def SegKind.part : SegKind → Nat
  | .jump | .runUp | .restN | .restFocus | .restRelease => 0
  | .mark => 1
  | .runOut | .restPoint => 2

/-- The sample that holds the spot of a path whose current segment is `g`; with no segment left, the record of the
sample before stands (Table 03.2, record identity). -/
def HeadPath.sample (unit : Nat) (p : HeadPath) : Sample :=
  let xy := p.spot
  match p.segs with
  | g :: _ =>
    let mark : Option URec :=
      if g.kind = .mark then
        some { idx := g.ri, x0 := g.ax, y0 := g.ay, x1 := g.bx, y1 := g.by_, prof := g.prof, cls := g.cls, flags := g.flags }
      else none
    { x := xy.1, y := xy.2, z := p.z, v := p.v, mark := mark, part := g.kind.part, unit := unit, ri := g.ri, cls := g.cls,
      flags := g.flags, prof := g.prof }
  | [] =>
    match p.hist with
    | o :: _ => { o with x := xy.1, y := xy.2, z := p.z, v := p.v, mark := none, part := 2, unit := unit }
    | [] => { x := xy.1, y := xy.2, z := p.z, v := p.v, cls := 4 }

/-- Records the sample after a step: the spot, the history, the run of samples inside one JUMP (R107) and the filtered
speed and acceleration (R96). -/
def HeadPath.record (env : PathEnv) (unit : Nat) (p : HeadPath) : HeadPath :=
  let smp := p.sample unit
  let hist := (smp :: p.hist).take histKeep
  let vf := roundDiv ((hist.take (env.n + 1)).foldl (fun a h => a + (h.v : Int)) 0) (env.n + 1)
  let inJump : Bool := match p.segs with | g :: _ => decide (g.kind = .jump ∧ 0 < p.s) | [] => false
  { p with x := smp.x, y := smp.y, hist := hist, vf := vf, af := vf - p.vf, jumpRun := if inJump then p.jumpRun + 1 else 0 }

/-- Grants the release the path waits for (R153): a release REST that is running ends with this step's sample. -/
def HeadPath.grant (j : Nat) (p : HeadPath) : HeadPath :=
  match p.segs with
  | g :: _ => if g.kind = .restRelease then { p with granted := true, asked := false, landed := true, pointAt := some (j, 1) }
    else { p with granted := true, asked := false }
  | [] => { p with granted := true, asked := false }

/-- Whether the path stands at the release REST before the first line of its unit (R153), or RESUME asks for it (R156). -/
def HeadPath.wantsRelease (p : HeadPath) : Bool :=
  !p.granted && (p.asked ||
    (match p.segs with
    | [] => false
    | g :: gs =>
      if g.kind = .restRelease then true
      else p.landed &&
        (match gs with
        | h :: hs =>
          if h.kind = .restRelease then true
          else decide (h.kind = .restFocus) && decide (h.zNew = some p.z) &&
            (match hs with | r :: _ => decide (r.kind = .restRelease) | [] => false)
        | [] => false)))

/-- The release of the unit fed is asked for at once (R156). -/
def HeadPath.ask (p : HeadPath) : HeadPath := { p with asked := true }

/-- A standing segment at the spot, so that a fed path departs from a stop. -/
def HeadPath.here (p : HeadPath) : Seg :=
  match p.segs, p.landed with
  | g :: _, true => g
  | _, _ => { kind := .restN, ax := p.x, ay := p.y, bx := p.x, by_ := p.y, len := 0, v := 0, w := 0, ri := 0, cls := 4, flags := 0, prof := 0 }

/-- Gives the path the segments of a unit, behind a lead-in REST of `m` samples (R90). -/
def HeadPath.feed (env : PathEnv) (m : Nat) (u : WUnit) (p : HeadPath) : HeadPath :=
  let e := expandUnit env p.x p.y u
  let lead : List Seg :=
    if m = 0 then []
    else [{ kind := .restN, ax := p.x, ay := p.y, bx := p.x, by_ := p.y, len := 0, v := 0, w := 0, ri := 0, cls := 4, flags := 0, prof := 0, n := m }]
  { p with segs := p.here :: (lead ++ e.1), s := 0, landed := true, granted := false, asked := false, zeroLength := p.zeroLength + e.2 }

/-- Whether the path has landed on the end of its last segment. -/
def HeadPath.done (p : HeadPath) : Bool :=
  p.landed && (match p.segs with | [] => true | [_] => true | _ => false)

/-- A filtered coordinate: the boxcar over n + 1 samples, the rest value `r` standing for missing ones (R95). -/
def boxcar (n : Nat) (r : Int) (xs : List Int) : Int :=
  let w := xs.take (n + 1)
  roundDiv (w.foldl (· + ·) 0 + ((n + 1 - w.length : Nat) : Int) * r) (n + 1)

end Sys2Proof.Machine
end

