-- ==== Sys2Proof/Machine/Layer.lean ====
section
/-! DEFINITION. The layer in exposure: items and claims (R140 to R149), releases (R153 to R159), lost heads (R160 to
R163), HOLD and RESUME of the paths (R109 to R111, R156) and the end of a layer (R164). -/

namespace Sys2Proof.Machine

/-- What a layer runs with: the values in force for the whole EXPOSE (R84, R172). -/
structure LayEnv where
  ts : Nat
  dtS : Nat
  paths : List PathEnv
  fixed : Bool
  holding : Bool
  geom : GuardGeom
  corridors : List Corridor
  /-- `GUT.LEAD_THRESHOLD` in ns, `GUT.JUMP_COST`, `GUT.WINDOW` -/
  lead : Nat
  jumpCost : Nat
  window : Nat
  /-- P of R151 in samples, J of R157, `GUT.HOLD_PRIORITY` in ns -/
  persist : Nat
  ahead : Nat
  priority : Nat
  pools : List Pool
  /-- squared distance (4 × MIN_SEP)² of R157 in bed units -/
  sepSq : Nat
  /-- on a paired secondary: the pools that the primary hands out (R495) -/
  cross : List Nat := []
  /-- the zone polygon on a paired secondary, whose units the primary releases (R496) -/
  zone : List Pt := []
  deriving DecidableEq, Repr

def LayEnv.path (e : LayEnv) (h : Nat) : PathEnv :=
  e.paths.getD h { ts := e.ts, acc := 1, jumpV := 1, n := 0, zStep := 1, focusBase := 0, onDelay := 0, offDelay := 0, scanDelay := 0, profs := [] }

/-- DT of the start of sample `k` (R28). -/
def LayEnv.dtOf (e : LayEnv) (k : Nat) : Nat := e.dtS + 16 * e.ts * k

/-- The cost of a record in samples (R140). -/
def recordCost (env : PathEnv) (jumpCost : Nat) (r : URec) : Nat :=
  let p := env.profs.getD r.prof {}
  let l := vecLen (r.x1 - r.x0) (r.y1 - r.y0)
  let own :=
    if r.cls = 5 then 0
    else if r.cls = 4 then ceilDiv l env.jumpV
    else if r.cls = 3 then ceilDiv (p.dwell * 1000) env.ts
    else ceilDiv (l + (p.runUp + p.runOut) * 262144) (cruise env.ts p.speed)
  if r.cls = 5 then 0 else if r.flags.testBit 0 then own else own + jumpCost

def unitCost (env : PathEnv) (jumpCost : Nat) (u : WUnit) : Nat := u.recs.foldl (fun a r => a + recordCost env jumpCost r) 0

/-- Splits a record list into exposure or dispatch units (R58): a SKIP belongs to the unit in progress. -/
def splitUnits (pool : Option Nat) : Nat → List VecRec → List WUnit
  | _, [] => []
  | i, r :: rs =>
    let us := splitUnits pool (i + 1) rs
    let u := URec.ofRec i r
    match us with
    | [] => [{ pool := pool, first := i, recs := [u] }]
    | v :: vs =>
      match v.recs with
      | q :: _ =>
        if q.cls = 5 ∨ q.flags.testBit 0 then { pool := pool, first := i, recs := u :: v.recs } :: vs
        else { pool := pool, first := i, recs := [u] } :: us
      | [] => { pool := pool, first := i, recs := [u] } :: vs

/-- A unit is pinned when one of its records carries PIN (R59). -/
def WUnit.pinned (u : WUnit) : Bool := u.recs.any fun r => r.cls != 5 && r.flags.testBit 1

/-- A unit made only of SKIP records. -/
def WUnit.skips (u : WUnit) : Bool := u.recs.all fun r => r.cls == 5

/-- A head is live: it takes part and is not lost (05). -/
def LayHead.live (x : LayHead) : Bool := x.takesPart && !x.lost

def Lay.head (l : Lay) (h : Nat) : LayHead := l.heads.getD h {}

def Lay.setHead (l : Lay) (h : Nat) (x : LayHead) : Lay := { l with heads := l.heads.set h x }

def Lay.out (l : Lay) (o : LayOut) : Lay := { l with outs := l.outs ++ [o] }

/-- Head `h` may take a unit of pool `g`: eligible, and named by the pin if the unit is pinned (R143). -/
def mayTake (pools : List Pool) (h : Nat) (u : WUnit) : Bool :=
  match u.pool with
  | none => false
  | some g =>
    let p := pools.getD g {}
    p.eligible.testBit h && (!u.pinned || decide (p.pinHead = some h))

/-- The released units of heads other than `h`, in the order of their grants. -/
def Lay.others (l : Lay) (h : Nat) : List (Nat × List GLine) :=
  l.released.filterMap fun r => if r.head = h then none else some (r.head, r.lines.filterMap guardLine)

/-- The candidates of head `h` before the release test (R143); an orphan is never a peer head's. -/
def Lay.candidates (env : LayEnv) (l : Lay) (h : Nat) : List WUnit :=
  let os := if (l.head h).remote then [] else l.orphans.filter (mayTake env.pools h)
  if os.isEmpty then ((l.pools.zipIdx).map fun p => if env.cross.contains p.2 then [] else (p.1.filter (mayTake env.pools h)).take env.window).flatten
  else os

/-- The rank of a candidate: squared distance of its first record's P0 from the stop, pool, record index. -/
def rank (x y : Int) (u : WUnit) : Nat × Nat × Nat :=
  let d := match u.recs.find? (fun r => r.cls != 5) with
    | none => 0
    | some r => ((r.x0 - x) * (r.x0 - x) + (r.y0 - y) * (r.y0 - y)).toNat
  (d, u.pool.getD 0, u.first)

def rankLess (a b : Nat × Nat × Nat) : Bool :=
  decide (a.1 < b.1) || (decide (a.1 = b.1) && (decide (a.2.1 < b.2.1) || (decide (a.2.1 = b.2.1) && decide (a.2.2 < b.2.2))))

/-- A unit made only of SKIP records ranks ahead of every unit that holds a line (R143). -/
def better (x y : Int) (u v : WUnit) : Bool :=
  if u.skips && !v.skips then true else if v.skips && !u.skips then false else rankLess (rank x y u) (rank x y v)

/-- The candidate head `h` takes in this round, if any (R143). -/
def Lay.choose (env : LayEnv) (l : Lay) (h : Nat) : Option WUnit :=
  let x := l.head h
  let cs := (l.candidates env h).filter fun u =>
    !env.holding || (releaseFail env.geom env.corridors h (unitLines u) (l.others h)).isNone
  cs.foldl (fun best u => match best with
    | none => some u
    | some b => if better x.path.x x.path.y u b then some u else some b) none

/-- Whether any unit or orphan remains that head `h` may take. -/
def Lay.remains (env : LayEnv) (l : Lay) (h : Nat) : Bool :=
  (!(l.head h).remote && l.orphans.any (mayTake env.pools h)) || (!env.fixed && l.pools.any fun us => us.any (mayTake env.pools h))

/-- The lead of head `h` (R144): the largest R_g of its neighbours less R_h; `none` without a neighbour. -/
def Lay.leadOf (env : LayEnv) (l : Lay) (h : Nat) : Option Int :=
  let pools := (l.candidates env h).filterMap (·.pool)
  let ns := (List.range l.heads.length).filter fun g =>
    g != h && (l.head g).live && pools.any fun p => (env.pools.getD p {}).eligible.testBit g
  match ns with
  | [] => none
  | _ => some (maxOf (ns.map fun g => ((l.head g).cost : Int)) - (l.head h).cost)

/-- Takes a unit out of the unclaimed units or the orphans. -/
def Lay.remove (l : Lay) (u : WUnit) : Lay :=
  if u.orphan then { l with orphans := l.orphans.erase u }
  else { l with pools := l.pools.map fun us => us.erase u }

/-- Hands a unit to a head: the path is fed and the item counted. -/
def Lay.give (env : LayEnv) (h items : Nat) (u : WUnit) (l : Lay) : Lay :=
  let x := l.head h
  { l.setHead h { x with cur := some u, serial := l.nextSerial, taken := x.taken + items, firstRequest := none, waits := 0,
                         claimed := if u.pool.isSome then x.claimed + 1 else x.claimed,
                         path := (if x.landedAt = l.k then x.path else { x.path with pointAt := some (l.k, 1) }).feed (env.path h) 0 u } with
      nextSerial := l.nextSerial + 1 }

/-- A claim (R147): the entry, the unit out of the pools, the head at work on it. Causes of Table 05.2. -/
def Lay.claim (env : LayEnv) (k h cause : Nat) (u : WUnit) (l : Lay) : Lay :=
  let pos := (l.head h).taken
  let cause := if u.orphan && decide (cause ≠ 4) then 3 else cause
  ((l.remove u).out (.claim u.first (u.pool.getD 0) h cause pos (if u.orphan then u.start else 0) k)).give env h 1 u

/-- The next sheet unit, without arbitration. -/
def Lay.takeSheet (env : LayEnv) (h : Nat) (l : Lay) : Lay :=
  let x := l.head h
  match x.sheet with
  | [] => l
  | u :: us =>
    if x.remote then l else (l.setHead h { x with sheet := us, back := false, cost := x.cost - unitCost (env.path h) env.jumpCost u }).give env h u.recs.length u

/-- A secondary head asks the primary first while a cross-device unit that it may take remains (R495). -/
def Lay.asksPeer (env : LayEnv) (l : Lay) (h : Nat) : Bool :=
  (l.head h).waits != 2 && (l.pools.zipIdx).any fun p => env.cross.contains p.2 && p.1.any (mayTake env.pools h)

/-- A head stands where its next item is asked for. -/
def LayHead.free (x : LayHead) : Bool := x.live && !x.streamed && x.cur.isNone && x.path.landed

/-- The heads that ask for an item in this round; a peer head asks by CLAIM (R495). -/
def Lay.asking (env : LayEnv) (l : Lay) : List Nat :=
  (List.range l.heads.length).filter fun h => let x := l.head h; (x.free && !l.asksPeer env h) || (x.remote && x.asks)

/-- Notes a request that found nothing (R142, R145). -/
def Lay.idle (k h : Nat) (l : Lay) : Lay :=
  let x := l.head h
  l.setHead h { x with firstRequest := some (x.firstRequest.getD k), waits := 0 }

/-- Fixed sharing: sheet, then runs and orphans (R146). -/
def Lay.fixedItem (env : LayEnv) (k h : Nat) (l : Lay) : Lay :=
  let x := l.head h
  match x.sheet, x.runs with
  | _ :: _, _ => l.takeSheet env h
  | [], u :: us =>
    let l := l.setHead h { x with runs := us }
    if u.orphan then (l.out (.claim u.first (u.pool.getD 0) h 3 x.taken u.start k)).give env h 1 u else l.give env h 1 u
  | [], [] => l.idle k h

/-- Inserts into a list kept in the order of a comparison. -/
def insertBy {α : Type} (less : α → α → Bool) (a : α) : List α → List α
  | [] => [a]
  | b :: bs => if less a b then a :: b :: bs else b :: insertBy less a bs

/-- Sorts by a comparison, keeping the order of equals. -/
def sortBy {α : Type} (less : α → α → Bool) : List α → List α
  | [] => []
  | a :: as => insertBy (fun x y => less x y || !less y x) a (sortBy less as)

/-- One round of dynamic sharing (R141 to R144): exhausted heads, heads claiming by lead, the others' sheets. -/
def Lay.dynamicRound (env : LayEnv) (k : Nat) (hs : List Nat) (l : Lay) : Lay :=
  let exhausted := sortBy (fun a b => decide (((l.head a).firstRequest.getD k) < ((l.head b).firstRequest.getD k)))
    (hs.filter fun h => (l.head h).sheet.isEmpty)
  let rest := hs.filter fun h => !(l.head h).sheet.isEmpty
  let leads := rest.filterMap fun h =>
    if (l.head h).back then none
    else match l.leadOf env h with
      | some d => if (env.lead : Int) < d * env.ts then some (h, d) else none
      | none => none
  let leaders := (sortBy (fun (a b : Nat × Int) => decide (b.2 < a.2)) leads).map (·.1)
  let l := exhausted.foldl (fun l h => match l.choose env h with | some u => l.claim env k h 0 u | none => l.idle k h) l
  let l := leaders.foldl (fun l h => match l.choose env h with | some u => l.claim env k h 1 u | none => l.takeSheet env h) l
  rest.foldl (fun l h => if leaders.contains h then l else l.takeSheet env h) l

/-- Ends a guard hold: its entry is written if it lasted a round (R156). -/
def Lay.endHold (env : LayEnv) (k h : Nat) (l : Lay) : Lay :=
  let x := l.head h
  match x.holdSince with
  | none => l
  | some k0 =>
    let l := l.setHead h { x with holdSince := none, holdCause := 0, holdHead := 255, holdTime := x.holdTime + (k - k0),
                                  holds := if k0 < k then x.holds + 1 else x.holds }
    if k0 < k then l.out (.hold h x.holdCause x.holdHead ((x.cur.map (·.first)).getD 0) (env.dtOf k0) ((k - k0) * env.ts)) else l

/-- R155: a head held on a sheet unit claims a pool unit instead; the sheet unit stays its next sheet item. -/
def Lay.exchange (env : LayEnv) (k : Nat) (l : Lay) : Lay :=
  (List.range l.heads.length).foldl (fun l h =>
    let x := l.head h
    match x.cur, x.holdSince with
    | some u, some k0 =>
      if u.pool.isNone && decide (k0 < k) && x.live && x.path.wantsRelease then
        match l.choose env h with
        | none => l
        | some v =>
          let l := l.endHold env k h
          let x := l.head h
          (l.setHead h { x with sheet := u :: x.sheet, cur := none, back := true, taken := x.taken - u.recs.length,
                                cost := x.cost + unitCost (env.path h) env.jumpCost u }).claim env k h 2 v
      else l
    | _, _ => l) l

/-- A round of replay (R148), and the entry at which it diverges (R149). -/
def Lay.replayRound (env : LayEnv) (k : Nat) (hs : List Nat) (l : Lay) : Lay × Option Nat :=
  let bad := l.replay.find? fun e => !(l.head e.2.head).live || !(env.pools.getD e.2.pool {}).eligible.testBit e.2.head
  match bad with
  | some e => (l, some e.1)
  | none =>
    if l.replay.isEmpty && l.pools.any (fun us => !us.isEmpty) then (l, some 4294967295)
    else
      hs.foldl (fun (acc : Lay × Option Nat) h =>
        match acc with
        | (l, some e) => (l, some e)
        | (l, none) =>
          let x := l.head h
          if x.back then (l.takeSheet env h, none)
          else if l.orphans.any (mayTake env.pools h) then
            (match l.choose env h with | some u => (l.claim env k h 3 u, none) | none => (l.idle k h, none))
          else match l.replay.find? (fun e => e.2.head == h) with
          | none => if x.sheet.isEmpty then (l.idle k h, none) else (l.takeSheet env h, none)
          | some e =>
            if e.2.pos = x.taken then
              match (l.candidates env h).find? (fun u => u.first == e.2.ri && u.pool == some e.2.pool) with
              | none => (l, some e.1)
              | some u => ((({ l with replay := l.replay.erase e } : Lay)).claim env k h 4 u, none)
            else if x.sheet.isEmpty then (l, some e.1)
            else (l.takeSheet env h, none)) (l, none)

/-- A head that has landed goes on with the units a cut gave back to it, without arbitration (R111). -/
def Lay.again (env : LayEnv) (l : Lay) : Lay :=
  (List.range l.heads.length).foldl (fun l h =>
    let x := l.head h
    match x.free, x.redo with
    | true, u :: us =>
      { l.setHead h { x with cur := some u, redo := us, serial := l.nextSerial, path := x.path.feed (env.path h) 0 u } with
        nextSerial := l.nextSerial + 1 }
    | _, _ => l) l

/-- The arbiter's part of round `k` (R141, R146, R148, R149). -/
def Lay.arbiter (env : LayEnv) (k : Nat) (l : Lay) : Lay :=
  let l := l.again env
  let hs := l.asking env
  if env.fixed then hs.foldl (fun l h => l.fixedItem env k h) l
  else if l.replaying then
    match l.replayRound env k hs with
    | (l', none) => l'
    | (l', some e) =>
      let l' := ({ l' with replaying := false, replay := [], diverged := true } : Lay).out (.diverged e)
      (l'.dynamicRound env k (hs.filter fun h => (l'.head h).cur.isNone)).exchange env k
  else (l.dynamicRound env k hs).exchange env k

/-- Whether a head is part of an open breach (R158). -/
def Lay.inBreach (l : Lay) (h : Nat) : Bool := l.episodes.any fun e => e.breach && (e.h == h || e.g == h)

/-- A point inside a polygon given by its vertices (crossing rule), and whether two segments cross or touch; in sub-units. -/
def insideZone (poly : List Pt) (x y : Int) : Bool :=
  let n := poly.length
  let v (i : Nat) : Int × Int := let p := poly.getD (i % n) (0, 0); (65536 * (p.1 : Int), 65536 * (p.2 : Int))
  (List.range n).foldl (fun (a : Bool) (i : Nat) =>
    let p := v i
    let q := v (i + 1)
    if decide (p.2 ≤ y) == decide (q.2 ≤ y) then a
    else
      let c := (q.1 - p.1) * (y - p.2) - (x - p.1) * (q.2 - p.2)
      if p.2 < q.2 then xor a (decide (0 < c)) else xor a (decide (c < 0))) false
def lineInPoly (poly : List Pt) (g : GLine) : Bool :=
  let n := poly.length
  insideZone poly g.x0 g.y0 || insideZone poly g.x1 g.y1 || (List.range n).any fun i =>
    let p := poly.getD i (0, 0)
    let q := poly.getD ((i + 1) % n) (0, 0)
    linesNear g { x0 := 65536 * (p.1 : Int), y0 := 65536 * (p.2 : Int), x1 := 65536 * (q.1 : Int), y1 := 65536 * (q.2 : Int) } 1
/-- A zone unit on the secondary: the primary releases it (R496). -/
def LayEnv.zoned (e : LayEnv) (lines : List GLine) : Bool := !e.zone.isEmpty && lines.any (lineInPoly e.zone)

/-- One release request in the guard's part of a round: capacity left and reserved lines before and after (R154). -/
def Lay.request (env : LayEnv) (k h : Nat) (acc : Lay × Nat × List (Nat × List GLine)) : Lay × Nat × List (Nat × List GLine) :=
  let (l, cap, reserved) := acc
  let x := l.head h
  match x.cur with
  | none => acc
  | some u =>
    let lines := unitLines u
    let x := { x with holdSince := some (x.holdSince.getD k) }
    let l := l.setHead h x
    let units := l.others h
    let grant (l : Lay) : Lay :=
      let l := l.endHold env k h
      let x := l.head h
      { l.setHead h { x with path := x.path.grant k } with
        released := l.released ++ [{ head := h, serial := x.serial, lines := u.recs, round := k }] }
    let free := (env.path h).noRelease
    if env.zoned lines then (l, cap, reserved)
    else if !env.holding || free then
      let l := match releaseFail env.geom env.corridors h lines units with
        | none => l
        | some (c, o) => (l.setHead h { x with wouldHolds := x.wouldHolds + 1 }).out (.wouldHold h c o u.first (env.dtOf k))
      (grant l, cap, reserved)
    else
      let pairs := lines.length * ((units ++ reserved).foldl (fun a r => a + r.2.length) 0)
      let verdict : Option (Nat × Nat) × Nat :=
        if l.inBreach h then (some (6, 255), cap)
        else if cap < pairs then (some (5, 255), cap)
        else
          (match releaseFail env.geom env.corridors h lines units with
          | some v => some v
          | none => (releaseFail env.geom env.corridors h lines reserved).map fun v => (4, v.2), cap - pairs)
      match verdict with
      | (none, cap) => (grant l, cap, reserved)
      | (some (c, o), cap) =>
        let l := l.setHead h { x with holdCause := c, holdHead := o }
        (l, cap, if env.priority < (k - x.holdSince.getD k) * env.ts then reserved ++ [(h, lines)] else reserved)

/-- The guard's part of round `k` (R153, R154): releases that end, then the requests in the order their holds began. -/
def Lay.guardRound (env : LayEnv) (k : Nat) (l : Lay) : Lay :=
  let l := { l with released := l.released.filter fun r => match r.until_ with | some u => decide (k < u) | none => true }
  let hs := (List.range l.heads.length).filter fun h => let x := l.head h; x.live && !x.streamed && x.cur.isSome && x.path.wantsRelease
  let order := sortBy (fun a b => decide (((l.head a).holdSince.getD k) < ((l.head b).holdSince.getD k))) hs
  (order.foldl (fun acc h => Lay.request env k h acc) (l, 8 * env.ts, [])).1

/-- Index of the sample that holds an instant given after DT_s; 0 for an instant before it (R119). -/
def sampleOf (ts : Nat) (t : Int) : Nat := (t / (16 * ts : Nat)).toNat

/-- First and last lit sample of a window (04: The gate waveform). -/
def Win.firstLit (ts : Nat) (w : Win) : Nat := sampleOf ts w.tOn
def Win.lastLit (ts : Nat) (w : Win) : Option Nat :=
  match w.tOff with
  | none => none
  | some t => if t % ((16 * ts : Nat) : Int) = 0 then some (sampleOf ts t - 1) else some (sampleOf ts t)

/-- Whether sample `k` is lit (R151). -/
def Win.litAt (ts k : Nat) (w : Win) : Bool :=
  decide (w.firstLit ts ≤ k) && (match w.lastLit ts with | some e => decide (k ≤ e) | none => true)

/-- The last lit sample of the windows of unit `serial` (R153); `k` where it has none. -/
def lastLitOf (ts k serial : Nat) (ws : List Win) : Nat :=
  (ws.filter fun w => w.unit == serial).foldl (fun a w => max a ((w.lastLit ts).getD k)) 0

/-- Sets the end of the release of unit `serial` (R153). -/
def Lay.endRelease (serial until_ : Nat) (l : Lay) : Lay :=
  { l with released := l.released.map fun r =>
      if r.serial = serial then { r with until_ := some (match r.until_ with | some u => min u until_ | none => until_) } else r }

/-- The unit in progress is complete: its records are consumed (R70), its release ends P samples after its last lit
sample (R153). -/
def Lay.finishUnit (env : LayEnv) (k h : Nat) (l : Lay) : Lay :=
  let x := l.head h
  match x.cur with
  | none => l
  | some u =>
    let lit := lastLitOf env.ts k x.serial x.path.wins
    (l.setHead h { x with cur := none, landedAt := k,
                          past := (x.serial, k, u) :: x.past.filter fun q => decide (k < q.2.1 + histKeep)
                          sheetDone := if u.pool.isNone then some k else x.sheetDone }).endRelease x.serial
      ((if x.path.wins.any (fun w => w.unit == x.serial) then lit else k) + env.persist)

/-- The generator step of every head (R91), or of HOLD (R109); a lost head comes to rest as in HOLD (R161). -/
def Lay.paths (env : LayEnv) (k : Nat) (l : Lay) : Lay :=
  (List.range l.heads.length).foldl (fun l h =>
    let x := l.head h
    if !x.takesPart || x.streamed then l
    else
      let e := env.path h
      let p := if l.hold || x.lost then x.path.holdStep e k else x.path.step e x.serial k
      let l := l.setHead h { x with path := p.record e x.serial }
      if !l.hold && x.cur.isSome && p.done then l.finishUnit env k h else l) l

/-- Filtered point of a head in sub-units (R95), its samples before the history being the oldest one. -/
def HeadPath.filtered (n : Nat) (p : HeadPath) : Int × Int × Int :=
  let w := p.hist.take (n + 1)
  let o : Sample := (w.getLast?).getD { x := p.x, y := p.y, z := p.z, v := 0 }
  (boxcar n o.x (w.map (·.x)), boxcar n o.y (w.map (·.y)), boxcar n o.z (w.map (·.z)))

/-- A sub-unit coordinate as a bed coordinate: rounded and clamped (R82). -/
def toBed (x : Int) : Nat := (clampInt 0 16777215 (roundDiv x 65536)).toNat

def HeadPath.bedPoint (n : Nat) (p : HeadPath) : Pt :=
  let f := p.filtered n
  (toBed f.1, toBed f.2.1)

/-- Whether a head is lit at sample `k`, by the windows known so far. -/
def LayHead.lit (ts k : Nat) (x : LayHead) : Bool := x.path.wins.any fun w => !w.dead && w.litAt ts k

/-- One step of the layer: generator step `k` of every head, then the arbiter's and the guard's part of round `k`. -/
def Lay.step (env : LayEnv) (l : Lay) : Lay :=
  let k := l.k
  let l := l.paths env k
  let l := if l.hold then { l with released := l.released.filter fun r => match r.until_ with | some u => decide (k < u) | none => true }
    else (l.arbiter env k).guardRound env k
  { l with k := k + 1 }

/-- The layer run ahead by `n` steps: what the engine has computed ahead of the sample being sent (R82, R141). -/
def Lay.run (env : LayEnv) : Nat → Lay → Lay
  | 0, l => l
  | n + 1, l => Lay.run env n (l.step env)

/-- Sharing state of a head (Table 05.4). -/
def Lay.shareState (env : LayEnv) (h : Nat) (l : Lay) : ShareState :=
  let x := l.head h
  if !x.takesPart then .out
  else if x.lost then .lost
  else match x.cur with
  | some u => if x.holdSince.isSome && env.holding then .guardHold else if u.pool.isSome then .pool else .sheet
  | none =>
    if x.streamed then (if x.streamDone then .finished else .sheet)
    else if x.sheet.isEmpty && x.runs.isEmpty then (if l.remains env h then .idle else .finished)
    else .sheet

/-- FINISHED at boundary `k` (R164): nothing left to take, the filtered spot at rest, the last off edge passed. For a peer head,
whose path is the peer's, the first alone. -/
def Lay.finished (env : LayEnv) (k h : Nat) (l : Lay) : Bool :=
  let x := l.head h
  if x.remote then !l.remains env h
  else if x.streamed then x.streamDone
  else x.cur.isNone && x.redo.isEmpty && x.sheet.isEmpty && x.runs.isEmpty && !l.remains env h && x.path.landed &&
    (x.path.hist.isEmpty || decide (x.landedAt + (env.path h).n ≤ k) || decide (x.serial = 0)) &&
    x.path.wins.all (fun w => w.dead || (match w.tOff with | some t => decide (t ≤ (16 * env.ts * k : Nat)) | none => false))

/-- The kettle fence condition at boundary `k` (R165). -/
def Lay.fenceAt (env : LayEnv) (k : Nat) (l : Lay) : Bool :=
  (List.range l.heads.length).all (fun h => let x := l.head h; !x.takesPart || x.lost || l.finished env k h) &&
  l.released.all (fun r => decide (32 ≤ r.head) || match r.until_ with | some u => decide (u ≤ k) | none => false)

/-- Where a cut at boundary `k` finds head `h`: the sample of R110, from the past or from the samples ahead. -/
def Lay.cutSample (env : LayEnv) (k h : Nat) (l : Lay) : Option Sample :=
  let e := env.path h
  let t : Int := 2 * (k * env.ts : Nat) + 2 * e.offDelay - 2 * e.scanDelay - (e.n * env.ts : Nat)
  let x : Int := t / (2 * env.ts : Nat)
  if x < 0 then none
  else if x < k then (l.head h).path.hist[k - 1 - x.toNat]?
  else ((l.run env (x.toNat + 1 - k)).head h).path.hist.head?

/-- The rest of a cut unit (R110, R111, R162): the fraction exposed if a MARK was cut, and the records still to expose,
the first with CHAIN clear. -/
def cutUnit (s : Option Sample) (serial : Nat) (u : WUnit) : Option (Nat × Nat) × List URec :=
  let clear : List URec → List URec := fun rs => match rs with
    | [] => []
    | r :: rs => { r with flags := r.flags / 2 * 2 } :: rs
  match s with
  | none => (none, clear u.recs)
  | some s =>
    if s.unit ≠ serial then (none, if s.unit < serial then clear u.recs else [])
    else
      let rest := u.recs.dropWhile fun r => r.idx < s.ri
      match rest with
      | [] => (none, [])
      | r :: rs =>
        match s.mark with
        | some m =>
          let dx := m.x1 - m.x0
          let dy := m.y1 - m.y0
          let l := vecLen dx dy
          let se := (clampInt 0 l (((s.x - m.x0) * dx + (s.y - m.y0) * dy) / (max l 1 : Nat))).toNat
          let frac := 65536 * se / max l 1
          if se = l then (some (r.idx, frac), clear rs)
          else
            let ex := m.x0 + roundDiv (se * dx) (max l 1)
            let ey := m.y0 + roundDiv (se * dy) (max l 1)
            (some (r.idx, frac), { m with x0 := ex, y0 := ey, idx := r.idx, flags := r.flags / 2 * 2 } :: rs)
        | none => (none, if s.part = 0 then clear (r :: rs) else clear rs)

/-- Windows that a cut ends are never taken up again (R127). -/
def HeadPath.killWindows (p : HeadPath) : HeadPath := { p with wins := p.wins.map fun w => { w with dead := true } }

/-- What a cut at boundary `k` leaves head `h` to expose (R110, R111): the record and fraction where the cut falls in a MARK, and the
units that still have records, from the one the light is in on: the remainder first. -/
def Lay.cutWork (env : LayEnv) (k h : Nat) (l : Lay) : Option (Nat × Nat) × List WUnit :=
  let x := l.head h
  let s := l.cutSample env k h
  let units := (x.past.reverse.map fun q => (q.1, q.2.2)) ++ (match x.cur with | some u => [(x.serial, u)] | none => [])
  units.foldl (fun (acc : Option (Nat × Nat) × List WUnit) q =>
    let c := cutUnit s q.1 q.2
    ((match c.1 with | some f => some f | none => acc.1),
      match c.2 with
      | [] => acc.2
      | r :: rs => acc.2 ++ [{ q.2 with recs := r :: rs, first := r.idx, start := match c.1 with | some (_, f) => f | none => q.2.start }])) (none, [])

/-- The releases of head `h` end when their persistence, counted from the cut at boundary `k`, runs out (R153, R156, R160). -/
def Lay.cutReleases (env : LayEnv) (k h : Nat) (l : Lay) : Lay :=
  { l with released := l.released.map fun r =>
      if r.head = h then { r with until_ := some (match r.until_ with | some u => min u (k - 1 + env.persist) | none => k - 1 + env.persist) } else r }

/-- The path keeps only what it needs to come to rest: no record remains (R109). -/
def Lay.enterHold (env : LayEnv) (l : Lay) : Lay :=
  let k := l.k
  if l.hold then l
  else
    let l := (List.range l.heads.length).foldl (fun l h =>
      let x := l.head h
      if !x.live || x.streamed then l
      else
        let l := l.endHold env k h
        let c := l.cutWork env k h
        let l := match c.1 with
          | some (ri, f) => l.out (.interruption ri h f)
          | none => l
        let x := l.head h
        let y : LayHead := { x with path := x.path.killWindows, past := [] }
        let z : LayHead := match c.2 with
          | [] => { y with cur := x.cur.map fun (u : WUnit) => { u with recs := [] } }
          | u :: us => { y with cur := some u, redo := us ++ x.redo }
        (l.setHead h z).cutReleases env k h) l
    { l with hold := true }

/-- RESUME at boundary `k`, before step `k` (R90, R111, R156): every head with work left goes on from where it rests. -/
def Lay.resume (env : LayEnv) (l : Lay) : Lay :=
  let l := { l with hold := false }
  (List.range l.heads.length).foldl (fun l h =>
    let x := l.head h
    if !x.live || x.streamed then l
    else
      let e := env.path h
      let m := samplesOf e.onDelay env.ts
      let p := { x.path with segs := [], landed := true, s := 0, v := 0 }
      match x.cur with
      | none => l.setHead h { x with path := { p with segs := [], landed := true } }
      | some u =>
        if u.recs.isEmpty then l.setHead h { x with cur := none, path := p, landedAt := l.k }
        else { l.setHead h { x with path := (({ p with pointAt := some ((l.k : Int) - 1, 1) } : HeadPath).feed e m u).ask, serial := l.nextSerial } with nextSerial := l.nextSerial + 1 }) l

/-- An orphan is handed on or, with no live eligible head, stays unexposed (R162, R146). -/
def Lay.addOrphan (env : LayEnv) (u : WUnit) (l : Lay) : Lay :=
  let u := { u with orphan := true }
  let l := { l with orphanCount := l.orphanCount + 1 }
  let takers := (List.range l.heads.length).filter fun h => (l.head h).live && !(l.head h).remote && mayTake env.pools h u
  match takers with
  | [] =>
    let cause := if u.pinned then 2 else 1
    u.recs.foldl (fun l r => if r.cls = 5 then l else
      l.out (.unexposed r.idx 255 cause (if r.idx = u.first then u.start else 0))) l
  | h :: _ =>
    if env.fixed then let x := l.head h; l.setHead h { x with runs := x.runs ++ [u] }
    else { l with orphans := l.orphans ++ [u] }

/-- Sheet records of a lost head stay unexposed (R163). -/
def Lay.leaveSheet (h frac0 : Nat) (rs : List URec) (l : Lay) : Lay :=
  (rs.foldl (fun (acc : Lay × Nat) r =>
    if r.cls = 5 then acc
    else (acc.1.out (.unexposed r.idx h 0 acc.2), 0)) (l, frac0)).1

/-- A head is lost from sample `k` (R160 to R163). -/
def Lay.loseHead (env : LayEnv) (h : Nat) (l : Lay) : Lay :=
  let k := l.k
  let x := l.head h
  if !x.live then l
  else
    let l := l.endHold env k h
    let cut := if l.hold then (none, match x.cur with | some u => if u.recs.isEmpty then [] else [u] | none => []) else l.cutWork env k h
    let l := match cut.1 with | some (ri, f) => l.out (.interruption ri h f) | none => l
    let x := l.head h
    let l := (l.setHead h { x with lost := true, cur := none, past := [], redo := [], sheet := [], runs := [], cost := 0,
                                   path := x.path.killWindows }).cutReleases env k h
    let orphan (us : List WUnit) (l : Lay) : Lay := us.foldl (fun l u => l.addOrphan env u) l
    let l := (cut.2 ++ x.redo).foldl (fun l u => if u.pool.isSome then l.addOrphan env u else l.leaveSheet h u.start u.recs) l
    let l := orphan x.runs l
    let l := l.leaveSheet h 0 (x.sheet.flatMap (·.recs))
    -- orphans that no live head may take any longer stay unexposed
    let gone := l.orphans.filter fun u => !(List.range l.heads.length).any fun g => (l.head g).live && !(l.head g).remote && mayTake env.pools g u
    gone.foldl (fun l u => u.recs.foldl (fun l r => if r.cls = 5 then l else
      l.out (.unexposed r.idx 255 (if u.pinned then 2 else 1) (if r.idx = u.first then u.start else 0)))
      { l with orphans := l.orphans.erase u }) l

/-- Unclaimed units that no live head may take stay unexposed at the fence (R162, R163). -/
def Lay.leavePools (env : LayEnv) (l : Lay) : Lay :=
  (l.pools.flatten).foldl (fun l u =>
    if (List.range l.heads.length).any (fun g => (l.head g).live && mayTake env.pools g u) then l
    else u.recs.foldl (fun l r => if r.cls = 5 then l else
      l.out (.unexposed r.idx 255 (if u.pinned then 2 else 1) 0)) l) l

/-- The layer at the start of EXPOSE (R28, R90, R141): sheets and pools as units, heads that cannot expose lost from sample 0
(R160), the requests of round 0, the lead-in. Step 0 is still to be made; it is at rest, as the requests of EXPOSE's start are dealt
with in its round (log entry 81). -/
def Lay.start (env : LayEnv) (sig : Signature) (takes usable : Nat → Bool) (paths : List HeadPath) (replay : Option (List ReplayEntry))
    (streamed : Bool) : Lay :=
  let units (pool : Option Nat) (o n : Nat) : List WUnit := splitUnits pool o ((sig.records.drop o).take n)
  let poolUnits := (sig.pools.zipIdx).map fun p => (p.1, units (some p.2) p.1.offset p.1.count)
  let runsOf (h : Nat) : List WUnit := (poolUnits.zipIdx).flatMap fun q =>
    let p := q.1.1
    let before := (p.assign.take h).foldl (· + ·) 0
    units (some q.2) (p.offset + before) (p.assign.getD h 0)
  let heads := (paths.zipIdx).map fun q =>
    let h := q.2
    let e := env.path h
    let s := sig.sheets.getD h {}
    let sheet := if takes h && !streamed then units none s.offset s.count else []
    ({ path := { q.1 with segs := [], landed := true, s := 0, v := 0, wins := [], shortRunups := 0, zeroLength := 0,
                          hist := [{ x := q.1.x, y := q.1.y, z := q.1.z, v := 0, cls := 4 }], vf := 0, af := 0, jumpRun := 0,
                          granted := false, asked := false, pointAt := none }
       takesPart := takes h, streamed := streamed, sheet := sheet
       runs := if env.fixed && takes h && !streamed then runsOf h else []
       cost := (sheet.map (unitCost e env.jumpCost)).foldl (· + ·) 0 } : LayHead)
  let list := replay.getD []
  let l0 : Lay := { heads := heads, pools := if env.fixed || streamed then [] else poolUnits.map (·.2),
                    replay := (List.range list.length).zip list, replaying := replay.isSome && !env.fixed && !streamed }
  let l1 := (List.range heads.length).foldl (fun (l : Lay) (h : Nat) => if usable h then l else l.loseHead env h) l0
  let l2 := l1.arbiter env 0
  -- R90: the lead-in REST stands before the first segment of every head
  let l3 : Lay := { l2 with heads := (l2.heads.zipIdx).map fun q =>
      let m := max 1 (samplesOf (env.path q.2).onDelay env.ts)
      match q.1.path.segs with
        | [] => q.1
        | g :: gs => { q.1 with path := { q.1.path with
            segs := g :: { kind := .restN, ax := q.1.path.x, ay := q.1.path.y, bx := q.1.path.x, by_ := q.1.path.y, len := 0, v := 0,
                           w := 0, ri := 0, cls := 4, flags := 0, prof := 0, n := m } :: gs } } }
  l3

end Sys2Proof.Machine
end

