-- ==== Sys2Proof/Machine/FieldCorr.lean ====
section
/-! DEFINITION. Drift terms and field correction (R100 to R107), streamed blocks (R114 to R116), the stitch fit (R170, R171). -/

namespace Sys2Proof.Machine

/-- Drift terms: OX and OY in sub-units, G and ROT in 2⁻³² (R100). -/
structure Drift where
  ox : Int := 0
  oy : Int := 0
  g : Int := 0
  rot : Int := 0
  deriving DecidableEq, Repr

/-- A field-correction table in force: its image (Table 03.8). -/
structure FcTable where
  pitch : Nat
  ox : Nat
  oy : Nat
  generation : Nat
  image : List Byte
  deriving DecidableEq, Repr

/-- Bytes of a table image (R104). -/
def fcImageLen : Nat := 594560

/-- The image checks of R105, in their order. -/
def fcFail (im : List Byte) : Option Nat :=
  let p := field im 5 1
  firstFail [
    (decide (field im 4 1 ≠ 0x10), stVersion),
    (decide (field im 0 4 ≠ 0x43465853) || decide (p < 6 ∨ 16 < p), stFcFormat),
    (!allZero (slice im 6 2) || !allZero (slice im 14 2) || !allZero (slice im 24 40) || !allZero (slice im 594505 55) ||
      decide (16777216 < field im 8 3 + 256 * 2 ^ p) || decide (16777216 < field im 11 3 + 256 * 2 ^ p), stRange),
    (decide (crc32c (slice im 64 594441) ≠ field im 20 4), stIntegrity)]

def fcOf (im : List Byte) : FcTable :=
  { pitch := field im 5 1, ox := field im 8 3, oy := field im 11 3, generation := field im 16 4, image := im }

/-- Component `c` (0 X, 1 Y, 2 Z) of node `(i, j)`. -/
def FcTable.node (t : FcTable) (c i j : Nat) : Int := toSigned 24 (field t.image (64 + 9 * (257 * j + i) + 3 * c) 3)

/-- The drift terms applied about the table centre (R100). -/
def FcTable.drift (t : FcTable) (d : Drift) (x y : Int) : Int × Int :=
  let cx : Int := 65536 * (t.ox + 128 * 2 ^ t.pitch : Nat)
  let cy : Int := 65536 * (t.oy + 128 * 2 ^ t.pitch : Nat)
  (x + d.ox + roundDiv (d.g * (x - cx) - d.rot * (y - cy)) 4294967296, y + d.oy + roundDiv (d.rot * (x - cx) + d.g * (y - cy)) 4294967296)

/-- Where a mapped point falls in the table: cell and fractions, and whether it was clamped or extrapolated (R101, R102). -/
structure FcCell where
  i : Nat
  j : Nat
  fx : Int
  fy : Int
  clamped : Bool
  extrap : Bool
  deriving DecidableEq, Repr

def FcTable.cell (t : FcTable) (x y : Int) : FcCell :=
  let q : Int := (2 ^ (16 + t.pitch) : Nat)
  let ux0 := x - 65536 * (t.ox : Int)
  let uy0 := y - 65536 * (t.oy : Int)
  let ux := clampInt (-q) (257 * q) ux0
  let uy := clampInt (-q) (257 * q) uy0
  let i := (clampInt 0 255 (ux / q)).toNat
  let j := (clampInt 0 255 (uy / q)).toNat
  let outside (u : Int) : Bool := decide (u < 0 ∨ 256 * q < u)
  { i := i, j := j, fx := ux - i * q, fy := uy - j * q, clamped := decide (ux ≠ ux0 ∨ uy ≠ uy0), extrap := outside ux || outside uy }

/-- The bilinear value of one component (R101). -/
def FcTable.value (t : FcTable) (k : FcCell) (c : Nat) : Int :=
  let q : Nat := 2 ^ (16 + t.pitch)
  let n00 := t.node c k.i k.j
  let n10 := t.node c (k.i + 1) k.j
  let n01 := t.node c k.i (k.j + 1)
  let n11 := t.node c (k.i + 1) (k.j + 1)
  roundDiv (n00 * (q * q : Nat) + (n10 - n00) * k.fx * q + (n01 - n00) * k.fy * q + (n11 - n10 - n01 + n00) * k.fx * k.fy) (q * q)

/-- A command triple, and the counts of R102 and R103 it makes. -/
structure Triple where
  hx : Int := 0
  hy : Int := 0
  hz : Int := 0
  extrap : Bool := false
  clamped : Bool := false
  sat : Bool := false
  deriving DecidableEq, Repr

/-- The head commands for a filtered point in sub-units and a filtered focus (R103); `zscale` is Q15.16. -/
def FcTable.triple (t : FcTable) (d : Drift) (zscale : Int) (x y z : Int) : Triple :=
  let m := t.drift d x y
  let k := t.cell m.1 m.2
  let hx := t.value k 0
  let hy := t.value k 1
  let hz := t.value k 2 + roundDiv (z * zscale) 16777216
  let s (v : Int) : Int := clampInt (-8388608) 8388607 v
  { hx := s hx, hy := s hy, hz := s hz, clamped := k.clamped, extrap := !k.clamped && k.extrap,
    sat := decide (s hx ≠ hx ∨ s hy ≠ hy ∨ s hz ≠ hz) }

/-- One term's move toward its target (R107). -/
def moveToward (target applied : Int) (step : Nat) : Int := applied + clampInt (-(step : Int)) step (target - applied)

def Drift.update (target : Drift) (so sg : Nat) (d : Drift) : Drift :=
  { ox := moveToward target.ox d.ox so, oy := moveToward target.oy d.oy so,
    g := moveToward target.g d.g sg, rot := moveToward target.rot d.rot sg }

/-- Drift terms as the 16 bytes of `TRJ.DRIFT_TARGET`. -/
def driftOf (v : Nat) : Drift :=
  { ox := toSigned 32 (byteField v 0 4), oy := toSigned 32 (byteField v 4 4), g := toSigned 32 (byteField v 8 4), rot := toSigned 32 (byteField v 12 4) }

def Drift.nat (d : Drift) : Nat :=
  ofSigned 32 d.ox + 2 ^ 32 * ofSigned 32 d.oy + 2 ^ 64 * ofSigned 32 d.g + 2 ^ 96 * ofSigned 32 d.rot

/-- A streamed sample (Table 03.14). -/
structure StreamSample where
  x : Nat := 0
  y : Nat := 0
  hx : Int := 0
  hy : Int := 0
  hz : Int := 0
  cls : Nat := 0
  flags : Nat := 0
  power : Nat := 0
  edges : List (Nat × Bool) := []
  zeroBad : Bool := false
  edgeBad : Bool := false
  deriving DecidableEq, Repr

/-- Reads a streamed sample; `zeroBad` for a non-zero zero field, `edgeBad` for an invalid edge offset or order (R116). -/
def readStreamSample (ts : Nat) (b : List Byte) : StreamSample :=
  let e := field b 22 1
  let e0 := field b 18 2
  let e1 := field b 20 2
  let p0 := e.testBit 0
  let p1 := e.testBit 2
  { x := field b 0 3, y := field b 3 3, hx := toSigned 24 (field b 6 3), hy := toSigned 24 (field b 9 3), hz := toSigned 24 (field b 12 3),
    cls := field b 15 1 % 16, flags := field b 15 1 / 16, power := field b 16 2,
    edges := (if p0 then [(e0, e.testBit 1)] else []) ++ (if p1 then [(e1, e.testBit 3)] else []),
    zeroBad := decide (16 ≤ e) || decide (field b 23 1 ≠ 0)
    edgeBad := (p0 && decide (16 * ts ≤ e0)) || (p1 && decide (16 * ts ≤ e1)) ||
      (p1 && !p0) || (p0 && p1 && decide (e1 ≤ e0)) }

/-- A stream block header (Table 03.13). -/
structure StreamBlock where
  ok : Bool
  last : Bool
  wrap : Bool
  count : Nat
  first : Nat
  zeroBad : Bool
  deriving DecidableEq, Repr

/-- Reads the header of a block given whole, with its CRC over the block and the CRC bytes taken as zero (R114). -/
def readStreamBlock (b : List Byte) : StreamBlock :=
  let plain := slice b 0 16 ++ zeros 4 ++ b.drop 20
  let fl := field b 5 1
  { ok := decide (field b 0 4 = 0x54535853) && decide (field b 4 1 = 0x10) && decide (crc32c plain = field b 16 4),
    last := fl.testBit 0, wrap := fl.testBit 1, count := field b 6 2, first := field b 8 8,
    zeroBad := decide (4 ≤ fl) || !allZero (slice b 20 44) || (fl.testBit 1 && decide (field b 6 2 ≠ 0)) }

/-- Bytes of a block of `n` samples (R115). -/
def streamBlockLen (n : Nat) : Nat := (64 + 24 * n + 63) / 64 * 64

/-- A stitch mark that was measured: nominal and measured centre in sub-units (R169). -/
structure Mark where
  nx : Int
  ny : Int
  mx : Int
  my : Int
  deriving DecidableEq, Repr

/-- The fit of R170: terms and residual. -/
structure StitchFit where
  marks : Nat
  d : Drift
  residual : Nat
  offsetOnly : Bool
  deriving DecidableEq, Repr

def sumBy {α : Type} (f : α → Int) (xs : List α) : Int := xs.foldl (fun a x => a + f x) 0

/-- A ratio rounded by R13 for a positive denominator. -/
def ratioRound (n d : Int) : Int := roundDiv n d.toNat

/-- The fit over a head's valid marks about the table centre `c` in sub-units (R170), every mean kept exact: sums are
over `n` marks, so `u' = (n·u − Σu)/n` and `e' = (n·e − Σe)/n`. -/
def stitchFit (cx cy : Int) (ms : List Mark) : StitchFit :=
  let n : Int := ms.length
  let ux (m : Mark) : Int := m.nx - cx
  let uy (m : Mark) : Int := m.ny - cy
  let ex (m : Mark) : Int := m.mx - m.nx
  let ey (m : Mark) : Int := m.my - m.ny
  let sux := sumBy ux ms
  let suy := sumBy uy ms
  let sex := sumBy ex ms
  let sey := sumBy ey ms
  let du (f : Mark → Int) (s : Int) (m : Mark) : Int := n * f m - s
  let s2 := sumBy (fun m => du ux sux m * du ux sux m + du uy suy m * du uy suy m) ms
  let two : Int := 4294967296
  let full := decide (2 ≤ ms.length) && decide (0 < s2)
  let g := if full then ratioRound (two * sumBy (fun m => du ux sux m * du ex sex m + du uy suy m * du ey sey m) ms) s2 else 0
  let r := if full then ratioRound (two * sumBy (fun m => du ux sux m * du ey sey m - du uy suy m * du ex sex m) ms) s2 else 0
  -- (OX_f, OY_f) = ē − round((G_f × ū + ROT_f × (−ū.y, ū.x)) ÷ 2³²), the difference rounded once more by R13
  let ox := if full then ratioRound (sex - n * ratioRound (g * sux - r * suy) (n * two)) n else ratioRound sex n
  let oy := if full then ratioRound (sey - n * ratioRound (g * suy + r * sux) (n * two)) n else ratioRound sey n
  let rx (m : Mark) : Int := two * (ex m - ox) - (g * ux m - r * uy m)
  let ry (m : Mark) : Int := two * (ey m - oy) - (g * uy m + r * ux m)
  let sq := sumBy (fun m => rx m * rx m + ry m * ry m) ms
  { marks := ms.length, d := { ox := ox, oy := oy, g := g, rot := r }, residual := roundSqrt sq.toNat ((two * two * n).toNat), offsetOnly := !full }

/-- The new target of R171, each change bounded, and whether a bound acted. -/
def stitchTarget (applied fit : Drift) (lo lg : Nat) : Drift × Bool :=
  let lim (l : Nat) (f : Int) : Int := clampInt (-(l : Int)) l (-f)
  ({ ox := applied.ox + lim lo fit.ox, oy := applied.oy + lim lo fit.oy, g := applied.g + lim lg fit.g, rot := applied.rot + lim lg fit.rot },
   decide (lim lo fit.ox ≠ -fit.ox ∨ lim lo fit.oy ≠ -fit.oy ∨ lim lg fit.g ≠ -fit.g ∨ lim lg fit.rot ≠ -fit.rot))

end Sys2Proof.Machine
end

