-- ==== Sys2Proof/Machine/StateHead.lean ====
section
/-! DEFINITION. State of the head ports: field correction, drift and streams (03), emission control and source status (04),
readings of the gutter, guard and stitch functions (05), the head links (13). -/

namespace Sys2Proof.Machine

/-- A head's trajectory engine outside the path generator (R100 to R117). -/
structure TrjHead where
  fc : Option FcTable := none
  fcLoad : Option TableLoad := none
  drift : Drift := {}
  /-- terms applied at the kettle fence, and whether they changed during its EXPOSE (R171) -/
  fenceDrift : Drift := {}
  moved : Bool := false
  scale : Nat := 0
  shortRunups : Nat := 0
  zeroLength : Nat := 0
  extraps : Nat := 0
  clamps : Nat := 0
  sats : Nat := 0
  underruns : Nat := 0
  /-- the rest position and focus between layers (R113) -/
  path : HeadPath := {}
  /-- a rest position is known: READY has been entered since reset or SAFE -/
  homed : Bool := false
  triple : Triple := {}
  strHead : Nat := 0
  strNext : Nat := 0
  /-- values of TRJ.STREAM_TAIL with the DT of each, newest first (R116) -/
  tails : List (Nat × Nat) := []
  /-- samples of the block in progress, whether the block is the LAST one, and where the next block stands -/
  block : List StreamSample := []
  blockLast : Bool := false
  blockEnd : Nat := 0
  strFault : Bool := false
  /-- level of the stream's own gate waveform, whatever cuts it -/
  strLevel : Bool := false
  deriving DecidableEq, Repr

/-- Emission and source of one head (R118 to R139). -/
structure LasHead where
  source : Nat := 0
  /-- consecutive frames whose EMIT_EN_SEEN differed from EMIT_EN[h] -/
  seenRun : Nat := 0
  /-- conditions of Table 04.6 that held at the last frame, by condition number -/
  conds : Nat := 0
  warns : Nat := 0
  drops : Nat := 0
  clamps : Nat := 0
  /-- acceptance numbers of the `LAS_HEAD_RESTORE`s that wait for the kettle fence (R138) -/
  restore : List Nat := []
  /-- gate level at the end of the last block sent, and the DT at which the gate last closed -/
  gate : Bool := false
  gateOff : Nat := 0
  /-- the gate stays cut for the rest of the layer (R127) -/
  cut : Bool := false
  /-- EMIT_EN[h], and the DT since which it has been inactive -/
  emit : Bool := false
  emitOff : Nat := 0
  deriving DecidableEq, Repr

/-- The interlock and the heads' emission (R130 to R139). -/
structure LasState where
  heads : List LasHead := List.replicate 32 {}
  aClosed : Bool := false
  bClosed : Bool := false
  /-- DT at which each channel was seen open; 0 for a channel that is closed -/
  aOpen : Nat := 0
  bOpen : Nat := 0
  trip : Bool := false
  discrepancy : Bool := false
  /-- DT since which one channel is open and the other closed -/
  differ : Nat := 0
  /-- both channels have been seen open together since DISCREPANCY was set -/
  bothOpen : Bool := false
  stopped : Nat := 0
  trips : Nat := 0
  deriving DecidableEq, Repr

/-- Readings of a head in the gutter and guard function: `GUT.LAG`, the counts, `GUT.STITCH_RESULT`. -/
structure GutHead where
  lag : List Byte := List.replicate 16 0
  holds : Nat := 0
  wouldHolds : Nat := 0
  stitch : List Byte := List.replicate 32 0
  deriving DecidableEq, Repr

/-- An entry of a stitch table (Table 05.5). -/
structure StitchEntry where
  x : Nat
  y : Nat
  head : Nat
  port : Nat
  half : Nat
  deriving DecidableEq, Repr

/-- A replay list named by `GUT_REPLAY_LOAD`: layer, DRAM address, entries (R148). -/
structure ReplayList where
  layer : Nat
  addr : Nat
  count : Nat
  deriving DecidableEq, Repr

/-- Gutters, guard and stitch outside the layer engine (R147 to R173). -/
structure GutState where
  heads : List GutHead := List.replicate 32 {}
  breaches : Nat := 0
  orphans : Nat := 0
  unexposed : Nat := 0
  replays : List ReplayList := []
  stitch : List (Nat × List StitchEntry) := []
  lossWait : Bool := false
  diverged : Bool := false
  /-- DT from which the kettle-fence timeout runs (R166) -/
  firstDone : Option Nat := none
  /-- layers whose EXPOSE has begun since the last entry to READY from STANDBY (R173) -/
  begun : List Nat := []
  deriving DecidableEq, Repr

/-- Link states of a head port (Table 13.9). -/
inductive LinkState where
  | disabled | acquire | capability | calibrate | up | fault | loopback
  deriving DecidableEq, Repr

/-- A configuration record in flight (R353): its sequence, type, data and the slots it has been sent in. -/
structure CfgRec where
  seq : Nat
  type : Nat
  data : List Byte
  slots : Nat := 0
  deriving DecidableEq, Repr

/-- A loopback of `HLK_LOOPBACK` (R368). -/
structure LinkLoop where
  acc : Nat
  depth : Nat
  pattern : Nat
  endsAt : Nat
  deriving DecidableEq, Repr

/-- One head port (R347 to R369). -/
structure HlkPort where
  link : LinkState := .disabled
  since : Nat := 0
  /-- block lock on the return lane, and the DT since which it is held -/
  lock : Bool := false
  lockSince : Nat := 0
  cause : Nat := 0
  version : Nat := 0
  capChanged : Bool := false
  drift : Bool := false
  cap : List Byte := List.replicate 128 0
  accepted : Option (List Byte) := none
  /-- values R of the calibration in progress, newest first, and whether APPLY is being sent -/
  echoes : List Int := []
  apply : Bool := false
  f : Nat := 0
  fApplied : Nat := 0
  dUp : Nat := 0
  dDown : Nat := 0
  /-- the last 4,096 values R of the running calibration, newest first (R361) -/
  rs : List Int := []
  /-- slot instant of the first SAMPLE_DOWN after the training -/
  upAt : Nat := 0
  /-- DT_s of the first EXPOSE the port may take part in after becoming UP (R366) -/
  upSince : Nat := 0
  discarded : Nat := 0
  missing : Nat := 0
  dsMiss : Nat := 0
  losses : Nat := 0
  trainings : Nat := 0
  others : Nat := 0
  missRun : Nat := 0
  /-- slots whose SAMPLE_UP has arrived, newest first, within the 4 newest -/
  arrived : List Nat := []
  cfgSeq : Nat := 0
  cfg : Option CfgRec := none
  cfgWait : List (Nat × List Byte) := []
  loop : Option LinkLoop := none
  deriving DecidableEq, Repr

/-- The head ports by index. -/
structure HeadState where
  trj : List TrjHead := List.replicate 32 {}
  hlk : List HlkPort := List.replicate 32 {}
  deriving DecidableEq, Repr

end Sys2Proof.Machine
end

