-- ==== Sys2Proof/Machine/StateImg.lean ====
section
/-! DEFINITION. State of layer imaging (09): ports, frames, stripes, the shared pipeline. -/

namespace Sys2Proof.Machine

/-- Port link states (Table 09.3). -/
inductive CxpLink where
  | disabled | discovery | up | down
  deriving DecidableEq, Repr

/-- Pipeline settings in force on a port (R272), each as its parameter holds it; tone curves `T[c][i]` at
1024·c + i, a missing entry reading 0. -/
structure PipeSet where
  black : Nat := 0
  gain : Nat := 0x1000100010001000
  colour : Nat := 4096 * (1 + 2 ^ 80 + 2 ^ 160)
  tones : List Nat := []
  deriving DecidableEq, Repr

/-- A camera control transaction (R260): an `IMG_CONTROL`, or a register write of a commit. -/
structure CamCtl where
  write : Bool
  addr : Nat
  data : List Byte
  len : Nat
  dram : Nat
  /-- acceptance number of the `IMG_CONTROL`; `none` for a commit's write, with its generation -/
  acc : Option Nat
  gen : Nat
  attempts : Nat := 0
  since : Nat := 0
  deriving DecidableEq, Repr

/-- A trigger (R261): role 1 EXPOSURE, 2 RECOAT, 0 for `IMG_SNAP`. -/
structure ImgTrigger where
  due : Nat
  role : Nat
  index : Nat
  layer : Nat
  sent : Bool := false
  /-- frame number once assigned -/
  frame : Option Nat := none
  received : Bool := false
  missing : Bool := false
  /-- STATS entry written (R263) -/
  stats : Bool := false
  deriving DecidableEq, Repr

/-- A frame from its SOF until its FRAME entry (R262 to R277). -/
structure ImgFrame where
  number : Nat
  sof : Nat
  role : Nat
  index : Nat
  layer : Nat
  marks : Nat := 0
  missingStripes : Nat := 0
  genPipe : Nat
  genCamera : Nat
  set : PipeSet
  /-- lines arrived so far, and whether every line has arrived or the frame has ended -/
  arrived : Nat := 0
  ended : Bool := false
  /-- lines the pipeline has taken in, raw values -/
  input : List (List Nat) := []
  /-- lines output so far: R, G, B, X, and luminance -/
  output : List (List (List Nat)) := []
  slot : Option Nat := none
  lastOut : Nat := 0
  deriving DecidableEq, Repr

/-- A stripe between its arrival and the end of its processing (R265). -/
structure Stripe where
  frame : Nat
  index : Nat
  spilled : Bool
  lost : Bool
  ready : Bool
  lines : List (List Nat)
  deriving DecidableEq, Repr

/-- One sensor port. -/
structure ImgPort where
  cfg : Nat := 0
  link : CxpLink := .disabled
  speed : Nat := 0
  /-- DT of the last discovery start (R258) -/
  tried : Nat := 0
  force : PipeSet := {}
  tones : List Nat := []
  pend : Bool := false
  pendCam : Bool := false
  gen : Nat := 0
  fCommit : Nat := 0
  /-- generations with their F_commit, newest first, one for each F_commit -/
  gens : List (Nat × Nat) := []
  nextFrame : Nat := 0
  triggers : List ImgTrigger := []
  frames : List ImgFrame := []
  stripes : List Stripe := []
  inFrame : Bool := false
  /-- everything up to the next SOF is discarded (R264) -/
  discard : Bool := false
  queue : List CamCtl := []
  nextSlot : Nat := 0
  full : List Nat := []
  /-- luminance lines of the layer's EXPOSURE frame of index 0 (R275), with its layer -/
  exposure : Option (Nat × List (List Nat)) := none
  checks : Nat := 0
  truncs : Nat := 0
  missings : Nat := 0
  noSlots : Nat := 0
  events : Nat := 0
  deriving DecidableEq, Repr

/-- Layer imaging. -/
structure ImgState where
  ports : List ImgPort := List.replicate 8 {}
  /-- port whose stripe the pipeline processes, the port served last, the FRAME port in service -/
  busy : Option Nat := none
  lastServed : Nat := 7
  service : Option Nat := none
  spillPeak : Nat := 0
  /-- a triggered frame of the layer went missing in the phase in progress (R263) -/
  missed : Bool := false
  /-- DT of the last heartbeat -/
  beat : Nat := 0
  deriving DecidableEq, Repr

end Sys2Proof.Machine
end

