-- ==== Sys2Proof/Machine/StateLoop.lean ====
section
/-! DEFINITION. State of the correction engine (07): loops, rules, generators, captures, maps, placement. -/

namespace Sys2Proof.Machine

/-- Loop modes (Table 07.15). -/
inductive LoopMode where
  | off | manual | auto
  deriving DecidableEq, Repr

/-- The state of one loop (R214, R216, Table 07.14 STATE and STATS); flags are bits as in Table 07.5. -/
structure LoopState where
  rs : Int := 0
  ePrev : Int := 0
  i : Int := 0
  s1 : List Int := [0, 0, 0, 0]
  s2 : List Int := [0, 0, 0, 0]
  out : Int := 0
  lim : Int := 0
  y : Int := 0
  e : Int := 0
  dt : Nat := 0
  /-- the last execution was frozen, so the next takes d = 0 (R215) -/
  wasFrozen : Bool := false
  preset : Option Int := none
  flags : Nat := 0
  execs : Nat := 0
  missed : Nat := 0
  frozen : Nat := 0
  presets : Nat := 0
  missRun : Nat := 0
  /-- outputs and errors of the latest executions by input slot, newest first (R208) -/
  hist : List (Nat × Int × Int) := []
  /-- the nodes of Table 07.12 at the end of the last completed execution (R235) -/
  nodes : List Int := List.replicate 14 0
  deriving DecidableEq, Repr

/-- A test-signal generator (R233, R234). -/
structure Gen where
  loop : Nat
  node : Nat
  kind : Nat
  amp : Int
  start : Nat
  length : Nat
  f0 : Nat
  f1 : Nat
  fStep : Nat
  dwell : Nat
  i : Nat := 0
  phase : Nat := 0
  reg : Nat := 32767
  bit_ : Bool := false
  deriving DecidableEq, Repr

/-- Capture states of `LOOP.CAPTURE_STATUS`. -/
inductive CapState where
  | armed | running | done
  deriving DecidableEq, Repr

/-- A response capture (R235). -/
structure Capture where
  loop : Nat
  /-- NODE[0] to NODE[3] as written, and those in use -/
  raw : List Nat
  nodes : List Nat
  trigger : Nat
  length : Nat
  pre : Nat
  mask : Nat
  state : CapState := .armed
  /-- recorded executions, oldest first, each with the DT of its input sample -/
  rows : List (Nat × List Nat) := []
  after : Nat := 0
  div : Nat := 1
  deriving DecidableEq, Repr

/-- A reaction rule's state (R228). -/
structure RuleState where
  fired : Bool := false
  cnt : Nat := 0
  held : Nat := 0
  rel : Nat := 0
  deriving DecidableEq, Repr

/-- The rules of one head, and the run of rule samples in progress (R231). -/
structure HeadRules where
  rules : List RuleState := List.replicate 8 {}
  fires : List Nat := List.replicate 8 0
  /-- output in force before the run, whether a rule with RELEASE_RULE acted in it, the target of its last block -/
  run : Option (Int × Bool × Int) := none
  deriving DecidableEq, Repr

/-- What the block of a slot leaves for the rules and loops that read its sample later (R215, R222, R224, R228). -/
structure BlockNote where
  slot : Nat
  /-- the slot is a sample of EXPOSE -/
  active : Bool := false
  lit : Bool := false
  cut : Bool := false
  probe : Bool := false
  rule : Bool := false
  /-- slot of the first lit sample of its window -/
  winStart : Nat := 0
  af : Int := 0
  mpClass : Nat := 0
  mask : Nat := 0
  ledger : Nat := 0
  ri : Nat := 0
  frame : Option FrameResult := none
  /-- the head command HX, HY, HZ -/
  command : List Int := []
  deriving DecidableEq, Repr

/-- A correction map held (R226). -/
structure CorrMap where
  layer : Nat
  addr : Nat
  count : Nat
  deriving DecidableEq, Repr

/-- Placement of a loop: processor, cost, divider, phase (R209). -/
structure Placed where
  loop : Nat
  proc : Nat
  cost : Nat
  div : Nat
  phase : Nat
  deriving DecidableEq, Repr

/-- The correction engine. -/
structure LoopEngine where
  loops : List LoopState := List.replicate 256 {}
  gens : List Gen := []
  captures : List Capture := []
  rules : List HeadRules := List.replicate 32 {}
  notes : List (List BlockNote) := List.replicate 32 []
  maps : List CorrMap := []
  placed : List Placed := []
  maxLoad : Nat := 0
  placements : Nat := 0
  islands : Nat := 63
  /-- RULE_LAG of each head, and the value a re-trained link brings at the next fence (R205) -/
  ruleLag : List Nat := List.replicate 32 0
  lagNext : List (Option Nat) := List.replicate 32 none
  /-- MAP_ABSENT or MAP_MISMATCH holds in the layer: every sample uses 0x4000 (R227) -/
  mapOff : Bool := false
  deriving DecidableEq, Repr

end Sys2Proof.Machine
end

