-- ==== Sys2Proof/Machine/StateMemory.lean ====
section
/-! DEFINITION. State of the stores and DDR5 (17). -/

namespace Sys2Proof.Machine

/-- One store: Vector, Ledger, Trace, or the on-die SRAMs taken together (R454, R455). -/
structure Store where
  /-- spare rows used per tile: tile, count (R458) -/
  used : List (Nat × Nat) := []
  /-- rows redirected to a spare: row number, the spare's number in its tile -/
  moved : List (Nat × Nat) := []
  /-- rows whose repair is due and has not ended -/
  due : List Nat := []
  /-- corrected errors per row within the scrub pass in progress -/
  passErrors : List (Nat × Nat) := []
  /-- next row of the patrol scrubber (R457) and the DT at which its pass began -/
  scrubRow : Nat := 0
  passSince : Nat := 0
  sparesOut : Bool := false
  /-- `MEM.REPAIR_THRESHOLD` as it stood when the pass began (R474) -/
  threshold : Nat := 4
  deriving DecidableEq, Repr

/-- The row-hammer table of one bank (R469): at most 64 entries of a row and a count, in entry order, and the
rolling accumulated activation count of R470. -/
structure BankTable where
  rank : Nat
  bank : Nat
  rows : List (Nat × Nat) := []
  rolling : Nat := 0
  deriving DecidableEq, Repr

/-- One DDR5 channel. -/
structure Channel where
  inService : Bool := false
  migrating : Bool := false
  mappedOut : Bool := false
  degraded : Bool := false
  margin : Nat := 0
  owed : List Nat := [0, 0]
  /-- corrected lines by field index 20·rank + 10·subchannel + device -/
  corrected : List (Nat × Nat) := []
  uncorrectable : Nat := 0
  /-- device index and DT of the corrected lines of the last hour -/
  recent : List (Nat × Nat) := []
  banks : List BankTable := []
  preemptive : Nat := 0
  forcedRfm : Nat := 0
  neighbour : Nat := 0
  largestStall : Nat := 0
  pauses : Nat := 0
  deriving DecidableEq, Repr

/-- The memory island. -/
structure MemState where
  /-- `MEM.DRAM_CFG` of the board record: device width, ranks, density in Gb, C in GiB -/
  width : Nat := 0
  ranks : Nat := 0
  density : Nat := 0
  capacity : Nat := 0
  stores : List Store := List.replicate 4 {}
  badFc : Nat := 0
  /-- on-die rows of DMA burst buffers that wait for their repair: row, channel (R433, R458) -/
  bufferRows : List (Nat × Nat) := []
  corrected : Nat := 0
  uncorrectable : Nat := 0
  channels : List Channel := List.replicate 4 {}
  mapout : Option Nat := none
  /-- migration pointer k, blocks migrated poisoned, poisoned blocks not yet reported with the first's address (R472) -/
  pointer : Nat := 0
  poisonedBlocks : Nat := 0
  unreported : Nat := 0
  firstPoisoned : Nat := 0
  /-- acceptance number of the `MEM_CHANNEL_MAPOUT` in progress -/
  acc : Option Nat := none
  /-- poisoned 64-byte lines, by device address (R464) -/
  poison : List Nat := []
  deriving DecidableEq, Repr

end Sys2Proof.Machine
end

