-- ==== Sys2Proof/Machine/StateMot.lean ====
section
/-! DEFINITION. State of bed motion (10): axes, the recoat sequence, sync pins, the host motion stream. -/

namespace Sys2Proof.Machine

/-- STATE of Table 10.7. -/
inductive AxisMode where
  | idle | moving | held | fault | disabled
  deriving DecidableEq, Repr

/-- A move (R286): position or speed mode, target in sub-steps, cruise speed in sub-steps per tick, the command or the
recoat step it serves. -/
structure AxisMove where
  speedMode : Bool := false
  target : Int
  cruise : Nat
  acc : Option Nat := none
  recoat : Option Nat := none
  deriving DecidableEq, Repr

/-- A move that waits for an edge on SYNC_IN (R303): input, the edge that released it, MODE, value, SPEED, command. -/
structure AxisWait where
  input : Nat
  edge : Option Nat := none
  mode : Nat
  value : Int
  speed : Nat
  acc : Nat
  deriving DecidableEq, Repr

/-- One axis. Positions in sub-steps of 2⁻³² step (R285); `hist` holds p(t), p(t−1), …, p(t−w). -/
structure Axis where
  p : Int := 0
  v : Int := 0
  hist : List Int := [0]
  pf : Int := 0
  pfSpeed : Int := 0
  issued : Int := 0
  ramp : Bool := false
  dr : Nat := 1
  dirPos : Bool := false
  /-- DT of the last step edge and of the last one before the direction changed -/
  lastEdge : Nat := 0
  move : Option AxisMove := none
  wait : Option AxisWait := none
  mode : AxisMode := .idle
  cause : Nat := 0
  posValid : Bool := false
  source : Nat := 0
  inPosition : Bool := false
  overshoot : Bool := false
  rampKept : Bool := false
  atLimit : Bool := false
  limitPassed : Bool := false
  offset : Int := 0
  /-- MOT_FAULT_N is low -/
  pinLow : Bool := false
  /-- a quick stop with a bound channel: valid ticks in a row at which its speed read zero (R294) -/
  waitZero : Option Nat := none
  quickStops : Nat := 0
  rampKepts : Nat := 0
  deriving DecidableEq, Repr

/-- State of a recoat step (R299, R301): waiting for START, with the SYNC_IN edge that released it; running; done; failed
with its computed target. -/
inductive RecoatState where
  | waiting | armed (edge : Option Nat) | running | done | failed
  deriving DecidableEq, Repr

structure RecoatStep where
  st : RecoatState := .waiting
  target : Option Int := none
  deriving DecidableEq, Repr

/-- The host motion stream (R305 to R307): the tick at which the next point is due, the points reached, the positions the
present interval starts from (steps × 2³²), the points read and not reached, LAST seen, the command. -/
structure MotStream where
  running : Bool := false
  due : Nat := 0
  index : Nat := 0
  prev : List Int := []
  prevTick : Nat := 0
  points : List (List Int) := []
  lastSeen : Bool := false
  halted : Bool := false
  acc : Option Nat := none
  recoat : Bool := false
  deriving DecidableEq, Repr

/-- Bed motion; `syncOut` holds the end of each SYNC_OUT pulse (R304). -/
structure MotState where
  axes : List Axis := List.replicate 8 {}
  steps : List RecoatStep := []
  recoatWait : Bool := false
  syncIn : List Nat := [0, 0]
  syncOut : List Nat := [0, 0]
  stream : MotStream := {}
  head : Nat := 0
  tick : Nat := 0
  deriving DecidableEq, Repr

end Sys2Proof.Machine
end

