-- ==== Sys2Proof/Machine/StateNet.lean ====
section
/-! DEFINITION. State of Ethernet, time, reference clocks and paired operation (18). -/

namespace Sys2Proof.Machine

/-- One Ethernet port (R475). Counters: received, sent, FCS errors, oversize, discarded, command datagrams discarded. -/
structure EthPort where
  lock : Bool := false
  fec : Bool := false
  counts : List Nat := [0, 0, 0, 0, 0, 0]
  deriving DecidableEq, Repr

/-- An entry of the bridge's address table (R476). -/
structure FdbEntry where
  mac : Nat
  port : Nat
  dt : Nat
  deriving DecidableEq, Repr

/-- States of the time relation (Table 18.1). -/
inductive RelState where
  | free | acquiring | locked | holdover | peer
  deriving DecidableEq, Repr

/-- The time relation (R481). -/
structure TimeRel where
  dt0 : Nat := 0
  tai0 : Int := 0
  rate : Int := 0
  utc : Int := 0
  state : RelState := .free
  generation : Nat := 0
  deriving DecidableEq, Repr

/-- The network island, the time function and the reference inputs. -/
structure NetState where
  mac : Nat := 0
  ports : List EthPort := List.replicate 4 {}
  fdb : List FdbEntry := []
  rel : TimeRel := {}
  lastOffset : Int := 0
  master : Nat := 0
  portInUse : Nat := 255
  steps : Nat := 0
  /-- the latest 16 offsets, newest first (Table 18.1) -/
  offsets : List Int := []
  /-- reference input in use, the inputs that are good, and the DT each became good -/
  selected : Nat := 0
  good : List Bool := [false, false]
  bothLost : Bool := false
  switches : Nat := 0
  deriving DecidableEq, Repr

/-- Pair states (Table 18.6). -/
inductive PairMode where
  | solo | linking | paired | split | granted
  deriving DecidableEq, Repr

/-- A cross-device pool of `PAIR_GUTTER_TABLE` (R494). -/
structure CrossPool where
  own : Nat
  peer : Nat
  eligible : Nat
  deriving DecidableEq, Repr

/-- A peer message sent and not yet acknowledged (R486). -/
structure PeerMsg where
  seq : Nat
  bytes : List Byte
  sent : Nat
  deriving DecidableEq, Repr

/-- A head point of the latest PEER_SLOT (R496). -/
structure PeerPoint where
  head : Nat
  lit : Bool
  live : Bool
  at_ : Pt
  deriving DecidableEq, Repr

/-- A release request of a peer head that waits for this device's guard (R496): unit identity, lines. -/
structure PeerReq where
  head : Nat
  unit : Nat
  lines : List URec
  deriving DecidableEq, Repr

/-- Paired operation (R486 to R499). -/
structure PairState where
  mode : PairMode := .solo
  cause : Nat := 0
  /-- both lanes of the peer link are up -/
  link : Bool := false
  capOk : Bool := false
  lastCap : Nat := 0
  /-- DT at which the link went down while paired -/
  splitAt : Nat := 0
  delta : Int := 0
  spread : Nat := 0
  lambda : Nat := 0
  offsetOk : Bool := false
  /-- values Δ of the measurement in progress, newest first, and the last 1,024 of the running one -/
  echoes : List Int := []
  running : List Int := []
  lastEcho : Nat := 0
  drift : Bool := false
  layerMismatch : Bool := false
  poolMismatch : Bool := false
  /-- layers named by READY_TO_EXPOSE, sent and received -/
  readySent : Option Nat := none
  readyGot : Option Nat := none
  /-- DT_s fixed by START -/
  start : Option Nat := none
  fenceSent : Bool := false
  fenceGot : Bool := false
  imageSent : Bool := false
  imageGot : Bool := false
  /-- this device waits for the peer's RESUMED (R493) -/
  resumeWait : Bool := false
  /-- the peer's RESUMED came before this device's own RESUME -/
  resumedGot : Bool := false
  peerCap : List Byte := []
  tables : List (Nat × List CrossPool) := []
  /-- check values of cross-device pools received: pool, value -/
  checks : List (Nat × Nat) := []
  seq : Nat := 0
  unacked : List PeerMsg := []
  points : List PeerPoint := []
  requests : List PeerReq := []
  /-- CLAIM and RELEASE messages that came before this device's EXPOSE began: type, payload -/
  early : List (Nat × List Byte) := []
  /-- sequence numbers of the latest messages received, newest first; the latest PEER_SLOT's SEQ and the frames lost since -/
  got : List Nat := []
  slotSeq : Option Nat := none
  lostRun : Nat := 0
  /-- `PAIR.WITNESS_TIMEOUT` has run out -/
  expired : Bool := false
  missing : Nat := 0
  discarded : Nat := 0
  resent : Nat := 0
  downs : Nat := 0
  deriving DecidableEq, Repr

end Sys2Proof.Machine
end

