-- ==== Sys2Proof/Machine/State.lean ====
section
/-! DEFINITION. The state of the block, the outcomes other than a next state, and the state after reset. -/

namespace Sys2Proof.Machine

/-- What the block drives outward during one command: writes into host memory, messages, frames, packets, pulses. -/
inductive Tx where
  /-- a memory write of the PCI Express function (R377, R378, R195, R427) -/
  | hostWrite (addr : Nat) (bytes : List Byte)
  /-- an MSI-X message: vector, address, data (R398) -/
  | msix (vector addr data : Nat)
  /-- a PME message (R399) -/
  | pme
  /-- a UDP datagram to a session's source (R385) -/
  | udp (src port : Nat) (bytes : List Byte)
  /-- a frame of a head link (R351, R359) -/
  | headFrame (head : Nat) (bytes : List Byte)
  /-- a trigger edge at a camera connector (R261): port and DT of the edge -/
  | camTrigger (port dt : Nat)
  /-- a camera control command (R260): write flag, address, data, length -/
  | camControl (port : Nat) (write : Bool) (addr : Nat) (data : List Byte) (len : Nat)
  /-- the host heartbeat (R257): port and host time in ns -/
  | heartbeat (port ns : Nat)
  /-- a step edge (R291): axis, DT, positive direction -/
  | step (axis dt : Nat) (positive : Bool)
  /-- a SYNC_OUT rise (R304): output, DT, end of the pulse -/
  | sync (output dt until_ : Nat)
  /-- a packet on an emitter bus (R330) -/
  | emitter (bus : Nat) (bytes : List Byte)
  /-- an output step of a feedback channel's divider (R320): channel, DT of the edge, levels of OA and OB -/
  | divider (channel dt : Nat) (a b : Bool)
  /-- a message on the peer link (R486) -/
  | peer (bytes : List Byte)
  /-- bytes delivered to a peripheral endpoint (R437, R439) -/
  | endpoint (e : Nat) (bytes : List Byte)
  /-- an Ethernet frame sent on a port (R476) -/
  | eth (port : Nat) (bytes : List Byte)
  deriving DecidableEq, Repr

/-- A parameter value waiting for the kettle fence (R408). -/
structure PendingPar where
  id : Nat
  scope : Nat
  value : Nat
  /-- acceptance number of the write -/
  acc : Nat
  deriving DecidableEq, Repr

/-- A `PARAM_SET` that completes at the kettle fence (R408). -/
structure Deferred where
  acc : Nat
  superseded : Bool := false
  deriving DecidableEq, Repr

/-- The state of the block. The field defaults are the values after reset. -/
structure State where
  /-- commands waiting, first in first out -/
  pending : List Instr := []
  /-- device time, 62.5 ps (R14) -/
  dt : Nat := 0
  /-- how many free values have been taken (the model's own field, log entry 2) -/
  fresh : Nat := 0
  /-- what the latest command sent outward (the model's own field, log entry 5) -/
  tx : List Tx := []
  /-- parameter values that differ from their reset value, by 65,536 × ID + scope, ascending -/
  par : List (Nat × Nat) := []
  parPending : List PendingPar := []
  deferred : List Deferred := []
  otp : Otp := {}
  cyc : Cycle := {}
  host : HostIf := {}
  power : Power := {}
  svc : Service := {}
  recorder : Recorder := {}
  /-- output streams: 0 melt-pool, 1 raw frames, 2 statistics, 3 build record, 4 event records (R195) -/
  streams : List Stream := List.replicate 5 {}
  sig : SigState := {}
  lay : Lay := {}
  mps : MpsState := {}
  loop : LoopEngine := {}
  ledger : Ledger := {}
  img : ImgState := {}
  mot : MotState := {}
  fbk : FbkState := {}
  /-- the four emitter buses (12) -/
  emd : List EmdBus := List.replicate 4 {}
  dma : DmaState := {}
  int : IntState := {}
  mem : MemState := {}
  /-- trajectory engines and head links by head (03, 13) -/
  head : HeadState := {}
  las : LasState := {}
  gut : GutState := {}
  net : NetState := {}
  pair : PairState := {}
  /-- contents of device DRAM by device address (R460); unlisted bytes read 0 -/
  dram : Mem := []
  /-- contents of the xSPI flash; unlisted bytes read 0xFF -/
  flash : Mem := []
  deriving DecidableEq, Repr

/-- No command of this block stops the machine with a fault: every stop the spec names is a status, an event record or a
state of the device. -/
inductive Fault where
  deriving DecidableEq, Repr

/-- Reasons for which a command has no meaning. -/
inductive Refusal where
  /-- raised by `exec` for a row that has no meaning yet; safe: no state follows -/
  | notModelled (mnemonic : String)
  deriving DecidableEq, Repr

/-- The machine right after reset: every field at its default. The device is unpowered (Table 00.6, OFF). -/
def State.reset : State := {}

end Sys2Proof.Machine
end

