-- ==== Sys2Proof/Machine/Ops.lean ====
section
/-! DEFINITION. The named operations on the state that every command shares: the form of a step, parameters, DRAM, events,
streams, status packets and completions. -/

namespace Sys2Proof.Machine

/-- Entry `i` of a list changed by `f`. -/
def updAt {α : Type} : List α → Nat → (α → α) → List α
  | [], _, _ => []
  | a :: as, 0, f => f a :: as
  | a :: as, i + 1, f => a :: updAt as i f

/-- An association list by ascending key: the value at `k`. -/
def alGet (k : Nat) : List (Nat × Nat) → Option Nat
  | [] => none
  | (j, v) :: l => if j = k then some v else alGet k l

/-- The list with `k` bound to `v`. -/
def alSet (k v : Nat) : List (Nat × Nat) → List (Nat × Nat)
  | [] => [(k, v)]
  | (j, w) :: l => if k < j then (k, v) :: (j, w) :: l else if k = j then (k, v) :: l else (j, w) :: alSet k v l

/-- The list without `k`. -/
def alDrop (k : Nat) (l : List (Nat × Nat)) : List (Nat × Nat) := l.filter fun e => e.1 != k

/-- The device is powered and out of reset (Table 00.6). -/
def State.up (s : State) : Bool := s.cyc.state != .off && s.cyc.state != .reset

/-- The state in which a command at DT `t` takes effect: device time never decreases (R15), nothing has been sent yet. -/
def State.at (t : Nat) (s : State) : State := { s with dt := max s.dt t, tx := [] }

/-- A command of the powered device: `f` acts at DT `t`; the queue and device time are not `f`'s to change. A device that is
off or held in reset takes no command (log entry 6). -/
def State.event (t : Nat) (f : State → State) (s : State) : Host.Outcome State Fault Refusal :=
  if s.up then .next { f (s.at t) with dt := max s.dt t, pending := s.pending } else .next { s.at t with dt := s.dt }

/-- An event that the device also sees while it is held in reset. -/
def State.eventPowered (t : Nat) (f : State → State) (s : State) : Host.Outcome State Fault Refusal :=
  if s.cyc.state = .off then .next { s.at t with dt := s.dt } else .next { f (s.at t) with dt := max s.dt t, pending := s.pending }

/-- An event of the supplies and the reset inputs, which act in every state; entry to RESET restarts device time (R15). -/
def State.eventReset (t : Nat) (f : State → State) (s : State) : Host.Outcome State Fault Refusal :=
  .next { f (s.at t) with pending := s.pending }

/-- Head-port count of the grade (Table 00.1). -/
def Grade.heads : Grade → Nat
  | .sx32 => 32
  | .sx16 => 16
  | .sx08 => 8
def State.heads (s : State) : Nat := s.otp.grade.heads
/-- Event slots of the grade (R503). -/
def Grade.slots : Grade → Nat
  | .sx32 => 131072
  | .sx16 => 32768
  | .sx08 => 16384

/-! Parameters. -/

def devScope : Nat := 0xFFFF
def parKey (id scope : Nat) : Nat := 65536 * id + scope
/-- The value in force of a parameter the store holds. -/
def State.param (s : State) (id scope : Nat) : Nat := (alGet (parKey id scope) s.par).getD (resetOf id)
def State.dparam (s : State) (id : Nat) : Nat := s.param id devScope
/-- The value last written, a pending one included (R406). -/
def State.written (s : State) (id scope : Nat) : Nat :=
  match s.parPending.find? fun p => p.id == id && p.scope == scope with
  | some p => p.value
  | none => s.param id scope
def State.setParam (id scope v : Nat) (s : State) : State :=
  { s with par := if v = resetOf id then alDrop (parKey id scope) s.par else alSet (parKey id scope) v s.par }

/-- Ts in ns of the profile's code: 250, 500, 1000, 2000. -/
def tsNs (code : Nat) : Nat := 250 * 2 ^ code
def State.ts (s : State) : Nat := tsNs s.cyc.profile.ts

/-! Functions of Table 20.5. -/
def fnTrj : Nat := 0
def fnShare : Nat := 1
def fnGuard : Nat := 2
def fnMps : Nat := 3
def fnCorr : Nat := 4
def fnLdg : Nat := 5
def fnImg : Nat := 6
def fnMot : Nat := 7
def fnCycle : Nat := 8
def fnTrim : Nat := 9
/-- Whether function `fn` of Table 20.5 is host-assisted. -/
def State.assisted (s : State) (fn : Nat) : Bool := s.svc.modes.testBit fn

/-- A value no rule fixes: the next free value's number, and the state in which it is taken. -/
def State.take (s : State) : Nat × State := (s.fresh, { s with fresh := s.fresh + 1 })

/-- Something the device sends outward. -/
def State.send (x : Tx) (s : State) : State := { s with tx := s.tx ++ [x] }

/-- `SVC_LOOPBACK` runs on an interface (R546). -/
def State.looped (s : State) (iface index : Nat) : Bool := s.svc.loopback.any fun (l : Loopback) => l.iface == iface && l.index == index

/-! DRAM (R460 to R464). -/

def dramBase : Nat := 0x4000000000
def gib : Nat := 1073741824
/-- Bytes of installed DRAM. -/
def State.installed (s : State) : Nat := 3 * s.mem.capacity * gib
def State.reservedBase (s : State) : Nat := dramBase + s.installed - gib
/-- The range lies within installed DRAM and outside the reserved region (R409, R460, R462). -/
def State.dramOk (s : State) (a len : Nat) : Bool := decide (dramBase ≤ a ∧ a + len ≤ s.reservedBase)
def State.dramRead (s : State) (a n : Nat) : List Byte := s.dram.readBytes dramDefault a n
/-- Whether a range holds a poisoned line (R464). -/
def State.poisoned (s : State) (a n : Nat) : Bool := s.mem.poison.any fun l => decide (l < a + n ∧ a < l + 64)
/-- The poisoned lines left after a write from `a` (R464): a line is cleared once it is written whole. -/
def clearPoison (a n : Nat) (ls : List Nat) : List Nat := ls.filter fun l => !(decide (a ≤ l ∧ l + 64 ≤ a + n))
def State.dramWrite (a : Nat) (bs : List Byte) (s : State) : State :=
  { s with dram := s.dram.writeBytes dramDefault a bs, mem := { s.mem with poison := clearPoison a bs.length s.mem.poison } }

/-! Events (R501, R502): an event travels to the recorder, where `EVENT_ARRIVAL` records it. -/

def State.logEvent (code source key detail : Nat) (s : State) : State :=
  { s with recorder := { s.recorder with arriving := s.recorder.arriving ++
    [{ dt := s.dt, code := code, source := source, key := key, detail := detail }] } }
/-- The channel and the offset in it of a device address (R460); while a channel migrates, blocks below the pointer lie at their
new place (R471). -/
def State.placeOf (s : State) (a : Nat) : Nat × Nat :=
  let o := a - dramBase
  let b := o / 2048
  let k := b / 4
  let ch := b % 4
  if some ch = s.mem.mapout ∧ (k < s.mem.pointer ∨ (s.mem.channels.getD ch {}).mappedOut) then ((ch + 1 + k % 3) % 4, 3 * s.mem.capacity * gib / 4 + k / 3 * 2048 + o % 2048) else (ch, k * 2048 + o % 2048)
/-- Two little-endian fields side by side: `b` placed `n` bytes up. -/
def beside (a n b : Nat) : Nat := a + b * 2 ^ (8 * n)

/-! Output streams (R195, R196). -/

def streamRingId : Nat → Nat
  | 0 => 0x5010 | 1 => 0x5012 | 2 => 0x800E | 3 => 0xE105 | _ => 0xE102
def streamHostId : Nat → Nat
  | 0 => 0x5011 | 1 => 0x5013 | 2 => 0x800F | 3 => 0xE106 | _ => 0xE103
/-- A reader meets poisoned lines in a range (R464): the event record names the first and the channel. -/
def State.poisonSeen (a n : Nat) (s : State) : State :=
  match s.mem.poison.filter fun l => decide (l < a + n ∧ a < l + 64) with
  | [] => s
  | l :: ls => s.logEvent 0xD002 (s.placeOf l).1 0 (beside l 8 (ls.length + 1))
def State.ringBase (s : State) (i : Nat) : Nat := byteField (s.dparam (streamRingId i)) 0 8
def State.ringSize (s : State) (i : Nat) : Nat := byteField (s.dparam (streamRingId i)) 8 8
def State.hostBase (s : State) (i : Nat) : Nat := byteField (s.dparam (streamHostId i)) 0 8
def State.hostSize (s : State) (i : Nat) : Nat := byteField (s.dparam (streamHostId i)) 8 8
def State.hostIndex (s : State) (i : Nat) : Nat := byteField (s.dparam (streamHostId i)) 16 8
def State.hostVector (s : State) (i : Nat) : Nat := byteField (s.dparam (streamHostId i)) 24 1
def State.stream (s : State) (i : Nat) : Stream := s.streams.getD i {}
def State.setStream (i : Nat) (f : Stream → Stream) (s : State) : State := { s with streams := updAt s.streams i f }
/-- Both rings of a stream are in use. -/
def State.streamOn (s : State) (i : Nat) : Bool := decide (s.ringSize i ≠ 0) && decide (s.hostSize i ≠ 0)
/-- Free bytes of the DRAM ring. -/
def State.ringRoom (s : State) (i : Nat) : Nat := s.ringSize i - ((s.stream i).written - (s.stream i).copied)

/-- Bytes into a DRAM ring at the stream's write offset, wrapping at the ring's end. -/
def State.ringPut (i : Nat) (bs : List Byte) (s : State) : State :=
  let size := s.ringSize i
  let off := (s.stream i).written % size
  let first := bs.take (size - off)
  let s1 := (s.dramWrite (s.ringBase i + off) first).dramWrite (s.ringBase i) (bs.drop (size - off))
  s1.setStream i fun st => { st with written := st.written + bs.length, lastDt := s.dt }

/-- Room kept in every ring for the entries that are never dropped (log entry 12). -/
def ringReserve : Nat := 8192

/-- The DT and count of a dropped entry joined to the open gap. -/
def addGap (dt : Nat) (g : Option Gap) : Option Gap :=
  match g with
  | none => some { first := dt, last := dt, count := 1 }
  | some g => some { g with last := dt, count := g.count + 1 }

/-- One entry of a stream whose ring is in use: a GAP entry (`gapBytes`) goes ahead of the first entry that fits after a
run of dropped ones; an entry of `keep` is never dropped and waits for room. Answers the bytes written and whether a gap was
closed, with its count. -/
def State.append (i : Nat) (gapBytes : Gap → List Byte) (keep : Bool) (bs : List Byte) (s : State) : State × List Byte × Nat :=
  let st := s.stream i
  let gapB := (st.gap.map gapBytes).getD []
  let gapN := (st.gap.map (·.count)).getD 0
  let need := gapB.length + bs.length
  let fits := st.waiting.isEmpty && decide (need + (if keep then 0 else ringReserve) ≤ s.ringRoom i)
  if fits then ((s.ringPut i (gapB ++ bs)).setStream i fun x => { x with gap := none }, gapB ++ bs, gapN)
  else if keep then
    (s.setStream i fun x => { x with gap := none, waiting := x.waiting ++ (if gapB.isEmpty then [bs] else [gapB, bs]) }, gapB ++ bs, gapN)
  else (s.setStream i fun x => { x with gap := addGap s.dt x.gap, drops := inc32 x.drops }, [], 0)

/-- Waiting entries written as far as room allows. -/
def State.drain (i : Nat) : Nat → State → State
  | 0, s => s
  | n + 1, s =>
    match (s.stream i).waiting with
    | [] => s
    | b :: rest => if b.length ≤ s.ringRoom i then State.drain i n ((s.ringPut i b).setStream i fun x => { x with waiting := rest }) else s

/-! The build record (R515, R516, R519). -/

def buildHeader (type len layer dt : Nat) : List Byte := leBytes 2 type ++ leBytes 2 len ++ leBytes 4 layer ++ leBytes 8 dt
/-- An entry: header, payload, zero bytes up to a multiple of 8. -/
def buildEntryBytes (type layer dt : Nat) (payload : List Byte) : List Byte :=
  let len := (16 + payload.length + 7) / 8 * 8
  padTo len (buildHeader type len layer dt ++ payload)
def buildGap (layer dt : Nat) (g : Gap) : List Byte :=
  buildEntryBytes 0xF1 layer dt (leBytes 8 g.count ++ leBytes 8 g.first ++ leBytes 8 g.last)
/-- FENCE, LAYER_SUMMARY and COLOPHON entries are never dropped (R516). -/
def buildKept (type : Nat) : Bool := type == 0x3 || type == 0xF0 || type == 0xFF
/-- The layer an entry concerns: the layer in progress, or the last one exposed. -/
def State.recLayer (s : State) : Nat := if s.cyc.phase == .idle then s.recorder.lastLayer else s.cyc.layer

def State.buildEntry (type : Nat) (payload : List Byte) (s : State) : State :=
  if !s.streamOn 3 then s.setStream 3 fun x => { x with drops := inc32 x.drops }
  else
    let layer := s.recLayer
    let r := s.append 3 (buildGap layer s.dt) (buildKept type) (buildEntryBytes type layer s.dt payload)
    let s1 := r.1
    let b := s1.recorder.build.map fun b =>
      { b with
        crc := crcFold 2197175160 b.crc r.2.1
        entries := b.entries + (if r.2.1.isEmpty then 0 else 1) + (if r.2.2 = 0 then 0 else 1)
        lost := add32 b.lost r.2.2 }
    let strict := r.2.2 != 0 && (s.cyc.phase == .expose || s.cyc.phase == .kettle)
    { s1 with recorder := { s1.recorder with
        build := b
        sum := { s1.recorder.sum with gap := s1.recorder.sum.gap || r.2.2 != 0, strictGap := s1.recorder.sum.strictGap || strict } } }

/-! Host memory writes, MSI-X (R398 to R400). -/

/-- Whether the function may write host memory. -/
def State.mayWrite (s : State) : Bool := s.host.busMaster && !s.host.d3hot
/-- An MSI-X message of vector `v` may be sent now (R399). -/
def State.maySend (s : State) (v : Nat) : Bool :=
  s.mayWrite && s.host.msixEnable && !s.host.functionMask && !(s.host.vectors.getD v {}).masked

/-- A message that has fallen due is sent, or its PBA bit is set; in D3hot with PME_En set a PME is sent (R399). A link in a
low-power state is left first (R371). -/
def State.messageDue (v : Nat) (s : State) : State :=
  let x := s.host.vectors.getD v {}
  if s.maySend v then
    { s with
      host := { s.host with vectors := updAt s.host.vectors v fun x => { x with entries := 0, due := false, pba := false }, linkL1 := false }
      tx := s.tx ++ [.msix v x.addr x.data] }
  else
    let s1 := { s with host := { s.host with vectors := updAt s.host.vectors v fun x => { x with due := true, pba := true } } }
    if s.host.d3hot && s.host.pmeEn && !x.pba then s1.send .pme else s1

/-- An entry of a vector counted (R398): the message falls due at COUNT entries; the timer starts at the first. A COUNT of 0
is reached at once (log entry 14). -/
def State.countEntry (v : Nat) (s : State) : State :=
  let s1 := { s with host := { s.host with vectors := updAt s.host.vectors v fun x =>
    { x with entries := x.entries + 1, first := if x.entries = 0 then s.dt else x.first } } }
  let x := s1.host.vectors.getD v {}
  if x.count ≤ x.entries then s1.messageDue v else s1

/-- A write into host memory that is an entry of vector `v`; it waits while the function may not write (R400). -/
def State.hostEntry (v : Nat) (writes : List (Nat × List Byte)) (s : State) : State :=
  if s.mayWrite && s.host.held.isEmpty then ({ s with tx := s.tx ++ writes.map fun (w : Nat × List Byte) => Tx.hostWrite w.1 w.2 }).countEntry v
  else { s with host := { s.host with held := s.host.held ++ (writes.zipIdx.map fun w =>
    { addr := w.1.1, bytes := w.1.2, vector := if w.2 + 1 = writes.length then v else 255 }) } }

/-! Status packets and completions (R383, R384, R387). -/

/-- The version in force on a queue or session, or 0x30 where none is fixed (R388). -/
def State.versionOf (o : Origin) (s : State) : Nat :=
  match o with
  | .qp n => ((s.host.qps.getD n {}).version).getD 0x30
  | .session n => (((s.host.sessions.getD n none).map (·.version)).getD none).getD 0x30

/-- A status packet (Table 14.12). -/
def statusPacket (opcode version flags tag scope status : Nat) (result : List Byte) : List Byte :=
  let len := (16 + result.length + 7) / 8
  padTo (8 * len) (leBytes 2 opcode ++ leBytes 1 version ++ leBytes 1 flags ++ leBytes 2 len ++ leBytes 2 tag ++ leBytes 2 scope ++
    leBytes 2 status ++ zeros 4 ++ result)

/-- A packet to a queue's CQ (it waits in the device until room and `CQ_ENTRY_WRITE`, R379) or to a session. -/
def State.reply (o : Origin) (addr : Nat) (marker : Bool) (bytes : List Byte) (s : State) : State :=
  match o with
  | .qp n => { s with host := { s.host with cqWait := s.host.cqWait ++ [{ qp := n, packet := bytes, resultAddr := addr, marker := marker }] } }
  | .session n =>
    match s.host.sessions.getD n none with
    | some x => s.send (.udp x.src x.port bytes)
    | none => s

/-- A session keeps the final status packets of its latest 256 distinct tags (R387). -/
def Session.store (tag : Nat) (bytes : List Byte) (x : Session) : Session :=
  { x with stored := ((tag, bytes) :: x.stored.filter fun e => e.1 != tag).take 256 }

/-- The status of a command; a final OK is suppressed by NO_REPLY (R383). -/
def State.answer (p : Packet) (opcode : Nat) (final : Bool) (status : Nat) (result : List Byte) (s : State) : State :=
  let bytes := statusPacket opcode (s.versionOf p.origin) 0 p.tag p.scope status result
  let s1 := if final && status == stOk && p.flags.testBit 3 then s else s.reply p.origin p.resultAddr false bytes
  match p.origin with
  | .qp _ => s1
  | .session n => if final then { s1 with host := { s1.host with sessions := updAt s1.host.sessions n fun x => x.map (Session.store p.tag bytes) } } else s1

/-- Commands of a queue without a final status. -/
def State.outstanding (s : State) (o : Origin) : Nat :=
  (s.host.inProg.filter fun i => i.packet.origin == o && !i.mute).length + (s.host.waiting.filter fun w => w.packet.origin == o).length

/-- The final status of the command with acceptance number `acc`. -/
def State.finish (acc status : Nat) (result : List Byte) (s : State) : State :=
  match s.host.inProg.find? fun i => i.acc == acc with
  | none => s
  | some i =>
    let s1 := { s with host := { s.host with inProg := s.host.inProg.filter fun j => j.acc != acc } }
    if i.mute then s1 else s1.answer i.packet i.opcode true status result

/-- A pair whose `QUEUE_DELETE` waits is disabled, and the command completes, once no command of the pair remains (R381). -/
def State.settleDeletes : Nat → State → State
  | 0, s => s
  | n + 1, s =>
    match (List.range 64).find? fun q => (s.host.qps.getD q {}).deleting.isSome && s.outstanding (.qp q) == 0 with
    | none => s
    | some q =>
      let acc := ((s.host.qps.getD q {}).deleting).getD 0
      State.settleDeletes n
        (({ s with host := { s.host with qps := updAt s.host.qps q fun _ => {} } }).finish acc stOk [])

/-- The completion of an accepted command. -/
def State.complete (acc status : Nat) (result : List Byte) (s : State) : State := State.settleDeletes 64 (s.finish acc status result)

/-- Every command of a list completed with one status and no result. -/
def State.completeAll (accs : List Nat) (status : Nat) (s : State) : State := accs.foldl (fun s a => s.complete a status []) s

/-! The journal (R522, R523). -/

/-- A journal entry asked for; a COUNTER_LEASE goes ahead of every entry that has not started. -/
def State.journalAsk (type : Nat) (payload : List Byte) (use : JournalUse) (s : State) : State :=
  let q := s.recorder.journal.queue
  let r : JournalReq := { type := type, payload := payload, use := use, since := s.dt }
  let q1 := if type == 0x10 then q.take 1 ++ r :: q.drop 1 else q ++ [r]
  { s with recorder := { s.recorder with journal := { s.recorder.journal with queue := q1 } } }

end Sys2Proof.Machine
end

