-- ==== Sys2Proof/Machine/Ints.lean ====
section
/-! DEFINITION. The interrupt controller (16): sources, routing, takes, completion. -/

namespace Sys2Proof.Machine

def State.source (s : State) (n : Nat) : IntSource := s.int.sources.getD n {}
def State.core (s : State) (c : Nat) : IntCore := s.int.cores.getD c {}
def State.setSource (n : Nat) (f : IntSource → IntSource) (s : State) : State :=
  { s with int := { s.int with sources := updAt s.int.sources n f } }
def State.setCore (c : Nat) (f : IntCore → IntCore) (s : State) : State :=
  { s with int := { s.int with cores := updAt s.int.cores c f } }

/-- A change of level moves an IDLE source to PENDING, or a PENDING one back to IDLE (R445). -/
def IntSource.withLevel (b : Bool) (x : IntSource) : IntSource :=
  { x with
    level := b
    state := match x.state with
      | .idle => if b then .pending else .idle
      | .pending => if b then .pending else .idle
      | .active c => .active c }
/-- An ACTIVE source that leaves ACTIVE (R449, R450). -/
def IntSource.release (x : IntSource) : IntSource := { x with state := if x.level then .pending else .idle }

/-- The level of source `n` as its origin holds it; sources from 144 on are never asserted (Table 16.12). -/
def State.sourceLevel (n : Nat) (b : Bool) (s : State) : State := if n < 144 then s.setSource n (IntSource.withLevel b) else s

/-- The fallback walk of R446 from core `t`. -/
def State.walkTarget (s : State) : Nat → Nat → Option Nat
  | 0, _ => none
  | n + 1, t =>
    if (s.core t).online then some t
    else if (s.core t).fallback = t then none
    else State.walkTarget s n (s.core t).fallback

/-- The target of a source (R446). -/
def State.target (s : State) (n : Nat) : Option Nat :=
  let x := s.source n
  if !x.enable || x.target == 15 then none else s.walkTarget 12 x.target

/-- The better of two sources: higher PRIORITY, ties to the lower index (R447). -/
def State.better (s : State) (best : Option Nat) (n : Nat) : Option Nat :=
  match best with
  | none => some n
  | some b => if (s.source b).priority < (s.source n).priority then some n else some b

/-- The candidate of core `c` (R447). -/
def State.candidate (s : State) (c : Nat) : Option Nat :=
  ((List.range 256).filter fun (n : Nat) => (s.source n).state == .pending && s.target n == some c).foldl s.better none

/-- The ACTIVE sources a core owns, and its RUN_PRIORITY. -/
def State.owned (s : State) (c : Nat) : List Nat := (List.range 256).filter fun (n : Nat) => (s.source n).state == .active c
def State.runPriority (s : State) (c : Nat) : Nat := ((s.owned c).map fun (n : Nat) => (s.source n).priority).foldl max 0

/-- The source presented to an online core (R447). -/
def State.presented (s : State) (c : Nat) : Option Nat :=
  if !(s.core c).online then none
  else match s.candidate c with
    | none => none
    | some n => if (s.owned c).isEmpty || decide (s.runPriority c < (s.source n).priority) then some n else none

/-- A core enters the handler of the presented source (R447, R449); `wake` is the wake-to-take time in ns when the core was
in SLEEP (R448). -/
def State.takeSource (c : Nat) (wake : Option Nat) (s : State) : State :=
  match s.presented c with
  | none => s
  | some n =>
    let other := (s.source n).target != c
    let s1 := s.setSource n fun x => { x with state := .active c }
    let s2 := s1.setCore c fun x => { x with taken := some n, entered := x.vbar + 64 * n }
    { s2 with int := { s2.int with
        redirects := if other then inc32 s2.int.redirects else s2.int.redirects
        wakeMax := max s2.int.wakeMax (wake.getD 0) } }

/-- An EOI write of core `c` (R450). -/
def State.eoi (c n : Nat) (s : State) : State :=
  if n < 144 ∧ (s.source n).state = .active c then s.setSource n IntSource.release
  else { s with int := { s.int with spuriousEoi := inc32 s.int.spuriousEoi } }

/-- A write of CORE_STATE[c] (Table 16.16): FALLBACK and ONLINE; a core that goes offline loses its sources (R449). -/
def State.coreWrite (c fallback : Nat) (online : Bool) (s : State) : State :=
  let s1 := s.setCore c fun x => { x with online := online, fallback := fallback }
  if online then s1 else (s.owned c).foldl (fun (s : State) (n : Nat) => s.setSource n IntSource.release) s1

/-- The ONLINE bit of a core alone. -/
def State.coreOnline (c : Nat) (b : Bool) (s : State) : State := s.coreWrite c (s.core c).fallback b

def State.reservedWrite (s : State) : State := { s with host := { s.host with rsvdWrites := inc32 s.host.rsvdWrites } }
def State.badDoorbell (s : State) : State := { s with host := { s.host with doorbellErrs := inc32 s.host.doorbellErrs } }

/-- SOURCE_LEVEL_CHANGE: an origin raises or lowers its level. The levels of the DMA channels and the software sources are the
device's own (R429, R444). -/
def execSourceLevelChange (t n : Nat) (level : Bool) (s : State) : Host.Outcome State Fault Refusal :=
  s.event t fun s => if n < 90 ∨ (121 < n ∧ n < 128) then s.sourceLevel n level else s

/-- SOURCE_TAKE. -/
def execSourceTake (t c : Nat) (wake : Option Nat) (s : State) : Host.Outcome State Fault Refusal :=
  s.event t fun s => if c < 12 then s.takeSource c wake else s

/-- EOI_WRITE: `v` is the register value written. -/
def execEoiWrite (t c v : Nat) (s : State) : Host.Outcome State Fault Refusal :=
  s.event t fun s => if c < 12 then s.eoi c (v % 256) else s

/-- ROUTE_WRITE (Table 16.15): a reserved TARGET leaves the field as it is and is counted (R8). -/
def execRouteWrite (t n v : Nat) (s : State) : Host.Outcome State Fault Refusal :=
  s.event t fun s =>
    if 256 ≤ n then s
    else
      let target := v % 16
      let bad := decide (12 ≤ target ∧ target ≤ 14)
      let s1 := s.setSource n fun x =>
        { x with
          priority := v / 4096 % 16
          enable := v.testBit 8
          target := if bad then x.target else target }
      if bad then s1.reservedWrite else s1

/-- CORE_ONLINE_WRITE: a write of CORE_STATE[c]. -/
def execCoreOnlineWrite (t c v : Nat) (s : State) : Host.Outcome State Fault Refusal :=
  s.event t fun s =>
    if 12 ≤ c then s
    else
      let fb := v / 4096 % 16
      let s1 := s.coreWrite c (if fb < 12 then fb else (s.core c).fallback) (v.testBit 0)
      if fb < 12 then s1 else s1.reservedWrite

/-- SWI_WRITE (R444). -/
def execSwiWrite (t v : Nat) (s : State) : Host.Outcome State Fault Refusal :=
  s.event t fun s => s.sourceLevel (128 + v % 16) (v.testBit 31)

end Sys2Proof.Machine
end

