-- ==== Sys2Proof/Machine/Serve.lean ====
section
/-! DEFINITION. How a command packet is accepted, checked in the order of R23, started and answered (R376, R382 to R397). -/

namespace Sys2Proof

/-- A parameter field of a command packet. -/
def Packet.fld (p : Packet) (off len : Nat) : Nat := field p.params off len
/-- Reserved bytes that must be zero (R9). -/
def Packet.zeroAt (p : Packet) (off len : Nat) : Bool := allZero (slice p.params off len)

/-- The bytes of a packet before its MAC (R382, R393). -/
def Packet.signed (p : Packet) (opcode : Nat) : List Byte :=
  leBytes 2 opcode ++ leBytes 1 p.version ++ leBytes 1 p.flags ++ leBytes 2 p.length ++ leBytes 2 p.tag ++ leBytes 2 p.scope ++
    leBytes 6 p.zero ++ p.params ++
    (match p.trailer with | some t => leBytes 1 t.slot ++ leBytes 7 t.zero ++ leBytes 8 t.counter | none => [])

/-- The fence bits of a packet (Table 14.10). -/
def Packet.fenceBefore (p : Packet) : Bool := p.flags.testBit 1
def Packet.fenceAfter (p : Packet) : Bool := p.flags.testBit 2

end Sys2Proof

namespace Sys2Proof.Machine

/-- What a command's run answers: a final status; ACCEPTED with the completion to follow; or nothing yet, where the final
status is the only one and comes later. -/
inductive Answer where
  | done (status : Nat) (result : List Byte)
  | accepted
  | later
  /-- the run has sent ACCEPTED itself, ahead of a completion it may have reached -/
  | sent
  deriving DecidableEq, Repr

/-- A command as its rules define it. `stateFail` stands at the place of STATE, `checks` are the conditions from RANGE on in the
order of R23, `resultLen` the length of its result (R378), `failResult` the result some rejections carry (R45). -/
structure CmdSpec where
  opcode : Nat
  major : Nat := 3
  fromMinor : Nat := 0
  lenOk : Packet → Bool
  critical : Packet → State → Bool := fun _ _ => false
  stateFail : Packet → State → Option Nat
  checks : Packet → State → List (Bool × Nat) := fun _ _ => []
  resultLen : Packet → State → Nat := fun _ _ => 0
  failResult : Packet → State → Nat → List Byte := fun _ _ _ => []
  /-- the event record of a rejection, where a rule asks for one (R464) -/
  onReject : Packet → Nat → State → State := fun _ _ s => s
  run : Nat → Packet → State → State × Answer

/-- The states a command is permitted in (R402). -/
def permitIn (l : List DevState) (s : State) : Option Nat := if l.contains s.cyc.state then none else some stState
/-- Permitted in the states of `l`, and in ARMED with PHASE = IDLE. -/
def permitIdle (l : List DevState) (s : State) : Option Nat :=
  if l.contains s.cyc.state || (s.cyc.state == .armed && s.cyc.phase == .idle) then none else some stState

/-- A command that takes no scope carries 0xFFFF (R382). -/
def noScope (p : Packet) : Bool × Nat := (p.scope != 0xFFFF, stRange)
/-! Versions (R388). -/

/-- The device's highest minor of a major (Table 14.4). -/
def highestMinor (major : Nat) : Option Nat := if major = 3 then some 0 else if major = 2 then some 4 else none

/-- The version fixed by a first packet, or kept; `none` when the packet is rejected with VERSION. -/
def fixVersion (fixed : Option Nat) (v : Nat) : Option Nat :=
  match fixed with
  | some f => if v / 16 = f / 16 ∧ v % 16 ≤ f % 16 then some f else none
  | none => (highestMinor (v / 16)).map fun m => 16 * (v / 16) + min m (v % 16)

def State.fixedVersion (o : Origin) (s : State) : Option Nat :=
  match o with
  | .qp n => (s.host.qps.getD n {}).version
  | .session n => ((s.host.sessions.getD n none).map (·.version)).getD none

def State.setVersion (o : Origin) (v : Nat) (s : State) : State :=
  match o with
  | .qp n => { s with host := { s.host with qps := updAt s.host.qps n fun q => { q with version := some v } } }
  | .session n => { s with host := { s.host with sessions := updAt s.host.sessions n fun x => x.map fun y => { y with version := some v } } }

/-! Authentication (R393 to R397). -/

/-- The slot authenticates a command with this acceptance number (R395, R397). -/
def KeySlot.activeFor (acc : Nat) (k : KeySlot) : Bool :=
  k.state == .active || (k.state == .retired && decide (acc < k.retiredAt))

/-- KEY, AUTH, REPLAY, in the order of R23. -/
def authFail (opcode acc : Nat) (critical : Bool) (p : Packet) (s : State) : Option Nat :=
  match p.trailer with
  | none => if critical then some stAuth else none
  | some t =>
    let k := s.host.keys.getD t.slot {}
    firstFail [
      (decide (7 < t.slot) || !k.activeFor acc, stKey),
      (t.mac != cmac k.key (p.signed opcode), stAuth),
      (decide (t.counter ≤ k.last), stReplay)]

/-- A rejection under KEY, AUTH or REPLAY is counted and recorded (R393, Table 19.3). -/
def State.countAuth (opcode status : Nat) (p : Packet) (s : State) : State :=
  let transport := match p.origin with | .qp _ => 0 | .session _ => 1
  let qp := match p.origin with | .qp n => n | .session n => 64 + n
  let slot := match p.trailer with | some t => t.slot | none => 255
  ({ s with host := { s.host with authFails := inc32 s.host.authFails } }).logEvent 0x0008 slot
    (beside (beside opcode 2 (status % 256)) 3 transport) qp

/-- A lease ceiling for a counter, saturating (R394). -/
def leaseFor (counter : Nat) : Nat := satNat (2 ^ 64 - 1) (counter + 65536)

/-- A lease commit asked for, once per slot at a time (R394). -/
def State.askLease (slot l : Nat) (s : State) : State :=
  let k := s.host.keys.getD slot {}
  if k.wanted.isSome then s
  else ({ s with host := { s.host with keys := updAt s.host.keys slot fun k => { k with wanted := some l } } }).journalAsk 0x10
    (leBytes 1 slot ++ zeros 7 ++ leBytes 8 l) (.lease slot)

/-- The slot's last accepted counter after an accepted command, and the commit ahead of need (R394). -/
def State.acceptCounter (p : Packet) (s : State) : State :=
  match p.trailer with
  | none => s
  | some t =>
    let k := s.host.keys.getD t.slot {}
    let s1 := { s with host := { s.host with keys := updAt s.host.keys t.slot fun k => { k with last := t.counter } } }
    if k.lease ≤ t.counter + 16384 ∧ k.lease < leaseFor t.counter then s1.askLease t.slot (leaseFor t.counter) else s1

/-! Checks and start. -/

/-- The length rule of R382: the header's LENGTH lies in 2 to 4,095 and agrees with the opcode's parameters and AUTH. -/
def lengthOk (c : CmdSpec) (p : Packet) : Bool :=
  decide (2 ≤ p.length ∧ p.length ≤ 4095) && decide (8 * p.length = 16 + p.params.length + (if p.flags.testBit 0 then 32 else 0)) &&
    c.lenOk p && (p.trailer.isSome == p.flags.testBit 0)

/-- Zero fields of header and trailer, and NO_REPLY on a critical command (R9, R383). -/
def headerRange (critical : Bool) (p : Packet) : Bool × Nat :=
  (p.zero != 0 || decide (16 ≤ p.flags) || (critical && p.flags.testBit 3) || (match p.trailer with | some t => t.zero != 0 | none => false), stRange)

/-- RESULT_SPACE (R378): the status packet exceeds 48 bytes and RESULT_SIZE. -/
def noSpace (n : Nat) (p : Packet) : Bool :=
  match p.origin with
  | .qp _ => decide (48 < (16 + n + 7) / 8 * 8) && decide (p.resultSize < (16 + n + 7) / 8 * 8)
  | .session _ => false

/-- The first status that applies (R23), LEASE apart; `v` is the version in force on the queue. -/
def checkFail (c : CmdSpec) (acc v : Nat) (p : Packet) (s : State) : Option Nat :=
  let crit := c.critical p s
  if !lengthOk c p then some stLength
  else if v / 16 != c.major || decide (v % 16 < c.fromMinor) then some stUnknownOpcode
  else match authFail c.opcode acc crit p s with
    | some st => some st
    | none =>
      match c.stateFail p s with
      | some st => some st
      | none => firstFail (headerRange crit p :: c.checks p s ++ [(noSpace (c.resultLen p s) p, stResultSpace)])

/-- A load rejected because its image holds a poisoned line writes the event record of R464. -/
def poisonReject (a n : Packet → Nat) (p : Packet) (st : Nat) (s : State) : State := if st = stIntegrity then s.poisonSeen (a p) (n p) else s
/-- The status is one of KEY, AUTH and REPLAY. -/
def isAuthStatus (st : Nat) : Bool := st == stKey || st == stAuth || st == stReplay

/-- A rejection: the final status, with no other effect (R23). -/
def reject (c : CmdSpec) (p : Packet) (st : Nat) (s : State) : State :=
  (c.onReject p st (if isAuthStatus st then s.countAuth c.opcode st p else s)).answer p c.opcode true st (c.failResult p s st)

/-- The command runs: a command that answers ACCEPTED stays in progress until it completes (R384). -/
def runCmd (c : CmdSpec) (acc : Nat) (p : Packet) (s : State) : State :=
  let s1 := s.acceptCounter p
  match c.run acc p { s1 with host := { s1.host with inProg := s1.host.inProg ++ [{ acc := acc, opcode := c.opcode, packet := p }] } } with
  | (s2, .done st res) => s2.complete acc st res
  | (s2, .sent) => s2
  | (s2, .accepted) => s2.answer p c.opcode false stAccepted []
  | (s2, .later) => { s2 with host := { s2.host with inProg := s2.host.inProg.map fun i => if i.acc = acc then { i with silent := true } else i } }

/-- A command that waits: for a fence or its queue, or for a lease (R376, R390, R394). -/
def State.wait (acc opcode : Nat) (p : Packet) (lease : Option Nat) (s : State) : State :=
  { s with host := { s.host with waiting := s.host.waiting ++ [{ acc := acc, opcode := opcode, packet := p, since := s.dt, lease := lease }] } }

/-- A command is started: its checks, the lease, its run; `leased` when the lease it waited for has been committed. -/
def start (c : CmdSpec) (leased : Bool) (acc : Nat) (p : Packet) (s : State) : State :=
  match fixVersion (s.fixedVersion p.origin) p.version with
  | none => s.answer p c.opcode true stVersion []
  | some v =>
    let s0 := s.setVersion p.origin v
    match checkFail c acc v p s0 with
    | some st => reject c p st s0
    | none =>
      match p.trailer with
      | some t =>
        if leased || decide (t.counter < (s0.host.keys.getD t.slot {}).lease) then runCmd c acc p s0
        else if s0.recorder.journal.bad then reject c p stLease s0
        else (s0.askLease t.slot (leaseFor t.counter)).wait acc c.opcode p (some (leaseFor t.counter))
      | none => runCmd c acc p s0

/-- A command with acceptance number `acc` may not start yet: an earlier one of its queue waits or has written no status (R376),
one of its key slot waits (R393), a fence holds it (R390), or no core set serves commands (R532, R534). -/
def State.fenced (acc : Nat) (p : Packet) (s : State) : Bool :=
  let lower := (s.host.inProg.filter fun i => decide (i.acc < acc)).map (·.packet) ++
    (s.host.waiting.filter fun w => decide (w.acc < acc)).map (·.packet)
  (p.fenceBefore && !lower.isEmpty) || lower.any Packet.fenceAfter
def State.blocked (acc : Nat) (p : Packet) (s : State) : Bool :=
  let ahead := (s.host.waiting.filter fun w => decide (w.acc < acc)).map (·.packet)
  ahead.any (fun q => q.origin == p.origin || (match q.trailer, p.trailer with | some a, some b => a.slot == b.slot | _, _ => false)) ||
    (s.host.inProg.any fun i => i.silent && i.packet.origin == p.origin && decide (i.acc < acc)) || s.fenced acc p ||
    s.svc.fw.switching.isSome || s.svc.fw.takeoverWait

/-- The host interface takes commands: from STANDBY on, and in BOOT once the host island is ready (R403). -/
def State.accepts (s : State) : Bool := s.up && s.host.resetAt.isNone && (s.cyc.state != .boot || s.host.ready)

/-- The queue or session exists and is running; PAUSE.REQUEST holds PCI Express queues (R376, R401). -/
def State.originOk (o : Origin) (s : State) : Bool :=
  match o with
  | .qp n => (s.host.qps.getD n {}).enabled && !s.host.pauseRequest && s.mayWrite
  | .session n => (s.host.sessions.getD n none).isSome

/-- The stored reply or the command in progress that a datagram's tag matches (R387): the reply is sent again. -/
def State.tagMatch (p : Packet) (s : State) : Option State :=
  match p.origin with
  | .qp _ => none
  | .session n =>
    match s.host.sessions.getD n none with
    | none => some s
    | some x =>
      match x.stored.find? fun e => e.1 == p.tag with
      | some e => some (s.send (.udp x.src x.port e.2))
      | none =>
        if (s.host.inProg.any fun i => i.packet.origin == p.origin && i.packet.tag == p.tag) ||
            (s.host.waiting.any fun w => w.packet.origin == p.origin && w.packet.tag == p.tag) then some s else none

/-- A packet is accepted: it takes the next acceptance number and starts, or waits. -/
def accept (c : CmdSpec) (p : Packet) (s : State) : State :=
  if !s.accepts || !s.originOk p.origin then s
  else match s.tagMatch p with
    | some s1 => s1
    | none =>
      let acc := s.host.nextAcc
      let s1 := { s with host := { s.host with nextAcc := acc + 1 } }
      if s1.blocked acc p then s1.wait acc c.opcode p none else start c false acc p s1

/-- A command row: the packet's fetch or arrival, at its DT. -/
def serve (c : CmdSpec) (p : Packet) (s : State) : Host.Outcome State Fault Refusal := s.event p.t (accept c p)

end Sys2Proof.Machine
end

