-- ==== Sys2Proof/Machine/Dma.lean ====
section
/-! DEFINITION. The DMA channels (16): descriptors, bursts, completion entries, chains, paced peripherals, control. -/

namespace Sys2Proof.Machine

def State.chan (s : State) (c : Nat) : DmaChannel := s.dma.channels.getD c {}
def State.setChan (c : Nat) (f : DmaChannel → DmaChannel) (s : State) : State :=
  { s with dma := { s.dma with channels := updAt s.dma.channels c f } }

/-! `DMA.CHANNEL_CFG` (Table 16.19). -/
def chanCfgId (c : Nat) : Nat := 0xD100 + c
def State.chanCfg (s : State) (c off len : Nat) : Nat := byteField (s.dparam (chanCfgId c)) off len
def State.chanSplit (s : State) (c : Nat) : Bool := (s.chanCfg c 0 1).testBit 1 || (s.chan c).bufferOut
def State.chanVector (s : State) (c : Nat) : Nat := s.chanCfg c 1 1
def State.chanSlots (s : State) (c : Nat) : Nat := 2 ^ s.chanCfg c 2 1
def State.chanChain (s : State) (c : Nat) : Nat := s.chanCfg c 8 8
def State.chanRing (s : State) (c : Nat) : Nat := s.chanCfg c 16 8

/-! Fields of the descriptor in progress (Table 16.2). -/
def DmaChannel.dField (ch : DmaChannel) (off len : Nat) : Nat := field ch.desc off len
def DmaChannel.op (ch : DmaChannel) : Nat := ch.dField 8 1
def DmaChannel.srcSpace (ch : DmaChannel) : Nat := ch.dField 9 1 % 4
def DmaChannel.dstSpace (ch : DmaChannel) : Nat := ch.dField 9 1 / 4 % 4
def DmaChannel.endpoint (ch : DmaChannel) : Nat := ch.dField 10 1
def DmaChannel.length (ch : DmaChannel) : Nat := ch.dField 12 4
def DmaChannel.src (ch : DmaChannel) : Nat := ch.dField 16 8
def DmaChannel.dst (ch : DmaChannel) : Nat := ch.dField 24 8
/-- COPY with a peripheral on one side; only COPY may have one (R422). -/
def DmaChannel.fromPeriph (ch : DmaChannel) : Bool := ch.op == 0 && ch.srcSpace == 2
def DmaChannel.toPeriph (ch : DmaChannel) : Bool := ch.op == 0 && ch.dstSpace == 2
def DmaChannel.periph (ch : DmaChannel) : Bool := ch.fromPeriph || ch.toPeriph
/-- The host's bytes the burst reads: of a COPY or COMPARE source, and of a COMPARE destination. -/
def DmaChannel.readsHost (ch : DmaChannel) : Bool := (ch.op != 1 && ch.srcSpace == 1) || (ch.op == 2 && ch.dstSpace == 1)
/-- COUNT after a failure or a stop: bytes written (Table 16.5). -/
def DmaChannel.countWritten (ch : DmaChannel) : Nat := if ch.op = 2 then 0 else ch.moved

/-- Burst size of an endpoint (Table 16.6). -/
def endpointBurst (e : Nat) : Nat := if e < 2 then 256 else 64
/-- Length of the next burst (R424). -/
def DmaChannel.burst (ch : DmaChannel) : Nat :=
  let left := ch.length - ch.moved
  if ch.periph then min left (endpointBurst ch.endpoint)
  else
    let toEdge (a : Nat) : Nat := 2048 - (a + ch.moved) % 2048
    min (min left (if ch.op = 1 then 2048 else toEdge ch.src)) (toEdge ch.dst)

/-- A burst can be in progress: the channel moves, may use its spaces, holds no bytes, and its endpoint requests (R430, R437). -/
def State.inBurst (s : State) (c : Nat) : Bool :=
  let ch := s.chan c
  ch.mode == .running && ch.step == .move && ch.held.isEmpty && (decide (16 ≤ c) || s.mayWrite) &&
    (!ch.periph || s.dma.requests.getD ch.endpoint false)

def State.ringFree (s : State) (c : Nat) : Bool := decide ((s.chan c).used < s.chanSlots c)

/-- WAIT (Table 16.11). -/
def State.chanWait (s : State) (c : Nat) : Nat :=
  let ch := s.chan c
  if ch.mode != .running then 0
  else if !s.mayWrite && decide (c < 16) then 3
  else if ch.step == .fetch && !s.ringFree c then 1
  else if ch.step == .move && ch.periph && (!ch.held.isEmpty || !s.dma.requests.getD ch.endpoint false) then 2
  else 0

def stateNumber : DmaMode → Nat
  | .disabled => 0 | .parked => 1 | .running => 2 | .halted => 3
/-- DMA_STATUS (Table 16.11). -/
def State.dmaStatus (s : State) (c : Nat) : Nat :=
  let ch := s.chan c
  stateNumber ch.mode + (if ch.bufferOut then 8 else 0) + (if ch.dbPending then 16 else 0) + 4096 * s.chanWait c + 65536 * ch.tail

/-- A completion entry (R427, R428, Table 16.5), an entry of the channel's vector (R429). -/
def State.dmaEntry (c tag count status : Nat) (s : State) : State :=
  let ch := s.chan c
  let flags := (if ch.short then 1 else 0) + (if ch.mismatch then 2 else 0) + (if ch.splitUsed then 4 else 0)
  let bytes := leBytes 8 tag ++ leBytes 4 count ++ leBytes 2 status ++ leBytes 1 flags ++
    leBytes 1 (c + (if ch.phase then 128 else 0)) ++ leBytes 8 ch.addr ++ leBytes 8 s.dt
  let wraps := ch.tail + 1 == s.chanSlots c
  (s.hostEntry (s.chanVector c) [(s.chanRing c + 32 * ch.tail, bytes)]).setChan c fun ch =>
    { ch with
      tail := if wraps then 0 else ch.tail + 1
      phase := if wraps then !ch.phase else ch.phase
      used := ch.used + 1 }

/-- The channel becomes HALTED on its descriptor; its interrupt source is asserted (R429), and the STOPs that waited are answered
(R443). -/
def State.dmaHalted (c : Nat) (s : State) : State :=
  let stops := (s.chan c).stops
  ((s.setChan c fun ch => { ch with mode := .halted, dbPending := false, stops := [], held := [] }).sourceLevel (90 + c) true).completeAll stops stOk

/-- The channel halts with an entry, whatever ENTRY holds (R427). No entry is written over one that has not been released (R428). -/
def State.dmaHalt (c tag count status : Nat) (s : State) : State :=
  (if s.ringFree c then s.dmaEntry c tag count status else s).dmaHalted c

/-- Halted by a failed read, counted in `DMA.READ_FAIL_COUNT`. -/
def State.dmaReadFail (c tag count status : Nat) (s : State) : State :=
  { s with dma := { s.dma with readFails := inc32 s.dma.readFails } }.dmaHalt c tag count status

/-- The end decision begins: db_pending is cleared and the LINK word of the descriptor is read (R435). -/
def State.dmaDecide (c : Nat) (belled : Bool) (s : State) : State :=
  (s.setChan c fun ch => { ch with mode := .running, step := .decide, dbPending := false, belled := belled }).sourceLevel (90 + c) false

/-! R422. -/

/-- A DRAM side of a descriptor lies outside the memory a host descriptor may name. -/
def sideOutside (s : State) (used : Bool) (space addr len : Nat) : Bool :=
  used && space == 0 && len != 0 && !s.dramOk addr len
/-- The endpoint does not serve the descriptor: reserved, the other direction, or not for host use (Table 16.6). -/
def badEndpoint (c : Nat) (source : Bool) (e : Nat) : Bool :=
  decide (3 < e) || (e % 2 == 0) != source || (decide (c < 16) && decide (e < 2))

/-- The checks of a fetched descriptor, in order. -/
def descCheck (c : Nat) (ch : DmaChannel) (s : State) : Option Nat :=
  let sp := ch.dField 9 1
  let pSrc := ch.srcSpace == 2
  let pDst := ch.dstSpace == 2
  firstFail [
    (ch.dField 0 1 / 2 % 32 != 0 || decide (16 ≤ sp) || decide (2 ≤ ch.dField 11 1) || !allZero (slice ch.desc 48 16), stRange),
    (decide (3 < ch.op) || ch.srcSpace == 3 || ch.dstSpace == 3, stRange),
    (ch.src != 0 && (ch.op == 1 || ch.op == 3 || pSrc), stRange),
    (ch.dst != 0 && (ch.op == 3 || pDst), stRange),
    (ch.op != 1 && ch.dField 32 8 != 0, stRange),
    (ch.endpoint != 0 && !pSrc && !pDst, stRange),
    ((pSrc && pDst) || ((pSrc || pDst) && ch.op != 0), stRange),
    ((pSrc || pDst) && badEndpoint c pSrc ch.endpoint, stRange),
    (sideOutside s (ch.op == 0 || ch.op == 2) ch.srcSpace ch.src ch.length, stRange),
    (sideOutside s (decide (ch.op < 3)) ch.dstSpace ch.dst ch.length, stRange),
    (ch.src % 64 != 0 || ch.dst % 64 != 0 || ch.length % 64 != 0, stAlign)]

/-- A descriptor's bytes arrive: it is checked before any byte moves (R422, R423, R428). -/
def State.dmaFetched (c : Nat) (bytes : List Byte) (s : State) : State :=
  let ch0 := s.chan c
  if ch0.mode != .running || ch0.step != .fetch || bytes.length != 64 || !s.ringFree c || !s.mayWrite then s
  else
    let s1 := s.setChan c fun ch =>
      { ch with
        addr := ch.next
        desc := bytes
        moved := 0
        held := []
        splitUsed := false
        short := false
        mismatch := false }
    let ch := s1.chan c
    match descCheck c ch s1 with
    | some st => s1.dmaHalt c (ch.dField 40 8) 0 st
    | none => s1.setChan c fun ch => { ch with step := if ch.op = 3 ∨ ch.length = 0 then .ending else .move }

/-! Bursts. -/

/-- Bytes of one side of a burst: DRAM's own, or those the command brings; `none` when it brings the wrong number. -/
def State.sideBytes (s : State) (space addr n : Nat) (given : List Byte) : Option (List Byte) :=
  if space = 0 then some (s.dramRead addr n) else if given.length = n then some given else none
/-- PATTERN repeated from offset `o` (Table 16.3); bursts start at multiples of 64. -/
def fillBytes (pattern n : Nat) : List Byte := ((List.replicate (n / 8) (leBytes 8 pattern)).flatten)
/-- Index of the first difference of two byte strings. -/
def firstDiff : List Byte → List Byte → Option Nat
  | a :: as, b :: bs => if a = b then (firstDiff as bs).map (· + 1) else some 0
  | _, _ => none

/-- A burst's bytes written to the destination (R424, R432). -/
def State.dmaWrite (c : Nat) (ch : DmaChannel) (bytes : List Byte) (s : State) : State :=
  let a := ch.dst + ch.moved
  let s1 :=
    if ch.dstSpace = 0 then s.dramWrite a bytes
    else if ch.dstSpace = 2 then s.send (.endpoint ch.endpoint bytes)
    else if s.mayWrite then s.send (.hostWrite a bytes) else s
  let split := s.chanSplit c
  s1.setChan c fun x =>
    { x with
      splitUsed := x.splitUsed || split
      written := satNat (2 ^ 64 - 1) (x.written + bytes.length) }

/-- After a burst: a channel that was disabled stops (R420), a STOP ends the descriptor with ABORTED (R441), the descriptor ends
when all its bytes are moved, or the channel goes on. -/
def State.dmaAfter (c : Nat) (s : State) : State :=
  let ch := s.chan c
  if ch.draining then s.setChan c fun ch => { ch with draining := false }
  else if !ch.stops.isEmpty then s.dmaHalt c (ch.dField 40 8) ch.countWritten stAborted
  else if ch.short || ch.mismatch || decide (ch.length ≤ ch.moved) then s.setChan c fun ch => { ch with step := .ending }
  else s

/-- One burst completes (R424, R425, R430): `src` and `dst` are the bytes that host memory or the endpoint gives. -/
def State.dmaBurst (c : Nat) (src dst : List Byte) (s : State) : State :=
  let ch := s.chan c
  let n := ch.burst
  if !(s.inBurst c || ch.draining) then s
  else
    let srcUsed := ch.op != 1
    let bad := (srcUsed && ch.srcSpace == 0 && s.poisoned (ch.src + ch.moved) n) ||
      (ch.op == 2 && ch.dstSpace == 0 && s.poisoned (ch.dst + ch.moved) n)
    if bad then
      let s1 := if srcUsed && ch.srcSpace == 0 then s.poisonSeen (ch.src + ch.moved) n else s
      let s2 := if ch.op == 2 && ch.dstSpace == 0 then s1.poisonSeen (ch.dst + ch.moved) n else s1
      if ch.draining then s2.setChan c fun ch => { ch with draining := false }
      else s2.dmaReadFail c (ch.dField 40 8) ch.countWritten stIntegrity
    else if ch.op = 1 then
      ((s.dmaWrite c ch (fillBytes (ch.dField 32 8) n)).setChan c fun x => { x with moved := x.moved + n }).dmaAfter c
    else match s.sideBytes ch.srcSpace (ch.src + ch.moved) n src with
      | none => s
      | some a =>
        if ch.op = 0 then ((s.dmaWrite c ch a).setChan c fun x => { x with moved := x.moved + n }).dmaAfter c
        else match s.sideBytes ch.dstSpace (ch.dst + ch.moved) n dst with
          | none => s
          | some b =>
            let split := s.chanSplit c
            (match firstDiff a b with
              | some k => s.setChan c fun x => { x with moved := x.moved + k, mismatch := true, splitUsed := x.splitUsed || split }
              | none => s.setChan c fun x => { x with moved := x.moved + n, splitUsed := x.splitUsed || split }).dmaAfter c

/-- A descriptor ends (R426, R427): its entry, its counts, the end decision. -/
def State.dmaEnd (c : Nat) (s : State) : State :=
  let ch := s.chan c
  if ch.mode != .running || ch.step != .ending || !s.mayWrite then s
  else
    let wants := (ch.dField 11 1).testBit 0 || ch.short || ch.mismatch
    let s1 := if wants then s.dmaEntry c (ch.dField 40 8) ch.moved stOk else s
    (s1.setChan c fun x =>
      { x with
        completed := satNat (2 ^ 64 - 1) (x.completed + 1)
        splits := if x.splitUsed then inc32 x.splits else x.splits
        shorts := if x.short then inc32 x.shorts else x.shorts }).dmaDecide c false

/-- The end decision's read returns (R435): the channel follows NEXT, reads again, or parks. -/
def State.dmaLink (c w : Nat) (s : State) : State :=
  let ch := s.chan c
  if ch.mode != .running || ch.step != .decide || !s.mayWrite then s
  else if !w.testBit 0 then s.setChan c fun ch => { ch with next := w / 64 * 64 % 2 ^ 64, step := .fetch, belled := false }
  else if ch.dbPending then s.setChan c fun ch => { ch with dbPending := false }
  else s.setChan c fun ch =>
    { ch with
      mode := .parked
      parkedBells := if ch.belled then inc32 ch.parkedBells else ch.parkedBells
      belled := false }

/-- A read of host memory fails (R422, R430). The TAG of a descriptor that was not fetched is a free value (log entry 2). -/
def State.dmaReadFailed (c : Nat) (s : State) : State :=
  let ch := s.chan c
  if ch.mode != .running || !s.mayWrite then s
  else match ch.step with
    | .move => if ch.readsHost && s.inBurst c then s.dmaReadFail c (ch.dField 40 8) ch.countWritten stReadFailed else s
    | .ending => s
    | .fetch =>
      if !s.ringFree c then s
      else
        let r := s.take
        (r.2.setChan c fun ch => { ch with addr := ch.next, splitUsed := false, short := false, mismatch := false }).dmaReadFail
          c (Config.freeValue r.1 % 2 ^ 64) 0 stReadFailed
    | .decide =>
      let r := s.take
      (r.2.setChan c fun ch => { ch with splitUsed := false, short := false, mismatch := false }).dmaReadFail
        c (Config.freeValue r.1 % 2 ^ 64) 0 stReadFailed

/-! Endpoints (R437 to R440). -/

/-- Bytes held for an endpoint are delivered first when its request returns (R439). -/
def State.deliverHeld (e c : Nat) (s : State) : State :=
  let ch := s.chan c
  if ch.mode == .running && ch.step == .move && ch.toPeriph && ch.endpoint == e && !ch.held.isEmpty then
    ((s.send (.endpoint e ch.held)).setChan c fun x => { x with moved := x.moved + x.held.length, held := [] }).dmaAfter c
  else s

def State.periphRequest (e : Nat) (s : State) : State :=
  (List.range 32).foldl (fun (s : State) (c : Nat) => s.deliverHeld e c)
    { s with dma := { s.dma with requests := s.dma.requests.set e true } }

/-- The burst of channel `c` on endpoint `e` when it withdraws: `n` bytes were supplied or accepted, `bytes` are the supplied ones,
or the burst's bytes where its source is host memory. -/
def State.withdrawn (e c n : Nat) (bytes : List Byte) (s : State) : State :=
  let ch := s.chan c
  let size := ch.burst
  if !s.inBurst c || ch.endpoint != e || decide (size ≤ n) then s
  else if ch.fromPeriph then
    if bytes.length != n then s
    else
      let s1 := s.dmaWrite c ch (padTo size bytes)
      if ch.stops.isEmpty then (s1.setChan c fun x => { x with moved := x.moved + n, short := true }).dmaAfter c
      else (s1.setChan c fun x => { x with moved := x.moved + size }).dmaAfter c
  else if ch.toPeriph then
    match s.sideBytes ch.srcSpace (ch.src + ch.moved) size bytes with
    | none => s
    | some a =>
      let s1 := (s.dmaWrite c ch (a.take n)).setChan c fun x => { x with moved := x.moved + n, held := a.drop n }
      if ch.stops.isEmpty then s1 else s1.dmaAfter c
  else s

def State.periphWithdraw (e c n : Nat) (bytes : List Byte) (s : State) : State :=
  let s1 := if s.dma.requests.getD e false then s.withdrawn e c n bytes else s
  { s1 with dma := { s1.dma with requests := s1.dma.requests.set e false } }

/-! Disabling, configuration and the burst buffer. -/

/-- R420: a host channel is disabled in its state at the time; a burst in progress finishes, no entry is written, and the STOPs that
waited end with ABORTED. -/
def State.dmaDisable (c : Nat) (s : State) : State :=
  let ch := s.chan c
  if ch.mode == .disabled then s
  else
    let busy := s.inBurst c && !ch.periph
    let cfg := s.dparam (chanCfgId c)
    (((s.setChan c fun ch => { ch with mode := .disabled, draining := busy, dbPending := false, held := [], stops := [] }).sourceLevel
      (90 + c) false).setParam (chanCfgId c) devScope (cfg / 2 * 2)).completeAll ch.stops stAborted
def State.dmaDisableHost (s : State) : State := (List.range 16).foldl (fun (s : State) (c : Nat) => s.dmaDisable c) s

/-- A channel as a `DMA.CHANNEL_CFG` write leaves it (Table 16.9); its counts are kept. -/
def State.dmaConfigured (c : Nat) (s : State) : State :=
  let on := (s.chanCfg c 0 1).testBit 0
  let chain := s.chanChain c
  (s.setChan c fun ch =>
    { ch with
      mode := if on then .parked else .disabled
      step := .decide
      dbPending := false
      belled := false
      addr := if on then chain else ch.addr
      desc := if on then [] else ch.desc
      moved := 0
      held := []
      draining := false
      splitUsed := false
      short := false
      mismatch := false
      tail := if on then 0 else ch.tail
      head := if on then 0 else ch.head
      used := if on then 0 else ch.used
      phase := on || ch.phase }).sourceLevel (90 + c) false

/-- An uncorrectable error in a channel's burst buffer (R433): bytes of a peripheral source are lost, a memory source is read again
in split mode. -/
def State.dmaBufferLost (c : Nat) (s : State) : State :=
  let ch := s.chan c
  let s1 := s.setChan c fun ch => { ch with bufferOut := true }
  if ch.mode == .running && ch.step == .move && ch.fromPeriph && s.inBurst c then
    s1.dmaReadFail c (ch.dField 40 8) ch.countWritten stIntegrity
  else s1

/-! Rows. -/

/-- The BAR0 registers answer the host: the function is ready and not in D3hot. -/
def State.bar0 (s : State) : Bool := s.up && s.host.ready && !s.host.d3hot

def execDmaDoorbell (t c w : Nat) (s : State) : Host.Outcome State Fault Refusal :=
  s.event t fun s =>
    if !s.bar0 || decide (16 ≤ c) then s
    else if !w.testBit 0 then s.reservedWrite
    else match (s.chan c).mode with
      | .disabled => s.badDoorbell
      | .parked => s.dmaDecide c true
      | .running => s.setChan c fun ch => { ch with dbPending := true, doorbells := inc32 ch.doorbells }
      | .halted => s.setChan c fun ch => { ch with doorbells := inc32 ch.doorbells }

/-- DMA_RING_HEAD_WRITE (R428). -/
def execDmaRingHeadWrite (t c v : Nat) (s : State) : Host.Outcome State Fault Refusal :=
  s.event t fun s =>
    let ch := s.chan c
    let size := s.chanSlots c
    let v := v % 65536
    let released := (v + size - ch.head % size) % size
    if !s.bar0 || decide (16 ≤ c) then s
    else if ch.mode == .disabled || decide (size ≤ v) || decide (ch.used < released) then s.badDoorbell
    else s.setChan c fun ch => { ch with head := v, used := ch.used - released }

def execDmaLinkReadReturn (t c w : Nat) (s : State) : Host.Outcome State Fault Refusal :=
  s.event t fun s => if c < 16 then s.dmaLink c w else s
def execDmaDescriptorFetch (t c : Nat) (bytes : List Byte) (s : State) : Host.Outcome State Fault Refusal :=
  s.event t fun s => if c < 16 then s.dmaFetched c bytes else s
def execDmaBurstEnd (t c : Nat) (src dst : List Byte) (s : State) : Host.Outcome State Fault Refusal :=
  s.event t fun s => if c < 16 then s.dmaBurst c src dst else s
def execDmaDescriptorEnd (t c : Nat) (s : State) : Host.Outcome State Fault Refusal :=
  s.event t fun s => if c < 16 then s.dmaEnd c else s
def execDmaReadFailed (t c : Nat) (s : State) : Host.Outcome State Fault Refusal :=
  s.event t fun s => if c < 16 then s.dmaReadFailed c else s
def execPeriphRequest (t e : Nat) (s : State) : Host.Outcome State Fault Refusal :=
  s.event t fun s => if e < 4 then s.periphRequest e else s
def execPeriphWithdraw (t e c n : Nat) (bytes : List Byte) (s : State) : Host.Outcome State Fault Refusal :=
  s.event t fun s => if e < 4 then s.periphWithdraw e c n bytes else s

/-! `DMA_CHANNEL_CTRL` (R443): one opcode, OP in byte 1. -/

def dmaCtrlSpec (op : Nat) (mode : DmaMode) (run : Nat → Nat → State → State × Answer) : CmdSpec :=
  { opcode := 0xD100
    lenOk := fun p => p.params.length == 8
    stateFail := fun _ s => permitIn [.standby, .ready, .armed, .hold, .safe, .service, .recovery] s
    checks := fun p s => [
      noScope p,
      (decide (15 < p.fld 0 1) || p.fld 1 1 != op || !p.zeroAt 2 6, stRange),
      ((s.chan (p.fld 0 1)).mode != mode, stDmaState)]
    run := fun acc p s => run acc (p.fld 0 1) s }

/-- STOP: a burst in progress completes first; a channel that waits halts at once (R440, R441). With no descriptor in progress the
entry's COUNT is 0. -/
def dmaStopSpec : CmdSpec := dmaCtrlSpec 0 .running fun acc c s =>
  let ch := s.chan c
  let s1 := s.setChan c fun ch => { ch with stops := ch.stops ++ [acc] }
  if s.inBurst c then (s1, .accepted)
  else if ch.step == .move || ch.step == .ending then (s1.dmaHalt c (ch.dField 40 8) ch.countWritten stAborted, .later)
  else
    let r := s1.take
    let tag := if ch.desc.isEmpty then Config.freeValue r.1 % 2 ^ 64 else ch.dField 40 8
    ((r.2.setChan c fun ch => { ch with short := false, mismatch := false, splitUsed := false }).dmaHalt c tag 0 stAborted, .later)

/-- RETRY: the halted descriptor is fetched again. An anchor is never executed (R434): its end decision is made again. -/
def dmaRetrySpec : CmdSpec := dmaCtrlSpec 1 .halted fun _ c s =>
  if (s.chan c).addr = s.chanChain c then (s.dmaDecide c false, .done stOk [])
  else ((s.setChan c fun ch => { ch with mode := .running, step := .fetch, next := ch.addr, dbPending := false, belled := false }).sourceLevel
    (90 + c) false, .done stOk [])

/-- SKIP: the halted descriptor counts as finished. -/
def dmaSkipSpec : CmdSpec := dmaCtrlSpec 2 .halted fun _ c s => (s.dmaDecide c false, .done stOk [])

def execDmaStop (p : Packet) (s : State) : Host.Outcome State Fault Refusal := serve dmaStopSpec p s
def execDmaRetry (p : Packet) (s : State) : Host.Outcome State Fault Refusal := serve dmaRetrySpec p s
def execDmaSkip (p : Packet) (s : State) : Host.Outcome State Fault Refusal := serve dmaSkipSpec p s

end Sys2Proof.Machine
end

