-- ==== Sys2Proof/Machine/Pixels.lean ====
section
/-! DEFINITION. The colour path and the statistics of layer imaging (R269 to R277), on one frame. -/

namespace Sys2Proof.Machine

/-! Fields of `IMG.PORT_CFG` (Table 09.14). -/
def camEnable (c : Nat) : Bool := c.testBit 0
def camMosaic (c : Nat) : Nat := bits c 1 2
def camStripeMux (c : Nat) : Bool := c.testBit 3
def camMaxSpeed (c : Nat) : Nat := byteField c 1 1
def camWidth (c : Nat) : Nat := byteField c 2 2
def camHeight (c : Nat) : Nat := byteField c 4 2
def camPixel (c : Nat) : Nat := byteField c 6 1
def camFormat (c : Nat) : Nat := byteField c 7 1

/-- Bits of a pixel (Table 09.4). -/
def pixelBits (f : Nat) : Nat :=
  if f = 0 ∨ (4 ≤ f ∧ f < 8) then 8 else if f = 1 ∨ (8 ≤ f ∧ f < 12) then 10 else if f = 3 then 16 else 12
def isBayer (f : Nat) : Bool := decide (4 ≤ f)
/-- Bytes of a stripe of 64 lines. -/
def stripeSize (c : Nat) : Nat := camWidth c * (if pixelBits (camPixel c) = 8 then 64 else 128)

/-- Channel of a site, 0 R, 1 G, 2 B, 3 X: Table 09.7 in mosaic mode, else the Bayer pattern, or G. -/
def siteOf (mosaic fmt x y : Nat) : Nat :=
  if mosaic = 1 then ([2, 1, 0, 1, 1, 3, 1, 3, 0, 1, 2, 1, 1, 3, 1, 3].getD (4 * (y % 4) + x % 4) 1)
  else if mosaic = 2 then ([0, 3, 1, 3, 3, 1, 3, 2, 1, 3, 0, 3, 3, 2, 3, 1].getD (4 * (y % 4) + x % 4) 1)
  else if isBayer fmt then
    match fmt % 4 with
    | 0 => [0, 1, 1, 2].getD (2 * (y % 2) + x % 2) 1
    | 1 => [1, 0, 2, 1].getD (2 * (y % 2) + x % 2) 1
    | 2 => [1, 2, 0, 1].getD (2 * (y % 2) + x % 2) 1
    | _ => [2, 1, 1, 0].getD (2 * (y % 2) + x % 2) 1
  else 1

/-- The channels a frame carries. -/
def channelsOf (mosaic fmt : Nat) : List Nat := if mosaic ≠ 0 then [0, 1, 2, 3] else if isBayer fmt then [0, 1, 2] else [1]

/-- What the colour path reads: geometry, settings, the input lines. -/
structure PixEnv where
  number : Nat
  w : Nat
  h : Nat
  mosaic : Nat
  fmt : Nat
  set : PipeSet
  lines : List (List Nat)

/-- `w(s)` of R269. -/
def PixEnv.site (e : PixEnv) (x y : Nat) : Nat :=
  ((e.lines.getD y []).getD x 0) * 2 ^ (16 - pixelBits e.fmt) - byteField e.set.black (2 * siteOf e.mosaic e.fmt x y) 2

/-- The values of channel `c` within `r` of `(x, y)`, inside the frame. -/
def PixEnv.window (e : PixEnv) (c r x y : Nat) : List Nat :=
  (List.range (2 * r + 1)).flatMap fun j => (List.range (2 * r + 1)).filterMap fun i =>
    if r ≤ x + i ∧ r ≤ y + j ∧ x + i - r < e.w ∧ y + j - r < e.h ∧ siteOf e.mosaic e.fmt (x + i - r) (y + j - r) = c
    then some (e.site (x + i - r) (y + j - r)) else none

def meanOf (l : List Nat) : Nat := roundNat (l.foldl (· + ·) 0) l.length

/-- `in[c]` of R269. -/
def PixEnv.input (e : PixEnv) (c x y : Nat) : Nat :=
  if siteOf e.mosaic e.fmt x y = c then e.site x y
  else
    let near := e.window c 1 x y
    let far := e.window c 2 x y
    if !near.isEmpty then meanOf near
    else if !far.isEmpty then meanOf far
    else Config.emptyMean e.number x y c % 65536

/-- `tone(c, v)` of R269. -/
def PipeSet.tone (p : PipeSet) (c v : Nat) : Nat :=
  let i := v / 64
  let f := v % 64
  roundNat (p.tones.getD (1024 * c + i) 0 * (64 - f) + p.tones.getD (1024 * c + min (i + 1) 1023) 0 * f) 64

/-- Output channels R, G, B, X of a pixel (R269); X is zero in native mode. -/
def PixEnv.pixel (e : PixEnv) (x y : Nat) : List Nat :=
  let g (c : Nat) : Nat := satNat 65535 (roundNat (e.input c x y * byteField e.set.gain (2 * c) 2) 4096)
  let gs : List Nat :=
    if e.mosaic ≠ 0 then [g 0, g 1, g 2, g 3]
    else if isBayer e.fmt then [g 0, g 1, g 2]
    else
      let i := e.input 1 x y
      [0, 1, 2].map fun c => satNat 65535 (roundNat (i * byteField e.set.gain (2 * c) 2) 4096)
  let m (c : Nat) : Nat :=
    (clampInt 0 65535 (roundDiv ((gs.zipIdx.map fun v => toSigned 16 (byteField e.set.colour (8 * c + 2 * v.2) 2) * v.1).foldl (· + ·) 0) 4096)).toNat
  [e.set.tone 0 (m 0), e.set.tone 1 (m 1), e.set.tone 2 (m 2)] ++ (if e.mosaic ≠ 0 then [e.set.tone 3 (gs.getD 3 0)] else [0])

/-- Luminance (R275). -/
def luminance (px : List Nat) : Nat := roundNat (77 * px.getD 0 0 + 150 * px.getD 1 0 + 29 * px.getD 2 0) 256

/-- Bytes per output pixel (Table 09.9). -/
def outBytes (fmt pix : Nat) : Nat := match fmt with | 1 => 4 | 2 => 2 | 3 => 8 | 4 => if pixelBits pix = 8 then 1 else 2 | _ => 0
def outPitch (fmt pix w : Nat) : Nat := (w * outBytes fmt pix + 63) / 64 * 64
/-- A pixel in the output format (Table 09.9). -/
def outPixel (fmt pix raw : Nat) (px : List Nat) : List Byte :=
  match fmt with
  | 1 => leBytes 4 (px.getD 0 0 + 1024 * px.getD 1 0 + 1048576 * px.getD 2 0)
  | 2 => leBytes 2 (luminance px)
  | 3 => (List.range 4).flatMap fun c => leBytes 2 (px.getD c 0)
  | 4 => leBytes (outBytes 4 pix) raw
  | _ => []

/-! Statistics (R274, Table 09.12); `out` is the frame's output lines. -/

def channelValue (c : Nat) (px : List Nat) : Nat := if c = 3 then luminance px else px.getD c 0
/-- Counts of `floor(v / 4)` over a list. -/
def histogram (vs : List Nat) : List Nat := (List.range 256).map fun n => (vs.filter fun v => v / 4 == n).length
def zoneMean (w h zx zy c : Nat) (out : List (List (List Nat))) : Nat :=
  let x0 := zx * w / 32
  let y0 := zy * h / 32
  let rows := (out.drop y0).take ((zy + 1) * h / 32 - y0)
  let vs := rows.flatMap fun r => ((r.drop x0).take ((zx + 1) * w / 32 - x0)).map (channelValue c)
  roundNat (64 * vs.foldl (· + ·) 0) (max 1 vs.length)
def statsPayload (w h : Nat) (out : List (List (List Nat))) : List Byte :=
  ((List.range 4).flatMap fun c => (histogram (out.flatten.map (channelValue c))).flatMap (leBytes 4)) ++
  ((List.range 32).flatMap fun zy => (List.range 32).flatMap fun zx => (List.range 4).flatMap fun c => leBytes 2 (zoneMean w h zx zy c out))

/-- The bed point of a pixel centre (R276), in sub-units of 2⁻¹⁶ bed unit; `none` where D ≤ 0. -/
def bedMapPoint (m : Nat) (x y : Nat) : Option (Int × Int) :=
  let e (k : Nat) : Int := toSigned 64 (byteField m (8 * k) 8)
  let u : Int := 2 * x + 1
  let v : Int := 2 * y + 1
  let f (r : Nat) : Int := e (3 * r) * u + e (3 * r + 1) * v + 2 * e (3 * r + 2)
  let d := f 2
  if d ≤ 0 then none else some (roundDiv (f 0 * 65536) d.toNat, roundDiv (f 1 * 65536) d.toNat)

/-- A statistics-stream entry header (Table 09.10). -/
structure EntryHead where
  type : Nat
  port : Nat := 0
  role : Nat := 0
  number : Nat := 0
  dtA : Nat := 0
  layer : Nat := 0
  genPipe : Nat := 0
  genCamera : Nat := 0
  marks : Nat := 0
  missing : Nat := 0
  index : Nat := 0
  tag : Nat := 0
  outSlot : Nat := 0
  crc : Nat := 0
  dtB : Nat := 0

def EntryHead.bytes (e : EntryHead) : List Byte :=
  leBytes 4 0x53495853 ++ leBytes 1 0x10 ++ leBytes 1 e.type ++ leBytes 1 e.port ++ leBytes 1 e.role ++ leBytes 8 e.number ++
  leBytes 8 e.dtA ++ leBytes 4 e.layer ++ leBytes 4 e.genPipe ++ leBytes 4 e.genCamera ++ leBytes 2 e.marks ++ leBytes 2 e.missing ++
  leBytes 1 e.index ++ zeros 1 ++ leBytes 2 e.tag ++ leBytes 4 (if e.type = 1 then 12352 else 64) ++ leBytes 4 e.outSlot ++
  leBytes 4 e.crc ++ leBytes 8 e.dtB

end Sys2Proof.Machine
end

