-- ==== Sys2Proof/Machine/Imaging.lean ====
section
/-! DEFINITION. Layer imaging on the state (R257 to R281): ports, control queues, triggers, frames, stripes, the pipeline,
settings generations, the statistics stream. -/

namespace Sys2Proof.Machine

def State.port (s : State) (p : Nat) : ImgPort := s.img.ports.getD p {}
def State.setPort (p : Nat) (f : ImgPort → ImgPort) (s : State) : State :=
  { s with img := { s.img with ports := updAt s.img.ports p f } }
/-- The layer-imaging function is host-assisted (Table 20.5). -/
def State.imgAssisted (s : State) : Bool := s.assisted fnImg
/-- 1 ms and 1 µs in DT. -/
def msDt : Nat := 16000000
def usDt : Nat := 16000

/-! The statistics stream (R277, R278). -/

def statsGap (g : Gap) : List Byte := ({ type := 4, number := g.count, dtA := g.first, dtB := g.last } : EntryHead).bytes
/-- One entry; with a ring of size 0 it is dropped and counted. -/
def State.statsEntry (keep : Bool) (bs : List Byte) (s : State) : State :=
  if s.streamOn 2 then (s.append 2 statsGap keep bs).1
  else s.setStream 2 fun x => { x with drops := inc32 x.drops, gap := addGap s.dt x.gap }

/-! Control queue (R260). -/

/-- The front transaction is sent when it has not been. -/
def State.camKick (p : Nat) (s : State) : State :=
  let x := s.port p
  match x.queue with
  | c :: rest =>
    if c.attempts = 0 && x.link == .up then
      (s.setPort p fun x => { x with queue := { c with attempts := 1, since := s.dt } :: rest }).send (.camControl p c.write c.addr c.data c.len)
    else s
  | [] => s

/-- The front transaction leaves the queue. -/
def State.camPop (p : Nat) (s : State) : State := (s.setPort p fun x => { x with queue := x.queue.drop 1 }).camKick p

/-- A commit's camera write is outstanding (R272). -/
def ImgPort.writing (x : ImgPort) : Bool := x.queue.any fun c => c.acc.isNone

/-! Settings generations (R272, R273). -/

/-- Register writes of `IMG.CAM_REGS`. -/
def camWrites (regs gen : Nat) : List CamCtl :=
  (List.range (byteField regs 0 1)).map fun n =>
    { write := true, addr := byteField regs (8 + 8 * n) 4, data := leBytes 4 (byteField regs (12 + 8 * n) 4), len := 4, dram := 0, acc := none, gen := gen }

/-- The pending settings of a port commit with F_commit = `f`. -/
def State.imgCommit (p f : Nat) (s : State) : State :=
  let x := s.port p
  let gen := (x.gen + 1) % 4294967296
  let started := x.queue.filter fun c => c.attempts != 0
  let fresh := x.queue.filter fun c => c.attempts == 0
  (s.setPort p fun x => { x with
    gen := gen
    fCommit := f
    gens := ((gen, f) :: x.gens.filter fun g => g.2 != f).take 20
    force := { black := s.param 0x8005 p, gain := s.param 0x8006 p, colour := s.param 0x8007 p, tones := x.tones }
    pend := false
    pendCam := false
    queue := started ++ (if x.pendCam then camWrites (s.param 0x8004 p) gen else []) ++ fresh }).camKick p

/-- A trigger waits for its frame (R262). -/
def ImgTrigger.unassigned (t : ImgTrigger) : Bool := t.frame.isNone && !t.missing
/-- No frame in progress and no trigger unassigned (R272). -/
def ImgPort.quiet (x : ImgPort) : Bool := !x.inFrame && !x.triggers.any ImgTrigger.unassigned

/-- Pending settings of a quiet port commit at once unless an earlier commit still writes (R272). -/
def State.commitIfQuiet (p : Nat) (s : State) : State :=
  let x := s.port p
  if x.pend && x.quiet && !x.writing then s.imgCommit p x.nextFrame else s

/-- A write of pipeline or camera settings, already in the store (R272). -/
def State.settingsWritten (p : Nat) (cam : Bool) (s : State) : State :=
  (s.setPort p fun x => { x with pend := true, pendCam := x.pendCam || cam }).commitIfQuiet p

/-- The newest generation with F_commit ≤ `f`, 0 before the first (R273). -/
def genAt (gens : List (Nat × Nat)) (f : Int) : Nat := ((gens.find? fun g => decide ((g.2 : Int) ≤ f)).map (·.1)).getD 0

/-! Frames. -/

def markTruncated : Nat := 1
def markCheck : Nat := 2
def markShort : Nat := 4
def markLong : Nat := 8
def markMissing : Nat := 16
def markNoSlot : Nat := 32
def markFormat : Nat := 64

def setFrame (n : Nat) (f : ImgFrame → ImgFrame) (x : ImgPort) : ImgPort :=
  { x with frames := x.frames.map fun g => if g.number = n then f g else g }
def addMark (m n : Nat) (x : ImgPort) : ImgPort := setFrame n (fun g => { g with marks := g.marks ||| m }) x
def setTrigger (n : Nat) (f : ImgTrigger → ImgTrigger) (x : ImgPort) : ImgPort :=
  { x with triggers := x.triggers.map fun t => if t.frame = some n then f t else t }

/-- The FRAME entry of a frame (R277). -/
def frameEntry (p : Nat) (f : ImgFrame) (dtB : Nat) : List Byte :=
  ({ type := 2, port := p, role := f.role, number := f.number, dtA := f.sof, layer := f.layer, genPipe := f.genPipe, genCamera := f.genCamera,
     marks := f.marks, missing := f.missingStripes, index := f.index, outSlot := f.slot.getD 0, dtB := dtB } : EntryHead).bytes

/-- The output format in force: RAW while the function is host-assisted (R279). -/
def State.outFormat (s : State) (p : Nat) : Nat := if s.imgAssisted then 4 else camFormat (s.port p).cfg

/-- Output lines `from` to `upto` of a frame, into its slot and into the frame's output (R269, R271). -/
def State.outputLines (p n upto : Nat) (s : State) : State :=
  let x := s.port p
  match x.frames.find? fun f => f.number == n with
  | none => s
  | some f =>
    let w := camWidth x.cfg
    let h := camHeight x.cfg
    let fmt := s.outFormat p
    let pix := camPixel x.cfg
    let env : PixEnv := { number := n, w := w, h := h, mosaic := camMosaic x.cfg, fmt := pix, set := f.set, lines := f.input }
    let first := f.output.length
    let rows := (List.range (min upto h - first)).map fun i =>
      if s.imgAssisted then (List.range w).map fun _ => [0, 0, 0, 0] else (List.range w).map fun c => env.pixel c (first + i)
    let ring := s.param 0x800C p
    let bytesOf (r : List (List Nat) × Nat) : List Byte :=
      r.1.zipIdx.flatMap fun q => outPixel fmt pix ((f.input.getD (first + r.2) []).getD q.2 0) q.1
    let s1 := match f.slot with
      | some k => rows.zipIdx.foldl (fun (s : State) (r : List (List Nat) × Nat) =>
          s.dramWrite (byteField ring 0 8 + k * byteField ring 8 4 + (first + r.2) * outPitch fmt pix w) (bytesOf r)) s
      | none => s
    let wrote := f.slot.isSome && !rows.isEmpty
    s1.setPort p (setFrame n fun g => { g with output := g.output ++ rows, lastOut := if wrote then s.dt else g.lastOut })

/-- A frame whose every stripe is finished: the rest of its output, its STATS entry, its FRAME entry (R274, R277). -/
def State.finishFrame (p n : Nat) (s : State) : State :=
  let x := s.port p
  let w := camWidth x.cfg
  let h := camHeight x.cfg
  let fill : ImgFrame → ImgFrame := fun g => { g with input := g.input ++ List.replicate (h - g.input.length) (List.replicate w 0) }
  let s1 := (s.setPort p (setFrame n fill)).outputLines p n h
  match (s1.port p).frames.find? fun f => f.number == n with
  | none => s1
  | some f =>
    let payload := statsPayload w h f.output
    let stats : EntryHead := {
      type := 1, port := p, role := f.role, number := f.number, dtA := f.sof, layer := f.layer, genPipe := f.genPipe
      genCamera := f.genCamera, marks := f.marks, missing := f.missingStripes, index := f.index, crc := crc32c payload }
    let s2 := if s1.imgAssisted then s1 else s1.statsEntry false (stats.bytes ++ payload)
    let s3 := s2.statsEntry false (frameEntry p f (if f.slot.isSome then f.lastOut else 0))
    let keep := f.role = 1 ∧ f.index = 0 ∧ !s.imgAssisted
    s3.setPort p fun x => setTrigger n (fun t => { t with stats := true }) { x with
      frames := x.frames.filter fun g => g.number != n
      exposure := if keep then some (f.layer, f.output.map fun r => r.map luminance) else x.exposure }

/-- The layer a frame or trigger belongs to (Table 09.10). -/
def State.imgLayer (s : State) : Nat := s.recLayer

/-- A frame that is complete, SHORT or LONG has been received (R263). -/
def State.frameReceived (p n : Nat) (s : State) : State :=
  s.setPort p fun x => setTrigger n (fun t => { t with received := true }) (setFrame n (fun g => { g with ended := true }) { x with inFrame := false })

/-! The pipeline (R267). -/

/-- Stripes lost for want of room at the head of a port's list count as zero lines (R266). -/
def ImgPort.skipLost (w h : Nat) : Nat → ImgPort → ImgPort
  | 0, x => x
  | k + 1, x =>
    match x.stripes with
    | st :: rest =>
      if st.lost && st.ready then
        ImgPort.skipLost w h k (setFrame st.frame (fun g =>
          { g with input := g.input ++ List.replicate (min 64 (h - g.input.length)) (List.replicate w 0) }) { x with stripes := rest })
      else x
    | [] => x

/-- The port's next stripe is ready in its buffer. -/
def ImgPort.hasReady (x : ImgPort) : Bool := match x.stripes with | st :: _ => st.ready && !st.spilled && !st.lost | [] => false
/-- SOF DT of the frame of the next stripe. -/
def ImgPort.nextSof (x : ImgPort) : Nat :=
  match x.stripes with
  | st :: _ => ((x.frames.find? fun f => f.number == st.frame).map (·.sof)).getD 0
  | [] => 0

/-- Whether port `a` comes before port `b` in R267's order. -/
def sofBefore (s : State) (a b : Nat) : Bool :=
  decide ((s.port a).nextSof < (s.port b).nextSof ∨ ((s.port a).nextSof = (s.port b).nextSof ∧ a < b))
def sofInsert (s : State) (a : Nat) : List Nat → List Nat
  | [] => [a]
  | b :: bs => if sofBefore s a b then a :: b :: bs else b :: sofInsert s a bs

/-- The port whose stripe the free pipeline takes next (R267). -/
def State.nextStripe (s : State) : Option Nat :=
  match s.img.service with
  | some p => if (s.port p).hasReady then some p else none
  | none =>
    let ready := ((List.range 8).filter fun p => (s.port p).hasReady).foldl (fun a p => sofInsert s p a) []
    let last := s.img.lastServed
    -- the first port after the one served last, wrapping; a last port that has nothing ready has no place in the order
    match (ready.dropWhile fun p => p != last).drop 1 with
    | p :: _ => some p
    | [] => ready.head?

/-- Whether the pipeline has anything left of a frame. -/
def ImgPort.pendingOf (n : Nat) (x : ImgPort) : Bool := x.stripes.any fun st => st.frame == n

/-- Frames that have ended and have no stripe left finish, in order. -/
def State.finishEnded (p : Nat) : Nat → State → State
  | 0, s => s
  | k + 1, s =>
    match (s.port p).frames with
    | f :: _ =>
      if f.ended && !(s.port p).pendingOf f.number then
        let s1 := s.finishFrame p f.number
        State.finishEnded p k (if s.img.service = some p then { s1 with img := { s1.img with service := none } } else s1)
      else s
    | [] => s

/-- An idle pipeline takes its next stripe; a FRAME port's frame enters service with its first (R267). -/
def State.pipeTake (s : State) : State :=
  let s0 := (List.range 8).foldl (fun s p =>
    let c := (s.port p).cfg
    (s.setPort p fun x => x.skipLost (camWidth c) (camHeight c) x.stripes.length).finishEnded p 4) s
  if s0.img.busy.isSome then s0
  else match s0.nextStripe with
    | none => s0
    | some p => { s0 with img := { s0.img with busy := some p, lastServed := p, service := if camStripeMux (s0.port p).cfg then none else some p } }

/-- The stripe in the pipeline is finished: its lines are input, output lags by two lines (R268). -/
def State.stripeDone (s : State) : State :=
  match s.img.busy with
  | none => s
  | some p =>
    let s1 := { s with img := { s.img with busy := none } }
    match (s.port p).stripes with
    | [] => s1
    | st :: rest =>
      let s2 := s1.setPort p fun x => setFrame st.frame (fun g => { g with input := g.input ++ st.lines }) { x with stripes := rest }
      let got := (((s2.port p).frames.find? fun f => f.number == st.frame).map (·.input.length)).getD 0
      (s2.outputLines p st.frame (if got < camHeight (s2.port p).cfg then got - 2 else got)).pipeTake

/-! Stripes and spill (R265, R266). -/

def granules (size : Nat) : Nat := ceilDiv size 65536
/-- Granules of the spill region in use. -/
def State.spillUsed (s : State) : Nat :=
  s.img.ports.foldl (fun a x => a + (x.stripes.filter fun st => st.spilled).length * granules (stripeSize x.cfg)) 0
def bufferRoom (c : Nat) : Nat := if stripeSize c = 0 then 0 else 2097152 / stripeSize c
def ImgPort.inBuffer (x : ImgPort) : Nat := (x.stripes.filter fun st => !st.spilled && !st.lost).length

/-- A stripe of the frame in progress begins to arrive. -/
def State.stripeArrives (p : Nat) (s : State) : State :=
  let x := s.port p
  match x.frames.find? fun f => !f.ended with
  | none => s
  | some f =>
    if !x.inFrame || x.discard || (x.stripes.any fun st => !st.ready) || decide (camHeight x.cfg ≤ f.arrived) then s
    else
      let spill := decide (bufferRoom x.cfg ≤ x.inBuffer) || x.stripes.any (·.spilled)
      let g := granules (stripeSize x.cfg)
      let lost := spill && decide (byteField (s.dparam 0x800B) 8 8 / 65536 < s.spillUsed + g)
      let s1 := s.setPort p fun x => { x with stripes := x.stripes ++
        [{ frame := f.number, index := f.arrived / 64, spilled := spill && !lost, lost := lost, ready := false, lines := [] }] }
      if lost then
        s1.setPort p fun x => setFrame f.number (fun g => { g with marks := g.marks ||| markTruncated, missingStripes := g.missingStripes + 1 })
          { x with truncs := if f.marks.testBit 0 then x.truncs else inc32 x.truncs }
      else { s1 with img := { s1.img with spillPeak := max s1.img.spillPeak (65536 * s1.spillUsed) } }

/-- A spilled stripe returns into the buffer as room frees (R265). -/
def State.stripeReturns (p : Nat) (s : State) : State :=
  let x := s.port p
  if x.inBuffer < bufferRoom x.cfg then
    match x.stripes.findIdx? fun st => st.spilled with
    | some i => (s.setPort p fun x => { x with stripes := updAt x.stripes i (fun st => { st with spilled := false }) }).pipeTake
    | none => s
  else s

/-- The frame in progress is discarded up to the next SOF: its stripes go, and a FRAME entry says so (R264). -/
def State.frameFormat (p n : Nat) (s : State) : State :=
  match (s.port p).frames.find? fun f => f.number == n with
  | none => s
  | some f =>
    let s1 := s.setPort p fun x => { x with
      inFrame := false, discard := true, stripes := x.stripes.filter fun st => st.frame != n, frames := x.frames.filter fun g => g.number != n
      full := x.full.filter fun k => some k != f.slot }
    s1.statsEntry false (frameEntry p { f with marks := f.marks ||| markFormat, slot := none } 0)

/-- The frame in progress ends before its HEIGHT lines: SHORT (R264). -/
def State.frameEnds (p : Nat) (s : State) : State :=
  match (s.port p).frames.find? fun f => !f.ended with
  | none => s
  | some f =>
    let x := s.port p
    let s1 := if f.arrived < camHeight x.cfg then s.setPort p (addMark markShort f.number) else s
    let close (l : List Stripe) : List Stripe :=
      (l.map fun st => if st.frame = f.number then { st with ready := true } else st).filter fun st => !(st.frame == f.number && st.lines.isEmpty && !st.lost)
    ((s1.setPort p fun x => { x with stripes := close x.stripes }).frameReceived p f.number).pipeTake

/-- A stripe has arrived whole, or its frame ends: its lines, failed packets, a line of the wrong length (R264). -/
def State.stripeReady (p : Nat) (lines : List (List Nat)) (crcFails : Nat) (badLine ends : Bool) (s : State) : State :=
  let x := s.port p
  match x.frames.find? fun f => !f.ended with
  | none => s
  | some f =>
    if !x.inFrame || x.discard then s
    else if badLine then s.frameFormat p f.number
    else
      let h := camHeight x.cfg
      let room := min (64 - f.arrived % 64) (h - f.arrived)
      let take := lines.take room
      let s1 := s.setPort p fun x => setFrame f.number (fun g => { g with
          arrived := g.arrived + take.length
          marks := (g.marks ||| (if crcFails = 0 then 0 else markCheck)) ||| (if room < lines.length then markLong else 0) })
        { x with
          checks := add32 x.checks crcFails
          stripes := x.stripes.map fun st => if st.frame = f.number ∧ !st.ready then { st with ready := true, lines := if st.lost then [] else take } else st }
      if ends || decide (h ≤ f.arrived + take.length) then s1.frameEnds p else s1.pipeTake

/-! Start of frame (R262, R264, R271, R272). -/

/-- The output slot of a new frame: none with OUT_FORMAT NONE; `(none, true)` when the next slot is FULL or too small. -/
def State.takeSlot (p : Nat) (s : State) : Option Nat × Bool :=
  let x := s.port p
  let ring := s.param 0x800C p
  let fmt := s.outFormat p
  if fmt = 0 then (none, false)
  else if byteField ring 12 2 = 0 || x.full.contains x.nextSlot ||
      decide (byteField ring 8 4 < outPitch fmt (camPixel x.cfg) (camWidth x.cfg) * camHeight x.cfg) then (none, true)
  else (some x.nextSlot, false)

def State.startOfFrame (p fmt w h : Nat) (s : State) : State :=
  if (s.port p).link != .up then s
  else
    let s0 := if (s.port p).inFrame then s.frameEnds p else s
    let n := (s0.port p).nextFrame
    let s1 := if (s0.port p).pend && !(s0.port p).writing then s0.imgCommit p n else s0
    let x := s1.port p
    let trig := x.triggers.find? fun t => t.sent && t.unassigned
    let bad := fmt != camPixel x.cfg || w != camWidth x.cfg || h != camHeight x.cfg
    let slot := if bad then (none, false) else s1.takeSlot p
    let f : ImgFrame := {
      number := n, sof := s1.dt, role := (trig.map (·.role)).getD 0, index := (trig.map (·.index)).getD 0
      layer := (trig.map (·.layer)).getD s1.imgLayer, marks := if slot.2 then markNoSlot else 0
      genPipe := genAt x.gens n, genCamera := genAt x.gens ((n : Int) - s1.param 0x8003 p), set := x.force, slot := slot.1 }
    let i := (x.triggers.findIdx? fun t => t.sent && t.unassigned).getD x.triggers.length
    let s2 := s1.setPort p fun x => { x with
      nextFrame := n + 1
      triggers := updAt x.triggers i fun t => { t with frame := some n }
      frames := x.frames ++ [f]
      inFrame := true
      discard := false
      noSlots := if slot.2 then inc32 x.noSlots else x.noSlots
      full := (match slot.1 with | some k => k :: x.full | none => x.full)
      nextSlot := (match slot.1 with | some k => (k + 1) % max 1 (byteField (s1.param 0x800C p) 12 2) | none => x.nextSlot) }
    if bad then s2.frameFormat p n else s2

/-! Triggers (R261, R263). -/

/-- Triggers of a role on every enabled port whose mask holds it, from the phase's start DT. -/
def State.triggerRole (role dt0 : Nat) (s : State) : State :=
  (List.range 8).foldl (fun s p =>
    let x := s.port p
    let v := s.param 0x8001 p
    if camEnable x.cfg && (byteField v 0 1).testBit (role - 1) then
      s.setPort p fun x => { x with triggers := (x.triggers.filter fun t => t.unassigned || !(t.received || t.missing)) ++
        (List.range (byteField v 1 1)).map fun i =>
          { due := dt0 + usDt * (byteField v 4 4 + i * byteField v 8 4), role := role, index := i, layer := s.cyc.layer } }
    else s.setPort p fun x => { x with triggers := x.triggers.filter fun t => !(t.received || t.missing) }) s

/-- The first due trigger of a port goes out; the edge is placed with the port's skew. -/
def State.triggerDue (p : Nat) (s : State) : State :=
  let x := s.port p
  match x.triggers.findIdx? fun t => !t.sent && decide (t.due ≤ s.dt) with
  | none => s
  | some i =>
    let due := ((x.triggers.map (·.due)).getD i 0 : Int) + toSigned 32 (s.param 0x8002 p)
    let s1 := s.setPort p fun x => { x with triggers := updAt x.triggers i fun t => { t with sent := true } }
    if x.link == .up then s1.send (.camTrigger p due.toNat) else s1

/-- The port's oldest triggered frame that is overdue is missing (R263). -/
def State.frameTimeout (p : Nat) (s : State) : State :=
  let x := s.port p
  match x.triggers.findIdx? fun t => !t.received && !t.missing && decide (t.due + msDt * s.dparam 0x8009 ≤ s.dt) with
  | none => s
  | some i =>
    match x.triggers[i]? with
    | none => s
    | some t =>
      let n := t.frame.getD x.nextFrame
      let f : ImgFrame := { number := n, sof := 0, role := t.role, index := t.index, layer := t.layer, marks := markMissing,
                            genPipe := genAt x.gens n, genCamera := genAt x.gens ((n : Int) - s.param 0x8003 p), set := x.force }
      let s1 := s.setPort p fun x => setFrame n (fun g => { g with role := 0 }) { x with
        triggers := updAt x.triggers i fun t => { t with missing := true }, missings := inc32 x.missings }
      let s2 := ((s1.statsEntry false (frameEntry p f 0)).logEvent 0x8002 p (beside t.role 1 t.index) n).buildEntry 0x40
        (leBytes 1 p ++ leBytes 1 t.role ++ leBytes 1 t.index ++ zeros 5 ++ leBytes 8 n)
      { s2 with img := { s2.img with missed := s2.img.missed || t.role != 0 } }

/-- Every triggered frame of a role has been received or is missing; `stats`: their STATS entries are written too (R263). -/
def State.framesDone (role : Nat) (stats : Bool) (s : State) : Bool :=
  s.img.ports.all fun x => x.triggers.all fun t => t.role != role || t.missing || (t.received && (!stats || t.stats))

/-- No trigger is sent until the next layer cycle or `IMG_SNAP` (R259). -/
def State.dropTriggers (s : State) : State :=
  { s with img := { s.img with ports := s.img.ports.map fun x => { x with triggers := x.triggers.filter (·.sent) } } }

/-! Links (R258, R280, R281). -/

/-- Discovery restarts on a port; a frame in progress is discarded without an entry (R281). -/
def State.portRestart (p : Nat) (s : State) : State :=
  s.setPort p fun x =>
    let cur := (x.frames.filter fun f => !f.ended).map (·.number)
    { x with
      link := if camEnable x.cfg then .discovery else .disabled
      tried := s.dt
      inFrame := false
      discard := true
      full := x.full.filter fun k => !(x.frames.any fun f => !f.ended && f.slot == some k)
      frames := x.frames.filter (·.ended)
      stripes := x.stripes.filter fun st => !cur.contains st.frame }

/-- The result of a discovery (R258). -/
def State.discovered (p : Nat) (ok : Bool) (speed : Nat) (s : State) : State :=
  let x := s.port p
  if s.looped 3 p then s
  else if x.link == .discovery || (x.link == .down && decide (x.tried + 100 * msDt ≤ s.dt)) then
    if ok then (s.setPort p fun x => { x with link := .up, speed := min speed (camMaxSpeed x.cfg), tried := s.dt }).camKick p
    else s.setPort p fun x => { x with link := .down, tried := s.dt }
  else s

/-- The link is lost (R258); the frame in progress ends where it is. -/
def State.cxpLost (p : Nat) (s : State) : State :=
  if (s.port p).link == .up then
    (if (s.port p).inFrame then s.frameEnds p else s).setPort p fun x => { x with link := .down, tried := s.dt }
  else s

/-- The imaging island faults: uplinks fall silent, frames in progress are lost without entries (R280). -/
def State.imgFault (s : State) : State :=
  { s with img := { s.img with busy := none, service := none, ports := s.img.ports.map fun x =>
    { x with frames := [], stripes := [], inFrame := false, discard := true, queue := []
             link := if camEnable x.cfg then .down else .disabled, tried := s.dt } } }

/-- After recovery every enabled port runs discovery again (R280). -/
def State.imgRecover (s : State) : State :=
  { s with img := { s.img with ports := s.img.ports.map fun x => { x with link := if camEnable x.cfg then .discovery else .disabled, tried := s.dt } } }

/-! Control transactions (R260). -/

/-- The front transaction got no valid acknowledge: it is sent again, up to three times in all. -/
def State.camRetry (p : Nat) (s : State) : State :=
  match (s.port p).queue with
  | [] => s
  | c :: rest =>
    if c.attempts < 3 then
      (s.setPort p fun x => { x with queue := { c with attempts := c.attempts + 1, since := s.dt } :: rest }).send (.camControl p c.write c.addr c.data c.len)
    else
      let s1 := match c.acc with
        | some a => s.complete a 0x8002 (zeros 8)
        | none => s.logEvent 0x8003 p c.addr c.gen
      (s1.camPop p).commitIfQuiet p

/-- An acknowledge of the front transaction: its check value, the camera's code, the data of a read. -/
def State.camAck (p : Nat) (valid : Bool) (code : Nat) (data : List Byte) (s : State) : State :=
  match (s.port p).queue with
  | [] => s
  | c :: _ =>
    if c.attempts = 0 then s
    else if !valid then s.camRetry p
    else
      let s1 := match c.acc with
        | some a =>
          if code ≠ 0 then s.complete a 0x8001 (leBytes 4 code ++ zeros 4)
          else (if c.write then s else s.dramWrite c.dram (padTo c.len (data.take c.len))).complete a stOk (zeros 8)
        | none => if code ≠ 0 then s.logEvent 0x8003 p c.addr c.gen else s
      (s1.camPop p).commitIfQuiet p

/-- The acknowledge has not come within `IMG.CONTROL_TIMEOUT`. -/
def State.camTimeout (p : Nat) (s : State) : State :=
  match (s.port p).queue with
  | c :: _ => if c.attempts ≠ 0 ∧ c.since + msDt * s.dparam 0x8011 ≤ s.dt then s.camRetry p else s
  | [] => s

/-! Read-only parameters (Table 09.15). -/

def CxpLink.code : CxpLink → Nat
  | .disabled => 0 | .discovery => 1 | .up => 2 | .down => 3
def State.portStatus (s : State) (p : Nat) : Nat :=
  let x := s.port p
  x.link.code + 16 * x.speed + 256 * bit s.imgAssisted + 512 * bit x.inFrame + 1024 * bit (x.stripes.any (·.spilled)) +
    65536 * min 512 ((x.stripes.filter fun st => st.ready && !st.spilled && !st.lost).length)
def State.portGeneration (s : State) (p : Nat) : Nat :=
  let x := s.port p
  x.gen + 2 ^ 32 * x.fCommit + 2 ^ 96 * bit x.pend

end Sys2Proof.Machine
end

