-- ==== Sys2Proof/Machine/Tracks.lean ====
section
/-! DEFINITION. The interpolator and its count (R311 to R313), quadrature and SSI decoding (R314, R315), speed (R316). -/

namespace Sys2Proof.Machine

def fbOverrun : Nat := 2048
def fbSsi : Nat := 1024
def fbQuad : Nat := 512
def fbPhase : Nat := 256
def fbClip : Nat := 128
def fbAmplitude : Nat := 64
def fbMissing : Nat := 32

/-- The errors of a sample: those that begin set their sticky bits and are counted (R318); answers the bits that begin. -/
def Track.errorsNow (cond : Nat) (t : Track) : Track × Nat :=
  let fresh := Nat.xor (cond ||| t.cond) t.cond
  let n := ((List.range 12).filter fun i => fresh.testBit i).length
  ({ t with cond := cond, sticky := t.sticky ||| fresh, errors := add32 t.errors n }, fresh)

/-- C follows r with one count of hysteresis (R313). -/
def Track.follow (r : Int) (t : Track) : Track :=
  { t with r := r, c := if t.c < r then r else if r < t.c - 1 then r + 1 else t.c }
/-- C := r, at a start or restart. -/
def Track.setCount (r : Int) (t : Track) : Track := { t with r := r, c := r }

/-- Coefficients of an interpolator (R311): OFF_S, OFF_C, GAIN_S, GAIN_C, PHASE, the amplitude limits, RES_EXP, DIR_INVERT. -/
structure TrackCal where
  offS : Int
  offC : Int
  gainS : Int
  gainC : Int
  phase : Int
  ampMin : Nat
  ampMax : Nat
  resExp : Nat
  invert : Bool

/-- The angle of R311, 0 to 4095. -/
def trackAngle (s1 c2 : Int) : Int := (roundDiv (4096 * fixAtan2 s1 c2) (2 * fixPi).toNat) % 4096

/-- One conversion of a pair of codes (R311 to R313); answers the error bits that begin. -/
def Track.convert (k : TrackCal) (s c : Nat) (t : Track) : Track × Nat :=
  if s = 0 ∨ s = 65535 ∨ c = 0 ∨ c = 65535 then t.errorsNow fbClip
  else
    -- scaled by 2^28
    let s1 := ((s : Int) - 32768 - k.offS) * k.gainS * 16384
    let c2 := ((c : Int) - 32768 - k.offC) * k.gainC * 16384 - k.phase * (((s : Int) - 32768 - k.offS) * k.gainS)
    let r2 := s1 * s1 + c2 * c2
    if r2 = 0 ∨ r2 < (k.ampMin * k.ampMin * 2 ^ 56 : Nat) ∨ (k.ampMax * k.ampMax * 2 ^ 56 : Nat) < r2 then t.errorsNow fbAmplitude
    else
      let a0 := trackAngle s1 c2
      let a := if k.invert then (4096 - a0) % 4096 else a0
      let raw (p : Int) : Int := Int.fdiv p (2 ^ (12 - k.resExp) : Nat)
      if !t.started then
        (({ t with started := true, p := a, aPrev := a }).setCount (raw a)).errorsNow 0
      else
        let delta := (a - t.aPrev + 2048) % 4096 - 2048
        if 1024 ≤ delta.natAbs then ({ t with lost := true }).errorsNow fbPhase
        else (({ t with p := t.p + delta, aPrev := a }).follow (raw (t.p + delta))).errorsNow 0

/-- The track's position is valid as far as its conditions go (R318). -/
def Track.good (t : Track) : Bool := t.active && t.started && !t.lost && !(t.cond.testBit 6) && !(t.cond.testBit 7)

/-- The step of the 4-edge decoding: a leading B counts up (R314). -/
def quadStep (a b a' b' : Bool) : Int :=
  match a, b, a', b' with
  | false, false, false, true => 1
  | false, true, true, true => 1
  | true, true, true, false => 1
  | true, false, false, false => 1
  | false, true, false, false => -1
  | true, true, false, true => -1
  | true, false, true, true => -1
  | false, false, true, false => -1
  | _, _, _, _ => 0

/-- Gray code to binary, over `n` bits. -/
def grayTo : Nat → Nat → Nat
  | 0, g => g
  | n + 1, g => Nat.xor g (grayTo n (g / 2))

/-- The unwrapped SSI position nearest the previous one, ties to the lower k (R315). -/
def ssiUnwrap (bits_ value : Nat) (prev : Int) : Int :=
  let m : Int := (2 ^ bits_ : Nat)
  let k := Int.fdiv (prev - value) m
  let lo := value + k * m
  let hi := lo + m
  if prev - lo ≤ hi - prev then lo else hi

/-- The count at a tick: the newest value seen at or before it (R316, R317). -/
def countAt (hist : List (Nat × Int)) (tick : Nat) (now : Int) : Int :=
  match hist.find? fun e => decide (e.1 ≤ tick) with
  | some e => e.2
  | none => ((hist.getLast?).map (·.2)).getD now

/-- The count taken at a motion tick, and the speed over the window W in ticks (R316). -/
def FbkChannel.tickSpeed (w tick : Nat) (x : FbkChannel) : FbkChannel :=
  let h := match x.hist with
    | e :: _ => if e.2 = x.track.c then x.hist else (tick, x.track.c) :: x.hist
    | [] => [(tick, x.track.c)]
  let old := h.dropWhile fun e => decide (tick < e.1 + w)
  let keep := (h.takeWhile fun e => decide (tick < e.1 + w)) ++ old.take 1
  { x with hist := keep, speed := if w ≤ tick then satSigned 32 (roundDiv ((x.track.c - countAt h (tick - w) x.track.c) * 1000000) w) else
      satSigned 32 (roundDiv ((x.track.c - countAt h 0 x.track.c) * 1000000) w) }

end Sys2Proof.Machine
end

