-- ==== Sys2Proof/Machine/Motion.lean ====
section
/-! DEFINITION. Bed motion (R283 to R308): the profile generator, step edges, quick stops, faults, the recoat sequence, the
host motion stream. -/

namespace Sys2Proof.Machine

/-- One step in sub-steps (R285). -/
def stepUnit : Int := 4294967296

/-! Unit conversions of R285. -/
def cruiseOf (speed : Nat) : Nat := roundNat (speed * 4294967296) 1000000
def accelOf (a : Nat) : Nat := max 1 (roundNat (a * 4294967296) 1000000000000)
def jerkOf (j : Nat) : Nat := max 1 (roundNat (j * 1000 * 4294967296) 1000000000000000000)

def signOf (x : Int) : Int := if 0 < x then 1 else if x < 0 then -1 else 0

/-- One tick of the generator (R287) with acceleration `acc` and deceleration `dec`. -/
def Axis.generate (acc dec : Nat) (m : AxisMove) (x : Axis) : Axis :=
  let d := m.target - x.p
  if x.v = 0 ∧ d = 0 then x
  else
    let dr := if x.ramp then x.dr else dec
    let av := x.v.natAbs
    let ad := d.natAbs
    let away := decide (x.v ≠ 0 ∧ (d = 0 ∨ signOf d ≠ signOf x.v))
    let lim := min m.cruise (isqrt (2 * dr * ad))
    let m1 := max (min lim (av + acc)) (av - dr)
    let m2 := if x.ramp then min m1 av else m1
    let mag := if away then av - dr else if ad ≤ m2 then ad else m2
    let begins := !x.ramp && decide (mag < av)
    let dir := if x.v ≠ 0 then signOf x.v else signOf d
    let p := x.p + dir * mag
    let v := if p = m.target then 0 else dir * mag
    { x with
      p := p
      v := v
      dr := if begins then dec else x.dr
      ramp := if v = 0 ∨ (mag = av ∧ mag = m.cruise) then false else x.ramp || begins }

/-- The smoothing window n of R290. -/
def windowOf (scurve : Bool) (acc dec jerk : Nat) : Nat := if scurve then min 255 (ceilDiv (max acc dec) jerk) else 0

/-- The history after a tick: the new position joins, and the window moves by one toward `n` (R290). -/
def slideWindow (n : Nat) (p : Int) (hist : List Int) : List Int :=
  let w := hist.length - 1
  if w < n then p :: hist else if w = n then p :: hist.take w else p :: hist.take (w - 1)

/-- The filtered position. -/
def filtered (hist : List Int) : Int := roundDiv (hist.foldl (· + ·) 0) (max 1 hist.length)

/-- The step edges of a tick that starts at DT `t0`, filtered position from `a` to `b`: DT and direction (R291). -/
def edgesOf (t0 : Nat) (a b : Int) : List (Nat × Bool) :=
  let fa := Int.fdiv a stepUnit
  let fb := Int.fdiv b stepUnit
  if fa < fb then (List.range (fb - fa).toNat).map fun (i : Nat) => (t0 + (roundDiv (16000 * ((fa + 1 + i) * stepUnit - a)) (b - a).toNat).toNat, true)
  else (List.range (fa - fb).toNat).map fun (i : Nat) => (t0 + (roundDiv (16000 * (a - (fa - i) * stepUnit)) (a - b).toNat).toNat, false)

/-- Edges delayed to the earliest instants R283 permits; answers them, the last edge's DT and the last direction. -/
def delayEdges (highLow setup : Nat) : List (Nat × Bool) → Nat → Bool → Nat → List (Nat × Bool) × Nat × Bool
  | [], last, dir, _ => ([], last, dir)
  | e :: es, last, dir, n =>
    let first := if last = 0 ∧ n = 0 then 0 else if e.2 = dir then last + 16 * highLow else last + 32 * setup
    let d := max e.1 first
    let r := delayEdges highLow setup es d e.2 (n + 1)
    ((d, e.2) :: r.1, r.2)

def State.axis (s : State) (a : Nat) : Axis := s.mot.axes.getD a {}
def State.setAxis (a : Nat) (f : Axis → Axis) (s : State) : State := { s with mot := { s.mot with axes := updAt s.mot.axes a f } }

/-! Fields of `MOT.AXIS_CFG`. -/
def State.axisOn (s : State) (a : Nat) : Bool := (s.param 0x9000 a).testBit 0
def State.axisScurve (s : State) (a : Nat) : Bool := (s.param 0x9000 a).testBit 1
def State.axisChannel (s : State) (a : Nat) : Option Nat :=
  let c := byteField (s.param 0x9000 a) 1 1
  if c < 9 then some c else none
def State.limLow (s : State) (a : Nat) : Int := toSigned 32 (byteField (s.param 0x9006 a) 0 4)
def State.limHigh (s : State) (a : Nat) : Int := toSigned 32 (byteField (s.param 0x9006 a) 4 4)
/-- The motion function is host-assisted. -/
def State.motAssisted (s : State) : Bool := s.assisted fnMot

/-- At rest: filtered speed zero and no step edge pending (R284). -/
def State.atRest (s : State) (a : Nat) : Bool := decide ((s.axis a).pfSpeed = 0 ∧ (s.axis a).v = 0 ∧ (s.axis a).lastEdge ≤ s.dt)
/-- DUTY of MOT_CREF (R284, Table 10.1). -/
def State.motCref (s : State) (a : Nat) : Nat := if s.atRest a || !s.axisOn a then 1024 else s.param 0x9007 a

/-! A local feedback channel as the axes and loops see it (R309, R313, R318). -/

def State.fbkMode (s : State) (c : Nat) : Nat :=
  if c = 8 ∧ s.dparam 0xA006 = 0 then 0 else byteField (s.param 0xA000 c) 0 1
def State.channel (s : State) (c : Nat) : FbkChannel := s.fbk.channels.getD c {}
def State.setChannel (c : Nat) (f : FbkChannel → FbkChannel) (s : State) : State := { s with fbk := { s.fbk with channels := updAt s.fbk.channels c f } }
/-- C, a signed 32-bit count that wraps. -/
def State.fbkCount (s : State) (c : Nat) : Int := toSigned 32 (ofSigned 32 (s.channel c).track.c)
def State.fbkValid (s : State) (c : Nat) : Bool := (s.channel c).track.good && s.fbkMode c != 0 && decide ((s.channel c).ssiFails < 3)

/-- Feedback position of R297 from the count bound to the axis. -/
def State.feedback (s : State) (a : Nat) : Option Int :=
  (s.axisChannel a).map fun c =>
    roundDiv ((s.fbkCount c) * toSigned 32 (s.param 0x9009 a)) 65536 + (s.axis a).offset
/-- The following error (R297); 0 without feedback. -/
def State.followError (s : State) (a : Nat) : Int := match s.feedback a with | some f => (s.axis a).issued - f | none => 0
def State.followOk (s : State) (a : Nat) : Bool := decide ((s.followError a).natAbs ≤ s.param 0x900A a)

/-! SYNC_OUT (R304). -/

/-- An event of a source: 1 PHASE_START, 2 MOVE_START, 3 IN_POSITION, 4 CROSS; `ok` tests the entry. -/
def State.syncEvent (source : Nat) (ok : Nat → Bool) (s : State) : State :=
  (List.range 2).foldl (fun s o =>
    let e := byteField (s.dparam 0x900D) (16 * o) 16
    if byteField e 0 1 = source ∧ ok e then
      let until_ := s.dt + usDt' * byteField e 8 2
      { s with mot := { s.mot with syncOut := updAt s.mot.syncOut o fun u => max u until_ }, tx := s.tx ++ [.sync o s.dt until_] }
    else s) s
where usDt' : Nat := 16000
def State.syncAxis (source a : Nat) (s : State) : State := s.syncEvent source fun e => byteField e 1 1 == a
/-- The phase starts (SOURCE 1). -/
def State.syncPhase (code : Nat) (s : State) : State := s.syncEvent 1 fun e => byteField e 2 1 == code

/-! Moves. -/

/-- The command of a move completes. -/
def State.endMove (acc : Option Nat) (status : Nat) (s : State) : State :=
  match acc with | some a => s.complete a status [] | none => s

/-- The move in progress and a waiting one end with ABORTED. -/
def State.abortMove (a : Nat) (s : State) : State :=
  let x := s.axis a
  let s1 := s.setAxis a fun x => { x with move := none, wait := none, ramp := false, mode := if x.mode == .moving then .idle else x.mode }
  (s1.endMove (x.move.bind (·.acc)) stAborted).endMove (x.wait.map (·.acc)) stAborted

/-- The target of a controlled stop: the limit ahead of the motion (R286). -/
def State.stopMove (s : State) (a : Nat) (acc : Option Nat) : AxisMove :=
  { speedMode := true, target := (if (s.axis a).v < 0 then s.limLow a else s.limHigh a) * stepUnit, cruise := 0, acc := acc }

/-- A move begins from the present p and v (R287, R288); OVERSHOOT when it must pass its target. -/
def State.beginMove (a : Nat) (m : AxisMove) (s : State) : State :=
  let x := s.axis a
  let d := m.target - x.p
  let dec := accelOf (s.param 0x9004 a)
  let past := !m.speedMode && x.move.isSome && decide (x.v ≠ 0 ∧ signOf d = signOf x.v ∧ 2 * dec * d.natAbs < x.v.natAbs * x.v.natAbs)
  let s1 := (s.endMove (x.move.bind (·.acc)) stAborted).endMove (x.wait.map (·.acc)) stAborted
  (s1.setAxis a fun x => { x with
    move := some m, wait := none, ramp := false, mode := .moving, inPosition := false, atLimit := false, overshoot := x.overshoot || past }).syncAxis 2 a

/-- The move a MODE, a value and a SPEED describe (R286). -/
def State.moveOf (s : State) (a mode : Nat) (value : Int) (speed : Nat) (acc : Option Nat) : AxisMove :=
  match mode with
  | 0 => { target := value * stepUnit, cruise := cruiseOf speed, acc := acc }
  | 1 => { target := ((s.axis a).issued + value) * stepUnit, cruise := cruiseOf speed, acc := acc }
  | _ =>
    if value = 0 then s.stopMove a acc
    else { speedMode := true, target := (if 0 < value then s.limHigh a else s.limLow a) * stepUnit, cruise := cruiseOf value.natAbs, acc := acc }

def State.targetOk (s : State) (a : Nat) (m : AxisMove) : Bool :=
  m.speedMode || decide (s.limLow a * stepUnit ≤ m.target ∧ m.target ≤ s.limHigh a * stepUnit)

/-! Quick stops and faults (R293, R294, R296). -/

def State.failStep (a : Nat) (s : State) : State :=
  match (s.axis a).move.bind (·.recoat) with
  | some i => { s with mot := { s.mot with steps := updAt s.mot.steps i fun st => { st with st := .failed } } }
  | none => s

def State.quickStop (a : Nat) (s : State) : State :=
  if !s.axisOn a then s
  else
    let x := s.axis a
    let safe := decide (x.pfSpeed.natAbs * 1000000 ≤ s.param 0x9008 a * 4294967296)
    let p := x.issued * stepUnit
    let s1 := (s.failStep a).abortMove a
    let s2 := s1.setAxis a fun x => { x with
      p := p, v := 0, pf := p, pfSpeed := 0, hist := x.hist.map fun _ => p
      posValid := x.posValid && safe
      waitZero := if (s.axisChannel a).isSome then some 0 else none
      quickStops := inc32 x.quickStops }
    s2.logEvent 0x9001 a (bit (x.posValid && safe)) (ofSigned 32 x.issued)

def State.axisFault (cause a : Nat) (s : State) : State :=
  if (s.axis a).mode == .fault || !s.axisOn a then s
  else ((s.quickStop a).setAxis a fun x => { x with mode := .fault, cause := cause }).logEvent 0x9002 a cause 0

/-- The cause of a fault is still present (R296). -/
def State.causePresent (s : State) (a : Nat) : Bool :=
  match (s.axis a).cause with
  | 1 => (s.axis a).pinLow
  | 2 => !s.followOk a
  | _ => false

/-! The recoat sequence (R299 to R301). -/

def recoatCount (v : Nat) : Nat := byteField v 0 1
/-- Bytes of recoat step `i` as a number. -/
def recoatStep (v i : Nat) : Nat := byteField v (16 + 16 * i) 16
def stepAxis (e : Nat) : Nat := byteField e 0 1
def stepKind (e : Nat) : Nat := byteField e 1 1
def stepStart (e : Nat) : Nat := byteField e 2 1

/-- A step's target from the axis position `pos` (Table 10.4). -/
def recoatTarget (e : Nat) (pos : Int) (thickness layer scale : Nat) : Int :=
  match stepKind e with
  | 0 => toSigned 32 (byteField e 4 4)
  | 1 => pos + toSigned 32 (byteField e 4 4)
  | 2 => pos + roundDiv ((thickness : Int) * scale * toSigned 16 (byteField e 4 2)) 67108864
  | _ => if layer % 2 = 0 then toSigned 32 (byteField e 4 4) else toSigned 32 (byteField e 12 4)

/-- The axis can make a recoat move. -/
def State.axisReady (s : State) (a : Nat) : Bool := s.axisOn a && (s.axis a).mode != .fault && (s.axis a).posValid

/-- Step `i` starts, or fails where it cannot (R301). -/
def State.startStep (i : Nat) (s : State) : State :=
  let e := recoatStep (s.dparam 0x900C) i
  let a := stepAxis e
  let t := ((s.mot.steps.getD i {}).target).getD 0
  let m : AxisMove := { target := t * stepUnit, cruise := cruiseOf (byteField e 8 4), recoat := some i }
  let set (x : RecoatState) (s : State) : State := { s with mot := { s.mot with steps := updAt s.mot.steps i fun st => { st with st := x } } }
  if s.axisReady a && s.targetOk a m then set .running (s.beginMove a m) else set .failed s

/-- Whether step `i`'s START condition holds, SYNC_IN apart (Table 10.3). -/
def State.stepCan (s : State) (i : Nat) : Bool :=
  let st (j : Nat) : RecoatState := (s.mot.steps.getD j {}).st
  if stepStart (recoatStep (s.dparam 0x900C) i) = 1 then st (i - 1) == .running || st (i - 1) == .done
  else (List.range i).all fun j => st j == .done

/-- Steps whose condition holds start, in order; those that wait for an edge are armed. -/
def State.recoatAdvance (s : State) : State :=
  (List.range s.mot.steps.length).foldl (fun s i =>
    if (s.mot.steps.getD i {}).st == .waiting && s.stepCan i then
      if 2 ≤ stepStart (recoatStep (s.dparam 0x900C) i) then
        { s with mot := { s.mot with steps := updAt s.mot.steps i fun st => { st with st := .armed none } } }
      else s.startStep i
    else s) s

/-- A failed step with nothing running: the sequencer waits for a release (R301). -/
def State.recoatStuck (s : State) : Bool :=
  s.mot.steps.any (fun st => st.st == .failed) && s.mot.steps.all fun st => match st.st with | .failed | .done | .waiting => true | _ => false
def State.recoatDone (s : State) : Bool := s.mot.steps.all fun st => st.st == .done

/-- The targets of all steps at the start of RECOAT; a RELATIVE or THICKNESS step counts from the target of the axis's step
before it, or from its issued position (log entry 31). -/
def recoatTargets (v thickness layer : Nat) (scale : Nat → Nat) : Nat → (Nat → Int) → List RecoatStep
  | 0, _ => []
  | n + 1, pos =>
    let i := recoatCount v - (n + 1)
    let e := recoatStep v i
    let t := recoatTarget e (pos (stepAxis e)) thickness layer (scale (stepAxis e))
    { target := some t } :: recoatTargets v thickness layer scale n fun a => if a = stepAxis e then t else pos a

/-- RECOAT begins: targets, and the steps that can start (R299). -/
def State.recoatBegin (s : State) : State :=
  let v := s.dparam 0x900C
  ({ s with mot := { s.mot with
      steps := recoatTargets v s.cyc.thickness s.cyc.layer (fun a => s.param 0x900B a) (recoatCount v) fun a => (s.axis a).issued
      recoatWait := false } }).recoatAdvance

/-- The release of a recoat wait: each failed step restarts toward its computed target (R301). -/
def State.recoatRelease (s : State) : State :=
  (List.range s.mot.steps.length).foldl (fun s i => if (s.mot.steps.getD i {}).st == .failed then s.startStep i else s)
    { s with mot := { s.mot with recoatWait := false } }

/-- The first status a failed step's axis gives a release (R301). -/
def State.recoatReleaseFail (s : State) : Option Nat :=
  let axes := (List.range s.mot.steps.length).filterMap fun i =>
    if (s.mot.steps.getD i {}).st == .failed then some (stepAxis (recoatStep (s.dparam 0x900C) i)) else none
  if axes.any fun a => (s.axis a).mode == .fault then some 0x9002
  else if axes.any fun a => !s.axisOn a || !(s.axis a).posValid then some 0x9000 else none

/-- The axis is named in `MOT.RECOAT_SEQ`. -/
def State.inRecoatSeq (s : State) (a : Nat) : Bool :=
  (List.range (recoatCount (s.dparam 0x900C))).any fun i => stepAxis (recoatStep (s.dparam 0x900C) i) == a
/-- The layer cycle is in RECOAT, or held from it (R302, R308). -/
def State.recoating (s : State) : Bool := s.cyc.phase == .recoat

/-! The host motion stream (R305 to R307). -/

def State.streamFault (s : State) : State :=
  let acc := s.mot.stream.acc
  let s1 := { s with mot := { s.mot with stream := { s.mot.stream with running := false, acc := none, points := [] } } }
  ((List.range 8).foldl (fun s a => s.axisFault 3 a) s1).endMove acc stAborted

/-- The bytes of a ring from `off`, wrapping nowhere: a block never runs past the ring's end. -/
def State.motBlock (s : State) : Option (Option (List (List Int) × Bool × Nat)) :=
  let base := byteField (s.dparam 0x900E) 0 8
  let size := byteField (s.dparam 0x900E) 8 4
  let tail := s.dparam 0x900F
  let head := s.mot.head
  if size = 0 ∨ head = tail then none
  else
    let h := s.dramRead (base + head) 64
    let count := field h 6 2
    let wrap := (field h 5 1).testBit 1
    let len := (64 + 32 * count + 63) / 64 * 64
    let avail := if head < tail then tail - head else size - head
    if avail < len then none
    else
      let blk := s.dramRead (base + head) len
      let crcOk := crc32c (slice blk 0 16 ++ zeros 4 ++ blk.drop 20) == field h 16 4
      if field h 0 4 ≠ 0x4D535853 ∨ field h 4 1 ≠ 0x10 ∨ 4 ≤ field h 5 1 ∨ !allZero (slice h 20 44) ∨ (wrap ∧ count ≠ 0) ∨ !crcOk ∨
          (!wrap ∧ field h 8 8 ≠ s.mot.stream.index + s.mot.stream.points.length) ∨ s.poisoned (base + head) len then some none
      else some (some ((List.range count).map fun i => (List.range 8).map fun a => toSigned 32 (field blk (64 + 32 * i + 4 * a) 4),
        (field h 5 1).testBit 0, if wrap ∨ head + len = size then 0 else head + len))

/-- Blocks read while the next unread point is due within 1 ms or within one period; a block that is not there is late. -/
def State.motFill : Nat → Nat → State → Option State
  | 0, _, s => some s
  | n + 1, tick, s =>
    let st := s.mot.stream
    let per := s.dparam 0x9011
    if st.lastSeen || decide (tick + max 1000 per < st.due + per * st.points.length) then some s
    else match s.motBlock with
      | some (some (pts, last, head)) =>
        State.motFill n tick { s with mot := { s.mot with head := head, stream := { st with points := st.points ++ pts, lastSeen := last } } }
      | _ => none

/-- A point within SPEED_MAX over the interval and within the limits of every enabled axis (R306). -/
def State.pointOk (s : State) (prev : List Int) (pt : List Int) : Bool :=
  (List.range 8).all fun a => !s.axisOn a ||
    (decide (((pt.getD a 0) * stepUnit - prev.getD a 0).natAbs * 1000000 ≤ s.param 0x9002 a * s.dparam 0x9011 * 4294967296) &&
     decide (s.limLow a ≤ pt.getD a 0 ∧ pt.getD a 0 ≤ s.limHigh a))

/-- The stream's positions at a tick: a due point is reached, else p moves linearly. -/
def State.streamTick (tick : Nat) (s : State) : State :=
  let st := s.mot.stream
  if !st.running || st.halted || (st.points.isEmpty && st.lastSeen && decide (st.due < tick)) then s
  else if tick + 1000 < st.due ∧ st.index = 0 then s
  else match s.motFill 64 tick with
    | none => s.streamFault
    | some s1 =>
      let st := s1.mot.stream
      match st.points with
      | [] => s1
      | pt :: rest =>
        if !s1.pointOk st.prev pt then s1.streamFault
        else if st.due ≤ tick then
          let ps := pt.map fun q => q * stepUnit
          let s2 := (List.range 8).foldl (fun s a => if s.axisOn a then s.setAxis a fun x => { x with v := ps.getD a 0 - x.p, p := ps.getD a 0 } else s) s1
          { s2 with mot := { s2.mot with stream := { st with points := rest, index := st.index + 1, prev := ps, prevTick := tick, due := tick + s.dparam 0x9011 } } }
        else if st.index = 0 then s1
        else
          let k := tick - st.prevTick
          let n := max 1 (st.due - st.prevTick)
          (List.range 8).foldl (fun s a => if s.axisOn a then
            s.setAxis a fun x =>
              let p := st.prev.getD a 0 + roundDiv (((pt.getD a 0) * stepUnit - st.prev.getD a 0) * k) n
              { x with v := p - x.p, p := p } else s) s1

/-- The stream is over once its last point is reached and every axis is at rest; its command completes (R306, R307). -/
def State.streamEnd (s : State) : State :=
  let st := s.mot.stream
  if st.running && st.lastSeen && st.points.isEmpty && (List.range 8).all fun a => s.atRest a then
    ({ s with mot := { s.mot with stream := { st with running := false, acc := none, recoat := false } } }).endMove st.acc stOk
  else s

/-- A stream starts; its first point is due at tick `due`. -/
def State.streamStart (due : Nat) (acc : Option Nat) (recoat : Bool) (s : State) : State :=
  { s with mot := { s.mot with stream := { running := true, due := due, acc := acc, recoat := recoat, prev := s.mot.axes.map (·.p), prevTick := s.mot.tick } } }

/-! The motion tick. -/

/-- A move or recoat step whose edge came at least 1 µs before the tick starts (R303). -/
def State.releaseWaits (tick : Nat) (s : State) : State :=
  let ready (e : Option Nat) : Bool := match e with | some d => decide (d + 16000 ≤ 16000 * tick) | none => false
  let s1 := (List.range 8).foldl (fun s a =>
    match (s.axis a).wait with
    | some w =>
      if ready w.edge then
        let m := s.moveOf a w.mode w.value w.speed (some w.acc)
        let s0 := s.setAxis a fun x => { x with wait := none }
        if s.targetOk a m then s0.beginMove a m else s0.complete w.acc 0x9001 []
      else s
    | none => s) s
  (List.range s1.mot.steps.length).foldl (fun s i =>
    match (s.mot.steps.getD i {}).st with | .armed e => if ready e then s.startStep i else s | _ => s) s1

/-- The generator, filter, edges and following error of one axis (R287, R290, R291, R296). -/
def State.axisTick (tick a : Nat) (s : State) : State :=
  if !s.axisOn a then s
  else
    let x := s.axis a
    let acc := accelOf (s.param 0x9003 a)
    let dec := accelOf (s.param 0x9004 a)
    let x1 := match x.move with | some m => if s.motAssisted && m.acc.isNone && !m.speedMode then x else x.generate acc dec m | none => x
    let hist := slideWindow (windowOf (s.axisScurve a) acc dec (jerkOf (s.param 0x9005 a))) x1.p x.hist
    let pf := filtered hist
    let timing := s.param 0x9001 a
    let es := delayEdges (byteField timing 0 2 + byteField timing 2 2) (byteField timing 4 4) (edgesOf (16000 * tick) x.pf pf) x.lastEdge x.dirPos 0
    let stopped := decide (x1.v = 0 ∧ pf = x1.p)
    let onLimit := match x1.move with | some m => m.speedMode && decide (m.cruise ≠ 0) && stopped && decide (x1.p = m.target) | none => false
    let inv := (s.param 0x9000 a).testBit 2
    let s1 := s.setAxis a fun _ => { x1 with
      hist := hist, pf := pf, pfSpeed := pf - x.pf, issued := Int.fdiv pf stepUnit
      lastEdge := es.2.1, dirPos := es.2.2, atLimit := x1.atLimit || onLimit
      limitPassed := stopped && decide (Int.fdiv pf stepUnit < s.limLow a ∨ s.limHigh a < Int.fdiv pf stepUnit) }
    let s2 := es.1.foldl (fun s e => s.send (.step a e.1 (e.2 != inv))) s1
    let crossed (e : Nat) : Bool :=
      let b := toSigned 32 (byteField e 4 4)
      byteField e 1 1 == a && (decide (Int.fdiv x.pf stepUnit < b) != decide (Int.fdiv pf stepUnit < b))
    let s3 := s2.syncEvent 4 crossed
    if (s3.axisChannel a).isSome && !s3.followOk a then s3.axisFault 2 a else s3

/-- Ticks at which a bound channel is valid and its speed reads zero are counted after a quick stop (R294, R316). -/
def State.countZero (s : State) (x : Axis × Nat) : Axis :=
  match x.1.waitZero, s.axisChannel x.2 with
  | some n, some c =>
    if !s.fbkValid c then x.1 else { x.1 with waitZero := some (if (s.fbk.channels.getD c {}).speed = 0 then n + 1 else 0) }
  | _, _ => { x.1 with waitZero := none }
def State.countZeros (s : State) : State := { s with mot := { s.mot with axes := s.mot.axes.zipIdx.map s.countZero } }

/-- AXIS_TICK: tick t begins at DT 16,000 × t; every axis runs, and every channel's speed is taken (R285, R316). -/
def State.motionTick (s : State) : State :=
  let tick := s.dt / 16000
  if tick ≤ s.mot.tick ∧ s.mot.tick ≠ 0 then s
  else
    let s0 := { s with
      mot := { s.mot with tick := tick }
      fbk := { s.fbk with channels := s.fbk.channels.zipIdx.map fun (x : FbkChannel × Nat) => x.1.tickSpeed (s.param 0xA004 x.2) tick } }
    let s1 := (s0.countZeros.releaseWaits tick).streamTick tick
    ((List.range 8).foldl (fun (s : State) (a : Nat) => s.axisTick tick a) s1).streamEnd

/-- In position, or at the commanded speed (R292). -/
def State.moveReached (s : State) (a : Nat) : Bool :=
  let x := s.axis a
  match x.move with
  | none => false
  | some m =>
    if m.speedMode then
      (m.acc.isSome && decide (x.pfSpeed = (if m.target < x.p then -(m.cruise : Int) else m.cruise))) || decide (x.v = 0 ∧ x.pf = x.p ∧ (x.p = m.target ∨ m.cruise = 0))
    else decide (x.p = m.target ∧ x.pf = m.target ∧ x.lastEdge ≤ s.dt) && ((s.axisChannel a).isNone || s.followOk a)

/-- MOVE_IN_POSITION: the move's command completes; a recoat step is done, and the steps that waited for it start. -/
def State.moveEnds (a : Nat) (s : State) : State :=
  if !s.moveReached a then s
  else
    match (s.axis a).move with
    | none => s
    | some m =>
      let past := !m.speedMode || decide ((s.axis a).v = 0)
      let s1 := (s.setAxis a fun x => { x with
        move := if past then none else some { m with acc := none }
        mode := if past ∧ x.mode = .moving then .idle else x.mode
        inPosition := !m.speedMode }).endMove m.acc stOk
      let s2 := if m.speedMode then s1 else s1.syncAxis 3 a
      match m.recoat with
      | some i => ({ s2 with mot := { s2.mot with steps := updAt s2.mot.steps i fun st => { st with st := .done } } }).recoatAdvance
      | none => s2

/-! HOLD and RESUME (R295, R306). -/

def State.holdMotion (s : State) : State :=
  let s1 := (List.range 8).foldl (fun s a =>
    let x := s.axis a
    if s.axisOn a && x.mode != .fault && (x.move.isSome || x.wait.isSome || !s.atRest a) then
      let stop := s.stopMove a none
      ((s.setAxis a fun x => { x with
          move := some { stop with recoat := x.move.bind (·.recoat) }, wait := none, ramp := false, mode := .held }).endMove (x.move.bind (·.acc)) stAborted).endMove
        (x.wait.map (·.acc)) stAborted
    else s) s
  { s1 with mot := { s1.mot with stream := { s1.mot.stream with halted := s1.mot.stream.running } } }

def State.resumeMotion (s : State) : State :=
  let s1 := (List.range 8).foldl (fun s a =>
    if (s.axis a).mode == .held then
      match (s.axis a).move.bind (·.recoat) with
      | some i => (s.setAxis a fun x => { x with move := none, mode := .idle }).startStep i
      | none => s.setAxis a fun x => { x with mode := if x.move.isSome then .moving else .idle }
    else s) s
  let st := s1.mot.stream
  if st.running && st.halted then
    let tick := s1.dt / 16000 + 1
    { s1 with mot := { s1.mot with stream := { st with halted := false, prev := s1.mot.axes.map (·.p), prevTick := tick, due := tick + s1.dparam 0x9011 } } }
  else s1

/-- Every axis quick-stopped, waits and the stream ended (R38, R293, R307). -/
def State.stopAllAxes (s : State) : State :=
  let acc := s.mot.stream.acc
  let s1 := { s with mot := { s.mot with stream := { s.mot.stream with running := false, acc := none } } }
  ((List.range 8).foldl (fun s a => s.quickStop a) s1).endMove acc stAborted

/-! Writes of parameters that act on a move (R289, R298, R308). -/

/-- `MOT.DECEL` written while RAMP is set (R289). -/
def State.decelWritten (a : Nat) (s : State) : State :=
  let x := s.axis a
  match x.move with
  | none => s
  | some m =>
    if !x.ramp then s
    else
      let new := accelOf (s.param 0x9004 a)
      let d := m.target - x.p
      let away := decide (x.v ≠ 0 ∧ (d = 0 ∨ signOf d ≠ signOf x.v))
      let toCruise := !away && decide (m.cruise < x.v.natAbs ∧ m.cruise ≤ isqrt (2 * x.dr * d.natAbs))
      let fits := !away && decide (x.v.natAbs * x.v.natAbs ≤ 2 * new * d.natAbs)
      if x.dr ≤ new ∨ m.cruise = 0 ∨ toCruise ∨ fits then s.setAxis a fun x => { x with dr := new }
      else s.setAxis a fun x => { x with rampKept := true, rampKepts := inc32 x.rampKepts }

/-- `MOT.LIMITS` written: the target of a move outside them becomes the nearer limit; when that lies within the stopping
distance, the axis brakes and stops beyond it (R298). -/
def State.limitsWritten (a : Nat) (s : State) : State :=
  let x := s.axis a
  match x.move with
  | none => s
  | some m =>
    let lo := s.limLow a * stepUnit
    let hi := s.limHigh a * stepUnit
    if lo ≤ m.target ∧ m.target ≤ hi then s
    else
      let t := if m.target < lo then lo else hi
      let d := t - x.p
      let dec := accelOf (s.param 0x9004 a)
      let beyond := decide (x.v ≠ 0 ∧ (signOf d ≠ signOf x.v ∨ 2 * dec * d.natAbs < x.v.natAbs * x.v.natAbs))
      if beyond then (s.failStep a).setAxis a fun x => { x with move := some { m with speedMode := true, target := t, cruise := 0, recoat := none } }
      else s.setAxis a fun x => { x with move := some { m with target := t } }

/-- `MOT.AXIS_CFG` written: the axis is enabled or disabled; a drive fault present at its enabling faults it (R296). -/
def State.axisCfgWritten (a : Nat) (s : State) : State :=
  if s.axisOn a then
    let s1 := s.setAxis a fun x => { x with mode := if x.mode = .disabled then .idle else x.mode }
    if (s.axis a).pinLow then s1.axisFault 1 a else s1
  else s.setAxis a fun x => { x with mode := .disabled, cause := 0 }

/-! Readings (Tables 10.6 and 10.7). -/

def AxisMode.code : AxisMode → Nat
  | .idle => 0 | .moving => 1 | .held => 2 | .fault => 3 | .disabled => 4

def State.motStatus (s : State) (a : Nat) : Nat :=
  let x := s.axis a
  x.mode.code + bit x.ramp * 16 + bit x.posValid * 32 + bit x.inPosition * 64 + bit x.rampKept * 128 + bit x.overshoot * 256 +
    bit x.atLimit * 512 + bit x.limitPassed * 1024 + bit s.mot.recoatWait * 2048 + x.cause * 65536 + x.source * 262144

def State.motPosition (s : State) (a : Nat) : Nat := beside (ofSigned 32 (s.axis a).issued) 4 (ofSigned 32 (s.followError a))

/-- The level of a SYNC_OUT output; SOURCE 5 shows that an axis moves (Table 10.5). -/
def State.syncLevel (s : State) (o : Nat) : Bool :=
  let e := byteField (s.dparam 0x900D) (16 * o) 16
  if byteField e 0 1 = 5 then !s.atRest (byteField e 1 1) else decide (s.dt < s.mot.syncOut.getD o 0)

/-- The position of an axis set to `v` (R294, R297). -/
def State.placeAxis (a : Nat) (v : Int) (source : Nat) (s : State) : State :=
  s.setAxis a fun x => { x with
    p := v * stepUnit, v := 0, pf := v * stepUnit, pfSpeed := 0, hist := x.hist.map fun _ => v * stepUnit, issued := v
    posValid := true, source := source, waitZero := none }

/-- A rising edge on SYNC_IN releases the moves and recoat steps that wait for it (R303). -/
def State.syncInMotion (i : Nat) (s : State) : State :=
  let wake (w : AxisWait) : AxisWait := if w.input = i ∧ w.edge.isNone then { w with edge := some s.dt } else w
  { s with mot := { s.mot with
      syncIn := updAt s.mot.syncIn i fun _ => s.dt
      axes := s.mot.axes.map fun x => { x with wait := x.wait.map wake }
      steps := s.mot.steps.zipIdx.map fun (x : RecoatStep × Nat) =>
        if x.1.st == .armed none && stepStart (recoatStep (s.dparam 0x900C) x.2) == i + 2 then { x.1 with st := .armed (some s.dt) } else x.1 } }

end Sys2Proof.Machine
end

