-- ==== Sys2Proof/Machine/Feedback.lean ====
section
/-! DEFINITION. Local feedback channels and scanner-axis tracks in the state (R309 to R325). -/

namespace Sys2Proof.Machine

/-! Coefficients (R311, R538, R543). -/

/-- The front end that converts for channel `c`: the spare while it is handed over (Table 20.6). -/
def State.frontOf (s : State) (c : Nat) : Nat :=
  match s.svc.trim with
  | some t => if t.fe = c ∧ !t.inPlace ∧ 3 ≤ t.step ∧ t.step ≤ 5 then 8 else c
  | none => c

/-- The part of a front end's coefficients in use above the factory calibration, slewed over 1,024 conversions (R538, R543). -/
def FrontEnd.deltaNow (x : FrontEnd) : List Int :=
  (List.range 5).map fun (i : Nat) => x.slewFrom.getD i 0 + roundDiv ((x.delta.getD i 0 - x.slewFrom.getD i 0) * min x.slewDone 1024) 1024

/-- A front end's coefficients in use: factory + delta (R538). -/
def State.calOf (s : State) (fe : Nat) : List Int :=
  List.zipWith (fun (a b : Int) => a + b) (s.otp.factory.getD fe []) (s.svc.frontEnds.getD fe {}).deltaNow

def State.channelCal (s : State) (c : Nat) : TrackCal :=
  let k := s.calOf (s.frontOf c)
  let cfg := s.param 0xA000 c
  let lim := s.param 0xA003 c
  { offS := k.getD 0 0, offC := k.getD 1 0, gainS := k.getD 2 0, gainC := k.getD 3 0, phase := k.getD 4 0
    ampMin := byteField lim 0 2, ampMax := byteField lim 2 2, resExp := byteField cfg 2 1, invert := (byteField cfg 1 1).testBit 0 }

/-- The coefficients of axis `a` of head `h` (`FBK.AXIS_CAL`). -/
def State.headAxisCal (s : State) (h a : Nat) : TrackCal :=
  let v := byteField (s.param 0xA010 h) (16 * a) 16
  { offS := toSigned 16 (byteField v 0 2), offC := toSigned 16 (byteField v 2 2), gainS := byteField v 4 2, gainC := byteField v 6 2
    phase := toSigned 16 (byteField v 8 2), resExp := byteField v 10 1, invert := (byteField v 11 1).testBit 0
    ampMin := byteField v 12 2, ampMax := byteField v 14 2 }

/-! Errors (R318, R319). -/

/-- An event record for each error that begins (Table 19.3). -/
def State.trackEvents (source fresh : Nat) (s : State) : State :=
  (List.range 12).foldl (fun s b => if fresh.testBit b then s.logEvent 0xA001 source b 0 else s) s

/-- Axes bound to a channel. -/
def State.boundAxes (s : State) (c : Nat) : List Nat := (List.range 8).filter fun a => s.axisChannel a == some c

/-- Channel `c` after an update: its events, and the fault of a bound axis once LOST becomes set. -/
def State.trackDone (c fresh : Nat) (was : Bool) (s : State) : State :=
  let s1 := s.trackEvents c fresh
  if !was && (s1.channel c).track.lost then (s1.boundAxes c).foldl (fun s a => s.axisFault 2 a) s1 else s1

/-! The pulse divider (R320). -/

def State.dividerO (s : State) (c : Nat) : Int :=
  let d := s.param 0xA005 c
  Int.fdiv ((s.channel c).track.c * byteField d 2 2) (byteField d 4 2)

/-- The next pair of levels of the quadrature sequence 00, 10, 11, 01. -/
def quadNext (up a b : Bool) : Bool × Bool := if up then (!b, a) else (b, !a)

/-- One output step, at the earliest instant the edge spacing allows. -/
def State.dividerStep (c : Nat) (up : Bool) (s : State) : State :=
  let d := s.param 0xA005 c
  let gap := 16 * byteField d 6 2
  let x := s.channel c
  if byteField d 0 1 = 1 then
    let at_ := max s.dt x.nextAt
    let l := quadNext up x.oa x.ob
    (s.setChannel c fun x => { x with steps := x.steps ++ [at_], nextAt := at_ + gap, oa := l.1, ob := l.2 }).send (.divider c at_ l.1 l.2)
  else
    let at_ := max s.dt x.nextAt + (if x.ob = up then 0 else gap)
    (s.setChannel c fun x => { x with steps := x.steps ++ [at_], nextAt := at_ + 2 * gap, ob := up }).send (.divider c at_ true up)

/-- The divider follows the count; more than 256 waiting steps set PO_OVERRUN. -/
def State.divide (c : Nat) (s : State) : State :=
  if byteField (s.param 0xA005 c) 0 1 = 0 then s
  else
    let o := s.dividerO c
    let n := (o - (s.channel c).o).natAbs
    let up := decide ((s.channel c).o < o)
    let s1 := (List.range n).foldl (fun s _ => s.dividerStep c up) (s.setChannel c fun x => { x with steps := x.steps.filter fun d => decide (s.dt < d) })
    s1.setChannel c fun x => { x with o := o, track := if 256 < (x.steps.filter fun d => decide (s.dt < d)).length then
      { x.track with sticky := x.track.sticky ||| fbOverrun } else x.track }

/-- `FBK.DIVIDER` written: O is set, no step goes out. -/
def State.dividerSet (c : Nat) (s : State) : State :=
  let off := byteField (s.param 0xA005 c) 0 1 == 0
  s.setChannel c fun x => { x with o := if off then 0 else s.dividerO c, oa := x.oa && !off, ob := x.ob && !off }

/-! Updates. -/

/-- SINCOS_CONVERSION (R311 to R313, R543). -/
def State.sinCos (c sc cc : Nat) (s : State) : State :=
  let fe := s.frontOf c
  let s0 := { s with svc := { s.svc with frontEnds := updAt s.svc.frontEnds fe fun x => { x with slewDone := min 1024 (x.slewDone + 1) } } }
  if s.fbkMode c ≠ 1 then s0
  else
    let x := s0.channel c
    let r := x.track.convert (s0.channelCal c) sc cc
    ((s0.setChannel c fun x => { x with track := r.1, lastDt := s.dt }).trackDone c r.2 x.track.lost).divide c

/-- QUAD_EDGE: the filtered levels A and B after a change (R314). -/
def State.quadEdge (c : Nat) (a b : Bool) (s : State) : State :=
  if s.fbkMode c ≠ 2 then s
  else
    let x := s.channel c
    let both := (a != x.a) && (b != x.b)
    let step := quadStep x.a x.b a b
    let inv := (byteField (s.param 0xA000 c) 1 1).testBit 0
    let t := if both then ({ x.track with lost := true }).errorsNow fbQuad
      else (x.track.follow (x.track.r + (if inv then -step else step))).errorsNow 0
    ((s.setChannel c fun x => { x with track := t.1, a := a, b := b, lastDt := s.dt }).trackDone c t.2 x.track.lost).divide c

/-- The count set to a value (R325); the feedback position of a bound axis stays. -/
def State.setCount (c : Nat) (v : Int) (s : State) : State :=
  let cfg := s.param 0xA000 c
  let m : Int := (2 ^ (12 - byteField cfg 2 1) : Nat)
  let before := (s.boundAxes c).map fun a => (a, s.feedback a)
  let s1 := (s.setChannel c fun x => { x with
    hist := []
    track := { x.track with r := v, c := v, lost := false, p := if byteField cfg 0 1 = 1 then v * m + x.track.p % m else x.track.p } }).dividerSet c
  before.foldl (fun s e => match e.2, s.feedback e.1 with
    | some old, some new => s.setAxis e.1 fun x => { x with offset := x.offset + (old - new) }
    | _, _ => s) s1

/-- QUAD_INDEX: a rising edge of the filtered Z (R314). -/
def State.quadIndex (c : Nat) (s : State) : State :=
  let cfg := s.param 0xA000 c
  let index := byteField cfg 4 1
  if s.fbkMode c ≠ 2 ∨ index = 0 then s
  else
    let s1 := s.setChannel c fun x => { x with latchC := x.track.c, latchDt := s.dt }
    if index = 2 then (s1.setCount c (toSigned 32 (byteField cfg 8 4))).setParam 0xA000 c (cfg - 2 ^ 32) else s1

/-- SSI_FRAME_END: the value bits, the extra bits, whether the frame is good, its latch instant (R315). -/
def State.ssiFrame (c raw extra : Nat) (good : Bool) (latch : Nat) (s : State) : State :=
  if s.fbkMode c ≠ 3 then s
  else
    let x := s.channel c
    let cfg := s.param 0xA001 c
    let n := byteField cfg 0 1
    let value := if (byteField cfg 2 1).testBit 0 then grayTo n (raw % 2 ^ n) else raw % 2 ^ n
    if !good then
      let t := x.track.errorsNow fbSsi
      (s.setChannel c fun x => { x with track := t.1, ssiFails := x.ssiFails + 1 }).trackDone c t.2 x.track.lost
    else
      let lost := decide (3 ≤ x.ssiFails ∧ n < 32)
      let t0 := if x.ssiStarted then x.track.follow (ssiUnwrap n value x.track.r) else x.track.setCount value
      let t := ({ t0 with started := true, lost := t0.lost || lost }).errorsNow 0
      ((s.setChannel c fun x => { x with
          track := t.1, ssiFails := 0, ssiStarted := true, extra := extra % 2 ^ byteField cfg 1 1, lastDt := latch }).trackDone c t.2 x.track.lost).divide c

/-- A restart of a channel's count (R313, R324): LOST is clear, a bound axis loses its position. -/
def State.restartTrack (c : Nat) (s : State) : State :=
  let m := s.fbkMode c
  let s1 := s.setChannel c fun x => { x with
    track := { active := m != 0, started := m == 2, sticky := x.track.sticky, errors := x.track.errors }
    hist := [], speed := 0, extra := 0, ssiFails := 0, ssiStarted := false }
  ((s.boundAxes c).foldl (fun s a => s.setAxis a fun x => { x with posValid := false }) s1).dividerSet c

/-! Scanner-axis tracks (R321 to R323). -/

def axisIndex (h a : Nat) : Nat := 3 * h + a
def State.axisTrack (s : State) (h a : Nat) : AxisTrack := s.fbk.axes.getD (axisIndex h a) {}
def State.setAxisTrack (h a : Nat) (f : AxisTrack → AxisTrack) (s : State) : State :=
  { s with fbk := { s.fbk with axes := updAt s.fbk.axes (axisIndex h a) f } }

/-- The tracks of a head start at its link-up for the axes it declares (R323), and end with the link. -/
def State.startTracks (h : Nat) (declared : Nat → Bool) (s : State) : State :=
  (List.range 3).foldl (fun s a => s.setAxisTrack h a fun x => { x with
    whole := false, hist := [], track := { active := declared a, sticky := x.track.sticky, errors := x.track.errors } }) s

/-- One pair of an axis. -/
def State.axisPair (h a sc cc : Nat) (s : State) : State :=
  let r := (s.axisTrack h a).track.convert (s.headAxisCal h a) sc cc
  (s.setAxisTrack h a fun x => { x with track := r.1 }).trackEvents (32 + axisIndex h a) r.2

/-- The pairs of a sample; a missing one is skipped (R322). -/
def State.axisSample (h a slot : Nat) (pairs : List (Option (Nat × Nat))) (s : State) : State :=
  let s1 := pairs.foldl (fun s p =>
    match p with
    | some p => s.axisPair h a p.1 p.2
    | none =>
      let r := (s.axisTrack h a).track.errorsNow ((s.axisTrack h a).track.cond ||| fbMissing)
      (s.setAxisTrack h a fun x => { x with track := r.1 }).trackEvents (32 + axisIndex h a) r.2) s
  let whole := pairs.all Option.isSome
  s1.setAxisTrack h a fun (x : AxisTrack) => { x with
    whole := whole, hist := ((slot, toSigned 32 (ofSigned 32 x.track.c), whole && x.track.good) :: x.hist).take 256 }

/-- The validity of R322. -/
def State.axisValid (s : State) (h a : Nat) : Bool := (s.axisTrack h a).whole && (s.axisTrack h a).track.good

/-! Readings (Table 11.7). -/

def Track.status (valid trim : Bool) (t : Track) : Nat :=
  t.sticky + bit t.active + bit valid * 2 + bit t.lost * 4 + bit trim * 8
def State.fbkStatus (s : State) (c : Nat) : Nat :=
  let trim := match s.svc.trim with | some t => t.fe == c && !t.inPlace && decide (t.step ≤ 5) | none => false
  (s.channel c).track.status (s.fbkValid c) trim
def State.axisStatusWord (s : State) (h : Nat) : Nat :=
  (List.range 3).foldl (fun v a => v + (s.axisTrack h a).track.status (s.axisValid h a) false * 2 ^ (32 * a)) 0
def State.axisCounts (s : State) (h : Nat) : Nat :=
  (List.range 3).foldl (fun v a => v + ofSigned 32 (s.axisTrack h a).track.c * 2 ^ (32 * a)) 0
def State.axisErrors (s : State) (h : Nat) : Nat :=
  (List.range 3).foldl (fun v a => v + (s.axisTrack h a).track.errors * 2 ^ (32 * a)) 0
def State.fbkCountWord (s : State) (c : Nat) : Nat :=
  let x := s.channel c
  ofSigned 32 x.track.c + ofSigned 32 x.speed * 2 ^ 32 + x.lastDt * 2 ^ 64 + x.extra * 2 ^ 128
def State.calWord (s : State) (fe : Nat) : Nat :=
  (List.range 5).foldl (fun v i => v + ofSigned 16 ((s.calOf fe).getD i 0) * 2 ^ (16 * i)) 0

end Sys2Proof.Machine
end

