-- ==== Sys2Proof/Machine/Sense.lean ====
section
/-! DEFINITION. Melt-pool values: photodiodes, ratio temperature, frame metrics, records and markers (R175 to R198). -/

namespace Sys2Proof.Machine

/-- A band's corrected value (R176). -/
def pdValue (raws : List Nat) (offset gain : Nat) : Nat :=
  let m := roundNat (raws.foldl (· + ·) 0) raws.length
  (clampInt 0 65535 (roundDiv (((m : Int) - offset) * gain) 16384)).toNat

/-- Entry `i` of a ratio table (Table 06.1). -/
def RatioTable.entry (t : RatioTable) (i : Nat) : Nat := field t.image (64 + 2 * i) 2

/-- `ratio_temperature` (R177) for a sample that is neither saturated nor missing. -/
def ratioTemp (t : Option RatioTable) (ratioMin a b : Nat) : Nat :=
  match t with
  | none => 0
  | some t =>
    if a + b = 0 ∨ a + b < ratioMin then 0
    else
      let q := roundNat (65536 * a) (a + b)
      let i := q / 64
      let f := q - 64 * i
      if f = 0 then t.entry i else roundNat (t.entry i * (64 - f) + t.entry (i + 1) * f) 64

/-- The image checks of R178 in their order. -/
def ratioFail (im : List Byte) : Option Nat := firstFail [
  (decide (field im 4 1 ≠ 0x10), stVersion),
  (decide (field im 0 4 ≠ 0x52545853), stRatioFormat),
  (!allZero (slice im 5 3) || !allZero (slice im 16 48) || !allZero (slice im 2114 62), stRange),
  (decide (crc32c (slice im 64 2050) ≠ field im 12 4), stIntegrity)]

/-- The instants of PD pairs in `[a, b)` (R175). -/
def pdInstants (a b : Nat) : List Nat := (List.range (ceilDiv b 1600 - ceilDiv a 1600)).map fun i => ceilDiv a 1600 + i

/-- Sensing of a sample from its raw pairs (R176, R177). -/
def senseOf (t : Option RatioTable) (ratioMin offA gainA offB gainB : Nat) (pairs : List (Nat × Nat)) : Sense :=
  let a := pdValue (pairs.map (·.1)) offA gainA
  let b := pdValue (pairs.map (·.2)) offB gainB
  let sat := pairs.any fun p => p.1 == 65535 || p.2 == 65535
  { a := a, b := b, sat := sat, temp := if sat then 0 else ratioTemp t ratioMin a b }

/-- Pixel neighbours within the region (8-connected). -/
def neighbours (w h x y : Nat) : List (Nat × Nat) :=
  let xs := (if x = 0 then [] else [x - 1]) ++ [x] ++ (if x + 1 < w then [x + 1] else [])
  let ys := (if y = 0 then [] else [y - 1]) ++ [y] ++ (if y + 1 < h then [y + 1] else [])
  (ys.flatMap fun b => xs.map fun a => (a, b)).filter fun p => p != (x, y)

/-- The 8-connected set of qualifying pixels reached from a work list. -/
def flood (w h : Nat) (ok : Nat × Nat → Bool) : Nat → List (Nat × Nat) → List (Nat × Nat) → List (Nat × Nat)
  | 0, _, seen => seen
  | _, [], seen => seen
  | fuel + 1, p :: work, seen =>
    let new := (neighbours w h p.1 p.2).filter fun q => ok q && !seen.contains q
    flood w h ok fuel (new ++ work) (seen ++ new)

def floodFrom (w h : Nat) (ok : Nat × Nat → Bool) (p : Nat × Nat) : List (Nat × Nat) :=
  if ok p then flood w h ok (w * h + 1) [p] [p] else []

/-- The 8-connected components of the qualifying pixels, in raster order of their first pixels. -/
def components (w h : Nat) (ok : Nat × Nat → Bool) : List (Nat × Nat) → List (List (Nat × Nat)) → List (List (Nat × Nat))
  | [], cs => cs.reverse
  | p :: ps, cs => if ok p && !cs.any (·.contains p) then components w h ok ps (floodFrom w h ok p :: cs) else components w h ok ps cs

/-- `round(1024 · sqrt((P ± sqrt(Q)) / (2·S²)))` (R183): the inner root is carried to 2⁻²⁰⁰, finer than any distance of
such a value from a rounding boundary. -/
def axisLength (plus : Bool) (p : Int) (q s : Nat) : Nat :=
  let r : Int := isqrt (q * 2 ^ 400)
  let v := p * (2 ^ 200 : Nat) + (if plus then r else -r)
  roundSqrt (v.toNat * 1024 * 1024) (2 * s * s * 2 ^ 200)

/-- The metrics of a frame (R183): region, dark level, pool level, spatter level and sizes, raw pixels in raster order. -/
def frameMetrics (w h dark pool spatter smin smax : Nat) (raw : List Nat) (number start done : Nat) : FrameResult :=
  let px (p : Nat × Nat) : Nat := raw.getD (p.2 * w + p.1) 0 - dark
  let all : List (Nat × Nat) := (List.range (w * h)).map fun i => (i % w, i / w)
  let peak := all.foldl (fun a p => max a (px p)) 0
  let first := (all.find? fun p => px p == peak).getD (0, 0)
  let m := floodFrom w h (fun p => decide (pool ≤ px p) && decide (0 < px p)) first
  let base : FrameResult := { number := number, start := start, done := done, peak := min peak 1023 }
  if m.isEmpty then { base with empty := true }
  else
    let sum (f : Nat × Nat → Int) : Int := m.foldl (fun a p => a + f p * px p) 0
    let s := (sum fun _ => 1).toNat
    let sx := sum fun p => p.1
    let sy := sum fun p => p.2
    let m20 := s * sum (fun p => (p.1 * p.1 : Nat)) - sx * sx
    let m02 := s * sum (fun p => (p.2 * p.2 : Nat)) - sy * sy
    let m11 := s * sum (fun p => (p.1 * p.2 : Nat)) - sx * sy
    let q := ((m20 - m02) * (m20 - m02) + 4 * m11 * m11).toNat
    let sp := (components w h (fun p => decide (spatter ≤ px p)) all []).filter fun c =>
      decide (smin ≤ c.length ∧ c.length ≤ smax) && !c.any (m.contains ·)
    { base with
      area := m.length, integral := s, cx := satNat 65535 (roundNat (256 * sx.toNat) s), cy := satNat 65535 (roundNat (256 * sy.toNat) s),
      major := satNat 65535 (axisLength true (m20 + m02) q s), minor := satNat 65535 (axisLength false (m20 + m02) q s),
      angle := if m11 = 0 ∧ m20 = m02 then 0 else roundDiv (fixAtan2 (2 * m11 * fixOne) ((m20 - m02) * fixOne) * 16384) fixPi.toNat,
      spatter := satNat 255 sp.length,
      edge := m.any fun p => p.1 == 0 || p.2 == 0 || p.1 + 1 == w || p.2 + 1 == h }

/-- The 32-byte FRAME marker of a frame result (Table 06.5); `full` is false in host-assisted mode (Table 06.6). -/
def frameMarker (head startDt : Nat) (full : Bool) (r : FrameResult) : List Byte :=
  let m (n v : Nat) : List Byte := leBytes n (if full then v else 0)
  leBytes 8 startDt ++ leBytes 4 r.number ++ m 2 r.area ++ leBytes 1 head ++ leBytes 1 0x3F ++
    leBytes 2 ((if full then r.peak + 1024 * bit r.empty + 4096 * bit r.edge else 0) + 2048 * bit r.truncated) ++ m 3 r.integral ++ m 1 r.spatter ++
    m 2 r.cx ++ m 2 r.cy ++ m 2 r.major ++ m 2 r.minor ++ m 2 (ofSigned 16 r.angle)

/-- LAYER, FENCE, GAP and PAD markers (Table 06.5). -/
def layerMarker (dtS layer ts heads : Nat) : List Byte :=
  leBytes 8 dtS ++ leBytes 4 layer ++ zeros 3 ++ leBytes 1 0x1F ++ leBytes 1 ts ++ leBytes 1 heads ++ zeros 14
def fenceMarker (dt tag number : Nat) : List Byte :=
  leBytes 8 dt ++ leBytes 2 tag ++ leBytes 4 number ++ zeros 1 ++ leBytes 1 0x2F ++ zeros 16
def gapMarker (g : Gap) : List Byte :=
  leBytes 8 g.first ++ leBytes 4 (satNat 4294967295 g.count) ++ zeros 3 ++ leBytes 1 0x4F ++ leBytes 8 g.last ++ zeros 8
def padMarker : List Byte := zeros 15 ++ leBytes 1 0x0F ++ zeros 16

/-- A melt-pool record (Table 06.3). -/
def meltRecord (r : PendingRec) (s : Sense) : List Byte :=
  let f := match r.frame with | some f => f | none => {}
  let stale := r.frame.isNone
  let g (v : Nat) : Nat := if s.missing then 0 else v
  leBytes 8 r.dt ++ leBytes 3 r.x ++ leBytes 3 r.y ++ leBytes 1 (r.head % 32 + 32 * bit s.sat + 64 * bit stale + 128 * bit s.missing) ++
    leBytes 1 (r.cls + 16 * r.flags) ++ leBytes 2 r.power ++ leBytes 2 (ofSigned 16 r.corr) ++ leBytes 2 (g s.a) ++ leBytes 2 (g s.b) ++
    leBytes 2 (g s.temp) ++ leBytes 2 f.area ++ leBytes 2 f.peak ++ leBytes 2 r.ledger

/-- A metric of Table 06.2 with its valid bit (R186). -/
def metricValue (i : Nat) (s : Sense) (f : Option FrameResult) : Nat × Bool :=
  let pd := !s.missing && !s.sat
  let cam := f.isSome
  let r := match f with | some r => r | none => {}
  match i with
  | 0 => (s.a, pd)
  | 1 => (s.b, pd)
  | 2 => (min (s.a + s.b) 65535, pd)
  | 3 => (s.temp, decide (s.temp ≠ 0) && !s.missing && !s.sat)
  | 4 => (r.area, cam)
  | 5 => (r.peak, cam)
  | 6 => (r.integral, cam)
  | 7 => (r.cx, cam)
  | 8 => (r.cy, cam)
  | 9 => (r.major, cam)
  | 10 => (r.minor, cam)
  | 11 => (if r.minor = 0 then 65535 else min 65535 (roundNat (256 * r.major) r.minor), cam)
  | 12 => (r.spatter, cam)
  | _ => (0, false)

/-- Packs 10-bit pixels (R198). -/
def packPixels (w h : Nat) (raw : List Nat) : List Byte :=
  leBytes ((10 * w * h + 7) / 8) ((raw.zipIdx).foldl (fun a p => a + (p.1 % 1024) * 2 ^ (10 * p.2)) 0)

/-- Unpacks `n` 10-bit pixels from bytes. -/
def unpackPixels (n : Nat) (bs : List Byte) : List Nat :=
  let v := leNat bs
  (List.range n).map fun i => bits v (10 * i) 10

/-- A retained frame: header and pixel data, padded to 64 bytes (R198, Table 06.6). -/
def rawFrame (head w h layer roiX roiY cause exposure : Nat) (raw : List Nat) (result : List Byte) : List Byte :=
  let px := packPixels w h raw
  let hdr := leBytes 4 0x46525853 ++ leBytes 1 0x10 ++ leBytes 1 head ++ leBytes 1 w ++ leBytes 1 h ++ leBytes 4 layer ++ leBytes 2 roiX ++
    leBytes 2 roiY ++ leBytes 1 cause ++ zeros 1 ++ leBytes 2 exposure ++ leBytes 4 px.length ++ leBytes 4 (crc32c px) ++ zeros 4 ++ result
  padTo ((64 + px.length + 63) / 64 * 64) (hdr ++ px)

end Sys2Proof.Machine
end

