-- ==== Sys2Proof/Machine/Loops.lean ====
section
/-! DEFINITION. The loop frame (R212 to R219), generators (R234), placement (R209), rules (R228) and map factors (R227). -/

namespace Sys2Proof.Machine

/-- Flag bits of Table 07.5. -/
def flPresetSat : Nat := 32768
def flInput : Nat := 16384
def flInvalid : Nat := 8192
def flMissed : Nat := 4096
def flRate : Nat := 2048
def flClamp : Nat := 1024
def flFf : Nat := 512
def flPid : Nat := 16
def flInteg : Nat := 8
def flError : Nat := 4
def flShape : Nat := 2

/-- Saturation to 32 bits with the stage's flag when it limits (R212). -/
def sat32 (x : Int) : Int := clampInt (-2147483648) 2147483647 x
def satF (fl : Nat) (x : Int) : Int × Nat := (sat32 x, if sat32 x = x then 0 else fl)

/-- `narrow` of R212 with the stage's flag. -/
def narrowF (fl : Nat) (x : Int) : Int × Nat := satF fl (roundDiv x 16777216)
def narrow (x : Int) : Int := sat32 (roundDiv x 16777216)

/-- Kind of a loop and its cost (Tables 07.1, 07.2). -/
def loopCost (l : Nat) : Nat := if l < 32 then 32 else 48
def loopHead (l : Nat) : Option Nat := if l < 32 then some l else if l < 128 then some ((l - 32) / 3) else none

/-- Fields of a loop's configuration (Table 07.15). -/
def cfgMode (c : Nat) : LoopMode := match bits c 0 2 with | 0 => .off | 1 => .manual | _ => .auto
def cfgDiv (c : Nat) : Nat := 2 ^ bits c 8 3
def cfgPhase (c : Nat) : Nat := bits c 16 8
def cfgReverse (c : Nat) : Bool := c.testBit 24
def cfgRestart (c : Nat) : Bool := c.testBit 25
def cfgDest (c : Nat) : Nat := bits c 32 8
def cfgDestLoop (c : Nat) : Nat := bits c 40 8

/-- Coefficients of a loop, from its parameters. -/
structure LoopCoef where
  alpha : Int
  dr : Int
  kp : Int
  ki : Int
  kd : Int
  biquads : List (List Int)
  k1 : Int
  k2 : Int
  k3 : Int
  bias : Int
  outMin : Int
  outMax : Int
  du : Int
  outStart : Int
  manual : Int
  hostIn : Int
  deriving DecidableEq, Repr

def s32 (v off : Nat) : Int := toSigned 32 (byteField v off 4)

def coefOf (shape pid biquad ff limits manual hostIn : Nat) : LoopCoef :=
  { alpha := s32 shape 0, dr := s32 shape 4, kp := s32 pid 0, ki := s32 pid 4, kd := s32 pid 8,
    biquads := (List.range 4).map fun j => (List.range 5).map fun i => s32 biquad (20 * j + 4 * i),
    k1 := s32 ff 0, k2 := s32 ff 4, k3 := s32 ff 8, bias := s32 ff 12, outMin := s32 limits 0, outMax := s32 limits 4, du := s32 limits 8,
    outStart := s32 limits 12, manual := s32 manual 0, hostIn := s32 hostIn 0 }

/-- The converted inputs of an execution (R213, R222, R224), the flags their conversion set, the raw feedback. -/
structure LoopIn where
  y : Int := 0
  r : Int := 0
  x1 : Int := 0
  x2 : Int := 0
  x3 : Int := 0
  flags : Nat := 0
  raw : Int := 0
  /-- an input the frame uses is invalid or absent -/
  invalid : Bool := false
  /-- the input sample carries no feedback of the loop (Table 07.4), or is a rule sample for a power loop -/
  idle : Bool := false
  dt : Nat := 0
  deriving DecidableEq, Repr

/-- Injection at a node: the sum with add() and its flag. -/
def inject (inj : List (Nat × Int)) (node fl : Nat) (x : Int) : Int × Nat :=
  match inj.find? (fun p => p.1 == node) with
  | some p => satF fl (x + p.2)
  | none => (x, 0)

/-- Values of an execution at the nodes of Table 07.12. -/
structure LoopNodes where
  y : Int := 0
  r : Int := 0
  rs : Int := 0
  e : Int := 0
  i : Int := 0
  u : Int := 0
  bq : List Int := [0, 0, 0, 0]
  v : Int := 0
  out : Int := 0
  gen : Int := 0
  raw : Int := 0
  deriving DecidableEq, Repr

def LoopNodes.node (n : LoopNodes) : Nat → Int
  | 0 => n.y | 1 => n.r | 2 => n.rs | 3 => n.e | 4 => n.i | 5 => n.u
  | 6 => n.bq.getD 0 0 | 7 => n.bq.getD 1 0 | 8 => n.bq.getD 2 0 | 9 => n.bq.getD 3 0
  | 10 => n.v | 11 => n.out | 12 => n.gen | _ => n.raw

/-- Stage 1 (R214): the shaped setpoint and flags. -/
def shapeStage (c : LoopCoef) (rs r : Int) : Int × Nat :=
  let dr := satF flShape (r - rs)
  let st := narrowF flShape (c.alpha * dr.1)
  let rs' := satF flShape (rs + clampInt (-c.dr) c.dr st.1)
  (rs'.1, dr.2 ||| st.2 ||| rs'.2)

/-- One biquad stage: output, new S1 and S2, flag. -/
def biquadStep (fl : Nat) (k : List Int) (u s1 s2 : Int) : Int × Int × Int × Nat :=
  let c (i : Nat) : Int := k.getD i 0
  let b := narrowF fl (c 0 * u + s1 * 16777216)
  let n1 := narrowF fl (c 1 * u - c 3 * b.1 + s2 * 16777216)
  let n2 := narrowF fl (c 2 * u - c 4 * b.1)
  (b.1, n1.1, n2.1, b.2 ||| n1.2 ||| n2.2)

/-- Stage 4 over the four stages. -/
def biquads : Nat → List (List Int) → Int → List Int → List Int → (Int × List Int × List Int × List Int × Nat)
  | _, [], u, _, _ => (u, [], [], [], 0)
  | j, k :: ks, u, s1, s2 =>
    let b := biquadStep (32 * 2 ^ j) k u (s1.headD 0) (s2.headD 0)
    let r := biquads (j + 1) ks b.1 s1.tail s2.tail
    (r.1, b.1 :: r.2.1, b.2.1 :: r.2.2.1, b.2.2.1 :: r.2.2.2.1, b.2.2.2 ||| r.2.2.2.2)

/-- Stages 6 and 7 with the OUTPUT injection: the output, LIM and flags. -/
def outStages (c : LoopCoef) (inj : List (Nat × Int)) (out v : Int) : Int × Int × Nat :=
  let o := min (max v c.outMin) c.outMax
  let w := min (max o (out - c.du)) (out + c.du)
  let lim : Int := if w < v then 1 else if v < w then -1 else 0
  let wi := inject inj 11 flInput w
  let w' := min (max wi.1 c.outMin) c.outMax
  (w', lim, (if o = v then 0 else flClamp) ||| (if w = o then 0 else flRate) ||| wi.2 ||| (if w' = wi.1 then 0 else flClamp))

/-- A whole execution (R214, R215, R217): mode MANUAL or frozen runs stage 1 only; a preset execution follows R217. -/
def loopFrame (c : LoopCoef) (reverse manual : Bool) (inj : List (Nat × Int)) (x : LoopIn) (s : LoopState) : LoopState × LoopNodes :=
  let y := inject inj 0 flInput x.y
  let r := inject inj 1 flInput x.r
  let sh := shapeStage c s.rs r.1
  let fl := x.flags ||| y.2 ||| r.2 ||| sh.2
  let gen := match inj with | [] => 0 | p :: _ => p.2
  let nodes0 : LoopNodes := { y := y.1, r := r.1, rs := sh.1, e := s.e, i := s.i, out := s.out, gen := gen, raw := x.raw }
  if manual || x.invalid || x.idle then
    let inv := if x.invalid then flInvalid else 0
    if manual then
      let o := inject inj 11 flInput c.manual
      ({ s with rs := sh.1, out := o.1, wasFrozen := true, y := y.1, dt := x.dt, flags := s.flags ||| fl ||| inv ||| o.2,
                execs := inc32 s.execs, frozen := inc32 s.frozen }, { nodes0 with out := o.1 })
    else
      ({ s with rs := sh.1, wasFrozen := true, y := y.1, dt := x.dt, flags := s.flags ||| fl ||| inv,
                execs := inc32 s.execs, frozen := inc32 s.frozen }, nodes0)
  else
    let e0 := if reverse then satF flError (y.1 - sh.1) else satF flError (sh.1 - y.1)
    let e := inject inj 3 flInput e0.1
    let p := narrowF flPid (c.kp * e.1)
    let d := if s.wasFrozen then (0, 0) else narrowF flPid (c.kd * e.1 - c.kd * s.ePrev)
    let f := narrowF flFf (c.bias * 16777216 + c.k1 * x.x1 + c.k2 * x.x2 + c.k3 * x.x3)
    let fl := fl ||| e0.2 ||| e.2 ||| p.2 ||| d.2 ||| f.2
    match s.preset with
    | some t =>
      let u := satF flPresetSat (t - f.1)
      let i := satF flPresetSat (u.1 - p.1 - d.1)
      let s1 := c.biquads.map fun k => narrow (u.1 * 16777216 - k.getD 0 0 * u.1)
      let s2 := c.biquads.map fun k => narrow (k.getD 2 0 * u.1 - k.getD 4 0 * u.1)
      let v := satF flFf (u.1 + f.1)
      let o := outStages c inj t v.1
      ({ s with rs := sh.1, e := e.1, ePrev := e.1, i := i.1, s1 := s1, s2 := s2, out := o.1, lim := o.2.1, y := y.1, dt := x.dt,
                wasFrozen := false, preset := none, flags := s.flags ||| fl ||| u.2 ||| i.2 ||| v.2 ||| o.2.2,
                execs := inc32 s.execs, presets := inc32 s.presets },
       { nodes0 with e := e.1, i := i.1, u := u.1, bq := [u.1, u.1, u.1, u.1], v := v.1, out := o.1 })
    | none =>
      let gi := narrowF flInteg (c.ki * e.1)
      let i := if (0 < s.lim ∧ 0 < gi.1) ∨ (s.lim < 0 ∧ gi.1 < 0) then (s.i, 0) else satF flInteg (s.i + gi.1)
      let u0 := satF flPid (p.1 + i.1 + d.1)
      let u := inject inj 5 flInput u0.1
      let b := biquads 0 c.biquads u.1 s.s1 s.s2
      let v0 := satF flFf (b.1 + f.1)
      let v := inject inj 10 flInput v0.1
      let o := outStages c inj s.out v.1
      ({ s with rs := sh.1, e := e.1, ePrev := e.1, i := i.1, s1 := b.2.2.1, s2 := b.2.2.2.1, out := o.1, lim := o.2.1, y := y.1, dt := x.dt,
                wasFrozen := false,
                flags := s.flags ||| fl ||| gi.2 ||| i.2 ||| u0.2 ||| u.2 ||| b.2.2.2.2 ||| v0.2 ||| v.2 ||| o.2.2,
                execs := inc32 s.execs },
       { nodes0 with e := e.1, i := i.1, u := u.1, bq := b.2.1, v := v.1, out := o.1 })

/-- The output word of a power or servo loop (R218). -/
def loopWord (out : Int) : Int := satSigned 16 (roundDiv out 65536)

/-- An integer source converted (R213). -/
def convInt (raw offset scale : Int) : Int × Nat := satF flInput (roundDiv ((raw - offset) * scale) 1024)

/-- SIN[j] of R234. -/
def sinTable (j : Nat) : Int := fixRound (fixSin (Int.fdiv (fixPi * (2 * j : Nat)) 1024)) (2 ^ 30)

/-- The value a generator gives at its present i, and the generator after it (R234). -/
def Gen.step (g : Gen) : Int × Gen :=
  match g.kind with
  | 1 => (g.amp, { g with i := g.i + 1 })
  | 2 =>
    let g' := if g.i % g.dwell = 0 then
        let b := xor (g.reg.testBit 14) (g.reg.testBit 13)
        { g with reg := (g.reg * 2 + bit b) % 32768, bit_ := b }
      else g
    (if g'.bit_ then g.amp else -g.amp, { g' with i := g.i + 1 })
  | _ =>
    let steps := if g.kind = 3 then g.i / g.dwell else g.i
    let inc := min g.f1 (g.f0 + steps * g.fStep)
    (sat32 (roundDiv (roundDiv (g.amp * sinTable (g.phase / 4194304)) 64) 16777216), { g with i := g.i + 1, phase := (g.phase + inc) % 4294967296 })

/-- Phase loads of a processor list after adding a loop: the load of phase `j` counts loops with `j mod D = φ` (R209). -/
def phaseLoad (ps : List Placed) (proc j : Nat) : Nat :=
  (ps.filter fun p => p.proc == proc && j % p.div == p.phase).foldl (fun a p => a + p.cost) 0

def maxPhaseLoad (ps : List Placed) (proc : Nat) : Nat := (List.range 16).foldl (fun a j => max a (phaseLoad ps proc j)) 0

/-- The processors of the islands in service. -/
def procsOf (islands : Nat) : List Nat := (List.range 24).filter fun p => islands.testBit (p / 4)

/-- Places one loop (R209): the processor with the smallest largest-phase load, ties to the lower index. -/
def placeOne (cap islands : Nat) (ps : List Placed) (loop cost div phase : Nat) : Option (List Placed) :=
  let best := (procsOf islands).foldl (fun (a : Option (Nat × Nat)) p =>
    let m := maxPhaseLoad (ps ++ [{ loop := loop, proc := p, cost := cost, div := div, phase := phase }]) p
    match a with
    | some (_, m0) => if m < m0 then some (p, m) else a
    | none => some (p, m)) none
  match best with
  | some (p, m) => if m ≤ cap then some (ps ++ [{ loop := loop, proc := p, cost := cost, div := div, phase := phase }]) else none
  | none => none

/-- Places loops in ascending index; `none` when a phase load would exceed C = Ts − 16 (R202, R209). -/
def placeAll (cap islands : Nat) : List Placed → List (Nat × Nat × Nat × Nat) → Option (List Placed)
  | ps, [] => some ps
  | ps, (l, cost, d, φ) :: rest =>
    match placeOne cap islands ps l cost d φ with
    | some ps' => placeAll cap islands ps' rest
    | none => none

/-- Fields of a reaction rule (Table 07.9). -/
def ruleMetric (r : Nat) : Nat := byteField r 0 1
def ruleCompare (r : Nat) : Nat := byteField r 1 1
def ruleAction (r : Nat) : Nat := byteField r 2 1
def ruleInvalidMeets (r : Nat) : Bool := (byteField r 3 1).testBit 0
def ruleReleaseRule (r : Nat) : Bool := (byteField r 3 1).testBit 1
def ruleThreshold (r : Nat) : Nat := byteField r 4 4
def ruleCount (r : Nat) : Nat := byteField r 8 2
def ruleRelease (r : Nat) : Nat := byteField r 10 2
def ruleFactor (r : Nat) : Nat := byteField r 12 2
def ruleMinHold (r : Nat) : Nat := byteField r 14 2

/-- Whether a value meets a rule's comparison. -/
def ruleMeets (r v : Nat) : Bool :=
  match ruleCompare r with
  | 0 => decide (ruleThreshold r < v)
  | 1 => decide (ruleThreshold r ≤ v)
  | 2 => decide (v < ruleThreshold r)
  | _ => decide (v ≤ ruleThreshold r)

/-- `evaluate(n, k)` of R228. -/
def ruleStep (r : Nat) (armed : Bool) (value : Option Nat) (s : RuleState) : RuleState :=
  if ruleAction r = 0 || !armed then { s with fired := false, cnt := 0 }
  else
    let met := match value with | some v => ruleMeets r v | none => ruleInvalidMeets r
    if !s.fired then
      let cnt := if met then min 65535 (s.cnt + 1) else 0
      if ruleCount r ≤ cnt then { s with fired := true, cnt := cnt, held := 0, rel := 0 } else { s with cnt := cnt }
    else
      let held := min 65535 (s.held + 1)
      let rel := if met then 0 else min 65535 (s.rel + 1)
      if ruleMinHold r ≤ held ∧ ruleRelease r ≤ rel then { s with fired := false, cnt := 0, held := held, rel := rel }
      else { s with held := held, rel := rel }

/-- The map factor of R227 for an entry and a position `num/den` of the part. -/
def mapFactor (start stop : Int) (num den : Int) : Int :=
  if den ≤ 0 then start else roundDiv (start * den + (stop - start) * clampInt 0 den num) den.toNat

/-- The image checks of R226 for an image of `len` bytes. -/
def mapFail (im : List Byte) (len : Nat) : Option Nat := firstFail [
  (decide (field im 4 1 ≠ 0x10), stVersion),
  (decide (field im 0 4 ≠ 0x4D435853), 0x6005),
  (!allZero (slice im 5 3) || !allZero (slice im 20 44) || decide (4194304 < field im 12 4) ||
    decide (len ≠ (64 + 4 * field im 12 4 + 63) / 64 * 64), stRange),
  (decide (crc32c (slice im 64 (4 * field im 12 4)) ≠ field im 16 4), stIntegrity)]

end Sys2Proof.Machine
end

