-- ==== Sys2Proof/Machine/SigCheck.lean ====
section
/-! DEFINITION. Signature images: reading both formats and the load checks of Table 02.12 (R46 to R64, R79, R80). -/

namespace Sys2Proof.Machine

/-- Twice the signed area of the triangle `a b p` (R54). -/
def cross (a b p : Pt) : Int :=
  ((b.1 : Int) - a.1) * ((p.2 : Int) - a.2) - ((p.1 : Int) - a.1) * ((b.2 : Int) - a.2)

/-- The closed list of edges of a polygon (R53). -/
def edges (vs : List Pt) : List (Pt × Pt) := vs.zip (vs.drop 1 ++ vs.take 1)

/-- `p` lies in the bounding box of the segment `a b`. -/
def inBox (a b p : Pt) : Bool :=
  decide (min a.1 b.1 ≤ p.1 ∧ p.1 ≤ max a.1 b.1 ∧ min a.2 b.2 ≤ p.2 ∧ p.2 ≤ max a.2 b.2)

/-- `p` lies on the segment `a b`. -/
def onSegment (a b p : Pt) : Bool := decide (cross a b p = 0) && inBox a b p

/-- The inside test of R54: boundary points are inside. -/
def insidePoly (p : Pt) (vs : List Pt) : Bool :=
  if (edges vs).any (fun e => onSegment e.1 e.2 p) then true
  else (edges vs).foldl (fun odd e =>
    if (decide (e.1.2 > p.2)) != (decide (e.2.2 > p.2)) then
      (if decide (cross e.1 e.2 p > 0) == decide (e.2.2 > e.1.2) then !odd else odd)
    else odd) false

/-- The segments share a point. -/
def segmentsMeet (a b c d : Pt) : Bool :=
  let s := fun (x : Int) => if x > 0 then (1 : Int) else if x < 0 then -1 else 0
  let o1 := s (cross a b c)
  let o2 := s (cross a b d)
  let o3 := s (cross c d a)
  let o4 := s (cross c d b)
  (o1 * o2 < 0 && o3 * o4 < 0) || onSegment a b c || onSegment a b d || onSegment c d a || onSegment c d b

/-- Adjacent edges `a b` and `b c` share more than the vertex `b`. -/
def overlapAt (a b c : Pt) : Bool :=
  a == b || b == c ||
  (decide (cross a b c = 0) &&
    decide (((a.1 : Int) - b.1) * ((c.1 : Int) - b.1) + ((a.2 : Int) - b.2) * ((c.2 : Int) - b.2) > 0))

/-- Twice the polygon's signed area. -/
def area2 (vs : List Pt) : Int :=
  (edges vs).foldl (fun s e => s + ((e.1.1 : Int) * e.2.2 - (e.2.1 : Int) * e.1.2)) 0

/-- The validity rule of R53. -/
def validPoly (vs : List Pt) : Bool :=
  let n := vs.length
  let es := edges vs
  decide (3 ≤ n ∧ n ≤ 16) && decide (area2 vs ≠ 0) &&
  (List.range n).all fun i => (List.range n).all fun j =>
    if j ≤ i then true
    else
      let e := es.getD i ((0, 0), (0, 0))
      let f := es.getD j ((0, 0), (0, 0))
      if j = i + 1 then !overlapAt e.1 e.2 f.2
      else if i = 0 ∧ j + 1 = n then !overlapAt f.1 f.2 e.2
      else !segmentsMeet e.1 e.2 f.1 f.2

/-- An image read into fields: each item with the flag "a RANGE check of its stage fails". -/
structure RawImage where
  format1 : Bool := false
  headerRange : Bool := false
  layout : Bool := false
  poolCount : Nat := 0
  profileCount : Nat := 0
  profileReplace : Bool := false
  sig : Signature := {}
  sheets : List (Bool × Sheet) := []
  pools : List (Bool × Pool) := []
  profiles : List (Bool × ExpProfile) := []
  records : List (Bool × VecRec) := []
  padBad : Bool := false
  crcBad : Bool := false
  deriving DecidableEq, Repr

/-- A 24-bit coordinate pair at offset `o`. -/
def ptAt (bs : List Byte) (o : Nat) : Pt := (field bs o 3, field bs (o + 3) 3)

/-- The vertices of an entry, `n` of them, from byte 16 (R52). -/
def vertsAt (bs : List Byte) (n : Nat) : List Pt := (List.range n).map fun i => ptAt bs (16 + 6 * i)

/-- Bytes of the vertices at and above `n` are zero, and bytes 112 to 127 too. -/
def vertsClean (bs : List Byte) (n : Nat) : Bool := allZero (slice bs (16 + 6 * min n 16) (96 - 6 * min n 16)) && allZero (slice bs 112 16)

/-- A sheet-table entry (Table 02.3). -/
def readSheet (e : List Byte) : Bool × Sheet :=
  let vc := field e 8 1
  (!(allZero (slice e 9 7) && vertsClean e vc),
   { offset := field e 0 4, count := field e 4 4,
     verts := if vc ≤ 16 then vertsAt e vc else List.replicate vc (0, 0) })

/-- A gutter-pool entry (Table 02.4). -/
def readPool (fixed : Bool) (e : List Byte) : Bool × Pool :=
  let vc := field e 12 1
  let pin := field e 13 1
  (!(decide (bits pin 5 2 = 0) && allZero (slice e 14 2) && vertsClean e vc && (fixed || allZero (slice e 128 128))),
   { eligible := field e 0 4, offset := field e 4 4, count := field e 8 4,
     verts := if vc ≤ 16 then vertsAt e vc else List.replicate vc (0, 0),
     pinHead := if pin.testBit 7 then some (bits pin 0 5) else none,
     assign := (List.range 32).map fun h => field e (128 + 4 * h) 4 })

/-- An exposure-profile entry (Table 02.9). -/
def readProfile (e : List Byte) : Bool × ExpProfile :=
  let p : ExpProfile :=
    { speed := field e 0 2, power := field e 2 2, focus := toSigned 16 (field e 4 2), mode := field e 6 1,
      corner := field e 7 1, period := field e 8 2, width := field e 10 2, runUp := field e 12 2,
      runOut := field e 14 2, cornerTol := field e 16 2, dwell := field e 18 2, rampInLen := field e 20 1,
      rampOutLen := field e 21 1, rampIn := (List.range 8).map fun i => field e (22 + i) 1,
      rampOut := (List.range 8).map fun i => field e (30 + i) 1, mpClass := field e 38 1,
      ruleMask := field e 39 1, valid := (field e 60 1).testBit 0 }
  (!(allZero (slice e 40 20) && allZero (slice e 61 3) && decide (field e 60 1 ≤ 1)) ||
     decide (p.mode > 2 ∨ p.corner > 2 ∨ p.mpClass > 15 ∨ p.width > p.period), p)

/-- A vector record (Table 02.5): RANGE for FLAGS bit 3 or a PROFILE in a JUMP; a SKIP is not checked (R55). -/
def readRecord (e : List Byte) : Bool × VecRec :=
  let r : VecRec :=
    { x0 := field e 0 3, y0 := field e 3 3, x1 := field e 6 3, y1 := field e 9 3,
      profile := bits (field e 12 2) 0 12, cls := bits (field e 12 2) 12 4,
      part := bits (field e 14 2) 0 12, flags := bits (field e 14 2) 12 4 }
  (decide (r.cls ≠ 5) && (r.flags.testBit 3 || decide (r.cls = 4 ∧ r.profile ≠ 0)), r)

/-- `n` entries of `w` bytes from offset `o`. -/
def entries (bs : List Byte) (o w n : Nat) : List (List Byte) := (List.range n).map fun i => slice bs (o + w * i) w

/-- Rounded up to a multiple of 64. -/
def up64 (n : Nat) : Nat := (n + 63) / 64 * 64

/-- Reads a format-2 image (R46, R47) within the command's length `cmdLen`. -/
def readFormat2 (im : List Byte) (cmdLen : Nat) : RawImage :=
  let flags := field im 5 1
  let g := field im 6 2
  let n := field im 12 4
  let p := field im 16 2
  let len := field im 20 4
  let body := 4352 + 256 * g + 64 * p + 16 * n
  let fixed := flags.testBit 0
  let ok := decide (g ≤ 256 ∧ n ≤ 4194304 ∧ p ≤ 4096)
  let whole := im.take len
  { headerRange := !(decide (bits flags 2 6 = 0) && allZero (slice im 36 220) && ok)
    layout := decide (len ≠ up64 body ∨ len > cmdLen) || (decide (p ≠ 0) && !flags.testBit 1)
    poolCount := g, profileCount := p, profileReplace := flags.testBit 1
    sig := { layer := field im 8 4, buildId := field im 28 8, thickness := field im 18 2,
             fixedAssign := fixed, total := n }
    sheets := (entries im 256 128 32).map readSheet
    pools := (entries im 4352 256 g).map (readPool fixed)
    profiles := (entries im (4352 + 256 * g) 64 p).map readProfile
    records := (entries im (4352 + 256 * g + 64 * p) 16 n).map readRecord
    padBad := !allZero (slice im body (len - body))
    crcBad := decide (crc32c (whole.take 24 ++ zeros 4 ++ whole.drop 28) ≠ field im 24 4) }

/-- A format-1 rectangle at offset `o`, in format-2 units, and whether a coordinate exceeds 4,194,303 µm (R80). -/
def rect1 (e : List Byte) (o : Nat) : Bool × List Pt :=
  let a := field e o 3
  let b := field e (o + 3) 3
  let c := field e (o + 6) 3
  let d := field e (o + 9) 3
  (decide (a > 4194303 ∨ b > 4194303 ∨ c > 4194303 ∨ d > 4194303),
   [(4 * a, 4 * b), (4 * c, 4 * b), (4 * c, 4 * d), (4 * a, 4 * d)])

/-- A format-1 profile (Table 02.21). -/
def readProfile1 (e : List Byte) : Bool × ExpProfile :=
  let sp := field e 0 2
  let pw := field e 2 2
  (!(allZero (slice e 13 19) && decide (field e 12 1 ≤ 1)) || decide (sp > 16383 ∨ pw > 20479),
   { speed := 2 * sp, power := roundNat (pw * 16) 5, focus := toSigned 16 (field e 4 2), runUp := field e 6 2,
     runOut := field e 8 2, dwell := field e 10 2, rampIn := List.replicate 8 0, rampOut := List.replicate 8 0,
     valid := decide (field e 12 1 = 1) })

/-- A format-1 record; a CLASS of 5 to 15 is kept as 7 so that it fails with CLASS (R80). -/
def readRecord1 (e : List Byte) : Bool × VecRec :=
  let b := field e 13 1
  let r : VecRec :=
    { x0 := 4 * field e 0 3, y0 := 4 * field e 3 3, x1 := 4 * field e 6 3, y1 := 4 * field e 9 3,
      profile := field e 12 1, cls := if bits b 0 4 > 4 then 7 else bits b 0 4,
      part := bits (field e 14 2) 0 12, flags := if b.testBit 4 then 1 else 0 }
  (decide (bits b 5 3 ≠ 0 ∨ bits (field e 14 2) 12 4 ≠ 0 ∨ field e 0 3 > 4194303 ∨ field e 3 3 > 4194303 ∨
     field e 6 3 > 4194303 ∨ field e 9 3 > 4194303 ∨ (r.cls = 4 ∧ r.profile ≠ 0)), r)

/-- Reads a format-1 image and translates it (R79, R80, Table 02.21). -/
def readFormat1 (im : List Byte) (cmdLen : Nat) : RawImage :=
  let sh := field im 5 1
  let po := field im 6 1
  let n := field im 12 4
  let len := field im 16 4
  let th := field im 24 2
  let oPool := 128 + 32 * sh
  let oProf := oPool + 32 * po
  let oRec := oProf + 8192
  let body := oRec + 16 * n
  let whole := im.take len
  { format1 := true
    headerRange := decide (sh < 1 ∨ 12 < sh ∨ 64 < po ∨ 2097152 < n ∨ 16383 < th) || decide (field im 7 1 ≠ 0) ||
      !allZero (slice im 26 102)
    layout := decide (len ≠ body ∨ len > cmdLen)
    poolCount := po, profileCount := 256, profileReplace := true
    sig := { layer := field im 8 4, buildId := 0, thickness := 4 * th, fixedAssign := false, total := n }
    sheets := (entries im 128 32 sh).map (fun e =>
        (!allZero (slice e 20 12) || (rect1 e 8).1, { offset := field e 0 4, count := field e 4 4, verts := (rect1 e 8).2 })) ++
      List.replicate (32 - sh) (false, {})
    pools := (entries im oPool 32 po).map (fun e =>
        (!(allZero (slice e 2 2) && allZero (slice e 24 8) && decide (field e 0 2 < 4096)) || (rect1 e 12).1,
         { eligible := field e 0 2, offset := field e 4 4, count := field e 8 4, verts := (rect1 e 12).2,
           assign := List.replicate 32 0 }))
    profiles := (entries im oProf 32 256).map readProfile1
    records := (entries im oRec 16 n).map readRecord1
    padBad := false
    crcBad := decide (crc32 (whole.take 20 ++ zeros 4 ++ whole.drop 24) ≠ field im 20 4) }

/-- What the load checks need from the device. -/
structure LoadCtx where
  long : Bool
  layerWanted : Option Nat
  sharingFixed : Bool
  heads : Nat
  formatMinor : Nat
  /-- the profile set the records will index when PROFILE_REPLACE is clear -/
  oldSet : List ExpProfile
  /-- the cross-device pools of the layers that have a table: layer, pool, PEER_ELIGIBLE (R494) -/
  cross : List (Nat × Nat × Nat) := []
  deriving DecidableEq, Repr

/-- A failed load: status, STAGE of Table 02.15, ITEM, RECORD. -/
structure LoadFail where
  status : Nat
  stage : Nat
  item : Nat := 0
  record : Nat := 0
  deriving DecidableEq, Repr

/-- The number of set bits of a mask below `n`. -/
def popCount (mask n : Nat) : Nat := ((List.range n).filter (mask.testBit ·)).length

/-- The expected RECORD_OFFSETs: the running sums of the counts (R50). -/
def runningSums : Nat → List Nat → List Nat
  | _, [] => []
  | a, c :: cs => a :: runningSums (a + c) cs

/-- Checks of one sheet entry `h` whose expected offset is `off`; `sumBad` is the sum check after entry 31. -/
def sheetFail (ctx : LoadCtx) (h off : Nat) (sumBad : Bool) (x : Bool × Sheet) : Option Nat :=
  let s := x.2
  let takes := !s.verts.isEmpty
  firstFail [
    (x.1, stRange),
    (takes && decide (ctx.heads ≤ h), stHeadUnused),
    (takes && !validPoly s.verts, stPolygon),
    ((decide (s.count ≠ 0) && (!takes || decide (s.offset ≠ off))) || sumBad, stLayout)]

/-- Checks of one pool entry; `peers` is the number of heads the peer has eligible for it (R494). -/
def poolFail (sheets : List Sheet) (fixed : Bool) (peers off : Nat) (sumBad : Bool) (x : Bool × Pool) : Option Nat :=
  let p := x.2
  let takesPart := fun h => !(sheets.getD h {}).verts.isEmpty
  firstFail [
    (x.1, stRange),
    (decide (popCount p.eligible 32 + peers < 2) || (List.range 32).any (fun h => p.eligible.testBit h && !takesPart h), stGutter),
    (!validPoly p.verts, stPolygon),
    ((decide (p.count ≠ 0) && decide (p.offset ≠ off)) || sumBad, stLayout),
    (match p.pinHead with | some h => !p.eligible.testBit h | none => false, stPin),
    (fixed && ((List.range 32).any (fun h => decide (p.assign.getD h 0 ≠ 0) && !p.eligible.testBit h) ||
      decide (p.assign.sum ≠ p.count)), stAssign)]

/-- Where a list of records stands: its polygons, and for a pool its pin head and the starts of the heads' runs. -/
structure ListCtx where
  polys : List (List Pt)
  pool : Bool
  pinHead : Option Nat
  fixed : Bool
  /-- a cross-device pool, which holds no pinned record (R494) -/
  cross : Bool := false
  /-- (head, first index in the list) of each non-empty run under FIXED_ASSIGN -/
  runs : List (Nat × Nat)
  deriving DecidableEq, Repr

/-- Progress through a list: end point of the nearest earlier non-SKIP record, length and PIN of the dispatch unit in
progress, whether the unit has a non-SKIP record, and the head run the unit began in. -/
structure WalkSt where
  idx : Nat := 0
  prev : Option Pt := none
  unitLen : Nat := 0
  unitPin : Option Bool := none
  unitRun : Nat := 0
  deriving DecidableEq, Repr

/-- The head whose run holds list index `i`. -/
def runOf (runs : List (Nat × Nat)) (i : Nat) : Nat :=
  runs.foldl (fun a r => if r.2 ≤ i then r.1 else a) 0

/-- A record starts a dispatch unit (R58). -/
def startsUnit (c : ListCtx) (idx : Nat) (r : VecRec) : Bool :=
  if r.cls = 5 then decide (idx = 0) || (c.fixed && c.runs.any (·.2 == idx))
  else !r.flags.testBit 0

/-- The checks of one record in its list, in the row order of Table 02.12 (R55, R57, R58, R59). -/
def recordFail (profiles : List ExpProfile) (c : ListCtx) (w : WalkSt) (x : Bool × VecRec) : Option Nat :=
  let r := x.2
  let chain := r.flags.testBit 0
  let pin := r.flags.testBit 1
  let starts := startsUnit c w.idx r
  let len := if starts then 1 else w.unitLen + 1
  let run := runOf c.runs w.idx
  let crossing := c.pool && c.fixed && !starts && decide (run ≠ w.unitRun)
  if r.cls = 5 then
    firstFail [(c.pool && decide (len > 256), stChain), (crossing, stAssign)]
  else
    let prof := profiles.getD r.profile {}
    let firstInUnit := starts || w.unitPin.isNone
    let needsSpeed := decide (r.cls = 0 ∨ r.cls = 1 ∨ r.cls = 2 ∨ r.cls = 6)
    firstFail [
      (x.1, stRange),
      (decide (r.cls > 6) || (c.pool && decide (r.cls = 4) && (!chain || firstInUnit)), stClass),
      (decide (r.cls ≠ 4) && (!prof.valid || (needsSpeed && decide (prof.speed = 0))), stProfile),
      (c.polys.any (fun p => !insidePoly (r.x0, r.y0) p || !insidePoly (r.x1, r.y1) p), stOutside),
      (decide (r.cls = 3) && decide (r.x0 ≠ r.x1 ∨ r.y0 ≠ r.y1), stGeometry),
      ((chain && (match w.prev with | none => true | some q => decide (q ≠ (r.x0, r.y0)))) ||
        (c.pool && decide (len > 256)), stChain),
      (c.pool && ((pin && (c.pinHead.isNone || c.cross)) || (!firstInUnit && decide (w.unitPin ≠ some pin))), stPin),
      (crossing || (c.pool && c.fixed && pin && decide (some run ≠ c.pinHead)), stAssign)]

/-- The walk state after one record. -/
def walkNext (c : ListCtx) (w : WalkSt) (r : VecRec) : WalkSt :=
  let starts := startsUnit c w.idx r
  { idx := w.idx + 1
    prev := if r.cls = 5 then w.prev else some (r.x1, r.y1)
    unitLen := if starts then 1 else w.unitLen + 1
    unitPin := if r.cls = 5 then (if starts then none else w.unitPin)
      else if starts then some (r.flags.testBit 1) else (match w.unitPin with | none => some (r.flags.testBit 1) | p => p)
    unitRun := if starts then runOf c.runs w.idx else w.unitRun }

/-- First failing record of a list: its index in the list and status. -/
def listFail (profiles : List ExpProfile) (c : ListCtx) : WalkSt → List (Bool × VecRec) → Option (Nat × Nat)
  | _, [] => none
  | w, x :: xs =>
    match recordFail profiles c w x with
    | some st => some (w.idx, st)
    | none => listFail profiles c (walkNext c w x.2) xs

/-- The starts of the non-empty head runs of a pool under FIXED_ASSIGN (R51). -/
def assignRuns (assign : List Nat) : List (Nat × Nat) :=
  ((List.range 32).zip ((runningSums 0 assign).zip assign)).filterMap fun x =>
    if x.2.2 = 0 then none else some (x.1, x.2.1)

/-- PEER_ELIGIBLE of pool `g` of the image's layer; none for a pool of this device alone. -/
def LoadCtx.peerMask (ctx : LoadCtx) (raw : RawImage) (g : Nat) : Option Nat :=
  (ctx.cross.find? fun c => c.1 == raw.sig.layer && c.2.1 == g).map (·.2.2)

/-- The lists of the record area in stored order: context, first record index, records (R50). -/
def recordLists (ctx : LoadCtx) (raw : RawImage) : List (ListCtx × Nat × List (Bool × VecRec)) :=
  let sheets := raw.sheets.map (·.2)
  let pools := raw.pools.map (·.2)
  let counts := sheets.map (·.count) ++ pools.map (·.count)
  let ctxs := sheets.map (fun s => ({ polys := [s.verts], pool := false, pinHead := none, fixed := false, runs := [] } : ListCtx)) ++
    pools.zipIdx.map (fun q =>
      let p := q.1
      { cross := (ctx.peerMask raw q.2).isSome, polys := p.verts :: (List.range 32).filterMap (fun h => if p.eligible.testBit h then some (sheets.getD h {}).verts else none),
        pool := true, pinHead := p.pinHead, fixed := raw.sig.fixedAssign,
        runs := if raw.sig.fixedAssign then assignRuns p.assign else [] })
  (ctxs.zip ((runningSums 0 counts).zip counts)).map fun x => (x.1, x.2.1, (raw.records.drop x.2.1).take x.2.2)

/-- First failing element of an indexed list. -/
def firstIndexed {α : Type} (f : Nat → α → Option Nat) : Nat → List α → Option (Nat × Nat)
  | _, [] => none
  | i, x :: xs => match f i x with | some st => some (i, st) | none => firstIndexed f (i + 1) xs

/-- First failing record of the record area: its index and status. -/
def recordsFail (profiles : List ExpProfile) : List (ListCtx × Nat × List (Bool × VecRec)) → Option (Nat × Nat)
  | [] => none
  | (c, base, rs) :: ls =>
    match listFail profiles c {} rs with
    | some (i, st) => some (base + i, st)
    | none => recordsFail profiles ls

/-- The profile set the records index: the image's entries, or the set copied (R61). -/
def newSet (ctx : LoadCtx) (raw : RawImage) : List ExpProfile :=
  if raw.profileReplace then raw.profiles.map (·.2) else ctx.oldSet

/-- All checks after the header, in image order (R62). -/
def bodyFail (ctx : LoadCtx) (raw : RawImage) : Option LoadFail :=
  let sheets := raw.sheets.map (·.2)
  let counts := sheets.map (·.count) ++ raw.pools.map (·.2.count)
  let offs := runningSums 0 counts
  let sumBad := decide (counts.sum ≠ raw.sig.total)
  match firstIndexed (fun h x => sheetFail ctx h (offs.getD h 0) (sumBad && decide (h = 31 ∧ raw.poolCount = 0)) x) 0 raw.sheets with
  | some (h, st) => some { status := st, stage := 2, item := h }
  | none =>
  match firstIndexed (fun g x => poolFail sheets raw.sig.fixedAssign (popCount ((ctx.peerMask raw g).getD 0) 32) (offs.getD (32 + g) 0) (sumBad && decide (g + 1 = raw.poolCount)) x) 0 raw.pools with
  | some (g, st) => some { status := st, stage := 3, item := g }
  | none =>
  match firstIndexed (fun _ (x : Bool × ExpProfile) => if x.1 then some stRange else none) 0 raw.profiles with
  | some (p, st) => some { status := st, stage := 4, item := p }
  | none =>
  match recordsFail (newSet ctx raw) (recordLists ctx raw) with
  | some (r, st) => some { status := st, stage := 5, record := r }
  | none =>
    if raw.padBad then some { status := stRange, stage := 6 }
    else if raw.crcBad then some { status := stIntegrity, stage := 6 }
    else none

/-- Header checks in the order of R62 once MAGIC and FORMAT have passed. -/
def headerFail (ctx : LoadCtx) (raw : RawImage) : Option Nat :=
  firstFail [
    (raw.headerRange, stRange),
    (!ctx.long && decide (raw.sig.total > 2097152), stTooLong),
    (raw.layout, stLayout),
    (match ctx.layerWanted with | some l => decide (raw.sig.layer ≠ l) | none => false, stLayerOrder),
    (ctx.sharingFixed && !raw.sig.fixedAssign, stAssign)]

/-- The image's format by its MAGIC and FORMAT (R48, R62): 2, 1, or the failing status. -/
def imageFormat (ctx : LoadCtx) (im : List Byte) : Except Nat Nat :=
  let m := field im 0 4
  let f := field im 4 1
  if m = 0x47535853 then (if f / 16 = 2 ∧ f % 16 ≤ ctx.formatMinor then .ok 2 else .error stVersion)
  else if m = 0x4753504F then (if f / 16 = 1 then .ok 1 else .error stVersion)
  else .error stMagic

/-- A load's outcome: the signature and profile set, or the failure and the LAYER read (Table 02.14). -/
inductive LoadOutcome where
  | done (sig : Signature) (set : List ExpProfile) (replaced format1 : Bool)
  | fail (f : LoadFail) (layer : Nat)
  deriving DecidableEq, Repr

/-- The whole validation of an image (R62). -/
def loadImage (ctx : LoadCtx) (im : List Byte) (cmdLen : Nat) : LoadOutcome :=
  match imageFormat ctx im with
  | .error st => .fail { status := st, stage := 1 } 0
  | .ok f =>
    let raw := if f = 2 then readFormat2 im cmdLen else readFormat1 im cmdLen
    match headerFail ctx raw with
    | some st => .fail { status := st, stage := 1 } raw.sig.layer
    | none =>
      match bodyFail ctx raw with
      | some e => .fail e raw.sig.layer
      | none =>
        .done { raw.sig with sheets := raw.sheets.map (·.2), pools := raw.pools.map (·.2), records := raw.records.map (·.2) }
          (newSet ctx raw) raw.profileReplace raw.format1

/-- The load result of Table 02.14. -/
def loadResult (layer bank stage item record startDt endDt : Nat) : List Byte :=
  leBytes 4 layer ++ leBytes 1 bank ++ leBytes 1 stage ++ leBytes 2 item ++ leBytes 4 record ++ zeros 4 ++
  leBytes 8 startDt ++ leBytes 8 endDt

end Sys2Proof.Machine
end

