-- ==== Sys2Proof/Machine/Banks.lean ====
section
/-! DEFINITION. Signature loads, the banks and the quire (R61 to R78). -/

namespace Sys2Proof.Machine

def State.bank (s : State) (k : Nat) : Bank := s.sig.banks.getD k {}
def State.setBank (k : Nat) (f : Bank → Bank) (s : State) : State := { s with sig := { s.sig with banks := updAt s.sig.banks k f } }
def State.long (s : State) : Bool := s.dparam 0x1000 == 1
def State.activeBank (s : State) : Option Nat := (List.range 2).find? fun k => (s.bank k).state == .active

def BankState.code : BankState → Nat
  | .empty => 0 | .loading => 1 | .valid => 2 | .active => 3 | .retained => 4

/-! Segments (R65, R70). -/

/-- Segments taken by the slots of long-signature mode. -/
def State.takenSegments (s : State) : List Nat := s.sig.banks.flatMap fun b => (b.segments.filter fun e => !e.2).map (·.1)
def State.freeSegments (s : State) : List Nat := (List.range 64).filter fun n => !s.takenSegments.contains n
/-- FREE_SEGMENTS (Table 02.20). -/
def State.freeCount (s : State) : Nat :=
  if !s.sig.everReady then 0
  else if s.long then s.freeSegments.length
  else ((List.range 2).filter fun k => (s.bank k).state == .empty).length * 32
def State.bankStatus (s : State) : Nat :=
  (s.bank 0).state.code + 16 * (s.bank 1).state.code + 256 * bit s.long + 65536 * s.freeCount

/-- The free segments go to the load in progress, in ascending order, as far as it needs them (R70, R71). -/
def State.assignSegments (s : State) : State :=
  match s.sig.loading with
  | none => s
  | some l =>
    let have_ := (s.bank l.bank).segments
    s.setBank l.bank fun b => { b with segments := have_ ++ ((s.freeSegments.take (l.need - have_.length)).map fun n => (n, false)) }

/-! Loads (R62, R64, R73). -/

/-- Segments an image needs, from its header. -/
def segmentsNeeded (im : List Byte) : Nat := max 1 (ceilDiv (min 4194304 (field im 12 4)) 65536)

/-- A load starts into bank `k` (Table 02.17). -/
def State.startLoad (k addr len : Nat) (quire : Option Nat) (acc : Nat) (s : State) : State :=
  let need := if s.long then segmentsNeeded (s.dramRead addr 16) else 0
  let s1 := s.setBank k fun _ => { state := .loading, quire := quire }
  { s1 with sig := { s1.sig with
      loading := some { bank := k, start := s.dt, addr := addr, len := len, quire := quire, acc := acc, need := need }
      quire := s1.sig.quire.map fun (e : QuireEntry) => if some e.id = quire then { e with bank := some k } else e } }.assignSegments

/-- The oldest entry not loaded, and the bank a load may use (R73, R71). -/
def State.nextLoad (s : State) : Option (QuireEntry × Nat) :=
  match s.sig.quire.find? fun e => e.bank.isNone, (List.range 2).find? fun k => (s.bank k).state == .empty with
  | some e, some k => some (e, k)
  | _, _ => none

/-- QUIRE_LOAD_START (R73). -/
def State.quireLoadStart (s : State) : State :=
  if !([DevState.ready, .armed, .hold].contains s.cyc.state) || s.sig.loading.isSome || (s.long && s.freeSegments.isEmpty) then s
  else match s.nextLoad with
    | some (e, k) => s.startLoad k e.addr e.len (some e.id) e.acc
    | none => s

/-- The completion of a load, once per command (R64, R73). -/
def State.loadAnswer (l : Loading) (status : Nat) (result : List Byte) (s : State) : State :=
  match l.quire with
  | none => s.complete l.acc status result
  | some id =>
    match s.sig.quire.find? fun e => e.id == id with
    | some e =>
      if e.completed then s
      else ({ s with sig := { s.sig with quire := s.sig.quire.map fun (e : QuireEntry) => if e.id = id then { e with completed := true } else e } }).complete l.acc status result
    | none => s

/-- A quire entry is retired. -/
def State.retire (id : Option Nat) (s : State) : State :=
  match id with
  | some i => { s with sig := { s.sig with quire := s.sig.quire.filter fun e => e.id != i } }
  | none => s

/-- The image's PROFILE_REPLACE, as far as its header can be read. -/
def imageReplaces (im : List Byte) : Bool := !(field im 0 4 == 0x47535853 && !(field im 5 1).testBit 1)

/-- What a failed or abandoned load leaves in the bank's profile set (R62). -/
def State.failSet (k : Nat) (replaces : Bool) (s : State) : State :=
  if !replaces && s.sig.lastFilled == some k then s else { s with sig := { s.sig with sets := updAt s.sig.sets k fun _ => [] } }

/-- The load in progress is abandoned: its bank is EMPTY, its command ends (Table 02.17); the entry stays in the quire. -/
def State.abandonLoad (status stage : Nat) (s : State) : State :=
  match s.sig.loading with
  | none => s
  | some l =>
    let head := s.dramRead l.addr 16
    let layer := if field head 0 4 = 0x47535853 ∨ field head 0 4 = 0x4753504F then field head 8 4 else 0
    let s1 := ((s.setBank l.bank fun _ => {}).failSet l.bank (imageReplaces head)).loadAnswer l status (loadResult layer l.bank stage 0 0 l.start s.dt)
    { s1 with sig := { s1.sig with loading := none, quire := s1.sig.quire.map fun (e : QuireEntry) => if some e.id = l.quire then { e with bank := none } else e } }

/-- Gutter sharing is in fixed mode, or a switch to it is pending (Table 02.12). -/
def State.sharingFixed (s : State) : Bool := s.assisted fnShare || s.svc.modeReq.any fun r => r.1 == fnShare && r.2.1

def State.loadCtx (s : State) (l : Loading) : LoadCtx :=
  let entry := s.sig.quire.find? fun e => some e.id == l.quire
  { long := s.long
    layerWanted := if s.dparam 0x1002 = 1 then some (((entry.map (·.loadedOnce)).getD none).getD (s.dparam 0x1001)) else none
    sharingFixed := s.sharingFixed
    heads := s.cyc.profile.heads
    formatMinor := 0
    oldSet := match s.sig.lastFilled with | some k => s.sig.sets.getD k [] | none => []
    cross := s.pair.tables.flatMap fun (t : Nat × List CrossPool) => t.2.map fun (c : CrossPool) => (t.1, c.own, c.eligible) }

/-- SIGNATURE_LOAD_END (R62, R64, R67). -/
def State.loadEnd (s : State) : State :=
  match s.sig.loading with
  | none => s
  | some l =>
    let im := s.dramRead l.addr l.len
    let entry := s.sig.quire.find? fun e => some e.id == l.quire
    let reload := ((entry.map (·.loadedOnce)).getD none).isSome
    match loadImage (s.loadCtx l) im l.len with
    | .done sig set _ format1 =>
      if s.poisoned l.addr l.len then
        let s1 := (((s.poisonSeen l.addr l.len).setBank l.bank fun _ => {}).failSet l.bank (imageReplaces im)).loadAnswer l stIntegrity (loadResult sig.layer l.bank 6 0 0 l.start s.dt)
        ({ s1 with sig := { s1.sig with loading := none } }).retire l.quire
      else if s.long && decide ((s.bank l.bank).segments.length < l.need) then s
      else
        let s1 := s.setBank l.bank fun b => { b with state := if l.activate then .active else .valid, sig := sig, loadEnd := s.dt }
        let s2 := { s1 with sig := { s1.sig with
          loading := none
          sets := updAt s1.sig.sets l.bank fun _ => set
          lastFilled := some l.bank
          activeSet := if l.activate then some l.bank else s1.sig.activeSet
          format1 := if format1 then inc32 s1.sig.format1 else s1.sig.format1
          quire := s1.sig.quire.map fun (e : QuireEntry) => if some e.id = l.quire then { e with loadedOnce := some sig.layer } else e } }
        let s3 := if reload then s2 else s2.setParam 0x1001 devScope ((sig.layer + 1) % 2 ^ 32)
        let s4 := s3.loadAnswer l stOk (loadResult sig.layer l.bank 0 0 0 l.start s.dt)
        if l.activate then s4.retire l.quire else s4
    | .fail f layer =>
      let s1 := ((s.setBank l.bank fun _ => {}).failSet l.bank (imageReplaces im)).loadAnswer l f.status
        (loadResult layer l.bank f.stage f.item f.record l.start s.dt)
      ({ s1 with sig := { s1.sig with loading := none } }).retire l.quire

/-! Bank transitions (Table 02.17). -/

/-- A bank is emptied; a quire entry that was VALID in it can be loaded again. -/
def State.emptyBank (k : Nat) (s : State) : State :=
  let s1 := s.setBank k fun _ => {}
  { s1 with sig := { s1.sig with
      activeSet := if s1.sig.activeSet = some k then none else s1.sig.activeSet
      quire := s1.sig.quire.map fun (e : QuireEntry) => if e.bank = some k then { e with bank := none } else e } }

/-- A VALID bank becomes ACTIVE: its entry is retired, its set is the active one. -/
def State.activate (k : Nat) (s : State) : State :=
  let q := (s.bank k).quire
  let s1 := (s.setBank k fun b => { b with state := .active }).retire q
  { s1 with sig := { s1.sig with activeSet := some k } }

/-- The bank that becomes ACTIVE at the start of an EXPOSE when none is (R68). -/
def State.nextActive (s : State) : Option Nat :=
  match (s.bank 0).state, (s.bank 1).state with
  | .valid, .valid => some (if (s.bank 1).loadEnd < (s.bank 0).loadEnd then 1 else 0)
  | .valid, _ => some 0
  | _, .valid => some 1
  | _, _ => none

/-- The hand-over at the kettle fence (R67); a signature without fixed assignments is dropped when sharing becomes fixed. -/
def State.handOver (s : State) : State :=
  let drop (s : State) (k : Nat) : State :=
    if (s.bank k).state == .valid && s.assisted fnShare && !(s.bank k).sig.fixedAssign then
      ((s.emptyBank k).retire (s.bank k).quire).logEvent 0x1001 k 2 (beside (s.bank k).sig.layer 5 1)
    else s
  let s1 := (List.range 2).foldl drop s
  let s2 := match s1.activeBank with | some k => s1.emptyBank k | none => s1
  match (List.range 2).find? fun k => (s2.bank k).state == .valid with
  | some k => s2.activate k
  | none => { s2 with sig := { s2.sig with loading := s2.sig.loading.map fun (l : Loading) => { l with activate := true } } }

/-- Entry to STANDBY or SAFE (R78). -/
def State.dropBanks (s : State) : State := ((s.abandonLoad stAborted 7).emptyBank 0).emptyBank 1

/-- `DISARM` from HOLD (Table 02.17). -/
def State.retainBank (s : State) : State :=
  match s.activeBank with
  | some k =>
    let s1 := s.setBank k fun b => { b with state := .retained }
    { s1 with sig := { s1.sig with activeSet := none } }
  | none => s

/-- RETAINED banks empty when the next EXPOSE begins. -/
def State.dropRetained (s : State) : State :=
  (List.range 2).foldl (fun (s : State) (k : Nat) => if (s.bank k).state == .retained then s.emptyBank k else s) s

/-- An uncorrectable store error in bank `k` that is not ACTIVE (R69). -/
def State.bankStoreError (k : Nat) (s : State) : State :=
  let b := s.bank k
  let event (s : State) (reloaded : Nat) : State := s.logEvent 0x1001 k b.state.code (beside b.sig.layer 4 reloaded)
  match b.state with
  | .valid =>
    if b.quire.isSome then
      event { s.emptyBank k with sig := { (s.emptyBank k).sig with reloads := inc32 s.sig.reloads } } 1
    else event (s.emptyBank k) 0
  | .loading =>
    match s.sig.loading with
    | some l =>
      match l.quire with
      | some id =>
        let s1 := (s.emptyBank k).failSet k (imageReplaces (s.dramRead l.addr 16))
        let s2 := { s1 with sig := { s1.sig with loading := none, reloads := inc32 s1.sig.reloads } }
        let s3 := s2.startLoad k l.addr l.len (some id) l.acc
        event { s3 with sig := { s3.sig with loading := s3.sig.loading.map fun (x : Loading) => { x with activate := l.activate } } } 1
      | none => event (s.abandonLoad stIntegrity 6) 0
    | none => event s 0
  | .retained => event (s.emptyBank k) 0
  | _ => event s 0

/-! Consumption in long-signature mode (R70). -/

/-- Records of the layer in progress that are not consumed yet. -/
def State.outstandingRecords (s : State) : List Nat :=
  let units (us : List WUnit) : List Nat := us.flatMap fun u => u.recs.map (·.idx)
  let current (x : LayHead) : List Nat :=
    match x.cur with
    | some u =>
      let at_ := if s.lay.hold then 0 else (x.path.segs.head?.map (·.ri)).getD 0
      (u.recs.map (·.idx)).filter fun i => decide (at_ ≤ i)
    | none => []
  s.lay.heads.flatMap (fun x => units x.sheet ++ units x.runs ++ units x.redo ++ current x) ++ units s.lay.pools.flatten ++
    units s.lay.orphans ++ s.lay.outs.filterMap fun o => match o with | .unexposed ri _ _ _ => some ri | _ => none

/-- LONG_SEGMENT_FREE: segments of the ACTIVE signature whose records are all consumed become free, and a stalled load goes on
(R70, R71). -/
def State.segmentFree (s : State) : State :=
  match s.activeBank with
  | none => s
  | some k =>
    if !s.long then s
    else
      let out := s.outstandingRecords ++ (s.bank k).left
      (s.setBank k fun b => { b with segments := b.segments.zipIdx.map fun (e : (Nat × Bool) × Nat) =>
        (e.1.1, e.1.2 || (s.cyc.phase == .expose && !(out.any fun i => i / 65536 == e.2))) }).assignSegments

end Sys2Proof.Machine
end

