-- ==== Sys2Proof/Machine/Laser.lean ====
section
/-! DEFINITION. The laser stage: gate waveform, edges and power word of one sample (R118 to R128). -/

namespace Sys2Proof.Machine

/-- A laser command block (Table 04.1), with what the sample did: transitions dropped (R122), a clamp (R124), the
applied correction (R128), the gate level at its end. -/
structure LaserOut where
  power : Nat := 0
  edges : List (Nat × Bool) := []
  pulsed : Bool := false
  period : Nat := 0
  gate : Bool := false
  dropped : Nat := 0
  clamped : Bool := false
  corr : Int := 16384
  lit : Bool := false
  firstLit : Bool := false
  deriving DecidableEq, Repr

/-- The block's 12 bytes. -/
def LaserOut.bytes (o : LaserOut) : List Byte :=
  let e (i : Nat) : Nat × Bool := o.edges.getD i (0, false)
  let n := o.edges.length
  leBytes 2 o.power ++ leBytes 2 (e 0).1 ++ leBytes 2 (e 1).1 ++
    leBytes 1 (bit (decide (1 ≤ n)) + 2 * bit (e 0).2 + 4 * bit (decide (2 ≤ n)) + 8 * bit (e 1).2) ++
    leBytes 1 (bit o.pulsed) ++ leBytes 2 o.period ++ zeros 2

/-- The pulse trains of a window: start, end (none while unknown) and profile of each (R121). -/
def Win.trains (w : Win) : List (Int × Option Int × Nat) :=
  let starts := (w.tOn, w.prof) :: w.joins
  (starts.zipIdx).map fun s => (s.1.1, (match starts[s.2 + 1]? with | some n => some n.1 | none => w.tOff), s.1.2)

/-- The level of one pulse train at instant `t` (Table 04.2). -/
def trainLevel (profs : List ExpProfile) (t : Int) (x : Int × Option Int × Nat) : Bool :=
  let p := profs.getD x.2.2 {}
  let within := decide (x.1 ≤ t) && (match x.2.1 with | some e => decide (t < e) | none => true)
  if p.mode = 1 then
    within && decide (0 < p.width) && (if p.period = 0 then true else decide ((t - x.1) % ((16 * p.period : Nat) : Int) < (16 * p.width : Nat)))
  else within

/-- g(t) over a head's windows (R120). -/
def gateAt (profs : List ExpProfile) (ws : List Win) (t : Int) : Bool :=
  ws.any fun w => !w.dead && w.trains.any (trainLevel profs t)

/-- The instants in `(a, b)` at which a train may change: its ends, its pulse starts and its pulse ends. -/
def trainTimes (profs : List ExpProfile) (a b : Int) (x : Int × Option Int × Nat) : List Int :=
  let p := profs.getD x.2.2 {}
  let ends := x.1 :: (match x.2.1 with | some e => [e] | none => [])
  let pulses : List Int :=
    if p.mode = 1 ∧ 0 < p.period then
      let per : Int := (16 * p.period : Nat)
      let m0 : Int := max 0 ((a - x.1) / per - 1)
      let n := ((b - a) / per).toNat + 4
      (List.range n).flatMap fun (i : Nat) =>
        let t : Int := x.1 + (m0 + (i : Int)) * per
        [t, t + ((16 * p.width : Nat) : Int)]
    else []
  (ends ++ pulses).filter fun t => decide (a < t ∧ t < b)

/-- The transitions of g(t) inside `(a, b)`, in order (R121: opposite transitions at one instant cancel). -/
def transitions (profs : List ExpProfile) (ws : List Win) (a b : Int) : List (Int × Bool) :=
  let ts := (ws.filter fun w => !w.dead).flatMap fun w => w.trains.flatMap (trainTimes profs a b)
  let ts := (sortBy (fun (x y : Int) => decide (x < y)) ts).eraseDups
  ts.filterMap fun t =>
    let n := gateAt profs ws t
    if n = gateAt profs ws (t - 1) then none else some (t, n)

/-- A ramp factor of R125 as a fraction. -/
def rampIn (v : List Nat) (len j : Nat) : Nat × Nat :=
  let u := 8 * j
  let a := u / len
  let b := u - a * len
  let at_ (i : Nat) : Int := if i < 8 then (v.getD i 0 : Nat) else 256
  ((at_ a * len + (at_ (a + 1) - at_ a) * b).toNat, 256 * len)

def rampOut (v : List Nat) (len j : Nat) : Nat × Nat :=
  let u := 8 * (j + 1)
  let a := u / len
  let b := u - a * len
  let at_ (i : Nat) : Int := if i = 0 then 256 else (v.getD ((min i 8) - 1) 0 : Nat)
  ((at_ a * len + (at_ (a + 1) - at_ a) * b).toNat, 256 * len)

/-- The smaller of two fractions. -/
def fracMin (a b : Nat × Nat) : Nat × Nat := if a.1 * b.2 ≤ b.1 * a.2 then a else b

/-- The window that gives sample `k` its power: one whose on instant it holds, else one it lies in (R126). -/
def powerWindow (ts k : Nat) (ws : List Win) : Option Win :=
  let live := ws.filter fun w => !w.dead
  match live.find? (fun w => w.firstLit ts == k) with
  | some w => some w
  | none => live.find? (fun w => w.litAt ts k)

/-- The profile in force at the start of sample `k` (R121), at the on instant and at the off instant. -/
def Win.profAt (w : Win) (t : Int) : Nat := w.joins.foldl (fun a j => if j.1 ≤ t then j.2 else a) w.prof

/-- F = min(F_in, F_out) of sample `k` (R125). -/
def rampFactor (ts k : Nat) (profs : List ExpProfile) (w : Win) : Nat × Nat :=
  let pin := profs.getD w.prof {}
  let j := k - w.firstLit ts
  let fin := if j < pin.rampInLen then rampIn pin.rampIn pin.rampInLen j else (1, 1)
  match w.lastLit ts, w.tOff with
  | some e, some off =>
    let pout := profs.getD (w.profAt off) {}
    let d := e - k
    if d < pout.rampOutLen then fracMin fin (rampOut pout.rampOut pout.rampOutLen (pout.rampOutLen - 1 - d)) else fin
  | _, _ => fin

/-- What the laser stage is given for a sample besides the windows: the correction (R223, R226), the smallest factor of
the firing scale rules, cuts, the gate level left by the sample before, and the power ceiling of R124. -/
structure LaserIn where
  corr : Int := 16384
  scale : Option Nat := none
  ruleCut : Bool := false
  cut : Bool := false
  gate : Bool := false
  ceil : Nat := 65535
  deriving DecidableEq, Repr

/-- The correction of R124 before clamping at zero (R128). -/
def appliedCorr (i : LaserIn) (probe : Bool) : Int :=
  match i.scale with
  | some f => f
  | none => if probe then 16384 else i.corr

/-- `power_word` for base power `p`, ramp `f` and applied correction `c`: the word and whether it was clamped. -/
def powerWord (i : LaserIn) (p : Nat) (f : Nat × Nat) (c : Int) : Nat × Bool :=
  let pr := roundNat (p * f.1) f.2
  let pc := min (roundNat (pr * c.toNat) 16384) 65535
  if i.ceil < pc then (i.ceil, true) else (pc, false)

/-- R122: at most two of the transitions are transmitted. -/
def thinEdges (es : List (Nat × Bool)) : List (Nat × Bool) × Nat :=
  match es with
  | [] => ([], 0)
  | [e] => ([e], 0)
  | e :: rest =>
    let last := rest.getLast?.getD e
    if last.2 = e.2 then ([e], rest.length) else ([e, last], rest.length - 1)

/-- The block of sample `k` (R118 to R127). -/
def laserBlock (ts k : Nat) (profs : List ExpProfile) (ws : List Win) (i : LaserIn) : LaserOut :=
  let s : Int := (16 * ts * k : Nat)
  let e : Int := (16 * ts * (k + 1) : Nat)
  let win := powerWindow ts k ws
  let probe := match win with | some w => decide (w.cls = 6) | none => false
  let corr := match win with | some _ => appliedCorr i probe | none => 16384
  let first := match win with | some w => decide (w.firstLit ts = k) | none => false
  if i.cut || i.ruleCut then
    { edges := if i.gate then [(0, false)] else [], gate := false, corr := corr, lit := win.isSome, firstLit := first }
  else
    let level := gateAt profs ws s
    let inner := (transitions profs ws s e).map fun t => ((t.1 - s).toNat, t.2)
    let all := if level = i.gate then inner else (0, level) :: inner
    let thin := thinEdges all
    let pw : Nat × Bool := match win with
      | none => (0, false)
      | some w => powerWord i (profs.getD (w.profAt s) {}).power (rampFactor ts k profs w) (if corr < 0 then 0 else corr)
    let prof := match win with | some w => profs.getD (w.profAt s) {} | none => {}
    let pulsed := win.isSome && decide (prof.mode = 2)
    { power := pw.1, edges := thin.1, pulsed := pulsed, period := if pulsed then prof.period else 0,
      gate := gateAt profs ws (e - 1), dropped := thin.2, clamped := pw.2, corr := corr, lit := win.isSome, firstLit := first }

end Sys2Proof.Machine
end

