-- ==== Sys2Proof/Machine/Heads.lean ====
section
/-! DEFINITION. What the head functions share: accessors, ENABLE and EMIT_EN (R131), source-status actions (R137 to R138, R589),
the layer's environment, lost heads (R160) and what the layer engine sends to the records. -/

namespace Sys2Proof.Machine

def State.hlk (s : State) (h : Nat) : HlkPort := s.head.hlk.getD h {}
def State.setHlk (h : Nat) (f : HlkPort → HlkPort) (s : State) : State := { s with head := { s.head with hlk := updAt s.head.hlk h f } }
def State.trj (s : State) (h : Nat) : TrjHead := s.head.trj.getD h {}
def State.setTrj (h : Nat) (f : TrjHead → TrjHead) (s : State) : State := { s with head := { s.head with trj := updAt s.head.trj h f } }
def State.lasHead (s : State) (h : Nat) : LasHead := s.las.heads.getD h {}
def State.setLas (h : Nat) (f : LasHead → LasHead) (s : State) : State := { s with las := { s.las with heads := updAt s.las.heads h f } }
def State.gutHead (s : State) (h : Nat) : GutHead := s.gut.heads.getD h {}
def State.setGut (h : Nat) (f : GutHead → GutHead) (s : State) : State := { s with gut := { s.gut with heads := updAt s.gut.heads h f } }
def State.mpsHead (s : State) (h : Nat) : MpsHead := s.mps.heads.getD h {}
def State.setMps (h : Nat) (f : MpsHead → MpsHead) (s : State) : State := { s with mps := { s.mps with heads := updAt s.mps.heads h f } }

/-! Islands (Table 01.2, in its order from 0). -/

def islandLoop : Nat := 32
def islandGuard : Nat := 38
def islandImaging : Nat := 39
def islandMotion : Nat := 40
def islandHost : Nat := 41
def islandNetwork : Nat := 42
def islandMemory : Nat := 43
def islandFirmware : Nat := 44
def State.islandIn (s : State) (i : Nat) : Bool := (s.svc.islands.getD i {}).status == .inService

/-! Ganging (R108, R42). -/

def State.ganged (s : State) : Bool := s.cyc.profile.gang.testBit 0
/-- The port is the partner of a ganged pair. -/
def State.partner (s : State) (h : Nat) : Bool := s.ganged && decide (16 ≤ h ∧ h < 16 + s.cyc.profile.heads)
def State.inProfile (s : State) (h : Nat) : Bool := decide (h < s.cyc.profile.heads)
def State.headIslandOk (s : State) (h : Nat) : Bool := s.islandIn h && (!s.ganged || s.islandIn (h + 16))
def State.linkUp (s : State) (h : Nat) : Bool := (s.hlk h).link == .up

/-! ENABLE and EMIT_EN (R131, Table 04.3). -/

def State.enable (s : State) (h : Nat) : Bool :=
  s.cyc.state == .armed && s.inProfile h && !s.partner h && (s.dparam 0x3001).testBit h && !s.las.stopped.testBit h &&
    s.headIslandOk h && s.linkUp h
def State.emitEn (s : State) (h : Nat) : Bool := s.enable h && !s.las.trip && s.las.aClosed && s.las.bClosed
/-- The EMIT_EN outputs follow their conditions; the DT of a fall is kept (R137). -/
def State.noteEmit (s : State) : State :=
  (List.range 32).foldl (fun (s : State) (h : Nat) =>
    let now := s.emitEn h
    s.setLas h fun (x : LasHead) => { x with emit := now, emitOff := if x.emit && !now then s.dt else x.emitOff }) s

/-! The environment of the layer (R84, R172): parameters of the fence timing stand still through an EXPOSE. -/

def sparam (s : State) (id h : Nat) : Int := toSigned 32 (s.param id h)
def State.activeProfiles (s : State) : List ExpProfile :=
  match s.sig.activeSet with | some k => s.sig.sets.getD k [] | none => []
def State.streaming (s : State) : Bool := s.assisted fnTrj
def State.pathEnv (s : State) (h : Nat) : PathEnv :=
  { ts := s.ts, acc := accelGen s.ts (s.param 0x2000 h), jumpV := cruise s.ts (s.param 0x2002 h), n := s.param 0x2001 h,
    zStep := focusStep s.ts (s.param 0x2004 h), focusBase := sparam s 0x2003 h, onDelay := s.param 0x2006 h,
    offDelay := s.param 0x2007 h, scanDelay := s.param 0x2005 h, profs := s.activeProfiles }
def State.corridor (s : State) (h : Nat) : Corridor :=
  let v := s.param 0x4006 h
  { down := 4 * byteField v 0 4, up := 4 * byteField v 4 2, half := 4 * byteField v 6 2 }
/-- The role in a running pair: 1 primary, 2 secondary, 0 unpaired (R488); the cross-device table of the layer (R494). -/
def State.pairRole (s : State) : Nat := if s.pair.mode == .paired then s.dparam 0xC100 else 0
def State.layerTable (s : State) : List CrossPool := ((s.pair.tables.find? fun e => e.1 == s.cyc.layer).map (·.2)).getD []
/-- A polygon parameter: count in byte 0, vertices from byte 8 (R52, Table 18.8). -/
def zonePoly (v : Nat) : List Pt := (List.range (byteField v 0 1)).map fun (i : Nat) => (byteField v (8 + 6 * i) 3, byteField v (11 + 6 * i) 3)
def State.layEnv (s : State) : LayEnv :=
  let g := s.dparam 0x4005
  let role := s.pairRole
  let own := match s.activeBank with | some k => (s.bank k).sig.pools | none => []
  let pools := if role = 1 then own.zipIdx.map (fun (p : Pool × Nat) => match s.layerTable.find? fun c => c.own == p.2 with
      | some c => { p.1 with eligible := p.1.eligible + 2 ^ 32 * c.eligible }
      | none => p.1)
    else own
  { ts := s.ts, dtS := s.cyc.dtS, paths := (List.range 32).map fun (h : Nat) => s.pathEnv h, fixed := s.assisted fnShare,
    holding := !s.assisted fnGuard,
    geom := { gx := toSigned 16 (byteField g 0 2), gy := toSigned 16 (byteField g 2 2), margin := 4 * s.dparam 0x400A, minSep := 4 * s.dparam 0x4007 },
    corridors := (List.range 64).map fun (h : Nat) => s.corridor (h % 32), lead := 1000 * s.dparam 0x4000, jumpCost := s.dparam 0x4001,
    window := s.dparam 0x4002, persist := ceilDiv (1000 * s.dparam 0x4009) s.ts, ahead := s.dparam 0x4008 / s.ts,
    priority := 1000 * s.dparam 0x400B, pools := pools, sepSq := (4 * s.dparam 0x4007) * (4 * s.dparam 0x4007)
    cross := if role = 2 then s.layerTable.map (·.own) else [], zone := if role = 2 then zonePoly (s.dparam 0xC103) else [] }

/-! What the layer engine sends to the records (R147, R149, R156, R159, R163). -/

def State.layOut (o : LayOut) (s : State) : State :=
  match o with
  | .claim ri pool head cause pos start round =>
    s.buildEntry 0x10 (leBytes 4 ri ++ leBytes 2 pool ++ leBytes 1 head ++ leBytes 1 cause ++ leBytes 4 pos ++ leBytes 2 start ++ zeros 2 ++
      leBytes 8 (s.layEnv.dtOf round))
  | .hold head cause other ri since dur =>
    let s1 := s.setGut head fun (x : GutHead) => { x with holds := inc32 x.holds }
    ({ s1 with recorder := { s1.recorder with sum := { s1.recorder.sum with holds := s1.recorder.sum.holds + 1 } } }).buildEntry 0x11
      (leBytes 1 head ++ leBytes 1 cause ++ leBytes 1 other ++ zeros 1 ++ leBytes 4 ri ++ leBytes 8 since ++ leBytes 4 (satNat 4294967295 dur) ++ zeros 4)
  | .wouldHold head cause other ri since =>
    (s.setGut head fun (x : GutHead) => { x with wouldHolds := inc32 x.wouldHolds }).buildEntry 0x12
      (leBytes 1 head ++ leBytes 1 cause ++ leBytes 1 other ++ zeros 1 ++ leBytes 4 ri ++ leBytes 8 since ++ zeros 8)
  | .diverged entry =>
    ({ s with gut := { s.gut with diverged := true }, recorder := { s.recorder with sum := { s.recorder.sum with diverged := true } } }).logEvent
      0x4002 255 entry 0
  | .unexposed ri head cause frac =>
    let s1 := match s.activeBank with
      | some k => s.setBank k fun b => { b with left := ri :: b.left }
      | none => s
    ({ s1 with
      gut := { s1.gut with unexposed := inc32 s1.gut.unexposed }
      recorder := { s1.recorder with sum := { s1.recorder.sum with unexposed := s1.recorder.sum.unexposed + 1 } } }).buildEntry 0x14
      (leBytes 4 ri ++ leBytes 1 head ++ leBytes 1 cause ++ leBytes 2 (satNat 65535 frac))
  | .interruption ri head frac => s.buildEntry 0x15 (leBytes 4 ri ++ leBytes 1 head ++ zeros 1 ++ leBytes 2 (satNat 65535 frac))

/-- Records listed unexposed wait for the end of the layer (log entry 83). -/
def LayOut.late (o : LayOut) : Bool := match o with | .unexposed _ _ _ _ => true | _ => false

/-- The engine's new layer state, with its outputs written and its orphans counted. -/
def State.setLay (l : Lay) (s : State) : State :=
  let s1 := { s with
    lay := { l with outs := l.outs.filter LayOut.late, orphanCount := 0 }
    gut := { s.gut with orphans := satNat 4294967295 (s.gut.orphans + l.orphanCount) } }
  (l.outs.filter fun o => !o.late).foldl (fun (s : State) (o : LayOut) => s.layOut o) s1

/-- The layer's unexposed records are listed (R163). -/
def State.listUnexposed (s : State) : State :=
  s.lay.outs.foldl (fun (s : State) (o : LayOut) => s.layOut o) { s with lay := { s.lay with outs := [] } }

/-- Records of the active signature that exposure has consumed so far (Table 19.7): the records that are not SKIPs, not
outstanding and not listed unexposed. -/
def State.exposedCount (s : State) : Nat :=
  if s.streaming || s.lay.heads.isEmpty then 0
  else match s.activeBank with
  | none => 0
  | some k =>
    let rs := (s.bank k).sig.records
    let real (i : Nat) : Bool := (rs.getD i {}).cls != 5
    ((List.range rs.length).filter real).length - (s.outstandingRecords.filter real).length - s.recorder.sum.unexposed

/-! Lost heads and HEAD_STOP. -/

/-- An exposure is in progress: samples are sent with ACTIVE, HOLD included. -/
def State.exposing (s : State) : Bool := s.cyc.phase == .expose && !s.lay.heads.isEmpty

/-- The first head that is FINISHED or lost starts the kettle-fence timeout (R166). -/
def State.noteDone (s : State) : State :=
  if s.gut.firstDone.isSome || !s.exposing || s.cyc.state != .armed then s
  else
    let env := s.layEnv
    if (List.range s.lay.heads.length).any (fun (h : Nat) => (s.lay.head h).takesPart && !(s.lay.head h).remote && ((s.lay.head h).lost || s.lay.finished env s.lay.k h)) then
      { s with gut := { s.gut with firstDone := some s.dt } }
    else s

/-- The unsent samples of a streamed head are listed (R116, R160). -/
def State.leaveStream (h : Nat) (s : State) : State :=
  s.buildEntry 0x14 (leBytes 4 ((s.trj h).strNext % 2 ^ 32) ++ leBytes 1 h ++ leBytes 1 4 ++ zeros 2)

/-- Head `h` is lost for the rest of the layer (R160 to R163); outside EXPOSE nothing is lost. -/
def State.loseHead (h : Nat) (s : State) : State :=
  if !s.exposing || !(s.lay.head h).live then s
  else
    let streamed := (s.lay.head h).streamed && !(s.lay.head h).streamDone
    let s1 := (s.setLas h fun (x : LasHead) => { x with cut := true }).setLay (s.lay.loseHead s.layEnv h)
    (if streamed then s1.leaveStream h else s1).noteDone

/-- A WARN or HEAD_STOP entry of the build record and its count (Table 04.7, R589). -/
def State.lasWarn (h cond action : Nat) (s : State) : State :=
  (s.setLas h fun (x : LasHead) => { x with warns := inc32 x.warns }).buildEntry 0x23
    (leBytes 1 h ++ leBytes 1 cond ++ leBytes 1 action ++ zeros 1 ++ leBytes 4 (s.lasHead h).source)

/-- HEAD_STOP with its condition number (Table 04.7, R589). A head that is stopped already stays so. -/
def State.headStop (h cond : Nat) (s : State) : State :=
  if s.las.stopped.testBit h then s
  else
    let s1 := (s.lasWarn h cond 2).logEvent 0x3004 h cond 0
    let s2 := { s1 with las := { s1.las with stopped := s1.las.stopped ||| 2 ^ h } }
    (s2.loseHead h).noteEmit

/-- The action `LAS.STATUS_ACTION` gives to a status bit (Tables 04.6, 04.10). -/
def statusAction (v b : Nat) : Nat :=
  match b with
  | 3 => bits v 0 2
  | 5 => bits v 2 2
  | 6 => bits v 4 2
  | 11 => bits v 6 2
  | _ => 0

/-- Status bits whose action is HEAD_STOP in a word, READY clear among them (Table 04.6): condition numbers in ascending order. -/
def stoppingBits (actions word : Nat) : List Nat :=
  (if word.testBit 0 then [] else [0]) ++
    ((List.range 12).filter fun b => word.testBit b &&
      (([2, 4, 7, 8, 10] : List Nat).contains b || (([3, 5, 6, 11] : List Nat).contains b && statusAction actions b == 2)))

/-- The conditions of Table 04.6 a word sets by itself, as a mask; READY clear as bit 0. -/
def conditionMask (word : Nat) : Nat :=
  (if word.testBit 0 then 0 else 1) + ((List.range 12).foldl (fun (a b : Nat) => if ([2, 3, 4, 5, 6, 7, 8, 10, 11] : List Nat).contains b && word.testBit b then a + 2 ^ b else a) 0)

/-- EMITTING is in conflict (R137), in the frame of the slot that began at `slotDt`. -/
def State.emittingConflict (h word slotDt : Nat) (s : State) : Bool :=
  let x := s.lasHead h
  word.testBit 1 &&
    ((!x.gate && decide (x.gateOff + 16 * (s.param 0x2007 h + 4 * s.ts) < slotDt)) ||
      (!x.emit && decide (x.emitOff + 16 * field (s.hlk h).cap 26 2 < s.dt)))

/-- A source status word taken from a frame (R136, R137). -/
def State.sourceWord (h word slotDt : Nat) (s : State) : State :=
  let x := s.lasHead h
  let old := x.source
  let changed (s : State) : State := s.logEvent 0x3003 h (beside old 4 word) 0
  if !((s.cyc.state == .armed || s.cyc.state == .hold) && s.inProfile h) then
    let s1 := s.setLas h fun (y : LasHead) => { y with source := word, seenRun := 0, conds := conditionMask word }
    if word = old then s1 else changed s1
  else
    let run := if word.testBit 9 = x.emit then 0 else x.seenRun + 1
    let conds := conditionMask word + (if s.emittingConflict h word slotDt then 2 else 0) + (if 4 ≤ run then 512 else 0)
    let s1 := s.setLas h fun (y : LasHead) => { y with source := word, seenRun := min run 4, conds := conds }
    let s2 := if conds ≠ x.conds ∨ word / 2 ^ 24 ≠ old / 2 ^ 24 then changed s1 else s1
    let acts := s.dparam 0x3005
    let s3 := ([3, 5, 6, 11] : List Nat).foldl (fun (s : State) (b : Nat) =>
      if statusAction acts b = 1 ∧ conds.testBit b ∧ !x.conds.testBit b then s.lasWarn h b 1 else s) s2
    match stoppingBits acts word ++ (if conds.testBit 1 then [1] else []) ++ (if conds.testBit 9 then [9] else []) with
    | c :: _ => s3.headStop h c
    | [] => s3

/-- `LAS_HEAD_RESTORE`s that wait take effect and complete (R138). -/
def State.restoreHeads (s : State) : State :=
  ((List.range 32).foldl (fun (s : State) (h : Nat) =>
    match (s.lasHead h).restore with
    | [] => s
    | accs =>
      let s1 := s.setLas h fun (x : LasHead) => { x with restore := [] }
      ({ s1 with las := { s1.las with stopped := if s1.las.stopped.testBit h then s1.las.stopped - 2 ^ h else s1.las.stopped } }).completeAll accs stOk) s).noteEmit

/-- `LAS.INTLK_STATUS` (Table 04.9). -/
def State.intlkStatus (s : State) : Nat :=
  bit s.las.aClosed + 2 * bit s.las.bClosed + 4 * bit s.las.trip + 8 * bit s.las.discrepancy

end Sys2Proof.Machine
end

