-- ==== Sys2Proof/Machine/MpsOps.lean ====
section
/-! DEFINITION. The melt-pool record stream (R191 to R196): staging, gaps, flushes, the writer, and the copy of every output
stream to its host ring. -/

namespace Sys2Proof.Machine

/-- 32-byte entries that staging holds, and those it keeps for markers (log entry 12). -/
def stagingRoom : Nat := 131072
def stagingReserve : Nat := 256

/-- Entries join staging. -/
def State.stage (es : List (List Byte)) (recs : Nat) (s : State) : State :=
  { s with mps := { s.mps with staged := s.mps.staged ++ es, stagedRecs := s.mps.stagedRecs + recs, lastIn := s.dt } }

/-- A LAYER or FENCE marker, for which staging keeps room. -/
def State.stageMarker (m : List Byte) (s : State) : State :=
  { s with mps := { s.mps with staged := s.mps.staged ++ [m] } }

/-- The run of dropped samples ends: its GAP marker, event record and build-record entry (R194). -/
def State.closeMpsGap (s : State) : State :=
  match s.mps.gap with
  | none => s
  | some g =>
    let m := gapMarker g
    ((({ s with mps := { s.mps with gap := none } }).stageMarker m).logEvent 0x5001 255 0 (leNat (m.take 24))).buildEntry 0x42
      (leBytes 4 (satNat 4294967295 g.count) ++ zeros 4 ++ leBytes 8 g.first ++ leBytes 8 g.last)

/-- The drop of `n` entries of a sample at `dt` joined to the open run. -/
def addMpsGap (dt n : Nat) (g : Option Gap) : Option Gap :=
  match g with
  | none => some { first := dt, last := dt, count := n }
  | some g => some { g with last := dt, count := g.count + n }

/-- The records and FRAME markers of one sample (R191, R194). -/
def State.writeGroup (dt : Nat) (recs marks : List (List Byte)) (s : State) : State :=
  let n := recs.length + marks.length
  if n = 0 then s
  else if s.mps.staged.length + n + bit s.mps.gap.isSome + stagingReserve ≤ stagingRoom then
    s.closeMpsGap.stage (recs ++ marks) n
  else { s with mps := { s.mps with gap := addMpsGap dt n s.mps.gap, drops := satNat 4294967295 (s.mps.drops + n) } }

/-- The sensing of a head in a slot, once known. -/
def State.senseAt (s : State) (h slot : Nat) : Option Sense := ((s.mpsHead h).sense.find? fun e => e.1 == slot).map (·.2)

/-- FENCE markers whose place has come: those before slot `k`, or all once no record waits (R191). -/
def State.fencesTo (k : Option Nat) (s : State) : State :=
  let due (m : Nat × List Byte) : Bool := match k with | some n => decide (m.1 ≤ n) | none => true
  let out := (s.mps.fenceMarks.filter due).map (·.2)
  { s with mps := { s.mps with fenceMarks := s.mps.fenceMarks.filter fun (m : Nat × List Byte) => !due m, staged := s.mps.staged ++ out } }

/-- Every record of the oldest slot whose sensing is known, with the FRAME markers that follow it. -/
def State.writeRecords : Nat → State → State
  | 0, s => s
  | fuel + 1, s0 =>
    match s0.mps.pendingRecs with
    | [] => s0.fencesTo none
    | r :: _ =>
      let s := s0.fencesTo (some r.k)
      let now := s.mps.pendingRecs.filter fun x => x.k == r.k
      let known := now.all fun x => (s.senseAt x.head x.k).isSome
      if !known then s
      else
        let marks := (s.mps.frameMarks.filter fun m => decide (m.1 ≤ r.k)).map (·.2)
        let recs := now.map fun (x : PendingRec) => meltRecord x ((s.senseAt x.head x.k).getD {})
        let s1 := s.writeGroup r.dt recs marks
        State.writeRecords fuel { s1 with mps := { s1.mps with
          pendingRecs := s1.mps.pendingRecs.filter fun x => x.k != r.k, frameMarks := s1.mps.frameMarks.filter fun m => !(decide (m.1 ≤ r.k)) } }

def State.flushRecords (s : State) : State := State.writeRecords (s.mps.pendingRecs.length + 1) s

/-- A flush of the stream (R193): a unit that holds one entry is filled with a PAD marker. -/
def State.mpsFlush (s : State) : State := if s.mps.staged.length % 2 = 1 then s.stageMarker padMarker else s

/-- A burst of at most 2 KiB moved from staging into the DRAM ring (R194). -/
def State.mpsRingWrite (s : State) : State :=
  let units := min 64 (min (s.mps.staged.length / 2 * 2) (s.ringRoom 0 / 64 * 2))
  if units = 0 || s.ringSize 0 == 0 then s
  else
    let s1 := s.ringPut 0 (s.mps.staged.take units).flatten
    { s1 with mps := { s1.mps with staged := s1.mps.staged.drop units } }

/-! Copies to the host (R195). -/

/-- Bytes the host ring of a stream has room for: it is full when one more 64-byte unit would reach the read offset. -/
def State.hostRoom (s : State) (i : Nat) : Nat :=
  let size := s.hostSize i
  let st := s.stream i
  let used := (st.hostWrite + size - st.hostRead) % size
  if size = 0 then 0 else size - 64 - used

/-- A stretch of a DRAM ring that may wrap at its end. -/
def State.ringGet (s : State) (i off n : Nat) : List Byte :=
  let size := s.ringSize i
  s.dramRead (s.ringBase i + off) (min n (size - off)) ++ s.dramRead (s.ringBase i) (n - min n (size - off))

/-- Whether a stretch of a DRAM ring holds a poisoned line. -/
def State.ringPoisoned (s : State) (i off n : Nat) : Bool :=
  let size := s.ringSize i
  s.poisoned (s.ringBase i + off) (min n (size - off)) || s.poisoned (s.ringBase i) (n - min n (size - off))
/-- Bytes of the entry that the copy of a stream meets next: a unit, a raw frame, a statistics entry (R193, R198, R277). -/
def State.entrySize (s : State) (i : Nat) : Nat :=
  let off := (s.stream i).copied % s.ringSize i
  match i with
  | 0 => 64
  | 1 => 20544
  | _ => field (s.ringGet i off 64) 44 4
/-- The copy stands at an entry that holds a poisoned line and is dropped (R464); build and event entries are not. -/
def State.copyPoisoned (s : State) (i : Nat) : Bool :=
  let st := s.stream i
  let len := s.entrySize i
  decide (i < 3) && (i != 1 || st.copied % 20544 == 0) && (i != 2 || st.left == 0) && decide (len ≤ st.written - st.copied) &&
    s.ringPoisoned i (st.copied % s.ringSize i) len
/-- That entry is passed over: dropped with the gap of its stream (R194, R199, R278). -/
def State.skipEntry (i : Nat) (s : State) : State :=
  let st := s.stream i
  let len := s.entrySize i
  let s1 := (s.poisonSeen (s.ringBase i + st.copied % s.ringSize i) len).setStream i fun (x : Stream) => { x with copied := x.copied + len }
  match i with
  | 0 => { s1 with mps := { s1.mps with gap := addMpsGap s.dt 2 s1.mps.gap, drops := satNat 4294967295 (s1.mps.drops + 2) } }
  | 1 => s1.setStream 1 fun (x : Stream) => { x with drops := inc32 x.drops }
  | _ => s1.setStream i fun (x : Stream) => { x with drops := inc32 x.drops, gap := addGap s.dt x.gap }
/-- Bytes a copy may take at once: up to the next poisoned unit, or within the entry in hand. -/
def State.copyReach (s : State) (i n : Nat) : Nat :=
  let st := s.stream i
  match i with
  | 0 => 64 * ((List.range (n / 64)).takeWhile fun (j : Nat) => !s.ringPoisoned 0 ((st.copied + 64 * j) % s.ringSize 0) 64).length
  | 1 => min n (20544 - st.copied % 20544)
  | 2 => min n (if st.left = 0 then max 64 (s.entrySize 2) else st.left)
  | _ => n

/-- One write of at most 2 KiB into the host ring, then its index (R195); entries that waited for room follow. -/
def State.hostCopy (i : Nat) (s : State) : State :=
  let st := s.stream i
  let hs := s.hostSize i
  if !s.streamOn i then s
  else if s.copyPoisoned i then s.skipEntry i
  else
    let n := s.copyReach i (min (min 2048 (st.written - st.copied)) (min (s.hostRoom i) (hs - st.hostWrite)))
    if n = 0 then s
    else
      let data := s.ringGet i (st.copied % s.ringSize i) n
      let w := (st.hostWrite + n) % hs
      let left := if i = 2 then (if st.left = 0 then max 64 (s.entrySize 2) else st.left) - n else 0
      let s1 := s.setStream i fun (x : Stream) => { x with copied := x.copied + n, hostWrite := w, left := left }
      let s2 := s1.hostEntry (s.hostVector i) [(s.hostBase i + st.hostWrite, data), (s.hostIndex i, leBytes 8 w)]
      State.drain i (s2.stream i).waiting.length s2

end Sys2Proof.Machine
end

