-- ==== Sys2Proof/Machine/LoopOps.lean ====
section
/-! DEFINITION. The correction engine on the state (07): configuration, placement (R209 to R211), inputs (R213, R222, R224),
executions (R204 to R208), misses, generators and captures (R233 to R236), resets (R219). -/

namespace Sys2Proof.Machine

def State.loopCfg (s : State) (l : Nat) : Nat := s.dparam (0x6400 + l)
def State.loopMode (s : State) (l : Nat) : LoopMode := cfgMode (s.loopCfg l)
def State.loopState (s : State) (l : Nat) : LoopState := s.loop.loops.getD l {}
def State.setLoop (l : Nat) (f : LoopState → LoopState) (s : State) : State := { s with loop := { s.loop with loops := updAt s.loop.loops l f } }
def State.loopCoef (s : State) (l : Nat) : LoopCoef :=
  coefOf (s.dparam (0x6600 + l)) (s.dparam (0x6700 + l)) (s.dparam (0x6800 + l)) (s.dparam (0x6900 + l)) (s.dparam (0x6A00 + l))
    (s.dparam (0x6B00 + l)) (s.dparam (0x6F00 + l))
def State.placedOf (s : State) (l : Nat) : Option Placed := s.loop.placed.find? fun p => p.loop == l

/-! Placement. -/

/-- A loop that a placement places (R203, R211). -/
def State.placeable (s : State) (l : Nat) : Bool :=
  s.loopMode l != .off && (match loopHead l with | some h => s.inProfile h | none => true)
def State.placeItem (s : State) (l : Nat) : Nat × Nat × Nat × Nat := (l, loopCost l, cfgDiv (s.loopCfg l), cfgPhase (s.loopCfg l))
/-- C of R202. -/
def State.loopCap (s : State) : Nat := s.ts - 16
/-- The whole placement of R209. -/
def State.tryPlace (s : State) : Option (List Placed) :=
  placeAll s.loopCap s.loop.islands [] (((List.range 256).filter s.placeable).map s.placeItem)
def State.usePlacement (ps : List Placed) (s : State) : State :=
  { s with loop := { s.loop with
      placed := ps
      placements := add32 s.loop.placements 1
      maxLoad := (List.range 24).foldl (fun (a p : Nat) => max a (maxPhaseLoad ps p)) 0 } }

/-- Enabled servo and general loops (R211). -/
def State.servoLoops (s : State) : List Nat := (List.range 96).filterMap fun (i : Nat) => if s.placeable (32 + i) then some (32 + i) else none
def State.generalLoops (s : State) : List Nat := (List.range 128).filterMap fun (i : Nat) => if s.placeable (128 + i) then some (128 + i) else none
/-- Whether the head declares raw tracks on axis `a`; AXES bits 5:3 are zero at version 1 (Table 13.7, R357). -/
def HlkPort.tracks (x : HlkPort) (a : Nat) : Bool := x.version / 16 != 1 && (field x.cap 9 1).testBit (3 + a)
/-- SERVO_CAP: the head did not declare raw tracks of the axis at link-up. -/
def State.servoCapFail (s : State) : Bool :=
  s.servoLoops.any fun l => !(s.hlk ((l - 32) / 3)).tracks ((l - 32) % 3)
/-- The sum over general loops of 48 × f_s ÷ D exceeds EXTRA_OPS × 10⁶; sixteenths keep it exact. -/
def State.generalLoad (s : State) : Nat := s.generalLoops.foldl (fun (a l : Nat) => a + 16 / cfgDiv (s.loopCfg l)) 0
def State.loopOver (s : State) : Bool :=
  decide (s.cyc.profile.servo < s.servoLoops.length) ||
    decide (16 * s.cyc.profile.extraOps * 1000000 * s.ts < 48 * 1000000000 * s.generalLoad) || s.tryPlace.isNone

/-! Inputs. -/

/-- The slot of the sample that EXPOSE started with. -/
def State.slot0 (s : State) : Nat := s.cyc.dtS / (16 * s.ts)
/-- The input sample's index for a slot (R204): its sample in EXPOSE, else the slot's own number. -/
def State.inputIndex (s : State) (slot : Nat) : Nat := if s.exposing then slot - s.slot0 else slot
def State.noteAt (s : State) (h slot : Nat) : Option BlockNote := (s.loop.notes.getD h []).find? fun n => n.slot == slot
def State.lastNote (s : State) (h : Nat) : Option BlockNote := (s.loop.notes.getD h []).head?
/-- A metric of the sample in a slot (R186). -/
def State.metricAt (s : State) (h slot i : Nat) : Nat × Bool :=
  match s.senseAt h slot, s.noteAt h slot with
  | some x, some n => metricValue i x n.frame
  | _, _ => (0, false)

/-- Output and error of a loop's latest execution on an earlier input sample (R208). -/
def State.loopBefore (s : State) (l slot : Nat) : Int × Int :=
  let x := s.loopState l
  match x.hist.find? fun e => decide (e.1 < slot) with
  | some e => e.2
  | none => (x.out, x.e)

/-- A general loop whose output replaces r (1) or x3 (2) of loop `l` (Table 07.15). -/
def State.feeder (s : State) (l dest : Nat) : Option Nat :=
  s.generalLoops.find? fun g => cfgDest (s.loopCfg g) == dest && cfgDestLoop (s.loopCfg g) == l

/-- A slot of `LOOP.INPUT`: the signal, its conversion flags, the raw value of node 13, whether the source is valid (R213). -/
def State.inputSlot (s : State) (l n slot : Nat) : Int × Nat × Int × Bool :=
  let v := s.dparam (0x6500 + l)
  let b := 12 * n
  let kind := byteField v b 1
  let index := byteField v (b + 1) 1
  let off := s32 v (b + 4)
  let scale := s32 v (b + 8)
  let whole (raw : Int) (ok : Bool) : Int × Nat × Int × Bool :=
    let c := convInt raw off scale
    (c.1, c.2, raw, ok)
  let signal (x : Int) : Int × Nat × Int × Bool :=
    let c := narrowF flInput (scale * x)
    (c.1, c.2, x, true)
  match kind with
  | 1 =>
    let m := s.metricAt index slot (byteField v (b + 2) 1)
    whole m.1 m.2
  | 2 => signal (s.loopBefore index slot).1
  | 3 => signal (s.loopBefore index slot).2
  | 4 => whole (s.fbkCount index) (s.fbkValid index)
  | 5 => whole (s.channel index).speed (s.fbkValid index)
  | 6 => whole (((s.noteAt index slot).map (·.ledger)).getD 0 : Nat) true
  | 7 => signal (s32 (s.dparam (0x6F00 + l)) 0)
  | 8 => (off, 0, off, true)
  | _ => (0, 0, 0, true)

/-- An entry of `LOOP.TARGET` (Table 07.6). -/
def State.targetEntry (s : State) (h n off len : Nat) : Nat := byteField (s.param 0x6000 h) (16 * n + off) len

/-- The inputs of a power loop's execution (R215, R222). -/
def State.powerInputs (s : State) (h slot : Nat) : LoopIn :=
  match s.noteAt h slot with
  | none => { invalid := true, dt := 16 * s.ts * slot }
  | some n =>
    let e (off len : Nat) : Nat := s.targetEntry h n.mpClass off len
    let m := s.metricAt h slot (e 0 1)
    let y := convInt m.1 (e 1 3 : Nat) (toSigned 32 (e 4 4))
    let x2 := satF flInput (n.af * 65536)
    let r := match s.feeder h 1 with | some g => (s.loopBefore g slot).1 | none => toSigned 32 (e 8 4)
    let x3 := match s.feeder h 2 with | some g => (s.loopBefore g slot).1 | none => toSigned 32 (e 12 4)
    { y := y.1, r := r, x1 := ((n.ledger * 16384 : Nat) : Int), x2 := x2.1, x3 := x3, flags := y.2 ||| x2.2, raw := m.1, invalid := !m.2,
      idle := !n.lit || n.cut || n.probe || n.rule, dt := 16 * s.ts * slot }

/-- The command of an axis in a slot as a signal (R224); a slot before the first one kept reads as the oldest command known. -/
def State.commandAt (s : State) (h a slot : Nat) (dflt : Int) : Int :=
  match s.noteAt h slot with
  | some n => n.command.getD a 0 * 128
  | none => dflt

/-- The inputs of a servo loop's execution (R215, R224). -/
def State.servoInputs (s : State) (l slot : Nat) : LoopIn :=
  let h := (l - 32) / 3
  let a := (l - 32) % 3
  let d := cfgDiv (s.loopCfg l)
  let r0 := s.commandAt h a slot 0
  let r1 := s.commandAt h a (slot - d) r0
  let r2 := s.commandAt h a (slot - 2 * d) r1
  let x1 := satF flInput (r0 - r1)
  let x1' := satF flInput (r1 - r2)
  let x2 := satF flInput (x1.1 - x1'.1)
  let v := s.dparam (0x6500 + l)
  let t := ((s.axisTrack h a).hist.find? fun e => e.1 == slot).map (·.2)
  let c := match t with | some t => t.1 | none => 0
  let ok := match t with | some t => t.2 | none => false
  let y := convInt c (s32 v 4) (s32 v 8)
  { y := y.1, r := r0, x1 := x1.1, x2 := x2.1, x3 := s32 v 52, flags := y.2 ||| x1.2 ||| x2.2, raw := c, invalid := !ok,
    idle := !s.linkUp h, dt := 16 * s.ts * slot }

/-- The inputs of a general loop's execution (R213, R215). -/
def State.generalInputs (s : State) (l slot : Nat) : LoopIn :=
  let x (n : Nat) : Int × Nat × Int × Bool := s.inputSlot l n slot
  let r := match s.feeder l 1 with | some g => ((s.loopBefore g slot).1, 0, 0, true) | none => x 1
  let x3 := match s.feeder l 2 with | some g => ((s.loopBefore g slot).1, 0, 0, true) | none => x 4
  let y := x 0
  let x1 := x 2
  let x2 := x 3
  { y := y.1, r := r.1, x1 := x1.1, x2 := x2.1, x3 := x3.1, flags := y.2.1 ||| r.2.1 ||| x1.2.1 ||| x2.2.1 ||| x3.2.1, raw := y.2.2.1,
    invalid := !(y.2.2.2 && r.2.2.2 && x1.2.2.2 && x2.2.2.2 && x3.2.2.2), dt := 16 * s.ts * slot }

def State.loopInputs (s : State) (l slot : Nat) : LoopIn :=
  if l < 32 then s.powerInputs l slot else if l < 128 then s.servoInputs l slot else s.generalInputs l slot

/-! Generators and captures. -/

/-- The generators of a loop at an execution whose input sample begins at `dt`: node values, and the generators after it. A
generator is freed after LENGTH executions (R233). -/
def stepGens (l dt : Nat) (gs : List Gen) : List (Nat × Int) × List Gen :=
  let own (g : Gen) : Bool := g.loop == l
  let run (g : Gen) : Bool := own g && decide (g.start ≤ dt)
  ((gs.filter own).map (fun (g : Gen) => (g.node, if g.start ≤ dt then g.step.1 else 0)),
   (gs.map fun (g : Gen) => if run g then g.step.2 else g).filter fun (g : Gen) => !(own g && decide (g.length ≤ g.i)))

/-- Whether a capture's trigger falls at this execution (R235). -/
def Capture.fires (c : Capture) (flagsSet : Nat) (inject exposeStart : Bool) : Bool :=
  match c.trigger with
  | 0 => decide (c.pre ≤ c.rows.length)
  | 1 => inject
  | 2 => decide (flagsSet &&& c.mask ≠ 0)
  | _ => exposeStart

/-- The rows a capture takes from an execution; rows that no execution gave before the trigger take free values. -/
def Capture.take (row : Nat × List Nat) (fires : Bool) (free : Nat) (c : Capture) : Capture :=
  match c.state with
  | .done => c
  | .running =>
    let rows := c.rows ++ [row]
    { c with rows := rows, state := if c.length ≤ rows.length then .done else .running }
  | .armed =>
    if fires then
      let missing := c.pre - c.rows.length
      let pad : List (Nat × List Nat) := (List.range missing).map fun (i : Nat) =>
        (0, c.nodes.map fun (n : Nat) => Config.freeValue (free + 256 * i + n) % 4294967296)
      let rows := pad ++ c.rows ++ [row]
      { c with rows := rows, state := if c.length ≤ rows.length then .done else .running }
    else { c with rows := (c.rows ++ [row]).drop (c.rows.length + 1 - c.pre) }

def State.capture (l slot flagsSet : Nat) (inject : Bool) (s : State) : State :=
  let dt := 16 * s.ts * slot
  let nodes := (s.loopState l).nodes
  let first := s.exposing && decide (s.inputIndex slot < cfgDiv (s.loopCfg l))
  { s with
    fresh := if s.loop.captures.any fun c => c.loop == l then s.fresh + 256 * 65536 else s.fresh
    loop := { s.loop with captures := s.loop.captures.map fun (c : Capture) =>
      if c.loop = l then c.take (dt, c.nodes.map fun (n : Nat) => ofSigned 32 (nodes.getD n 0)) (c.fires flagsSet inject first) s.fresh else c } }

/-- A generator of the loop starts at this execution. -/
def State.injectStarts (s : State) (l dt : Nat) : Bool := s.loop.gens.any fun g => g.loop == l && decide (g.start ≤ dt) && g.i == 0

/-! Executions. -/

/-- GATE_RESTART (R216): the first lit input sample of each window of a power loop. -/
def State.restarts (s : State) (l slot : Nat) : Bool :=
  decide (l < 32) && cfgRestart (s.loopCfg l) &&
    (match s.noteAt l slot with | some n => n.active && n.lit && decide (slot < n.winStart + cfgDiv (s.loopCfg l)) | none => false)

/-- One execution on the input sample of a slot (R204, R214 to R218). -/
def State.loopRun (l slot : Nat) (s : State) : State :=
  let dt := 16 * s.ts * slot
  let g := stepGens l dt s.loop.gens
  let starts := s.injectStarts l dt
  let c := s.loopCoef l
  let x0 := s.loopState l
  let x1 := if s.restarts l slot then { x0 with preset := some c.outStart } else x0
  let r := loopFrame c (cfgReverse (s.loopCfg l)) (s.loopMode l == .manual) g.1 (s.loopInputs l slot) x1
  let x2 := { r.1 with
    missRun := 0
    hist := ((slot, r.1.out, r.1.e) :: x0.hist).take 128
    nodes := (List.range 14).map fun (n : Nat) => r.2.node n }
  let s1 := { s with loop := { s.loop with gens := g.2 } }
  (s1.setLoop l fun _ => x2).capture l slot (Nat.xor x2.flags x0.flags) starts

/-- A missed execution (R207): no state changes but the flag, the count and the generators; `LOOP.MISS_LIMIT` (R225). -/
def State.loopMiss (l slot : Nat) (s : State) : State :=
  let dt := 16 * s.ts * slot
  let g := stepGens l dt s.loop.gens
  let starts := s.injectStarts l dt
  let x0 := s.loopState l
  let x1 := { x0 with
    flags := x0.flags ||| flMissed, missed := inc32 x0.missed, missRun := x0.missRun + 1
    hist := ((slot, x0.out, x0.e) :: x0.hist).take 128 }
  let s1 := ({ s with loop := { s.loop with gens := g.2 } }).setLoop l fun _ => x1
  let s2 := s1.capture l slot (Nat.xor x1.flags x0.flags) starts
  if 32 ≤ l ∧ l < 128 ∧ x1.missRun = s.dparam 0x6020 then ((s2.logEvent 0x6001 l 0 0).headStop ((l - 32) / 3) 33) else s2

/-- Whether loop `l` has an execution on the input sample of a slot that is still to come (R204). -/
def State.loopDue (s : State) (l slot : Nat) : Bool :=
  let c := s.loopCfg l
  s.loopMode l != .off && (s.placedOf l).isSome && (s.inputIndex slot % cfgDiv c == cfgPhase c) &&
    !((s.loopState l).hist.any fun e => decide (slot ≤ e.1)) &&
    (if 32 ≤ l ∧ l < 128 then s.linkUp ((l - 32) / 3) else s.exposing && decide (s.slot0 ≤ slot))

def State.loopExec (l slot : Nat) (s : State) : State :=
  if !s.loopDue l slot then s
  else s.loopRun l slot

/-- LOOP_LAG of a head (R205). -/
def State.ruleLag (s : State) (h : Nat) : Nat := s.loop.ruleLag.getD h 0
def State.loopLag (s : State) (h : Nat) : Nat := s.ruleLag h + 1
/-- Slots between a loop's input sample and its deadline (R206). -/
def State.loopDelay (s : State) (l : Nat) : Nat := match loopHead l with | some h => s.loopLag h | none => 2

/-- Every execution whose deadline is the boundary of slot `n`, in ascending loop index. -/
def State.loopsAt (n : Nat) (s : State) : State :=
  (s.loop.placed.map (·.loop)).foldl (fun (s : State) (l : Nat) => if s.loopDelay l ≤ n then s.loopExec l (n - s.loopDelay l) else s) s

/-! Resets and mode changes. -/

/-- The present setpoint that RS takes (R219). -/
def State.presentSetpoint (s : State) (l : Nat) : Int :=
  if l < 32 then
    match s.feeder l 1 with
    | some g => (s.loopState g).out
    | none => toSigned 32 (s.targetEntry l 0 8 4)
  else if l < 128 then ((s.lastNote ((l - 32) / 3)).map fun (n : BlockNote) => n.command.getD ((l - 32) % 3) 0 * 128).getD 0
  else match s.feeder l 1 with
    | some g => (s.loopState g).out
    | none => (s.inputSlot l 1 (s.dt / (16 * s.ts))).1

def State.loopReset (l : Nat) (s : State) : State :=
  let rs := s.presentSetpoint l
  let start := (s.loopCoef l).outStart
  s.setLoop l fun (x : LoopState) => { x with
    rs := rs, ePrev := 0, e := 0, i := 0, s1 := [0, 0, 0, 0], s2 := [0, 0, 0, 0], lim := 0, out := start, hist := [], wasFrozen := false, preset := none }

/-- Entry to READY: every power and general loop is reset, the loops are placed, the lags are fixed (R205, R209, R219). -/
def State.loopsReady (s : State) : State :=
  let s1 := (List.range 256).foldl (fun (s : State) (l : Nat) => if 32 ≤ l ∧ l < 128 then s else s.loopReset l) s
  let s2 := match s1.tryPlace with | some ps => s1.usePlacement ps | none => s1
  { s2 with loop := { s2.loop with
      ruleLag := s2.loop.ruleLag.zipIdx.map (fun e => (s2.loop.lagNext.getD e.2 none).getD e.1), lagNext := List.replicate 32 none } }

/-- What a change of `LOOP.CFG` from `old` does when it takes effect (R216, R219). -/
def State.loopCfgChanged (l old : Nat) (s : State) : State :=
  let m := s.loopMode l
  if cfgMode old = .manual ∧ m = .auto then s.setLoop l fun (x : LoopState) => { x with preset := some (s.loopCoef l).manual }
  else if cfgMode old = .off ∧ m ≠ .off ∧ 32 ≤ l ∧ l < 128 then s.loopReset l
  else s

/-- Whether two configurations need another placement (R209). -/
def replaces (old new : Nat) : Bool :=
  (cfgMode old == .off) != (cfgMode new == .off) || cfgDiv old != cfgDiv new || cfgPhase old != cfgPhase new

/-- The change is one between MANUAL and AUTO alone (R221). -/
def manualAuto (old new : Nat) : Bool :=
  cfgMode old != .off && cfgMode new != .off && old / 256 == new / 256

/-! Loop-processor islands (R210). -/

/-- A fault of loop island `i`: its loops wait to be placed; they are placed at once where they fit. Answers false where some
cannot be placed (R210). -/
def State.loopIslandFault (i : Nat) (s : State) : State × Bool :=
  let islands := if s.loop.islands.testBit i then s.loop.islands - 2 ^ i else s.loop.islands
  let gone := s.loop.placed.filter fun p => p.proc / 4 == i
  let kept := s.loop.placed.filter fun p => p.proc / 4 != i
  let s1 := { s with loop := { s.loop with islands := islands } }
  match placeAll s.loopCap islands kept (gone.map fun (p : Placed) => (p.loop, p.cost, p.div, p.phase)) with
  | some ps =>
    let s2 := s1.usePlacement (sortBy (fun (a b : Placed) => decide (a.loop < b.loop)) ps)
    (gone.foldl (fun (s : State) (p : Placed) => s.setLoop p.loop fun (x : LoopState) => { x with preset := some x.out }) s2, true)
  | none => ({ s1 with loop := { s1.loop with placed := kept } }, false)

/-- The island is in service again; its processors take loops at the next placement. -/
def State.loopIslandBack (i : Nat) (s : State) : State :=
  if s.loop.islands.testBit i then s else { s with loop := { s.loop with islands := s.loop.islands + 2 ^ i } }

/-! Build-record entries of parameters (R221). -/

/-- DT of the input sample of a loop's first execution from now on. -/
def State.nextExec (s : State) (l : Nat) : Nat :=
  let c := s.loopCfg l
  let n := s.dt / (16 * s.ts) + 1 - s.loopDelay l
  let k := s.inputIndex (max n s.slot0)
  let d := cfgDiv c
  let k' := k + (cfgPhase c + d - k % d) % d
  16 * s.ts * (s.slot0 + k')
def State.loopParamEntry (l id : Nat) (s : State) : State :=
  if s.cyc.phase == .expose && (s.placedOf l).isSome then
    s.buildEntry 0x21 (leBytes 1 l ++ zeros 1 ++ leBytes 2 id ++ zeros 4 ++ leBytes 8 (s.nextExec l))
  else s

end Sys2Proof.Machine
end

