-- ==== Sys2Proof/Machine/Links.lean ====
section
/-! DEFINITION. The head links (13): frames, the capability check, port states and training, the delay terms, configuration
records. What a link loss does to the device state stands with the layer cycle. -/

namespace Sys2Proof.Machine

/-! Frames (R350). -/

/-- A frame's content with its CRC-32C. -/
def framed (content : List Byte) : List Byte := content ++ leBytes 4 (crc32c content)
/-- The content of a frame whose CRC is good. -/
def unframe (fr : List Byte) : Option (List Byte) :=
  let n := fr.length - 4
  if 4 < fr.length && crc32c (fr.take n) == field fr n 4 then some (fr.take n) else none

/-! Versions and the capability block (R356 to R358). -/

def State.versionCap (s : State) (h : Nat) : Nat := byteField (s.param 0xC000 h) 2 1
/-- Majors offered, as MAJOR_MASK, and the minor offered for each (R356). -/
def majorMask (cap : Nat) : Nat := if cap = 0x20 then 6 else 2
def minorOf (cap major : Nat) : Nat := if major = 1 then (if cap = 0x20 then 2 else cap % 16) else 0
/-- The device's capability block, CAP_DOWN (R356). -/
def State.capDown (s : State) (h : Nat) : List Byte :=
  let cap := s.versionCap h
  leBytes 1 2 ++ zeros 7 ++ leBytes 4 0x43445853 ++ leBytes 1 (majorMask cap) ++ zeros 1 ++ leBytes 1 (minorOf cap 1) ++ leBytes 1 (minorOf cap 2) ++
    leBytes 1 s.cyc.profile.ts ++ leBytes 1 h ++ zeros 54
/-- The version chosen, as a byte; `none` without a common major (R356). -/
def chooseVersion (cap : Nat) (block : List Byte) : Option Nat :=
  let both := majorMask cap &&& field block 4 1
  if both.testBit 2 then some (32 + min (minorOf cap 2) (field block 7 1))
  else if both.testBit 1 then some (16 + min (minorOf cap 1) (field block 6 1))
  else none

/-- Bits of a byte list that must be zero, and zero fields under a condition (Tables 13.7, 13.8). -/
def capShape (b : List Byte) : Bool :=
  let f (off len : Nat) : Nat := field b off len
  let axes := f 9 1
  let sens := f 10 1
  f 0 4 == 0x43485853 && f 4 1 % 2 == 0 && f 4 1 < 256 && f 5 1 == 0 && ((f 4 1).testBit 1 || f 6 1 == 0) && ((f 4 1).testBit 2 || f 7 1 == 0) &&
    decide (f 8 1 < 8) && decide (axes < 64) && decide (sens < 4) && f 11 1 == 0 &&
    ((List.range 3).all fun a => axes.testBit a || f (12 + 4 * a) 4 == 0) && decide (f 42 1 ≤ 2) && f 43 1 == 0 && sens.testBit 0 &&
    (if sens.testBit 1 then f 36 2 != 0 && f 38 2 != 0 else f 36 4 == 0) && f 60 4 == 0 &&
    ((f 64 2 == 0) == (f 66 2 == 0)) && (decide (8 ≤ axes) || f 68 2 == 0) && allZero (slice b 70 58)

/-- The first failing check of a capability block (R358), as its FAULT_CAUSE. -/
def capFail (cap tsCode : Nat) (b : List Byte) : Option Nat :=
  let axes := field b 9 1
  firstFail [
    (!capShape b, 1), ((chooseVersion cap b).isNone, 2), (!(field b 8 1).testBit tsCode, 3),
    (!axes.testBit 0 || !axes.testBit 1 || ((List.range 3).any fun a => axes.testBit (3 + a) && !axes.testBit a), 4),
    ((List.range 3).any fun a => axes.testBit a && field b (12 + 4 * a) 4 == 0, 5)]

/-! The delay terms (R362), in hundredths of a count of 62.5 ps where a block of 2.56 ns is 4,096. -/

/-- Pairs of photodiode instants in the longest slot: 3, 5, 10 (R354), and of tracks. -/
def pdMost (ts : Nat) : Nat := if ts = 250 then 3 else ts / 100
def trackPairs (ts : Nat) : Nat := ts / 250
/-- Blocks from block 0 to the one with the last byte of the sensing word at the largest PD_COUNT. -/
def HlkPort.sensingBlocks (ts : Nat) (x : HlkPort) : Nat :=
  let last := 15 + 4 * pdMost ts + 4 * trackPairs ts * ((List.range 3).filter x.tracks).length
  if last ≤ 6 then 1 else 2 + (last - 7) / 8
def HlkPort.upDelay (ts : Nat) (x : HlkPort) : Nat := roundNat (100 * (field x.cap 28 2 + x.f + 224) + 4096 * (1 + x.sensingBlocks ts)) 100
def linkDownDelay (f : Nat) (b : List Byte) : Nat := roundNat (100 * (128 + f + field b 30 2) + 8192) 100
/-- RULE_LAG of R205: D_link and 4 ns against Ts, in counts. -/
def ruleLagOf (ts dLink : Nat) : Nat := 1 + ceilDiv (dLink + 64) (16 * ts)

/-! Port states (Table 13.10). -/

def LinkState.code : LinkState → Nat
  | .disabled => 0 | .acquire => 1 | .capability => 2 | .calibrate => 3 | .up => 4 | .fault => 5 | .loopback => 6

def State.portEnabled (s : State) (h : Nat) : Bool := (s.param 0xC000 h).testBit 0
/-- The port is the partner of a ganged pair and stays DISABLED (R108). -/
def State.portGanged (s : State) (h : Nat) : Bool := s.partner h

/-- What ends with a port's UP state: the axis tracks (R323) and what was on its way. -/
def State.portLeaves (h : Nat) (s : State) : State :=
  (s.startTracks h fun _ => false).setHlk h fun (x : HlkPort) => { x with
    version := 0, echoes := [], rs := [], missRun := 0, arrived := [], cfg := none, cfgWait := [], apply := false, loop := none }

/-- Entry to ACQUIRE, a training started (R359, R363). -/
def State.toAcquire (h : Nat) (s : State) : State :=
  (s.portLeaves h).setHlk h fun (x : HlkPort) => { x with link := .acquire, since := s.dt, drift := false, cause := 0, trainings := inc32 x.trainings }
def State.toDisabled (h : Nat) (s : State) : State :=
  (s.portLeaves h).setHlk h fun (x : HlkPort) => { x with link := .disabled, since := s.dt, lock := false }

/-- Ports follow ENABLE and ganging (R359): a port that may run leaves DISABLED, another becomes DISABLED, as does the port of a
head-engine island that is out of service (R112). -/
def State.portFollow (h : Nat) (s : State) : State :=
  let run := s.portEnabled h && !s.portGanged h && s.islandIn h && s.up && s.cyc.state != .boot && decide (h < s.heads)
  if run && (s.hlk h).link == .disabled then s.toAcquire h
  else if !run && (s.hlk h).link != .disabled then s.toDisabled h
  else s
def State.portsFollow (s : State) : State := (List.range 32).foldl (fun (s : State) (h : Nat) => s.portFollow h) s

/-- The states from which a retraining starts. -/
def LinkState.trained : LinkState → Bool
  | .capability | .calibrate | .up | .fault => true
  | _ => false
def State.retrain (h : Nat) (s : State) : State := if (s.hlk h).link.trained then s.toAcquire h else s

/-- Entry to FAULT with its cause and event record (R358, R359). -/
def State.portFault (h cause : Nat) (s : State) : State :=
  ((s.portLeaves h).setHlk h fun (x : HlkPort) => { x with link := .fault, since := s.dt, cause := cause }).logEvent 0xC002 h cause 0

/-! Configuration records (R353). -/

def State.cameraRecord (s : State) (h : Nat) : List Byte :=
  let roi := s.param 0x5000 h
  leBytes 2 (byteField roi 0 2) ++ leBytes 2 (byteField roi 2 2) ++ leBytes 1 (byteField roi 4 1) ++ leBytes 1 (byteField roi 5 1) ++
    leBytes 2 (s.param 0x5001 h) ++ leBytes 2 (s.param 0x5002 h)
/-- A record is sent at once, or waits for the one in flight; a later record of its type replaces a waiting one. -/
def State.sendCfg (h type : Nat) (data : List Byte) (s : State) : State :=
  s.setHlk h fun (x : HlkPort) =>
    match x.cfg with
    | some _ => { x with cfgWait := (x.cfgWait.filter fun w => w.1 != type) ++ [(type, data)] }
    | none =>
      let seq := if x.cfgSeq = 255 then 1 else x.cfgSeq + 1
      { x with cfgSeq := seq, cfg := some { seq := seq, type := type, data := padTo 10 data } }
/-- A CAMERA record of a head that takes part has not been acknowledged. -/
def HlkPort.cameraOpen (x : HlkPort) : Bool :=
  (match x.cfg with | some c => c.type == 1 | none => false) || x.cfgWait.any fun w => w.1 == 1
/-- The head's CFG_ACK (R353): the next record follows. -/
def State.cfgAck (h ack : Nat) (s : State) : State :=
  match (s.hlk h).cfg with
  | none => s
  | some c =>
    if c.seq ≠ ack then s
    else
      let s1 := s.setHlk h fun (x : HlkPort) => { x with cfg := none }
      match (s.hlk h).cfgWait with
      | [] => s1
      | w :: ws => (s1.setHlk h fun (x : HlkPort) => { x with cfgWait := ws }).sendCfg h w.1 w.2

/-! Entry to UP (R359, R362, R366). -/

def State.axisDeclared (s : State) (h a : Nat) : Bool := (s.hlk h).tracks a
/-- The first slot instant at least 10 µs later. -/
def State.firstSlot (s : State) : Nat := ceilDiv (s.dt + 160000) (16 * s.ts) * (16 * s.ts)

def State.portUp (h : Nat) (s : State) : State :=
  let x := s.hlk h
  let up := x.upDelay s.ts
  let down := linkDownDelay x.f x.cap
  let changed := match x.accepted with | some b => b != x.cap | none => false
  let s1 := s.setHlk h fun (x : HlkPort) => { x with
    link := .up, since := s.dt, upAt := s.firstSlot, upSince := s.dt, dUp := up, dDown := down, fApplied := x.f, echoes := [], apply := false, rs := []
    missRun := 0, arrived := [], capChanged := x.capChanged || changed }
  let lag := ruleLagOf s.ts (up + down)
  let later := s.cyc.state == .armed || s.cyc.state == .hold
  let s2 := { s1 with loop := { s1.loop with
    lagNext := updAt s1.loop.lagNext h fun _ => if later then some lag else none
    ruleLag := if later then s1.loop.ruleLag else updAt s1.loop.ruleLag h fun _ => lag } }
  let s3 := s2.startTracks h (s2.axisDeclared h)
  let s4 := (List.range 3).foldl (fun (s : State) (a : Nat) => s.loopReset (32 + 3 * h + a)) s3
  s4.sendCfg h 1 (s4.cameraRecord h)

/-! Training events (Table 13.10). -/

def cntBad (h : Nat) (s : State) : State := s.setHlk h fun (x : HlkPort) => { x with others := inc32 x.others }

/-- CAP_UP (R358): header, block of 64 or 128 bytes. A version-1 block has its other half zero. -/
def State.capUp (h : Nat) (fr : List Byte) (s : State) : State :=
  match unframe fr with
  | none => cntBad h s
  | some c =>
    if field c 0 1 ≠ 0x82 ∨ !allZero (slice c 1 7) ∨ (c.length ≠ 72 ∧ c.length ≠ 136) then cntBad h s
    else if (s.hlk h).link != .capability then s
    else
      let cap := s.versionCap h
      let b := padTo 128 (c.drop 8)
      let s1 := s.setHlk h fun (x : HlkPort) => { x with cap := b }
      match capFail cap s.cyc.profile.ts b with
      | some cause => s1.portFault h cause
      | none =>
        let v := (chooseVersion cap b).getD 0
        let b' := if v / 16 = 1 then padTo 128 (slice b 0 64) else b
        let scale := field b' 12 12
        let s2 := (s1.setHlk h fun (x : HlkPort) => { x with link := .calibrate, since := s.dt, version := v, cap := b', echoes := [], apply := false }).setTrj h
          fun (x : TrjHead) => { x with scale := scale }
        s2.send (.headFrame h (framed (leBytes 1 3 ++ leBytes 1 v ++ zeros 14)))

/-- Whether 256 values R give a valid calibration, and F (R359). -/
def calibration (rs : List Int) : Option Nat :=
  let lo := minOf rs
  let hi := maxOf rs
  let sum := rs.foldl (· + ·) 0
  if 0 ≤ lo ∧ hi - lo ≤ 16 ∧ sum < 131072 * 256 then some (roundNat sum.toNat 512) else none

/-- ECHO_UP, received at the device's balls at DT `t4` (R359). -/
def State.echoUp (h t4 : Nat) (fr : List Byte) (s : State) : State :=
  match unframe fr with
  | none => cntBad h s
  | some c =>
    if field c 0 1 ≠ 0x84 ∨ c.length ≠ 32 then cntBad h s
    else if (s.hlk h).link != .calibrate then s
    else
      let x := s.hlk h
      if x.apply then (if (field c 1 1).testBit 0 then s.portUp h else s)
      else
        let r : Int := ((t4 : Int) - field c 8 8) - ((field c 24 8 : Int) - field c 16 8)
        let rs := r :: x.echoes
        if rs.length < 256 then s.setHlk h fun (y : HlkPort) => { y with echoes := rs }
        else match calibration rs with
          | some f => s.setHlk h fun (y : HlkPort) => { y with echoes := [], apply := true, f := f }
          | none => s.portFault h 6

/-- ECHO_DOWN (R359). -/
def State.echoDown (s : State) (h : Nat) : List Byte :=
  let x := s.hlk h
  leBytes 1 4 ++ leBytes 1 (bit x.apply) ++ zeros 6 ++ leBytes 8 s.dt ++ leBytes 4 (if x.apply then x.f else 0) ++ zeros 4

/-- The running calibration of an UP port (R361): T1, T2, T3 of a SAMPLE_UP and T4. -/
def State.runEcho (h : Nat) (r : Int) (s : State) : State :=
  let x := s.hlk h
  let rs := (r :: x.rs).take 4096
  let s1 := s.setHlk h fun (y : HlkPort) => { y with rs := rs }
  if rs.length < 4096 then s1
  else
    let f := (roundDiv (rs.foldl (· + ·) 0) 8192).toNat
    if (f : Int) - x.fApplied < 2 ∧ (x.fApplied : Int) - f < 2 then s1
    else
      let s2 := (s1.sendCfg h 2 (leBytes 4 f)).setHlk h fun (y : HlkPort) => { y with fApplied := f }
      if 16 < ((f : Int) - x.f).natAbs ∧ !x.drift then
        (s2.setHlk h fun (y : HlkPort) => { y with drift := true }).logEvent 0xC003 h 0 (beside x.f 4 f)
      else s2

/-! Readings (Tables 13.15, 13.16). -/

def State.hlkStatus (s : State) (h : Nat) : Nat :=
  let x := s.hlk h
  x.link.code + 32 * bit (s.portGanged h) + 64 * bit x.drift + 128 * bit x.capChanged +
    65536 * (if x.link == .up || x.link == .loopback then x.version else 0) + 16777216 * x.cause
def State.hlkDelay (s : State) (h : Nat) : List Byte :=
  let x := s.hlk h
  leBytes 4 x.f ++ leBytes 4 x.fApplied ++ leBytes 2 x.dUp ++ leBytes 2 x.dDown ++
    leBytes 4 (if x.rs.isEmpty then 0 else (roundDiv (x.rs.foldl (· + ·) 0) (2 * x.rs.length)).toNat)
def State.hlkErrors (s : State) (h : Nat) : List Byte :=
  let x := s.hlk h
  leBytes 4 x.discarded ++ leBytes 4 x.missing ++ leBytes 4 x.dsMiss ++ leBytes 4 x.losses ++ leBytes 4 x.trainings ++ leBytes 4 x.others

end Sys2Proof.Machine
end

