-- ==== Sys2Proof/Machine/Budget.lean ====
section
/-! DEFINITION. Balance profiles (R41, R42), the budget check (R43 to R45) and the entry checks in the order of Table 15.8 (R412). -/

namespace Sys2Proof.Machine

/-! Descriptors (Tables 01.17 and 01.21). -/

def Profile.bytes (p : Profile) : List Byte :=
  leBytes 1 p.profile ++ leBytes 1 p.heads ++ leBytes 1 p.ts ++ leBytes 1 p.gang ++ leBytes 1 p.pitch ++ leBytes 1 p.raw ++ leBytes 2 p.servo ++
    leBytes 4 p.extraOps ++ leBytes 1 p.cam ++ zeros 3
def readDescriptor (b : List Byte) : Profile :=
  { profile := field b 0 1, heads := field b 1 1, ts := field b 2 1, gang := field b 3 1, pitch := field b 4 1, raw := field b 5 1,
    servo := field b 6 2, extraOps := field b 8 4, cam := field b 12 1 }
/-- The fields the device fills for a preset (Table 01.21). -/
def fillProfile (grade : Nat) (p : Profile) : Profile :=
  match p.profile with
  | 0 => { p with heads := min 32 grade, ts := 1, gang := 0, pitch := 1, raw := 0, cam := 1 }
  | 1 => { p with heads := min 32 grade, ts := 1, gang := 0, pitch := 0, raw := 5, cam := 1 }
  | 2 => { p with heads := min 16 grade, ts := 0, gang := 1, pitch := 1, raw := 0, cam := 1 }
  | 3 => { p with heads := min 16 grade, ts := 1, gang := 2, pitch := 1, raw := 1, cam := 2 }
  | _ => p
/-- RANGE of a descriptor (R41, R42, Table 01.17). -/
def profileRange (grade : Nat) (b : List Byte) : Bool :=
  let p := readDescriptor b
  let q := fillProfile grade p
  let preset := decide (p.profile ≤ 3)
  (!preset && p.profile != 15) || !allZero (slice b 13 3) ||
    (preset && (p.heads != 0 || p.ts != 0 || p.gang != 0 || p.pitch != 0 || p.raw != 0 || p.cam != 0)) ||
    decide (grade < q.heads ∨ 2 < q.ts ∨ 3 < q.gang ∨ 3 < q.pitch ∨ 5 < q.raw ∨ 2 < q.cam ∨ 3 * q.heads < q.servo) ||
    (q.gang.testBit 0 != (q.ts == 0)) || (q.gang.testBit 1 != (q.cam == 2)) || (p.profile == 2 && q.servo != 3 * q.heads)

/-! The budget (Table 01.18). -/

/-- Maximum line rate × 0.8 ÷ 8 of a speed code, bytes per second (Table 09.2). -/
def speedBytes (code : Nat) : Nat := ([125000000, 250000000, 312500000, 500000000, 625000000, 1000000000, 1250000000] : List Nat).getD code 0
def State.sensorBytes (s : State) : Nat :=
  (List.range 8).foldl (fun (a p : Nat) => let c := s.param 0x8000 p; a + (if camEnable c then speedBytes (camMaxSpeed c) else 0)) 0
/-- DDR5 channels in service. -/
def State.channelsIn (s : State) : Nat := (s.mem.channels.filter fun c => c.inService).length
def cameraRate (cam : Nat) : Nat := 20000 * cam

structure Budget where
  mask : Nat
  loop : Nat
  dram : Nat
  dramLimit : Nat
  link : Nat
  linkLimit : Nat
  power : Nat
  deriving DecidableEq, Repr

/-- Every row of Table 01.18: demands exact, rounded once (R43). -/
def State.budget (s : State) (p : Profile) : Budget :=
  let ts := tsNs p.ts
  let rate := 1000 / ts
  let e := if p.gang.testBit 0 then 2 else 1
  let u := if p.gang.testBit 1 then 2 else 1
  let loop := 32 * p.heads * rate + 48 * p.servo * rate + p.extraOps
  let fc := cameraRate p.cam
  let retained := if s.assisted fnMps then p.heads * fc * 20544 else if p.raw = 0 then 0 else p.heads * fc * 20544 / 2 ^ (p.raw - 1)
  let dramBytes := 32 * p.heads * rate * 1000000 + 2 * (s.sensorBytes - 4000000000) + retained + 32000000000
  let dram := roundNat dramBytes 1000000
  let dramLimit := 35000 * (s.channelsIn - 1)
  let link := ceilDiv (fc * 20480 * ts) 1000000000 + ceilDiv (40 * ts) 1000 + ceilDiv (48 * ts) 1000 + 64
  let linkLimit := 1515 * ts / 500
  let power := roundNat (1000000000 * (27000 + 750 * e * p.heads + 500 * u * p.heads + 300 * p.heads + loop) + 200 * dramBytes) 1000000000
  let fails : List Bool := [
    decide (s.heads < p.heads), decide (32 < e * p.heads), decide (32 < u * p.heads), decide (64 < p.heads * rate), decide (12000 < loop),
    decide (dramLimit < dram), decide (linkLimit < link), decide (100000 < power)]
  { mask := (fails.zipIdx.map fun (f : Bool × Nat) => bit f.1 * 2 ^ f.2).foldl (· + ·) 0, loop := loop, dram := dram, dramLimit := dramLimit,
    link := link, linkLimit := linkLimit, power := power }
/-- The result of Table 01.19. -/
def Budget.bytes (b : Budget) : List Byte :=
  leBytes 2 b.mask ++ zeros 2 ++ leBytes 4 b.loop ++ leBytes 4 b.dram ++ leBytes 4 b.dramLimit ++ leBytes 2 b.link ++ leBytes 2 b.linkLimit ++ leBytes 4 b.power
def State.budgetFails (s : State) (p : Profile) : Bool := (s.budget p).mask != 0

/-! The entry checks. -/

def State.profileHeads (s : State) : List Nat := List.range (min 32 s.cyc.profile.heads)
def State.notLinked (s : State) : Bool := s.profileHeads.any fun h => !s.linkUp h
def State.interlockOpen (s : State) : Bool := !s.las.aClosed || !s.las.bClosed
def State.emitWiring (s : State) : Bool := s.profileHeads.any fun h => (s.lasHead h).source.testBit 9 && !(s.lasHead h).emit
def State.sourceNotReady (s : State) : Bool := s.profileHeads.any fun h => !(s.lasHead h).source.testBit 0
/-- A status word that holds a condition whose action is HEAD_STOP, READY apart, or EMITTING. -/
def State.sourceStops (s : State) (h : Nat) : Bool :=
  let w := (s.lasHead h).source
  w.testBit 1 || (stoppingBits (s.dparam 0x3005) w).any fun b => b != 0
def State.sourceFault (s : State) : Bool := s.profileHeads.any fun h => s.las.stopped.testBit h || s.sourceStops h
def State.islandRetiredAt (s : State) (i : Nat) : Bool := (s.svc.islands.getD i {}).status == .retired
def State.islandRetired (s : State) : Bool :=
  (s.profileHeads.any fun h => s.islandRetiredAt h || (s.ganged && s.islandRetiredAt (h + 16))) ||
    ([islandGuard, islandMotion, islandMemory, islandImaging] : List Nat).any s.islandRetiredAt
/-- PAIR.ROLE: 0 SOLO. -/
def State.paired (s : State) : Bool := s.dparam 0xC100 != 0
def State.pairDown (s : State) : Bool := s.paired && (s.pair.mode == .solo || s.pair.mode == .linking)
def State.noWitness (s : State) : Bool := s.paired && s.pair.mode == .split
def State.noMotion (s : State) : Bool :=
  !s.streaming && s.profileHeads.any fun h => s.param 0x2000 h == 0 || s.param 0x2002 h == 0 || s.param 0x2004 h == 0
def State.fcMissing (s : State) : Bool := s.profileHeads.any fun h => (s.trj h).fc.isNone
def State.streamRingMissing (s : State) : Bool := s.streaming && s.profileHeads.any fun h => byteField (s.param 0x2020 h) 8 4 == 0
/-- R182. -/
def State.cameraFail (s : State) : Bool :=
  s.cyc.profile.cam != 0 && s.profileHeads.any fun h =>
    let b := (s.hlk h).cap
    let roi := s.param 0x5000 h
    let period := s.param 0x5001 h * s.ts
    !(field b 10 1).testBit 1 || decide (cameraRate s.cyc.profile.cam * period < 1000000000) || decide (field b 40 2 * period < 1000000000) ||
      decide (period < s.param 0x5002 h) || decide (field b 36 2 < byteField roi 0 2 + byteField roi 4 1) ||
      decide (field b 38 2 < byteField roi 2 2 + byteField roi 5 1)
def State.mpsRingMissing (s : State) : Bool :=
  s.ringSize 0 == 0 || s.hostSize 0 == 0 || ((s.cyc.profile.raw != 0 || s.assisted fnMps) && (s.ringSize 1 == 0 || s.hostSize 1 == 0))
def State.ldgAhead (s : State) : Bool := s.profileHeads.any fun h => decide (20000 / s.ts + s.param 0x500A h < s.param 0x7004 h)
def State.imgRole (s : State) (p : Nat) : Bool := byteField (s.param 0x8001 p) 0 1 != 0
def State.imgRingMissing (s : State) : Bool :=
  let used := (List.range 8).any fun p => camEnable (s.param 0x8000 p) && s.imgRole p
  (used && (s.ringSize 2 == 0 || s.hostSize 2 == 0)) ||
    ((List.range 8).any fun p => s.imgRole p && s.outFormat p != 0 && byteField (s.param 0x800C p) 8 4 * byteField (s.param 0x800C p) 12 2 == 0) ||
    (byteField (s.dparam 0x800B) 8 8 == 0 && (List.range 8).any fun p => camEnable (s.param 0x8000 p))
def State.portDown (s : State) : Bool := (List.range 8).any fun p => s.imgRole p && (s.port p).link != .up

/-- The recoat steps' entries. -/
def State.recoatEntries (s : State) : List Nat := (List.range (recoatCount (s.dparam 0x900C))).map fun i => recoatStep (s.dparam 0x900C) i
/-- R300. -/
def State.recoatFault (s : State) : Bool := s.recoatEntries.any fun e => (s.axis (stepAxis e)).mode == .fault
def State.recoatLost (s : State) : Bool := s.recoatEntries.any fun e => !s.axisOn (stepAxis e) || !(s.axis (stepAxis e)).posValid
def State.recoatLimit (s : State) : Bool :=
  s.recoatEntries.any fun e =>
    let a := stepAxis e
    let out (t : Int) : Bool := decide (t < s.limLow a ∨ s.limHigh a < t)
    match stepKind e with
    | 0 => out (toSigned 32 (byteField e 4 4))
    | 3 => out (toSigned 32 (byteField e 4 4)) || out (toSigned 32 (byteField e 12 4))
    | _ => false
def State.driverFault (s : State) : Bool := (List.range 4).any fun b => (s.param 0xB000 b).testBit 0 && (s.emd.getD b {}).driverFault

/-- LDG_PAIR (R256): the peer's settings, from its latest CAP. -/
def State.ldgPair (s : State) : Bool :=
  s.paired && (s.pair.mode == .paired) &&
    (let b := s.pair.peerCap
     let pb := 500 * 2 ^ s.cyc.profile.pitch
     let o := s.dparam 0x7000
     field b 2 1 != s.cyc.profile.ts || field b 12 1 != s.cyc.profile.pitch || field b 4 4 != s.dparam 0x7001 || field b 8 2 != s.dparam 0x7002 ||
       field b 10 1 != s.dparam 0x7003 || field b 11 1 != s.dparam 0x7009 ||
       decide (((field b 16 3 : Int) - byteField o 0 3) % pb ≠ 0) || decide (((field b 19 3 : Int) - byteField o 3 3) % pb ≠ 0))

/-- The checks that `READY_ENTER` and `ARM` share, from ISLAND_RETIRED on; FC_MISSING is `READY_ENTER`'s alone (R412). -/
def State.sharedChecks (fc : Bool) (s : State) : List (Bool × Nat) := [
  (s.islandRetired, 0xF004), (s.pairDown, 0xC080), (s.noWitness, 0xC081), (s.noMotion, stNoMotion), (fc && s.fcMissing, stFcMissing),
  (s.streamRingMissing, stStreamRing), (s.cameraFail, stCamera), (s.mpsRingMissing, stMpsRing), (s.servoCapFail, 0x6001), (s.loopOver, 0x6000),
  (s.ldgAhead, 0x7001), (s.ldgPair, 0x7002), (s.imgRingMissing, 0x8003), (s.portDown, 0x8000)]
def State.readyChecks (s : State) : List (Bool × Nat) := (s.notLinked, stNotLinked) :: s.sharedChecks true
def State.armFirst (s : State) : List (Bool × Nat) :=
  [(s.interlockOpen, stInterlockOpen), (s.las.discrepancy, stIntlkDiscrepancy), (s.emitWiring, stEmitWiring), (s.sourceNotReady, stSourceNotReady),
    (s.sourceFault, stSourceFault)]
def State.armLast (s : State) : List (Bool × Nat) :=
  [(s.recoatFault, 0x9002), (s.recoatLost, 0x9000), (s.recoatLimit, 0x9001), (s.driverFault, 0xB001)]
def State.armChecks (s : State) : List (Bool × Nat) := s.armFirst ++ s.sharedChecks false ++ s.armLast
/-- The checks of both, for `SVC_MODE_SET` (R412, R536). -/
def State.modeChecks (s : State) : List (Bool × Nat) := (s.notLinked, stNotLinked) :: s.armFirst ++ s.sharedChecks true ++ s.armLast

end Sys2Proof.Machine
end

