-- ==== Sys2Proof/Machine/Emitters.lean ====
section
/-! DEFINITION. The emitter buses (R326 to R346): packets, transfers and verification, latches, light sequences, driver
faults. -/

namespace Sys2Proof.Machine

def State.bus (s : State) (b : Nat) : EmdBus := s.emd.getD b {}
def State.setBus (b : Nat) (f : EmdBus → EmdBus) (s : State) : State := { s with emd := updAt s.emd b f }
def EmdBus.page (x : EmdBus) (k : Nat) : EmdPage := x.pages.getD k {}
def State.setPage (b k : Nat) (f : EmdPage → EmdPage) (s : State) : State := s.setBus b fun x => { x with pages := updAt x.pages k f }

/-! Fields of `EMD.BUS_CFG`. -/
def State.emdOn (s : State) (b : Nat) : Bool := (s.param 0xB000 b).testBit 0
def State.emdLight (s : State) (b : Nat) : Bool := (s.param 0xB000 b).testBit 1
def State.emdMask (s : State) (b : Nat) : List Nat := (List.range 64).filter fun d => (byteField (s.param 0xB000 b) 8 8).testBit d
/-- The level table of a page, 32 bytes (R327). -/
def State.emdLevels (s : State) (b k : Nat) : Nat := byteField (s.param 0xB001 b) (32 * k) 32

/-- Clock periods of one matrix frame of a `EMD.BUS_CFG` value (R334). -/
def matrixClocks (cfg : Nat) : Nat := byteField cfg 3 1 * 256 * byteField cfg 2 1
/-- DT counts of one matrix frame: a clock period is 40 × DIV counts (R329). -/
def State.matrixDt (s : State) (b : Nat) : Nat := matrixClocks (s.param 0xB000 b) * byteField (s.param 0xB000 b) 1 1 * 40
/-- Clock periods of a transfer (R338). -/
def transferClocks (w v st : Nat) : Nat := 2105 * w + 289 * v + 89 * st

/-! Packets (Tables 12.2 and 12.3). -/

/-- CRC-8: polynomial 0x07, initial value 0 (R331). -/
def crc8 (bs : List Byte) : Nat := crcMsb 8 7 0 bs
/-- CRC-16: polynomial 0x1021, initial value 0xFFFF (Table 12.3). -/
def crc16 (bs : List Byte) : Nat := crcMsb 16 4129 65535 bs
def emdPacket (addr cmd : Nat) (payload : List Byte) : List Byte :=
  let body := leBytes 1 addr ++ leBytes 1 cmd ++ payload
  body ++ leBytes 1 (crc8 body)
def broadcast : Nat := 64
def emdWrite (d k c : Nat) (chunk : List Byte) : List Byte := emdPacket d 1 (leBytes 1 k ++ leBytes 2 (256 * c) ++ leBytes 1 255 ++ chunk)
def emdLatchPacket (k : Nat) : List Byte := emdPacket broadcast 2 (leBytes 1 k)
def emdLevelsPacket (k table : Nat) : List Byte := emdPacket broadcast 3 (leBytes 1 k ++ leBytes 32 table)
def emdStatusPacket (d k : Nat) : List Byte := emdPacket d 4 (leBytes 1 k)
def emdDarkPacket : List Byte := emdPacket broadcast 5 []
def emdConfigPacket (rows clks : Nat) : List Byte := emdPacket broadcast 6 (leBytes 1 rows ++ leBytes 1 clks)
def State.emdSend (b : Nat) (bs : List Byte) (s : State) : State := if s.looped 4 b then s else s.send (.emitter b bs)
def State.emdSends (b : Nat) (ps : List (List Byte)) (s : State) : State :=
  if s.looped 4 b then s else { s with tx := s.tx ++ ps.map (Tx.emitter b) }

/-! Page states (Table 12.6). -/

/-- The page is active, or a latch of it is scheduled. -/
def State.emdActive (s : State) (b k : Nat) : Bool :=
  let x := s.bus b
  x.active == some k || (match x.latch with | some l => l.page == k | none => false) || x.seq.any fun l => l.page == k
def PageContent.code : PageContent → Nat
  | .loaded => 0 | .dirty => 1 | .transferring => 2 | .fault => 4
def State.pageState (s : State) (b k : Nat) : Nat := if s.emdActive b k then 3 else ((s.bus b).page k).content.code
def State.busStatus (s : State) (b : Nat) : Nat :=
  s.pageState b 0 + 8 * s.pageState b 1 + 64 * bit (s.bus b).driverFault + 2 ^ 64 * (s.bus b).lastLatch
def State.driverWords (s : State) (b : Nat) : Nat :=
  (List.range 64).foldl (fun v d => v + (let x := (s.bus b).drivers.getD d {}; if x.missing then 0xFFFFFFFF else x.word) * 2 ^ (32 * d)) 0

/-! Transfer (R336, R337). -/

def chunkBytes (m : Mem) (d c : Nat) : List Byte := m.readBytes 0#8 (2048 * d + 256 * c) 256
/-- A driver's slice of a buffer. -/
def sliceOf (m : Mem) (d : Nat) : Mem := m.filter fun (e : Host.Cell) => decide (2048 * d ≤ e.1 ∧ e.1 < 2048 * (d + 1))
/-- Chunks of driver `d` that differ from the contents last verified in it. -/
def EmdPage.chunks (x : EmdPage) (d : Nat) : List Nat :=
  match x.verified.getD d none with
  | none => List.range 8
  | some v => (List.range 8).filter fun c => chunkBytes x.buffer d c != chunkBytes v.1 d c
/-- The level table differs from the one last verified in some driver of the mask. -/
def State.levelsDiffer (s : State) (b k : Nat) : Bool :=
  (s.emdMask b).any fun d => ((((s.bus b).page k).verified.getD d none).map (·.2)) != some (s.emdLevels b k)
/-- Drivers that a transfer of the page asks for their status. -/
def State.asked (s : State) (b k : Nat) : List Nat :=
  if s.levelsDiffer b k then s.emdMask b else (s.emdMask b).filter fun d => !(((s.bus b).page k).chunks d).isEmpty
/-- The packets of a transfer of a page. -/
def State.transferPackets (s : State) (b k : Nat) : List (List Byte) :=
  let x := (s.bus b).page k
  ((s.emdMask b).flatMap fun d => (x.chunks d).map fun c => emdWrite d k c (chunkBytes x.buffer d c)) ++
    (if s.levelsDiffer b k then [emdLevelsPacket k (s.emdLevels b k)] else []) ++ (s.asked b k).map fun d => emdStatusPacket d k

/-- A DIRTY page starts its transfer while the bus is enabled, outside SAFE and with no other transfer (R337, Table 12.5). -/
def State.emdKick (b : Nat) (s : State) : State :=
  let x := s.bus b
  if !s.emdOn b || s.cyc.state == .safe || x.pages.any fun p => p.content == .transferring then s
  else match (List.range 2).find? fun k => (x.page k).content == .dirty && x.active != some k with
    | none => s
    | some k => (s.setPage b k fun p => { p with content := .transferring }).emdSends b (s.transferPackets b k)

/-- A page's buffer or level table was written (R336): a transfer in progress starts again. -/
def State.pageDirty (b k : Nat) (s : State) : State := (s.setPage b k fun p => { p with content := .dirty }).emdKick b

/-! Status replies (R330, R335, R345). -/

/-- A reply, `none` where its CRC-8 fails or it is all ones: status word and PAGE_CRC. -/
def emdReplyOf (r : List Byte) : Option (Nat × Nat) :=
  if r.length = 7 ∧ crc8 (r.take 6) = field r 6 1 ∧ ¬ r.all (· == 255#8) then some (field r 0 4, field r 4 2) else none

/-- DRIVER_FAULT of a bus after a reply (R345). -/
def State.judgeDrivers (b : Nat) (s : State) : State :=
  let x := s.bus b
  let bad := (s.emdMask b).any fun d => let y := x.drivers.getD d {}; y.missing || y.word.testBit 2 || y.word.testBit 5
  s.setBus b fun x => { x with driverFault := bad || (x.driverFault && x.pages.any fun p => p.content == .fault) }

/-- The bits of a status word whose change is recorded. -/
def driverWatched (w : Nat) : Nat := bits w 2 4 + 16 * bits w 8 8

/-- A STATUS packet to driver `d` was answered, or not (R335, R345). -/
def State.driverReply (b d : Nat) (r : List Byte) (s : State) : State :=
  let y := (s.bus b).drivers.getD d {}
  let set (f : EmdDriver → EmdDriver) (s : State) : State := s.setBus b fun x => { x with drivers := updAt x.drivers d f }
  let s1 := match emdReplyOf r with
    | none =>
      let s1 := set (fun y => { y with misses := y.misses + 1, missing := y.missing || decide (2 ≤ y.misses) }) s
      if !y.missing && decide (2 ≤ y.misses) then s1.logEvent 0xB001 b d y.word else s1
    | some (w, _) =>
      let s1 := set (fun _ => { word := w }) s
      let s2 := if driverWatched w ≠ driverWatched y.word then s1.logEvent 0xB001 b (beside d 1 1) w else s1
      if w.testBit 1 && !y.word.testBit 1 && (s.bus b).active.isSome then s2.buildEntry 0x51 (leBytes 1 b ++ leBytes 1 d ++ zeros 6) else s2
  s1.judgeDrivers b

/-- The outcome of up to three attempts at a driver: rewrites, and whether it was verified (R337). -/
def verifyDriver (crc : Nat) (rs : List (List Byte)) : Nat × Bool :=
  let good := rs.take 3 |>.findIdx? fun r => (emdReplyOf r).map (·.2) == some crc
  match good with | some i => (i, true) | none => (2, false)

/-- The loads that wait for a page complete. -/
def State.finishLoads (b k status : Nat) (s : State) : State :=
  let accs := ((s.bus b).page k).loads
  (s.setPage b k fun p => { p with loads := [] }).completeAll accs status

/-- The `EMD_LATCH` of a bus completes. -/
def State.endLatch (b status : Nat) (result : List Byte) (s : State) : State :=
  match (s.bus b).latch with
  | some l => (s.setBus b fun x => { x with latch := none }).complete l.acc status result
  | none => s

/-- EMD_TRANSFER_END: the replies of each driver asked, by attempt (R337). -/
def State.transferEnd (b : Nat) (replies : List (Nat × List (List Byte))) (s : State) : State :=
  match (List.range 2).find? fun k => ((s.bus b).page k).content == .transferring with
  | none => s
  | some k =>
    let table := s.emdLevels b k
    let buf := ((s.bus b).page k).buffer
    let ask := s.asked b k
    let rs (d : Nat) : List (List Byte) := ((replies.find? fun e => e.1 == d).map (·.2)).getD []
    let out := ask.map fun d => (d, verifyDriver (crc16 (buf.readBytes 0#8 (2048 * d) 2048 ++ leBytes 32 table)) (rs d))
    let okAll := out.all fun e => e.2.2
    let s1 := s.setBus b fun x => { x with retries := add32 x.retries ((out.map fun e => e.2.1).foldl (· + ·) 0) }
    let s2 := s1.setPage b k fun p => { p with
      content := if okAll then .loaded else .fault
      verified := out.foldl (fun v e => updAt v e.1 fun _ => if e.2.2 then some (sliceOf buf e.1, table) else none) p.verified }
    let s3 := ask.foldl (fun s d =>
      let l := (rs d).take ((verifyDriver (crc16 (buf.readBytes 0#8 (2048 * d) 2048 ++ leBytes 32 table)) (rs d)).1 + 1)
      (l ++ List.replicate (if (rs d).isEmpty then 3 else 0) []).foldl (fun s r => s.driverReply b d r) s) s2
    let s4 := (s3.judgeDrivers b).finishLoads b k (if okAll then stOk else 0xB001)
    let s5 := match (s4.bus b).latch with
      | some l => if l.page = k ∧ l.late ∧ ¬ okAll then s4.endLatch b 0xB001 [] else s4
      | none => s4
    s5.emdKick b

/-! Latches (R339 to R342). -/

/-- A LATCH packet of page `k` ends at `at_`: the page is active and a new matrix frame starts. -/
def State.latchNow (b k at_ : Nat) (s : State) : State :=
  (s.setBus b fun x => { x with active := some k, lastLatch := at_ }).emdSend b (emdLatchPacket k)

/-- The due DT of the `EMD_LATCH` of a bus, once known. -/
def EmdBus.due (x : EmdBus) : Option Nat := x.latch.bind fun l => match l.when_ with | .at_ d => some d | _ => none

/-- 1 µs in DT counts. -/
def latchGap : Nat := 16000

/-- The `EMD_LATCH` falls due: it latches, waits for its page, or ends with DRIVER_FAULT. -/
def State.commandLatch (b due : Nat) (s : State) : State :=
  match (s.bus b).latch with
  | none => s
  | some l =>
    match ((s.bus b).page l.page).content with
    | .loaded =>
      let late := l.late || decide ((s.bus b).active.isSome ∧ due < (s.bus b).lastLatch + latchGap)
      let s1 := s.latchNow b l.page s.dt
      let s2 := if late then s1.setBus b fun x => { x with lates := inc32 x.lates } else s1
      s2.endLatch b stOk (leBytes 8 s.dt ++ leBytes 1 (bit late) ++ zeros 7)
    | .fault => s.endLatch b 0xB001 []
    | _ => s.setBus b fun x => { x with latch := some { l with late := true } }

/-- A latch of the light sequence falls due: it latches or is skipped. -/
def State.sequenceLatch (b : Nat) (l : SeqLatch) (s : State) : State :=
  let s0 := s.setBus b fun x => { x with seq := x.seq.filter fun m => m != l }
  if ((s.bus b).page l.page).content = .loaded then
    let late := decide (l.due < (s.bus b).lastLatch + latchGap) && (s.bus b).active.isSome
    let s1 := s0.latchNow b l.page s.dt
    if late then s1.setBus b fun x => { x with lates := inc32 x.lates } else s1
  else
    ((s0.setBus b fun x => { x with skips := inc32 x.skips }).logEvent 0xB002 b l.page l.due).buildEntry 0x50
      (leBytes 1 b ++ leBytes 1 l.page ++ zeros 6 ++ leBytes 8 l.due)

/-- EMD_LATCH_DUE: the earliest latch due by now, at least 1 µs after the last one (R339, R340). -/
def State.latchDue (b : Nat) (s : State) : State :=
  let x := s.bus b
  if !s.emdOn b || (x.active.isSome && decide (s.dt < x.lastLatch + latchGap)) then s
  else
    let seq := x.seq.foldl (fun (best : Option SeqLatch) l => match best with | none => some l | some m => if l.due < m.due then some l else best) none
    let waits : Bool := match x.latch with | some l => l.late && (x.page l.page).content != .loaded | none => true
    match seq, x.due with
    | some l, some d => if d ≤ l.due ∧ d ≤ s.dt ∧ ¬ waits then s.commandLatch b d else if l.due ≤ s.dt then s.sequenceLatch b l else s
    | some l, none => if l.due ≤ s.dt then s.sequenceLatch b l else s
    | none, some d => if d ≤ s.dt then s.commandLatch b d else s
    | none, none => s

/-- EMD_REFRESH_LATCH: the first matrix-frame boundary at least 3 ms after the last latch, unless a scheduled latch is within
1 µs of it (R334, R340). -/
def State.refreshLatch (b : Nat) (s : State) : State :=
  let x := s.bus b
  match x.active with
  | none => s
  | some k =>
    let frame := max 1 (s.matrixDt b)
    let due := x.lastLatch + ceilDiv 48000000 frame * frame
    let near (d : Nat) : Bool := decide (d < due + latchGap ∧ due < d + latchGap)
    if s.emdOn b && decide (due ≤ s.dt) && !(x.seq.any fun l => near l.due) && !(match x.due with | some d => near d | none => false)
    then s.latchNow b k due else s

/-- A due DT that comes from an edge on SYNC_IN (R342). -/
def State.syncInEmd (i : Nat) (s : State) : State :=
  (List.range 4).foldl (fun s b => s.setBus b fun x => { x with latch := x.latch.map fun l =>
    match l.when_ with | .syncIn j d => if j = i then { l with when_ := .at_ (s.dt + latchGap * d) } else l | _ => l }) s
/-- A due DT that comes from the start of a phase (R342). -/
def State.phaseEmd (code : Nat) (s : State) : State :=
  (List.range 4).foldl (fun s b => s.setBus b fun x => { x with latch := x.latch.map fun l =>
    match l.when_ with | .phase c d => if c = code then { l with when_ := .at_ (s.dt + latchGap * d) } else l | _ => l }) s

/-! Light sequences (R343). -/

/-- The on and off latches of a list of trigger DTs; the instant at which they become known is now. -/
def seqLatches (on off lead onTime now : Nat) : List Nat → List SeqLatch
  | [] => []
  | d :: ds =>
    let start (d : Nat) : Nat := max now (d - lead)
    let offDue := d + onTime - lead
    let omit_ := match ds with | d' :: _ => decide (start d' ≤ offDue) | [] => false
    { page := on, due := start d } :: (if omit_ then [] else [{ page := off, due := offDue }]) ++ seqLatches on off lead onTime now ds

/-- The triggers of `port` with the role of mask bit `roleBit` are known: every LIGHT bus that follows the port schedules. -/
def State.lightTriggers (port roleBit : Nat) (dts : List Nat) (s : State) : State :=
  (List.range 4).foldl (fun s b =>
    let v := s.param 0xB002 b
    if s.emdOn b && s.emdLight b && byteField v 0 1 == port && (byteField v 1 1).testBit roleBit then
      let lead := latchGap * byteField v 4 4
      let late := (dts.filter fun d => decide (d < s.dt + lead)).length
      s.setBus b fun x => { x with
        seq := x.seq ++ seqLatches (byteField v 2 1) (byteField v 3 1) lead (latchGap * byteField v 8 4) s.dt dts
        lates := add32 x.lates late }
    else s) s

/-! States (R335, R344). -/

/-- DARK on one bus: scheduled latches are cancelled, no page is active. -/
def State.emdDark (b : Nat) (s : State) : State :=
  let s1 := s.endLatch b stAborted []
  let s2 := s1.setBus b fun x => { x with active := none, seq := [] }
  if s.emdOn b then s2.emdSend b emdDarkPacket else s2

/-- Entry to SAFE (R344): transfers stop too, since only status packets follow (Table 12.5). -/
def State.emdSafe (s : State) : State :=
  (List.range 4).foldl (fun s b => (s.emdDark b).setBus b fun x =>
    { x with pages := x.pages.map fun p => if p.content = .transferring then { p with content := .dirty } else p }) s
/-- SAFE is left. -/
def State.emdResume (s : State) : State := (List.range 4).foldl (fun (s : State) (b : Nat) => s.emdKick b) s

/-- `EMD.BUS_CFG` written (R335): an enabled bus sends DARK and CONFIG, asks every driver and transfers both pages; a bus whose
ENABLE is clear ends what it held. -/
def State.busCfgWritten (b : Nat) (s : State) : State :=
  let s1 := s.emdDark b
  if s.emdOn b then
    let cfg := s.param 0xB000 b
    let s2 := (s1.emdSend b (emdConfigPacket (byteField cfg 3 1) (byteField cfg 2 1))).emdSends b ((s.emdMask b).map fun d => emdStatusPacket d 0)
    (s2.setBus b fun x => { x with
      drivers := x.drivers.map fun y => { y with misses := 0 }
      pages := x.pages.map fun p => { p with content := .dirty } }).emdKick b
  else
    let s2 := (s1.finishLoads b 0 stAborted).finishLoads b 1 stAborted
    s2.setBus b fun x => { x with driverFault := false, pages := x.pages.map fun p => if p.content = .transferring then { p with content := .dirty } else p }

/-- `EMD.LEVELS` written: each page whose table changed is DIRTY (R336). -/
def State.levelsWritten (b old : Nat) (s : State) : State :=
  (List.range 2).foldl (fun s k => if byteField old (32 * k) 32 = s.emdLevels b k then s else s.pageDirty b k) s

end Sys2Proof.Machine
end

