-- ==== Sys2Proof/Machine/EmdRows.lean ====
section
/-! DEFINITION. The events and commands of tempering and lighting (12), and the two events that motion, imaging and the
emitter buses share. -/

namespace Sys2Proof.Machine

/-- EMD_LATCH_DUE (R339). -/
def execEmdLatchDue (t b : Nat) (s : State) : Host.Outcome State Fault Refusal := s.event t (State.latchDue b)

/-- EMD_REFRESH_LATCH (R334). -/
def execEmdRefreshLatch (t b : Nat) (s : State) : Host.Outcome State Fault Refusal := s.event t (State.refreshLatch b)

/-- EMD_TRANSFER_END: the replies of each driver asked, by attempt (R337). -/
def execEmdTransferEnd (t b : Nat) (replies : List (Nat × List (List Byte))) (s : State) : Host.Outcome State Fault Refusal :=
  s.event t (State.transferEnd b replies)

/-- EMD_STATUS_POLL: the reply bytes of one driver, empty where none came (R345). -/
def execEmdStatusPoll (t b d : Nat) (reply : List Byte) (s : State) : Host.Outcome State Fault Refusal :=
  s.event t fun s =>
    if s.emdOn b && (s.emdMask b).contains d then (s.emdSend b (emdStatusPacket d (((s.bus b).active).getD 0))).driverReply b d reply else s

/-- SYNC_IN_EDGE: the edge's DT to the nearest 1.25 ns, and what waits for it (R303, R342). -/
def execSyncInEdge (t i : Nat) (s : State) : Host.Outcome State Fault Refusal :=
  s.event t fun s =>
    let at_ := roundNat s.dt 20 * 20
    let s1 := ({ s with dt := at_ }.syncInMotion i).syncInEmd i
    { s1 with dt := s.dt }

/-- TRIGGER_DUE (R261). -/
def execTriggerDue (t p : Nat) (s : State) : Host.Outcome State Fault Refusal := s.event t (State.triggerDue p)

/-- A bus index in the scope (R346). -/
def busScope (p : Packet) : Bool := decide (3 < p.scope)
/-- ENABLE of the scope's bus is clear. -/
def emdOffBit (p : Packet) (s : State) : Bool := !s.emdOn p.scope

/-- EMD_FRAME_LOAD (Table 12.9). -/
def emdFrameLoadSpec : CmdSpec where
  opcode := 0xB000
  lenOk p := p.params.length == 24
  stateFail _ s := permitIn [.standby, .ready, .armed, .hold, .service, .recovery] s
  checks p s := [
    (busScope p || decide (1 < p.fld 8 1) || !p.zeroAt 9 3 || !p.zeroAt 20 4 || decide (p.fld 12 4 % 64 ≠ 0 ∨ p.fld 16 4 % 64 ≠ 0) ||
      decide (131072 < p.fld 12 4 + p.fld 16 4) || !s.dramOk (p.fld 0 8) (p.fld 16 4), stRange),
    (emdOffBit p s, 0xB002), (s.emdActive p.scope (p.fld 8 1), 0xB000),
    (decide (p.fld 0 8 % 64 ≠ 0), stAlign), (s.poisoned (p.fld 0 8) (p.fld 16 4), stIntegrity)]
  onReject := poisonReject (fun p => p.fld 0 8) fun p => p.fld 16 4
  run acc p s :=
    let k := p.fld 8 1
    ((s.setPage p.scope k fun x => { x with
        buffer := x.buffer.writeBytes 0#8 (p.fld 12 4) (s.dramRead (p.fld 0 8) (p.fld 16 4)), loads := x.loads ++ [acc] }).pageDirty p.scope k, .accepted)

def execEmdFrameLoad (p : Packet) (s : State) : Host.Outcome State Fault Refusal := serve emdFrameLoadSpec p s

/-- An `IMG_SNAP` frame is outstanding. -/
def State.snapOutstanding (s : State) : Bool := s.img.ports.any fun x => x.triggers.any fun t => t.role == 0 && !t.received && !t.missing

/-- The due DT of a packet's WHEN (R342). -/
def packetWhen (p : Packet) (s : State) : LatchWhen :=
  let delay := p.fld 4 4
  match p.fld 1 1 with
  | 1 => .syncIn 0 delay
  | 2 => .syncIn 1 delay
  | 3 => .phase (p.fld 2 1) delay
  | 4 => .at_ (if p.fld 8 8 < s.dt then s.dt + latchGap * delay else p.fld 8 8)
  | _ => .at_ (s.dt + latchGap * delay)

/-- EMD_LATCH (R342, R343, Table 12.9). -/
def emdLatchSpec : CmdSpec where
  opcode := 0xB001
  lenOk p := p.params.length == 16
  stateFail _ s := permitIn [.standby, .ready, .armed, .hold, .service, .recovery] s
  checks p s := [
    (busScope p || decide (1 < p.fld 0 1 ∨ 4 < p.fld 1 1) || !p.zeroAt 3 1 ||
      (if p.fld 1 1 = 3 then decide (p.fld 2 1 = 0 ∨ 5 < p.fld 2 1) else !p.zeroAt 2 1) || (p.fld 1 1 != 4 && !p.zeroAt 8 8), stRange),
    (emdOffBit p s, 0xB002),
    (s.emdLight p.scope && (s.cyc.phase == .kettle || s.cyc.phase == .image || s.snapOutstanding), 0xB003),
    ((s.bus p.scope).latch.isSome, stBusy)]
  resultLen _ _ := 16
  run acc p s := (s.setBus p.scope fun x => { x with latch := some { page := p.fld 0 1, when_ := packetWhen p s, acc := acc } }, .accepted)

def execEmdLatch (p : Packet) (s : State) : Host.Outcome State Fault Refusal := serve emdLatchSpec p s

/-- EMD_DARK (R344). -/
def emdDarkSpec : CmdSpec where
  opcode := 0xB002
  lenOk p := p.params.isEmpty
  stateFail _ s := permitIn fromStandby s
  checks p _ := [(busScope p && p.scope != 0xFFFF, stRange)]
  run _ p s :=
    (if p.scope = 0xFFFF then (List.range 4).foldl (fun (s : State) (b : Nat) => s.emdDark b) s else s.emdDark p.scope, .done stOk [])

def execEmdDark (p : Packet) (s : State) : Host.Outcome State Fault Refusal := serve emdDarkSpec p s

/-- IMG_SNAP (Table 09.16): one frame of role NONE is triggered at once; light sequences with bit 2 follow it (R343). -/
def State.snap (p : Nat) (s : State) : State :=
  let s1 := s.setPort p fun x => { x with triggers := x.triggers ++ [{ due := s.dt, role := 0, index := 0, layer := s.cyc.layer }] }
  (s1.triggerDue p).lightTriggers p 2 [s.dt]

def imgSnapSpec : CmdSpec where
  opcode := 0x8001
  lenOk p := p.params.isEmpty
  stateFail _ s := permitIdle [.standby, .ready, .service] s
  checks p _ := [(decide (7 < p.scope), stRange)]
  run _ p s := (s.snap p.scope, .done stOk [])

def execImgSnap (p : Packet) (s : State) : Host.Outcome State Fault Refusal := serve imgSnapSpec p s

/-- The triggers of a role become known at the start of their phase: cameras and light sequences (R261, R343). -/
def State.phaseTriggers (role : Nat) (s : State) : State :=
  let s1 := s.triggerRole role s.dt
  (List.range 8).foldl (fun s p =>
    s.lightTriggers p (role - 1) (((s1.port p).triggers.filter fun t => t.role == role && !t.sent).map (·.due))) s1

end Sys2Proof.Machine
end

