-- ==== Sys2Proof/Machine/Readout.lean ====
section
/-! DEFINITION. Ledger readouts (R249, R250), snapshots in use (R251, R252) and clears of the ledger (R244, R254). -/

namespace Sys2Proof.Machine

def State.pitchCode (s : State) : Nat := s.cyc.profile.pitch
def State.originX (s : State) : Nat := byteField (s.dparam 0x7000) 0 3
def State.originY (s : State) : Nat := byteField (s.dparam 0x7000) 3 3
def State.ldgAssisted (s : State) : Bool := s.assisted fnLdg

/-- A clear of the ledger, its event record with the cause in the order of R244. -/
def State.clearLedger (cause : Nat) (s : State) : State :=
  ({ s with ledger := s.ledger.clear s.dt }).logEvent 0x7001 255 cause 0

/-- Deposits whose key has come are applied in the order of their keys (R240, R242, R255). -/
def State.depositsTo (dt : Nat) (s : State) : State :=
  if s.ldgAssisted then s
  else
    let ds := sortBy (fun (a b : PeerDeposit) => decide (a.key < b.key) || (decide (a.key = b.key) && decide (a.head < b.head)))
      (s.ledger.peer.filter fun d => decide (d.key ≤ dt))
    ds.foldl (fun (s : State) (d : PeerDeposit) =>
      let r := s.ledger.addHeat d.key d.cell d.heat
      let l := if r.2 && decide (d.head < 32) then { r.1 with sat := updAt r.1.sat d.head inc32 } else r.1
      { s with ledger := l }) { s with ledger := { s.ledger with peer := s.ledger.peer.filter fun d => !(decide (d.key ≤ dt)) } }

/-- The 16-bit value of a cell at a tick: the snapshot's in host-assisted mode (R250, R252). -/
def State.heatAt (s : State) (tick idx : Nat) : Nat :=
  if s.ldgAssisted then (match s.ledger.active with | some x => x.value idx | none => 0) else s.ledger.value tick idx

/-- The layer a readout names: that of the ACTIVE signature, or of the last layer exposed. -/
def State.readoutLayer (s : State) : Nat := match s.activeBank with | some k => (s.bank k).sig.layer | none => s.recorder.lastLayer

def Readout.cells (r : Readout) : List Nat :=
  (List.range r.height).flatMap fun (j : Nat) => (List.range r.width).map fun (i : Nat) => 4096 * (r.row + j) + (r.col + i)

/-- The output of a readout at `dt` (Table 08.3). -/
def State.readoutBytes (s : State) (dt : Nat) (r : Readout) : List Byte :=
  let l := if s.ldgAssisted then s.ledger else s.ledger.sweepTo (tickU dt)
  let s1 := { s with ledger := l }
  let data := r.cells.flatMap fun (c : Nat) =>
    if r.kind = 1 then leBytes 4 ((l.cell c).stamp + 65536 * (l.cell c).heat) else leBytes 2 (s1.heatAt (tickOf dt) c)
  let hdr := leBytes 4 0x4C525853 ++ leBytes 1 0x10 ++ leBytes 1 r.kind ++ leBytes 1 s.pitchCode ++ leBytes 1 (bit s.ldgAssisted) ++ leBytes 3 s.originX ++
    leBytes 3 s.originY ++ zeros 2 ++ leBytes 2 r.col ++ leBytes 2 r.row ++ leBytes 2 r.width ++ leBytes 2 r.height ++ leBytes 8 dt ++ leBytes 2 (tickOf dt) ++
    zeros 2 ++ leBytes 4 s.readoutLayer ++ leBytes 4 (crc32c data) ++ zeros 20
  padTo ((64 + data.length + 63) / 64 * 64) (hdr ++ data)

/-- Readouts of one trigger that have no instant yet get `dt` (R249). -/
def State.fixReadouts (fence : Bool) (dt : Nat) (s : State) : State :=
  { s with ledger := { s.ledger with readouts := s.ledger.readouts.map fun (r : Readout) =>
      if r.at_.isNone && r.fence == fence then { r with at_ := some dt, out := s.readoutBytes dt r } else r } }

/-- LDG_READOUT_COPY: a readout whose instant has come is in DRAM; a FENCE readout writes its build-record entry (R249). -/
def State.readoutCopy (i : Nat) (s : State) : State :=
  match s.ledger.readouts[i]? with
  | none => s
  | some r =>
    match r.at_ with
    | none => s
    | some d =>
      let s1 := ({ s with ledger := { s.ledger with readouts := s.ledger.readouts.eraseIdx i } }).dramWrite r.addr r.out
      let s2 := if r.fence then
          s1.buildEntry 0x30 (leBytes 8 d ++ leBytes 2 r.col ++ leBytes 2 r.row ++ leBytes 2 r.width ++ leBytes 2 r.height ++ slice r.out 40 4 ++ leBytes 1 r.kind ++ zeros 3)
        else s1
      s2.complete r.acc stOk []

/-- EXPOSE of a layer starts in host-assisted mode: its VALID snapshot becomes ACTIVE, or none serves the layer (R251, R252). -/
def State.useSnapshot (layer : Nat) (s : State) : State :=
  if !s.ldgAssisted then s
  else if s.ledger.slots.any fun x => x.state == .valid && x.layer == layer then
    { s with ledger := { s.ledger with slots := s.ledger.slots.map fun (x : SnapSlot) => if x.state = .valid ∧ x.layer = layer then { x with state := .active } else x } }
  else (s.logEvent 0x7003 255 0 layer).buildEntry 0x31 []

/-- The ACTIVE snapshot is empty again at the kettle fence (R251). -/
def State.dropSnapshot (s : State) : State :=
  { s with ledger := { s.ledger with slots := s.ledger.slots.map fun (x : SnapSlot) => if x.state = .active then {} else x } }

/-- What a switch of the ledger function does (R254). -/
def State.ledgerSwitched (assisted : Bool) (s : State) : State :=
  if assisted then { s with ledger := { s.ledger with cells := [], peer := [] } }
  else ({ s with ledger := { s.ledger with slots := [{}, {}] } }).clearLedger 4

end Sys2Proof.Machine
end

