-- ==== Sys2Proof/Machine/Records.lean ====
section
/-! DEFINITION. The event log and its stream (R501 to R514), layer summaries and builds (R515 to R521), the journal (R522 to R526). -/

namespace Sys2Proof.Machine

/-! Identity (Tables 14.2, 14.3). -/

def Grade.part : Grade → Nat
  | .sx32 => 0x32 | .sx16 => 0x16 | .sx08 => 0x08
def State.idRegister (s : State) : Nat := 65536 * s.otp.grade.part + 4096 * s.otp.stepLetter + 256 * s.otp.stepNumber
def State.fwVersion (s : State) : Nat := if s.cyc.state == .boot then 0 else s.svc.fw.active.version

/-! Log records (Table 19.1). -/

def LogRec.bytes (r : LogRec) : List Byte :=
  leBytes 8 r.dt ++ leBytes 8 r.seq ++ leBytes 2 (if r.corrupt then 0xFFFF else r.code) ++ leBytes 1 r.source ++ leBytes 1 r.flags ++
    leBytes 4 r.repeats ++ leBytes 8 r.lastDt ++ leBytes 8 r.key ++ leBytes 24 r.detail

/-- A GAP marker of the event stream (R514). -/
def eventGap (dt : Nat) (g : Gap) : List Byte :=
  LogRec.bytes { dt := dt, code := 6, flags := 8, key := g.count, detail := beside g.first 8 g.last }
def eventFence (dt tag number : Nat) : List Byte := LogRec.bytes { dt := dt, code := 7, flags := 8, key := beside number 4 tag, detail := dt }

/-- The event folds into record `r` on the smaller grades (R505). -/
def foldsInto (g : Grade) (e r : LogRec) : Bool :=
  g != .sx32 && e.code == r.code && e.source == r.source && e.key == r.key && r.code != 2
def foldOne (e r : LogRec) : LogRec := { r with repeats := inc32 r.repeats, lastDt := e.dt, flags := r.flags ||| 1 }

/-- An event at the log, its SEQ set (R505, R506): the log's new state and whether the event took a slot of its own. -/
def State.logOne (e : LogRec) (s : State) : State × Bool :=
  let r := s.recorder
  match r.log with
  | n :: rest =>
    if foldsInto s.otp.grade e n then ({ s with recorder := { r with log := foldOne e n :: rest } }, false)
    else if s.otp.grade.slots ≤ r.log.length then ({ s with recorder := { r with lost := r.lost + 1 } }, false)
    else if r.log.length + 1 = s.otp.grade.slots then
      let full : LogRec := { dt := e.dt, seq := e.seq, code := 2, detail := beside e.seq 8 e.dt }
      ({ s with recorder := { r with lost := r.lost + 1, full := true, log := full :: r.log } }, false)
    else ({ s with recorder := { r with log := e :: r.log } }, true)
  | [] => ({ s with recorder := { r with log := [e] } }, true)

/-- An event while the log is frozen (R511). -/
def State.holdOne (e : LogRec) (s : State) : State × Bool :=
  let r := s.recorder
  match r.held with
  | n :: rest =>
    if foldsInto s.otp.grade e n then ({ s with recorder := { r with held := foldOne e n :: rest } }, false)
    else if 256 ≤ r.held.length then ({ s with recorder := { r with heldOver := r.heldOver + 1 } }, false)
    else ({ s with recorder := { r with held := e :: r.held } }, true)
  | [] => ({ s with recorder := { r with held := [e] } }, true)

/-- One record of the event stream (R507, R513). -/
def State.streamEvent (keep : Bool) (bytes : List Byte) (s : State) : State :=
  if s.streamOn 4 then (s.append 4 (eventGap s.dt) keep bytes).1 else s

/-- EVENT_ARRIVAL: an event takes the next SEQ, is logged, folded, held or lost, and is written to the stream (R502, R505, R507). -/
def State.receive (e0 : LogRec) (s : State) : State :=
  let e := { e0 with seq := s.recorder.nextSeq }
  let s1 := { s with recorder := { s.recorder with nextSeq := s.recorder.nextSeq + 1 } }
  let r := if s.recorder.frozen.isSome then s1.holdOne e else s1.logOne e
  r.1.streamEvent false ({ e with flags := e.flags + (if r.2 then 0 else 2) } : LogRec).bytes

def State.eventArrival (i : Nat) (s : State) : State :=
  match s.recorder.arriving[i]? with
  | none => s
  | some e => ({ s with recorder := { s.recorder with arriving := s.recorder.arriving.eraseIdx i } }).receive e

/-- The end of a freeze (R511): the held events are written as though they arrived now, each keeping its SEQ and its folds. -/
def State.unfreeze (s : State) : State :=
  if s.recorder.frozen.isNone then s
  else
    let held := s.recorder.held.reverse
    let past := s.recorder.heldOver
    let s1 := { s with recorder := { s.recorder with frozen := none, held := [], heldOver := 0 } }
    let put (s : State) (e : LogRec) : State :=
      match s.recorder.log with
      | n :: rest =>
        if foldsInto s.otp.grade e n then
          { s with recorder := { s.recorder with log := { n with
              repeats := add32 n.repeats (e.repeats + 1), lastDt := if e.repeats = 0 then e.dt else e.lastDt, flags := n.flags ||| 1 } :: rest } }
        else
          let r := s.logOne e
          if r.2 then r.1 else { r.1 with recorder := { r.1.recorder with lost := r.1.recorder.lost + e.repeats } }
      | [] => (s.logOne e).1
    let s2 := held.foldl put s1
    { s2 with recorder := { s2.recorder with lost := s2.recorder.lost + past } }

/-- `REC_CLEAR` (R512): CLEARED is slot 0; it is no event of the stream. -/
def State.clearLog (slot : Nat) (s : State) : State :=
  let r := s.recorder
  { s with recorder := { r with
      log := [{ dt := s.dt, seq := 0, code := 1, key := r.nextSeq, detail := beside r.lost 8 slot }]
      nextSeq := 1, lost := 0, full := false, frozen := none, held := [], heldOver := 0, clears := r.clears + 1 } }

/-- `REC.STATUS` (Table 19.12). -/
def State.recStatus (s : State) : Nat :=
  let r := s.recorder
  bit r.retained + 2 * bit r.frozen.isSome + 4 * bit r.full + 8 * bit r.build.isSome + 16 * bit (s.stream 4).gap.isSome +
    32 * bit (s.stream 3).gap.isSome + 64 * bit r.journal.compacting + 128 * bit r.journal.bad
/-- `REC.LOG_INFO`: CORRUPT counts the reads of slots that hold such a word (R508). -/
def State.logInfo (s : State) : List Byte :=
  let r := s.recorder
  leBytes 8 r.nextSeq ++ leBytes 4 r.log.length ++ leBytes 4 s.otp.grade.slots ++ leBytes 8 r.lost ++ leBytes 4 r.clears ++ leBytes 4 r.corrupt ++
    leBytes 8 r.heldOver ++ zeros 8

/-- The records `REC_READ` returns, ascending, and the header of Table 19.4. -/
def State.readLog (from_ maxN : Nat) (s : State) : List LogRec × List Byte :=
  let r := s.recorder
  let all := r.log.reverse.filter fun e => decide (from_ ≤ e.seq ∧ e.seq < r.nextSeq)
  let out := all.take maxN
  let next := ((all.drop maxN).head?.map (·.seq)).getD r.nextSeq
  (out, leBytes 8 r.nextSeq ++ leBytes 4 out.length ++ leBytes 4 r.clears ++ leBytes 8 r.lost ++ leBytes 1 s.recStatus ++ zeros 7 ++ leBytes 8 next ++ zeros 24)

/-! Builds and summaries (R517 to R521). -/

/-- Entries written to the build stream counted into the open build (R519). -/
def State.countBuild (bytes : List Byte) (n lost : Nat) (s : State) : State :=
  { s with recorder := { s.recorder with build := s.recorder.build.map fun (b : Build) =>
      { b with crc := crcFold 2197175160 b.crc bytes, entries := b.entries + n, lost := add32 b.lost lost } } }

/-- An open GAP is written ahead of an entry that carries RUN_CRC (R519). -/
def State.closeGap (s : State) : State :=
  match (s.stream 3).gap with
  | none => s
  | some g =>
    let bytes := buildGap s.recLayer s.dt g
    let s1 := ((s.setStream 3 fun x => { x with gap := none }).append 3 (fun _ => []) true bytes).1
    let strict := s.cyc.phase == .expose || s.cyc.phase == .kettle
    let s2 := s1.countBuild bytes 1 g.count
    { s2 with recorder := { s2.recorder with sum := { s2.recorder.sum with gap := true, strictGap := s2.recorder.sum.strictGap || strict } } }
def Build.runCrc (b : Build) : Nat := Nat.xor b.crc 4294967295
def State.runCrc (s : State) : Nat := (s.recorder.build.map Build.runCrc).getD 0

/-- The colophon's payload before its MAC (Table 19.8). -/
def State.colophon (b : Build) (slot counter : Nat) (s : State) : List Byte :=
  leBytes 8 b.id ++ leBytes 4 (b.firstLayer.getD 0) ++ leBytes 4 b.lastLayer ++ leBytes 4 b.complete ++ leBytes 4 b.aborted ++ leBytes 8 b.exposed ++
    leBytes 8 b.unexposed ++ leBytes 4 b.holds ++ leBytes 4 b.breaches ++ leBytes 4 b.firings ++ leBytes 4 b.lost ++ leBytes 8 s.recorder.lost ++
    leBytes 4 b.runCrc ++ leBytes 1 slot ++ zeros 3 ++ leBytes 8 counter

/-- The build is closed: the colophon is written and its payload answered (R521). -/
def State.endBuild (slot counter : Nat) (s : State) : State × List Byte :=
  let s1 := s.closeGap
  match s1.recorder.build with
  | none => (s1, [])
  | some b =>
    let body := s1.colophon b slot counter
    let key := (s1.host.keys.getD slot {}).key
    let head := buildHeader 0xFF 112 s1.recLayer s1.dt
    let payload := body ++ cmac key (head ++ body)
    let s2 := s1.buildEntry 0xFF payload
    ({ s2 with recorder := { s2.recorder with build := none } }, payload)

/-- A layer's summary (R517, Table 19.7): 0 COMPLETE, 1 ABORTED, 2 ABANDONED; then a `REC_BUILD_END` that waited for it. -/
def State.layerSummary (outcome : Nat) (s0 : State) : State :=
  if !s0.recorder.sum.open_ then s0
  else
    let s := s0.closeGap
    let x := s.recorder.sum
    let differs := match s.recorder.build with | some b => b.id != x.buildId | none => false
    let lag := (List.range 32).flatMap fun (h : Nat) => if h < s.heads then (s.gutHead h).lag else zeros 16
    let s1 := s.buildEntry 3 (leBytes 1 outcome ++
      leBytes 1 (bit (x.unexposed != 0) + 2 * bit x.gap + 4 * bit x.replayed + 8 * bit x.diverged + 16 * bit differs) ++ zeros 2 ++ leBytes 4 x.exposed ++
      leBytes 4 x.unexposed ++ leBytes 4 x.holds ++ leBytes 4 x.firings ++ leBytes 4 s.runCrc ++ lag)
    let s2 := { s1 with recorder := { s1.recorder with
      lastLayer := x.layer
      sum := {}
      build := s1.recorder.build.map fun (b : Build) =>
        { b with
          lastLayer := x.layer
          complete := b.complete + (if outcome = 0 then 1 else 0)
          aborted := b.aborted + (if outcome = 0 then 0 else 1)
          exposed := b.exposed + x.exposed
          unexposed := b.unexposed + x.unexposed
          holds := add32 b.holds x.holds
          breaches := add32 b.breaches x.breaches
          firings := add32 b.firings x.firings } } }
    match s2.recorder.buildEnd with
    | none => s2
    | some (acc, slot, counter) =>
      let r := ({ s2 with recorder := { s2.recorder with buildEnd := none } }).endBuild slot counter
      r.1.complete acc stOk r.2

/-! The journal (R522 to R526). -/

/-- Banks of the board record in use (Table 21.5). -/
def State.jBase (s : State) (b : Nat) : Nat := field s.power.record (if b = 0 then 40 else 44) 4
def State.jSize (s : State) : Nat := field s.power.record 48 4
def State.flashRead (s : State) (a n : Nat) : List Byte := s.flash.readBytes flashErased a n
def State.flashWrite (a : Nat) (bs : List Byte) (s : State) : State := { s with flash := s.flash.writeBytes flashErased a bs }
/-- A flash region erased: no cell of it stays listed. -/
def State.flashErase (a n : Nat) (s : State) : State := { s with flash := s.flash.filter fun c => !(decide (a ≤ c.1 ∧ c.1 < a + n)) }

def journalLen (payload : List Byte) : Nat := ceilDiv (16 + payload.length + 5) 16 * 16
/-- The bytes programmed for an entry before COMMIT (Table 19.9). -/
def journalBody (type seq : Nat) (payload : List Byte) : List Byte :=
  let b := leBytes 4 0x4E4A5853 ++ leBytes 1 type ++ leBytes 1 0x10 ++ leBytes 2 payload.length ++ leBytes 8 seq ++ payload
  b ++ leBytes 4 (crc32c b)
/-- A committed entry, whole: the bytes between CHECK and COMMIT stay erased. -/
def journalEntry (type seq : Nat) (payload : List Byte) : List Byte :=
  let b := journalBody type seq payload
  b ++ List.replicate (journalLen payload - 1 - b.length) flashErased ++ [0#8]

/-- A journal entry as a scan finds it (R525). -/
structure JEntry where
  type : Nat
  seq : Nat
  payload : List Byte
  deriving DecidableEq, Repr

/-- What a scan of a bank finds: the entries, a TORN stop, the addresses whose COMMIT is completed with their JSEQ, the end. -/
structure JScan where
  entries : List JEntry := []
  torn : Bool := false
  fixes : List (Nat × Nat) := []
  stop : Nat := 0
  deriving DecidableEq, Repr

/-- The scan of R525 from `a` up to `stop`. -/
def scanJournal (flash : Mem) (stop : Nat) : Nat → Nat → JScan
  | 0, a => { stop := a }
  | fuel + 1, a =>
    if stop < a + 32 then { stop := a }
    else
      let hd := flash.readBytes flashErased a 16
      if field hd 0 4 = 0xFFFFFFFF then { stop := a }
      else
        let len := field hd 6 2
        let size := ceilDiv (16 + len + 5) 16 * 16
        let b := flash.readBytes flashErased a size
        let commit := field b (size - 1) 1
        if decide (4016 < len) || decide (stop < a + size) || field hd 0 4 != 0x4E4A5853 || crc32c (slice b 0 (16 + len)) != field b (16 + len) 4 ||
            commit == 0xFF then
          { torn := true, stop := a }
        else
          let r := scanJournal flash stop fuel (a + size)
          let e : JEntry := { type := field hd 4 1, seq := field hd 8 8, payload := slice b 16 len }
          { r with entries := e :: r.entries, fixes := if commit = 0 then r.fixes else (a + size - 1, e.seq) :: r.fixes }

/-- A key by which live entries are told apart: the type, and the slot or front end of those kept per slot (R524, R544). -/
def JEntry.lane (e : JEntry) : Nat := if e.type = 0x10 ∨ e.type = 0x11 ∨ e.type = 0x40 then 256 * e.type + field e.payload 0 1 else 256 * e.type
/-- The live entries (R524): per lane the committed entry with the highest JSEQ, in JSEQ order. -/
def liveEntries (es : List JEntry) : List JEntry :=
  es.filter fun e => e.type != 1 && e.type != 2 && !(es.any fun f => f.lane == e.lane && decide (e.seq < f.seq))
def liveOf (lane : Nat) (es : List JEntry) : Option JEntry := (liveEntries es).find? fun e => e.lane == lane

def State.jFree (s : State) : Nat := if s.jSize = 0 then 0 else s.jSize - s.recorder.journal.pos
def State.setJournal (f : Journal → Journal) (s : State) : State := { s with recorder := { s.recorder with journal := f s.recorder.journal } }

/-- Compaction starts when fewer than 65,536 bytes remain (R526). -/
def State.jCompact (s : State) : State :=
  if s.recorder.journal.compacting || decide (65536 ≤ s.jFree) then s
  else (s.setJournal fun j => { j with compacting := true }).logEvent 0xE003 255 2 s.recorder.journal.nextSeq

/-- JOURNAL_WRITE_END: the entry in hand is written and read back (R523); answers what it was for once it is made or given up. -/
def State.journalEnd (ok : Bool) (s : State) : State × Option (JournalUse × Bool) :=
  match s.recorder.journal.queue with
  | [] => (s, none)
  | r :: rest =>
    let j := s.recorder.journal
    if j.compacting || j.bad then (s, none)
    else
      let a := s.jBase j.bank + j.pos
      let len := journalLen r.payload
      let s1 := s.flashWrite a (if ok then journalEntry r.type j.nextSeq r.payload else journalBody r.type j.nextSeq r.payload)
      let s2 := s1.setJournal fun j => { j with pos := j.pos + len, nextSeq := j.nextSeq + 1 }
      if ok then
        ((s2.setJournal fun j => { j with queue := rest, longest := max j.longest ((s.dt - r.since) / 16000) }).jCompact, some (r.use, true))
      else
        let s3 := (s2.setJournal fun j => { j with failed := inc32 j.failed }).logEvent 0xE003 255 0 j.nextSeq
        if r.attempts < 2 then ((s3.setJournal fun j => { j with queue := { r with attempts := r.attempts + 1 } :: rest }).jCompact, none)
        else ((s3.setJournal fun j => { j with queue := rest }).jCompact, some (r.use, false))

/-- Entries written one after another from `a`, with JSEQ from `seq`. -/
def writeEntries (a seq : Nat) : List JEntry → State → State × Nat × Nat
  | [], s => (s, a, seq)
  | e :: es, s => writeEntries (a + journalLen e.payload) (seq + 1) es (s.flashWrite a (journalEntry e.type seq e.payload))

/-- Compaction as a whole (R526): the live entries in the other bank, COMPACT_DONE, then the old bank erased. -/
def State.compact (s : State) : State :=
  let j := s.recorder.journal
  let other := 1 - j.bank
  let live := liveEntries (scanJournal s.flash (s.jBase j.bank + s.jSize) (s.jSize / 32) (s.jBase j.bank)).entries
  let s1 := s.flashErase (s.jBase other) s.jSize
  let gen := leBytes 8 (j.generation + 1)
  let r := writeEntries (s.jBase other) j.nextSeq ({ type := 1, seq := 0, payload := gen } :: live ++ [{ type := 2, seq := 0, payload := gen }]) s1
  (r.1.flashErase (s.jBase j.bank) s.jSize).setJournal fun j =>
    { j with bank := other, pos := r.2.1 - s.jBase other, generation := j.generation + 1, nextSeq := r.2.2, compacting := false, torn := false }

/-- The recovery of R525 at boot: answers the entries taken. -/
def State.recoverJournal (s : State) : State × List JEntry :=
  let size := s.jSize
  let scan (b : Nat) : JScan := scanJournal s.flash (s.jBase b + size) (size / 32) (s.jBase b)
  let a0 := scan 0
  let a1 := scan 1
  let gen (x : JScan) : Option Nat := match x.entries with | e :: _ => if e.type = 1 then some (field e.payload 0 8) else none | [] => none
  let valid (x : JScan) : Bool := (gen x).isSome && !(x.fixes.any fun f => f.2 == (x.entries.head?.map (·.seq)).getD 0)
  let done (x : JScan) : Bool := x.entries.any fun e => e.type == 2 && some (field e.payload 0 8) == gen x
  let v0 := valid a0
  let v1 := valid a1
  let c0 := v0 && (done a0 || !v1)
  let c1 := v1 && (done a1 || !v0)
  let erased (b : Nat) : Bool := s.flash.all fun c => !(decide (s.jBase b ≤ c.1 ∧ c.1 < s.jBase b + size))
  if !v0 && !v1 && erased 0 && erased 1 then
    ((s.flashWrite (s.jBase 0) (journalEntry 1 0 (leBytes 8 1))).setJournal fun j => { j with bank := 0, pos := 32, generation := 1, nextSeq := 1 }, [])
  else if !c0 && !c1 then ((s.setJournal fun j => { j with bad := true }).logEvent 0xE003 255 3 0, [])
  else
    let b : Nat := if c0 && c1 then (if (gen a0).getD 0 < (gen a1).getD 0 then 1 else 0) else if c0 then 0 else 1
    let x := if b = 0 then a0 else a1
    let next := (x.entries.foldl (fun (m : Nat) (e : JEntry) => max m e.seq) 0) + 1
    let s1 := x.fixes.foldl (fun (s : State) (f : Nat × Nat) => (s.flashWrite f.1 [0#8]).logEvent 0xE003 255 1 f.2) s
    let s2 := if x.torn then s1.logEvent 0xE003 255 1 next else s1
    let s3 := s2.setJournal fun j =>
      { j with bank := b, pos := x.stop - s.jBase b, generation := (gen x).getD 0, nextSeq := next, torn := x.torn }
    ((if x.torn then (s3.logEvent 0xE003 255 2 next).compact else s3), x.entries)

/-- SAFE_CAPTURE at entry to SAFE (R524). -/
def State.safeCapture (s : State) : State :=
  let rs := (s.recorder.log.take 32).reverse
  s.journalAsk 0x12 (leBytes 8 s.dt ++ leBytes 1 s.cyc.cause ++ leBytes 1 rs.length ++ zeros 6 ++ rs.flatMap LogRec.bytes) .capture

/-- `REC.JOURNAL_STATUS`. -/
def State.journalStatus (s : State) : List Byte :=
  let j := s.recorder.journal
  leBytes 1 j.bank ++ leBytes 1 (bit j.compacting + 2 * bit j.bad) ++ zeros 2 ++ leBytes 4 s.jFree ++ leBytes 8 j.generation ++ leBytes 8 j.nextSeq ++
    leBytes 4 (satNat 4294967295 j.longest) ++ leBytes 4 j.failed

/-- `REC.BUILD`. -/
def State.buildInfo (s : State) : List Byte :=
  match s.recorder.build with
  | none => zeros 24
  | some b => leBytes 8 b.id ++ leBytes 4 b.entries ++ leBytes 4 b.runCrc ++ leBytes 8 b.begun

end Sys2Proof.Machine
end

