-- ==== Sys2Proof/Machine/Peer.lean ====
section
/-! DEFINITION. The peer link as the layer cycle uses it (18): messages (R486), pairing (R488, R489), the CYCLE message (R493, R494)
and the pair offset (R490). -/

namespace Sys2Proof.Machine

/-- PAIR.ROLE (R488): 1 PRIMARY, 2 SECONDARY. -/
def State.role (s : State) : Nat := s.dparam 0xC100
def State.isPaired (s : State) : Bool := s.pair.mode == .paired
def State.setPair (f : PairState → PairState) (s : State) : State := { s with pair := f s.pair }

/-! Messages (R486). -/

/-- A message's content: FTYPE, TYPE, payload length, sequence number, the sender's DT, the payload. -/
def peerMessage (type seq dt : Nat) (payload : List Byte) : List Byte :=
  leBytes 1 0x12 ++ leBytes 1 type ++ leBytes 2 payload.length ++ leBytes 4 seq ++ leBytes 8 dt ++ payload

/-- A message sent on lane 1; it stays known until its acknowledgement, 64 at most. -/
def State.peerSend (type : Nat) (payload : List Byte) (s : State) : State :=
  if !s.pair.link || s.role == 0 then s
  else
    let bytes := framed (peerMessage type s.pair.seq s.dt payload)
    let m : PeerMsg := { seq := s.pair.seq, bytes := bytes, sent := s.dt }
    (s.setPair fun (x : PairState) => { x with
      seq := (x.seq + 1) % 2 ^ 32
      unacked := (x.unacked ++ [m]).drop (x.unacked.length - 63) }).send (.peer bytes)

/-- MESSAGE_RESEND: a message unacknowledged for 20 µs is sent again. -/
def State.peerResend (seq : Nat) (s : State) : State :=
  match s.pair.unacked.find? fun m => m.seq == seq && decide (m.sent + 320000 ≤ s.dt) with
  | none => s
  | some m =>
    (s.setPair fun (x : PairState) => { x with
      resent := inc32 x.resent, unacked := x.unacked.map fun n => if n.seq = seq then { n with sent := s.dt } else n }).send (.peer m.bytes)

/-! CAP (R489); the places of its fields are the model's (log entry 40). -/

def Grade.code : Grade → Nat
  | .sx32 => 0 | .sx16 => 1 | .sx08 => 2
def State.capPayload (s : State) : List Byte :=
  let o := s.dparam 0x7000
  leBytes 1 s.role ++ leBytes 1 s.otp.grade.code ++ leBytes 1 s.cyc.profile.ts ++ leBytes 1 0x10 ++ leBytes 4 (s.dparam 0x7001) ++ leBytes 2 (s.dparam 0x7002) ++
    leBytes 1 (s.dparam 0x7003) ++ leBytes 1 (s.dparam 0x7009) ++ leBytes 1 s.cyc.profile.pitch ++ zeros 3 ++ leBytes 3 (byteField o 0 3) ++
    leBytes 3 (byteField o 3 3) ++ zeros 10
def State.sendCap (s : State) : State := (s.setPair fun (x : PairState) => { x with lastCap := s.dt }).peerSend 1 s.capPayload

/-- Pairing starts, or starts again (Table 18.7). -/
def State.pairLink (s : State) : State :=
  let s1 := s.setPair fun (x : PairState) => { x with
    mode := .linking, capOk := false, offsetOk := false, echoes := [], running := [], drift := false, readySent := none, readyGot := none, start := none
    fenceSent := false, fenceGot := false, imageSent := false, imageGot := false, resumeWait := false, layerMismatch := false
    poolMismatch := false, points := [], requests := [], early := [], unacked := [], got := [], slotSeq := none, lostRun := 0, expired := false }
  if s1.pair.link then s1.sendCap else s1

/-- CAP agrees (R489, R256). -/
def State.capAgrees (s : State) (b : List Byte) : Bool :=
  let pb := pitchUnits s.cyc.profile.pitch
  let o := s.dparam 0x7000
  decide (field b 0 1 ≠ s.role ∧ 1 ≤ field b 0 1 ∧ field b 0 1 ≤ 2) && field b 2 1 == s.cyc.profile.ts && field b 12 1 == s.cyc.profile.pitch &&
    field b 4 4 == s.dparam 0x7001 && field b 8 2 == s.dparam 0x7002 && field b 10 1 == s.dparam 0x7003 && field b 11 1 == s.dparam 0x7009 &&
    decide (((field b 16 3 : Int) - byteField o 0 3) % pb = 0) && decide (((field b 19 3 : Int) - byteField o 3 3) % pb = 0)

/-- PAIRED once the capability check and the offset hold (Table 18.7). -/
def State.pairUp (s : State) : State :=
  if s.pair.mode == .linking && s.pair.link && s.pair.capOk && s.pair.offsetOk then s.setPair fun (x : PairState) => { x with mode := .paired, cause := 0 } else s

/-- An ECHO request (R490): T1 is the DT of sending; the primary answers with T2 and T3. -/
def State.sendEcho (s : State) : State :=
  (s.setPair fun (x : PairState) => { x with lastEcho := s.dt }).peerSend 2 (leBytes 8 s.dt ++ zeros 16)

/-! CYCLE (R493, R494); the places of its fields are the model's (log entry 41). -/

def evReady : Nat := 1
def evStart : Nat := 2
def evFence : Nat := 3
def evHold : Nat := 4
def evResumed : Nat := 5
def evDisarm : Nat := 6
def evImage : Nat := 7

/-- The cross-device table of a layer. -/
def State.crossTable (s : State) (layer : Nat) : List CrossPool := ((s.pair.tables.find? fun e => e.1 == layer).map (·.2)).getD []

/-- The check value of a cross-device pool: CRC-32C over its records (R494). -/
def recordBytes (r : VecRec) : List Byte :=
  leBytes 3 r.x0 ++ leBytes 3 r.y0 ++ leBytes 3 r.x1 ++ leBytes 3 r.y1 ++ leBytes 2 (r.profile + 4096 * r.cls) ++
    leBytes 2 (r.part + 4096 * r.flags)
def poolCheck (sig : Signature) (pool : Nat) : Nat :=
  let p := sig.pools.getD pool {}
  crc32c (((sig.records.drop p.offset).take p.count).flatMap recordBytes)

/-- The pool check values a READY_TO_EXPOSE carries, by own pool index. -/
def State.poolChecks (s : State) (sig : Signature) : List (Nat × Nat) := (s.crossTable sig.layer).map fun (c : CrossPool) => (c.own, poolCheck sig c.own)
def State.cycleMessage (layer event cause dtS : Nat) (checks : List (Nat × Nat)) (s : State) : State :=
  s.peerSend 3 (leBytes 4 layer ++ leBytes 1 event ++ leBytes 1 cause ++ zeros 2 ++ leBytes 8 dtS ++ zeros 8 ++
    (List.range 256).flatMap fun (n : Nat) => leBytes 4 (((checks.find? fun e => e.1 == n).map (·.2)).getD 0))

/-- The device tells its peer of an event of the cycle while it is paired. -/
def State.tellPeer (event cause : Nat) (s : State) : State := if s.isPaired then s.cycleMessage s.cyc.layer event cause 0 [] else s

end Sys2Proof.Machine
end

