-- ==== Sys2Proof/Machine/Time.lean ====
section
/-! DEFINITION. The time relation (R479 to R483, R491) and the reference inputs (R484, R485). -/

namespace Sys2Proof.Machine

def State.setNet (f : NetState → NetState) (s : State) : State := { s with net := f s.net }
def RelState.code : RelState → Nat
  | .free => 0 | .acquiring => 1 | .locked => 2 | .holdover => 3 | .peer => 4

/-- TAI of a DT value (R481). -/
def TimeRel.tai (r : TimeRel) (d : Nat) : Int := r.tai0 + roundDiv (((d : Int) - r.dt0) * (1099511627776 + r.rate)) 17592186044416

/-- `NET.TIME_RELATION`, 32 bytes. -/
def TimeRel.bytes (r : TimeRel) : List Byte :=
  leBytes 8 r.dt0 ++ leBytes 8 (ofSigned 64 r.tai0) ++ leBytes 4 (ofSigned 32 r.rate) ++ leBytes 2 (ofSigned 16 r.utc) ++ leBytes 1 r.state.code ++
    zeros 1 ++ leBytes 4 r.generation ++ zeros 4

/-- The relation in force, as a build-record entry (R481, Table 19.6). -/
def State.timeEntry (s : State) : State := s.buildEntry 0x60 s.net.rel.bytes

/-- A new relation: GENERATION rises; the primary of a pair sends it (R491). -/
def State.newRelation (r : TimeRel) (s : State) : State :=
  let s1 := s.setNet fun (x : NetState) => { x with rel := { r with generation := (x.rel.generation + 1) % 4294967296 } }
  if s1.isPaired && s1.role == 1 then s1.peerSend 6 s1.net.rel.bytes else s1

/-- The state after an offset measurement (Table 18.1): LOCKED with 16 offsets within 100 ns, ACQUIRING while an offset exceeds 1 µs. -/
def relStateAfter (old : RelState) (offsets : List Int) (o : Int) : RelState :=
  if offsets.length = 16 ∧ offsets.all fun (x : Int) => decide (x.natAbs ≤ 100) then .locked
  else if 1000 < o.natAbs then .acquiring
  else match old with | .locked => .locked | _ => .acquiring

/-- An offset measurement at this DT (R481). The offset is the relation's TAI less the measured TAI. How far within SLEW_MAX the new RATE
moves is a free value (log entry 2). -/
def State.offsetMeasured (o : Int) (s : State) : State :=
  let old := s.net.rel
  let cfg := s.dparam 0xE010
  let slew := byteField cfg 4 4 * (s.dt - old.dt0) / 16000000000
  let r := s.take
  let free : Int := toSigned 32 (Config.freeValue r.1 % 4294967296)
  let rate := satSigned 32 (old.rate + clampInt (-(slew : Int)) slew free)
  let step := decide (byteField cfg 8 4 < o.natAbs)
  let tai := old.tai s.dt
  let offsets := (o :: s.net.offsets).take 16
  let new : TimeRel := { old with
    dt0 := s.dt, tai0 := if step then tai - o else tai, rate := rate, state := relStateAfter old.state offsets o }
  let s1 := ((r.2.setNet fun (x : NetState) => { x with
    lastOffset := o, offsets := offsets, steps := if step then inc32 x.steps else x.steps }) : State).newRelation new
  if step then (s1.logEvent 0xE001 255 0 (ofSigned 64 o)).timeEntry else s1

/-- PTP_MESSAGE: a message of the instance, timestamped at port `p`. What its standard makes of it comes with the command: the grandmaster and
UTC offset it now follows, and an offset measurement. A paired secondary's measurements are not used (R491); with PROFILE NONE no PTP is run. -/
def execPtpMessage (t p master : Nat) (utc : Int) (offset : Option Int) (s : State) : Host.Outcome State Fault Refusal :=
  s.event t fun s =>
    let port := s.net.ports.getD p {}
    if 4 ≤ p ∨ !port.lock ∨ byteField (s.dparam 0xE010) 0 1 = 0 ∨ s.net.rel.state = .peer then s
    else
      let s1 := s.setNet fun (x : NetState) => { x with master := master % 2 ^ 64, portInUse := p, rel := { x.rel with utc := satSigned 16 utc } }
      match offset with | some o => s1.offsetMeasured o | none => s1

/-- The relation holds over (R483); a FREE one has nothing to hold over but on a fault of the network island (R478). -/
def State.holdover (fault : Bool) (s : State) : State :=
  let go := match s.net.rel.state with | .acquiring | .locked => true | .free => fault | _ => false
  if go then s.setNet fun (x : NetState) => { x with rel := { x.rel with state := .holdover }, offsets := [] } else s
def execTimeHoldover (t : Nat) (s : State) : Host.Outcome State Fault Refusal := s.event t fun s => s.holdover false

/-- The secondary's relation follows the primary's (R491). -/
def State.relationGot (p : List Byte) (s : State) : State :=
  let dt0 : Int := (field p 0 8 : Int) - s.pair.delta
  s.newRelation { dt0 := dt0.toNat, tai0 := toSigned 64 (field p 8 8), rate := toSigned 32 (field p 16 4), utc := toSigned 16 (field p 20 2), state := .peer }

/-! Reference inputs (R484, R485). -/

/-- The event record of the inputs; none is written in reset. -/
def State.refEvent (key : Nat) (s : State) : State := if s.up then s.logEvent 0xE002 255 key 0 else s
/-- The device runs from input `i`: an event record, and a count when that is a switch. -/
def State.refSwitch (i : Nat) (s : State) : State :=
  let moved := s.net.selected != i
  let s1 := s.setNet fun (x : NetState) => { x with selected := i, bothLost := false, switches := if moved then satNat 65535 (x.switches + 1) else x.switches }
  s1.refEvent i

/-- REFCLK_BAD: input `i` has gone bad. -/
def State.refBad (i : Nat) (s : State) : State :=
  if !s.net.good.getD i false then s
  else
    let s1 := s.setNet fun (x : NetState) => { x with good := x.good.set i false }
    if s1.net.selected ≠ i then s1
    else if s1.net.good.getD (1 - i) false then s1.refSwitch (1 - i)
    else (s1.setNet fun (x : NetState) => { x with bothLost := true }).refEvent (i + 256)
/-- REFCLK_GOOD: input `i` has been good for 10 ms. -/
def State.refGood (i : Nat) (s : State) : State :=
  if s.net.good.getD i false then s
  else
    let s1 := s.setNet fun (x : NetState) => { x with good := x.good.set i true }
    let cfg := s.dparam 0xE018
    let revert := byteField cfg 0 1 == i && (byteField cfg 1 1).testBit 0 && s.net.selected != i
    if s.net.bothLost || revert || !s1.net.good.getD s1.net.selected false then s1.refSwitch i else s1
def execRefclkBad (t i : Nat) (s : State) : Host.Outcome State Fault Refusal := s.eventPowered t fun s => if i < 2 then s.refBad i else s
def execRefclkGood (t i : Nat) (s : State) : Host.Outcome State Fault Refusal := s.eventPowered t fun s => if i < 2 then s.refGood i else s

end Sys2Proof.Machine
end

