-- ==== Sys2Proof/Machine/Trims.lean ====
section
/-! DEFINITION. Field self-trim of the analogue front ends (R538 to R545). -/

namespace Sys2Proof.Machine

def State.frontEnd (s : State) (fe : Nat) : FrontEnd := s.svc.frontEnds.getD fe {}
def State.setFront (fe : Nat) (f : FrontEnd → FrontEnd) (s : State) : State :=
  { s with svc := { s.svc with frontEnds := updAt s.svc.frontEnds fe f } }
def State.setTrim (f : Trim → Trim) (s : State) : State := { s with svc := { s.svc with trim := s.svc.trim.map f } }

/-- DT of 1,024 conversions, and of the 100 µs in which a front end settles on the generator (Table 20.6). -/
def compareTime : Nat := 3276800
def settleTime : Nat := 1600000
/-- The first conversion instant at or after a DT (R311). -/
def conversionAt (dt : Nat) : Nat := (dt + 3199) / 3200 * 3200

/-- The front end is trimmed without a handover (R539). -/
def State.trimInPlace (s : State) (fe : Nat) : Bool := fe == 8 || s.fbkMode fe != 1
/-- The spare is a channel of its own, and this trim would need it. -/
def State.spareTaken (s : State) (fe : Nat) : Bool := s.dparam 0xA006 == 1 && (fe == 8 || !s.trimInPlace fe)
/-- A trim of that front end runs, waits or slews (Table 20.6). -/
def State.trimming (s : State) (fe : Nat) : Bool :=
  (match s.svc.trim with | some t => t.fe == fe | none => false) || (s.svc.trimQueue.any fun (q : Nat × TrimKind) => q.1 == fe) ||
    decide ((s.frontEnd fe).slewDone < 1024)

/-- A delta as ten bytes. -/
def deltaBytes (d : List Int) : List Byte := (List.range 5).flatMap fun (i : Nat) => leBytes 2 (ofSigned 16 (d.getD i 0))
def deltaOf (b : List Byte) : List Int := (List.range 5).map fun (i : Nat) => toSigned 16 (field b (2 * i) 2)

/-! The fit (R541). -/

/-- Sums of the codes of a track by phase: 16 periods of 512 conversions. -/
def phaseSums (codes : List Nat) : List Nat :=
  (codes.zipIdx.foldl (fun (v : Vector Nat 512) (c : Nat × Nat) => v.setIfInBounds (c.2 % 512) (v.toArray.getD (c.2 % 512) 0 + c.1)) (Vector.replicate 512 0)).toList
/-- θ_j in fixed point, in (-π, π]. -/
def thetaOf (j : Nat) : Int := Int.fdiv (fixPi * ((j : Int) - (if 256 < j then 512 else 0))) 256

/-- 4,096 times the amplitudes of the sine and cosine of a track, in fixed point: the sums of R541, in which the mean cancels. -/
def trackAmps (sums : List Nat) : Int × Int :=
  sums.zipIdx.foldl (fun (a : Int × Int) (c : Nat × Nat) => (a.1 + c.1 * fixSin (thetaOf c.2), a.2 + c.1 * fixCos (thetaOf c.2))) (0, 0)

/-- 8,192 · 2^320 times the sum of the squared deviations of a track from its fitted sinusoid. -/
def deviation (codes : List Nat) (amps : Int × Int) : Int :=
  let s1 := codes.foldl (fun (a c : Nat) => a + c) 0
  let s2 := codes.foldl (fun (a c : Nat) => a + c * c) 0
  (2 ^ 320 : Nat) * ((8192 * s2 : Nat) - (s1 * s1 : Nat) : Int) - 2 * (amps.1 * amps.1 + amps.2 * amps.2)

/-- 16,384 × A_REF over an amplitude, or `free` where the codes hold no amplitude. -/
def gainOf (aRef : Nat) (amps : Int × Int) (free : Nat) : Int :=
  let q := (amps.1 * amps.1 + amps.2 * amps.2).toNat
  if q = 0 then free % 65536 else roundSqrt ((16384 * aRef * 4096) ^ 2 * 2 ^ 320) q

structure TrimFit where
  coef : List Int
  residual : Nat
  deriving DecidableEq, Repr

/-- The fit over 8,192 pairs (R541); `f1` to `f3` are free values for a track without amplitude. -/
def fitCodes (aRef : Nat) (codes : List (Nat × Nat)) (f1 f2 f3 : Nat) : TrimFit :=
  let ss := codes.map (·.1)
  let cs := codes.map (·.2)
  let a := trackAmps (phaseSums ss)
  let b := trackAmps (phaseSums cs)
  let off (v : List Nat) : Int := roundDiv ((v.foldl (fun (x c : Nat) => x + c) 0 : Nat) - (32768 * 8192 : Nat) : Int) 8192
  let na := (a.1 * a.1 + a.2 * a.2).toNat
  let nb := (b.1 * b.1 + b.2 * b.2).toNat
  let x := b.1 * a.1 + b.2 * a.2
  let phase := if na * nb = 0 then toSigned 16 f3 else
    let m : Int := roundSqrt ((16384 * x.natAbs) ^ 2) (na * nb)
    if x < 0 then -m else m
  { coef := [off ss, off cs, gainOf aRef a f1, gainOf aRef b f2, phase]
    residual := roundSqrt (deviation ss a + deviation cs b).toNat (16384 * 8192 * 2 ^ 320) }

/-! Acceptance (R542). -/

def limitOf (limits i : Nat) : Nat := byteField limits (2 * (if i < 2 then 0 else if i < 4 then 1 else 2)) 2
def stepOf (limits i : Nat) : Nat := byteField limits (6 + 2 * (if i < 2 then 0 else if i < 4 then 1 else 2)) 2
/-- The MAX bounds of a delta. -/
def withinMax (limits : Nat) (d : List Int) : Bool := (List.range 5).all fun (i : Nat) => decide ((d.getD i 0).natAbs ≤ limitOf limits i)
def withinStep (limits : Nat) (d old : List Int) : Bool :=
  (List.range 5).all fun (i : Nat) => decide ((d.getD i 0 - old.getD i 0).natAbs ≤ stepOf limits i)
/-- The result a candidate would have: 1 APPLIED, 3 LIMIT, 4 RESIDUAL. -/
def candidateResult (limits : Nat) (d old : List Int) (residual : Nat) : Nat :=
  if !withinMax limits d || !withinStep limits d old then 3 else if byteField limits 12 2 < residual then 4 else 1

/-- A delta in use from the next conversion, slewing from the coefficients as they stand (R543). -/
def State.applyDelta (fe : Nat) (d : List Int) (s : State) : State :=
  s.setFront fe fun (x : FrontEnd) => { x with slewFrom := x.deltaNow, delta := d, slewDone := 0 }
/-- The TRIM journal entry of a delta (R544, Table 20.13). -/
def State.trimEntry (fe : Nat) (use : JournalUse) (s : State) : State :=
  s.journalAsk 0x40 (leBytes 1 fe ++ zeros 7 ++ deltaBytes (s.frontEnd fe).delta ++ zeros 6 ++ leBytes 8 s.dt) use
/-- The entry could not be made: the delta stays in use (R544). -/
def State.persistFail (fe : Nat) (s : State) : State := s.setFront fe fun (x : FrontEnd) => { x with result := 6 }

/-! The course of a trim. -/

def TrimKind.acc : TrimKind → Option Nat
  | .rotation => none | .run a => some a | .capture a _ => some a

/-- Result, status fields and event record of a trim that ends (Table 20.7). -/
def State.noteTrim (fe result residual : Nat) (candidate : List Int) (s : State) : State :=
  (s.setFront fe fun (x : FrontEnd) => { x with
    result := result
    residual := residual
    lastDt := s.dt
    applied := if result = 1 then inc32 x.applied else x.applied
    rejected := if result = 3 ∨ result = 4 then inc32 x.rejected else x.rejected }).logEvent 0xF004 fe result (leNat (deltaBytes candidate))

/-- A trim starts (R539): in place with its measurement, else with PARALLEL; a channel that is not VALID is skipped. -/
def State.beginTrim (fe : Nat) (kind : TrimKind) (s : State) : State × Bool :=
  let t : Trim :=
    { fe := fe, step := 1, inPlace := false, kind := kind, since := s.dt, cfg := s.dparam 0xF018, limits := s.dparam 0xF019 }
  if s.trimInPlace fe then
    ({ s with svc := { s.svc with trim := some { t with step := 3, inPlace := true, conv0 := conversionAt (s.dt + settleTime) } } }, true)
  else if s.fbkValid fe then ({ s with svc := { s.svc with trim := some t } }, true)
  else (s.noteTrim fe 7 0 [], false)

def State.trimDone (kind : TrimKind) (st : Nat) (s : State) : State :=
  match kind.acc with
  | some a => s.complete a st []
  | none => s

/-- Trims that waited start, as far as the spare is free for them. -/
def State.nextTrims : Nat → State → State
  | 0, s => s
  | n + 1, s =>
    match s.svc.trimQueue with
    | [] => s
    | q :: rest =>
      let s1 := { s with svc := { s.svc with trimQueue := rest } }
      if s.spareTaken q.1 then State.nextTrims n (s1.trimDone q.2 stTrimState)
      else
        let r := s1.beginTrim q.1 q.2
        if r.2 then r.1 else State.nextTrims n (r.1.trimDone q.2 stOk)

/-- `FBK.SPARE_MODE` takes its new value; the spare channel starts afresh (R309, R540). -/
def State.setSpare (v : Nat) (s : State) : State := if s.dparam 0xA006 = v then s else (s.setParam 0xA006 devScope v).restartTrack 8

/-- No trim is in progress any more: a write of `FBK.SPARE_MODE` that waited completes (R540), then the next trim starts. -/
def State.trimOver (s : State) : State :=
  let s1 := { s with svc := { s.svc with trim := none, spareWrite := [] } }
  let s2 := s.svc.spareWrite.foldl (fun (s : State) (w : Nat × Nat) => (s.setSpare w.2).complete w.1 stOk (leBytes 8 s.dt ++ zeros 8)) s1
  s2.nextTrims (s2.svc.trimQueue.length + 1)

/-- The trim in progress ends with a result. -/
def State.endTrim (t : Trim) (result : Nat) (s : State) : State :=
  ((s.noteTrim t.fe result t.residual t.candidate).trimDone t.kind stOk).trimOver

/-- The trim in progress is given up when its channel is restarted (R540). -/
def State.abandonTrim (c : Nat) (s : State) : State :=
  match s.svc.trim with
  | some t => if t.fe = c then s.endTrim t 5 else s
  | none => s
/-- A restart of a channel (R313, R324, R540). -/
def State.restartChannel (c : Nat) (s : State) : State := (s.abandonTrim c).restartTrack c

/-- Trims that commands asked for end with the commands. -/
def State.abandonCommandTrims (s : State) : State :=
  let s1 := { s with svc := { s.svc with trimQueue := s.svc.trimQueue.filter fun (q : Nat × TrimKind) => q.2 == TrimKind.rotation } }
  match s1.svc.trim with
  | some t => if t.kind = TrimKind.rotation then s1 else ((s1.noteTrim t.fe 5 t.residual t.candidate).trimDone t.kind stAborted).trimOver
  | none => s1

/-- A trim is asked for: it starts, or waits for the one in progress. -/
def State.askTrim (fe : Nat) (kind : TrimKind) (s : State) : State :=
  let s1 := { s with svc := { s.svc with trimQueue := s.svc.trimQueue ++ [(fe, kind)] } }
  if s.svc.trim.isNone then s1.nextTrims (s1.svc.trimQueue.length + 1) else s1

/-- The order of rotation: 8, 0, 1, …, 7 (R539). -/
def afterTrim (fe : Nat) : Nat := if fe = 8 then 0 else fe + 1

/-- TRIM_PERIOD (R539). -/
def State.trimPeriod (s : State) : State :=
  if s.dt < s.svc.lastPeriod + 16000000000 * byteField (s.dparam 0xF018) 0 4 then s
  else
    let s1 := { s with svc := { s.svc with lastPeriod := s.dt } }
    if s.assisted fnTrim || s.dparam 0xA006 == 1 then s1
    else ({ s1 with svc := { s1.svc with nextTrim := afterTrim s.svc.nextTrim } }).askTrim s.svc.nextTrim .rotation

/-- A parallel comparison that fails (R540). -/
def Trim.mismatch (t : Trim) (maxDiff : Nat) (pairError : Bool) : Bool := pairError || decide (byteField t.cfg 4 2 < maxDiff)

/-- TRIM_HANDOVER: 1,024 pairs compared; the channel takes the spare's codes (Table 20.6). -/
def State.trimHandover (maxDiff : Nat) (pairError : Bool) (s : State) : State :=
  match s.svc.trim with
  | some t =>
    if t.step ≠ 1 ∨ s.dt < t.since + compareTime then s
    else if t.mismatch maxDiff pairError then s.endTrim t 2
    else s.setTrim fun (t : Trim) => { t with step := 3, since := s.dt, conv0 := conversionAt (s.dt + settleTime) }
  | none => s

/-- The delta of an accepted trim goes into use and to the journal (R543, R544). -/
def State.acceptTrim (t : Trim) (s : State) : State :=
  let s1 := s.applyDelta t.fe t.candidate
  let s2 := if s.recorder.journal.bad then s1 else s1.trimEntry t.fe (.trim t.fe)
  let s3 := s2.endTrim t 1
  if s.recorder.journal.bad then s3.persistFail t.fe else s3

/-- A trim that ran to its end: an accepted delta, a captured set of codes, or the result of the fit. -/
def State.finishTrim (t : Trim) (s : State) : State :=
  match t.kind with
  | .capture _ addr =>
    let head := leBytes 8 t.conv0 ++ leBytes 1 t.fe ++ zeros 3 ++ leBytes 2 s.otp.aRef ++ zeros 50
    let s1 := s.dramWrite addr (head ++ t.codes.flatMap fun (c : Nat × Nat) => leBytes 2 c.1 ++ leBytes 2 c.2)
    (s1.trimDone t.kind stOk).trimOver
  | _ => if t.result = 1 then s.acceptTrim t else s.endTrim t t.result

/-- TRIM_FIT: 8,192 reference conversions are done (R541, R542). -/
def State.trimFit (codes : List (Nat × Nat)) (s : State) : State :=
  match s.svc.trim with
  | some t =>
    if t.step ≠ 3 ∨ s.dt < t.conv0 + 8191 * 3200 ∨ codes.length ≠ 8192 then s
    else
      let f1 := s.take
      let f2 := f1.2.take
      let f3 := f2.2.take
      let fit := fitCodes s.otp.aRef codes (Config.freeValue f1.1) (Config.freeValue f2.1) (Config.freeValue f3.1)
      let cand := List.zipWith (fun (a b : Int) => a - b) fit.coef (s.otp.factory.getD t.fe [])
      let t1 : Trim :=
        { t with
          step := 5, since := s.dt, codes := codes, candidate := cand, residual := fit.residual
          result := candidateResult t.limits cand (s.frontEnd t.fe).delta fit.residual }
      if t.inPlace then f3.2.finishTrim t1 else { f3.2 with svc := { f3.2.svc with trim := some t1 } }
  | none => s

/-- TRIM_HANDBACK: the front end takes its channel back (Table 20.6). -/
def State.trimHandback (maxDiff : Nat) (pairError : Bool) (s : State) : State :=
  match s.svc.trim with
  | some t =>
    if t.step ≠ 5 ∨ s.dt < t.since + compareTime then s
    else if t.mismatch maxDiff pairError then s.endTrim t 2
    else s.finishTrim t
  | none => s

/-- `SVC.TRIM_STATUS` of a front end (Table 20.11). -/
def State.trimStatus (s : State) (fe : Nat) : List Byte :=
  let x := s.frontEnd fe
  let slew := if x.slewDone < 1024 then 6 else 0
  let step := match s.svc.trim with
    | some t => if t.fe = fe then (if t.step = 3 ∧ t.conv0 ≤ s.dt then 4 else t.step) else slew
    | none => slew
  leBytes 1 x.result ++ leBytes 1 step ++ zeros 2 ++ leBytes 4 x.residual ++ leBytes 8 x.lastDt ++ leBytes 4 x.applied ++ leBytes 4 x.rejected ++ zeros 8
/-- `SVC.TRIM_COEF` of a front end. -/
def State.trimCoef (s : State) (fe : Nat) : List Byte :=
  padTo 16 (deltaBytes (s.otp.factory.getD fe [])) ++ padTo 16 (deltaBytes (s.frontEnd fe).delta) ++ padTo 16 (deltaBytes (s.calOf fe))

end Sys2Proof.Machine
end

