-- ==== Sys2Proof/Machine/Cycle.lean ====
section
/-! DEFINITION. The layer cycle (01): device states (R36 to R39), deferred parameters (R408), mode switches (R535, R537), deferred
table loads (R105, R178), the phases (R29 to R34) and the kettle fence (R165 to R167). -/

namespace Sys2Proof.Machine

def DevState.code : DevState → Nat
  | .off => 0 | .reset => 1 | .boot => 2 | .standby => 3 | .ready => 4 | .armed => 5 | .hold => 6 | .safe => 7 | .service => 8 | .recovery => 9
def Phase.code : Phase → Nat
  | .idle => 0 | .load => 1 | .expose => 2 | .kettle => 3 | .recoat => 4 | .image => 5
def Phase.ofCode : Nat → Phase
  | 1 => .load | 2 => .expose | 3 => .kettle | 4 => .recoat | 5 => .image | _ => .idle

/-! Causes (Table 01.15). -/
def causeCommand : Nat := 1
def causeInterlock : Nat := 2
def causeIsland : Nat := 3
def causeKettle : Nat := 4
def causePeer : Nat := 5
def causeSupply : Nat := 6
def causeThermal : Nat := 7
def causeStore : Nat := 8
def causeLink : Nat := 9
def causeSelfTest : Nat := 10

def State.setCyc (f : Cycle → Cycle) (s : State) : State := { s with cyc := f s.cyc }
/-- The layer-cycle function is host-assisted (R34). -/
def State.hostCycle (s : State) : Bool := s.assisted fnCycle
/-- A gate of `DEV.CYCLE_GATES` (Table 01.5). -/
def State.gate (s : State) (n : Nat) : Bool := (s.dparam 0x0014).testBit n

/-- WAIT (Table 01.8). -/
def State.waitCode (s : State) : Nat :=
  if s.cyc.state = .hold then 4
  else if s.cyc.boundary.isSome || s.mot.recoatWait then 2
  else if s.cyc.state = .armed ∧ s.hostCycle ∧ s.cyc.asked.isNone ∧ (s.cyc.phase = .idle ∨ s.cyc.phaseDone) then 3
  else if s.cyc.phase = .load ∧ s.activeBank.isNone ∧ s.nextActive.isNone then 1
  else 0
/-- `DEV.CYCLE_STATUS` (Table 01.6). -/
def State.cycleStatus (s : State) : Nat := s.cyc.phase.code + 4096 * s.waitCode

/-- A state transition: the freeze of the log ends (R511), STATE is recorded (Table 19.3), EMIT_EN follows (R131). -/
def State.setState (new : DevState) (cause : Nat) (s : State) : State :=
  let old := s.cyc.state
  ((s.unfreeze.setCyc fun (c : Cycle) => { c with state := new, cause := cause }).logEvent 0x0005 255
    (old.code + 256 * new.code + 65536 * cause) 0).noteEmit

/-! Deferred parameters (R408). -/

def isLoopCfg (id : Nat) : Bool := decide (0x6400 ≤ id ∧ id ≤ 0x64FF)

/-- What a fence-timed parameter's new value does beyond being in force; `old` is the value before. -/
def State.fenceEffect (id scope old : Nat) (s : State) : State :=
  if id = 0x5000 ∨ id = 0x5001 ∨ id = 0x5002 then (if s.linkUp scope then s.sendCfg scope 1 (s.cameraRecord scope) else s)
  else if id = 0x7001 then
    let l := if s.assisted fnLdg then s.ledger else s.ledger.sweepTo (tickU s.dt)
    { s with ledger := { l with tau := s.dparam 0x7001 } }
  else if id = 0x3001 then s.noteEmit
  else if isLoopCfg id then s.loopCfgChanged (id - 0x6400) old
  else s

def State.applyOne (p : PendingPar) (s : State) : State :=
  let old := s.param p.id p.scope
  (s.setParam p.id p.scope p.value).fenceEffect p.id p.scope old

/-- The result of a `PARAM_SET` (R408). -/
def State.setResult (s : State) (deferred superseded : Bool) : List Byte :=
  leBytes 8 s.dt ++ leBytes 1 (bit deferred + 2 * bit superseded) ++ zeros 7

/-- Every deferred write of the list completes. -/
def State.endDeferred (status : Nat) (ds : List Deferred) (s : State) : State :=
  ds.foldl (fun (s : State) (d : Deferred) => s.complete d.acc status (if status = stOk then s.setResult true d.superseded else [])) s

/-- Whether the values of pending `LOOP.CFG` writes cannot be placed (R209). -/
def State.cfgFail (s : State) (cfgs : List PendingPar) : Option Nat :=
  let moved := cfgs.any fun p => replaces (s.param p.id p.scope) p.value
  let t := cfgs.foldl (fun (s : State) (p : PendingPar) => s.setParam p.id p.scope p.value) s
  if !moved then none else if t.servoCapFail then some 0x6001 else if t.loopOver then some 0x6000 else none

/-- Pending values take effect and their commands complete (R408, R209). -/
def State.applyPending (s : State) : State :=
  let cfgs := s.parPending.filter fun p => isLoopCfg p.id
  let fail := s.cfgFail cfgs
  let moved := cfgs.any fun p => replaces (s.param p.id p.scope) p.value
  let now := if fail.isSome then s.parPending.filter fun p => !isLoopCfg p.id else s.parPending
  let lost (d : Deferred) : Bool := fail.isSome && cfgs.any fun p => p.acc == d.acc
  let ds := s.deferred
  let s1 := now.foldl (fun (s : State) (p : PendingPar) => s.applyOne p) { s with parPending := [], deferred := [] }
  let s2 := if moved && fail.isNone then (match s1.tryPlace with | some ps => s1.usePlacement ps | none => s1) else s1
  (s2.endDeferred stOk (ds.filter fun d => !lost d)).endDeferred (fail.getD stOk) (ds.filter lost)

/-- Pending values are discarded (R408: entry to SAFE). -/
def State.abortPending (s : State) : State :=
  let ds := s.deferred
  ({ s with parPending := [], deferred := [] }).endDeferred stAborted ds

/-! Mode switches (R535, R537). -/

/-- The modes become `new`: the ledger follows (R254) and MODE_SWITCH is recorded. -/
def State.switchModes (new : Nat) (s : State) : State :=
  if new = s.svc.modes then s
  else
    let s1 := { s with svc := { s.svc with modes := new } }
    let s2 := if new.testBit fnLdg = s.svc.modes.testBit fnLdg then s1 else s1.ledgerSwitched (new.testBit fnLdg)
    s2.logEvent 0xF003 255 0 new

/-- A mask with bit `n` set or clear. -/
def putBit (m n : Nat) (v : Bool) : Nat := if m.testBit n = v then m else if v then m + 2 ^ n else m - 2 ^ n
/-- Entries of `modeReq` at 32 or above stand for requests replaced or cancelled; their commands complete with the others. -/
def modesAfter (modes : Nat) (rs : List (Nat × Bool × Nat)) : Nat :=
  rs.foldl (fun (m : Nat) (r : Nat × Bool × Nat) => if r.1 < 32 then putBit m r.1 r.2.1 else m) modes
def State.modeAccs (s : State) : List Nat := (s.svc.modeReq.map (·.2.2)).eraseDups
def State.applyModes (s : State) : State :=
  let accs := s.modeAccs
  let new := modesAfter s.svc.modes s.svc.modeReq
  (({ s with svc := { s.svc with modeReq := [] } }).switchModes new).completeAll accs stOk
def State.abortModes (s : State) : State :=
  let accs := s.modeAccs
  ({ s with svc := { s.svc with modeReq := [] } }).completeAll accs stAborted

/-! Deferred table loads (R105, R178): the image is read and checked again. -/

/-- A field-correction slot rewritten: its BAD_FC bit clears (Table 17.2). -/
def State.goodFc (h : Nat) (s : State) : State := { s with mem := { s.mem with badFc := putBit s.mem.badFc h false } }
def State.takeFc (h : Nat) (s : State) : State :=
  match (s.trj h).fcLoad with
  | none => s
  | some l =>
    let im := s.dramRead l.addr fcImageLen
    let s1 := s.setTrj h fun (x : TrjHead) => { x with fcLoad := none }
    match fcFail im with
    | some st => s1.complete l.acc st []
    | none => if s.poisoned l.addr fcImageLen then (s1.poisonSeen l.addr fcImageLen).complete l.acc stIntegrity []
      else ((s1.setTrj h fun (x : TrjHead) => { x with fc := some (fcOf im) }).goodFc h).complete l.acc stOk []
def State.takeRatio (h : Nat) (s : State) : State :=
  match (s.mpsHead h).ratioLoad with
  | none => s
  | some l =>
    let im := s.dramRead l.addr 2176
    let s1 := s.setMps h fun (x : MpsHead) => { x with ratioLoad := none }
    match ratioFail im with
    | some st => s1.complete l.acc st []
    | none => if s.poisoned l.addr 2176 then (s1.poisonSeen l.addr 2176).complete l.acc stIntegrity []
      else (s1.setMps h fun (x : MpsHead) => { x with ratio := some { generation := field im 8 4, image := im } }).complete l.acc stOk []
def State.takeLoads (s : State) : State := (List.range 32).foldl (fun (s : State) (h : Nat) => (s.takeFc h).takeRatio h) s
def State.dropLoads (s : State) : State :=
  (List.range 32).foldl (fun (s : State) (h : Nat) =>
    let a := ((s.trj h).fcLoad.map (·.acc)).toList ++ ((s.mpsHead h).ratioLoad.map (·.acc)).toList
    ((s.setTrj h fun (x : TrjHead) => { x with fcLoad := none }).setMps h fun (x : MpsHead) => { x with ratioLoad := none }).completeAll a stAborted) s

/-- `LAS_HEAD_RESTORE`s that wait end with ABORTED; the bits stay set (R138). -/
def State.dropRestores (s : State) : State :=
  (List.range 32).foldl (fun (s : State) (h : Nat) =>
    let accs := (s.lasHead h).restore
    (s.setLas h fun (x : LasHead) => { x with restore := [] }).completeAll accs stAborted) s

/-- Everything that waited for a kettle fence takes effect: at the fence, or when ARMED or HOLD is left for READY. -/
def State.atFence (s : State) : State := s.applyPending.applyModes.restoreHeads

/-! The end of a layer's exposure. -/

/-- The layer engine lets go of the heads: their paths rest where they stand, their counts are kept. -/
def State.clearLay (s : State) : State :=
  let s1 := (List.range s.lay.heads.length).foldl (fun (s : State) (h : Nat) =>
    let p := (s.lay.head h).path
    s.setTrj h fun (x : TrjHead) => { x with
      path := { p with hist := [], wins := [], segs := [] }, shortRunups := add32 x.shortRunups p.shortRunups
      zeroLength := add32 x.zeroLength p.zeroLength }) s
  { s1 with lay := {} }

/-- An episode's build-record entry, at its end (R157, R496). -/
def State.episodeEntry (e : Episode) (s : State) : State :=
  s.buildEntry 0x13 (leBytes 1 e.h ++ leBytes 1 e.g ++ leBytes 1 (bit e.breach) ++ zeros 1 ++ leBytes 4 (roundSqrt e.minSq 1) ++
    leBytes 8 (s.layEnv.dtOf e.first) ++ leBytes 8 (s.layEnv.dtOf e.last))
def State.closeEpisodes (s : State) : State :=
  let es := s.lay.episodes
  es.foldl (fun (s : State) (e : Episode) => s.episodeEntry e) { s with lay := { s.lay with episodes := [] } }

def ShareState.code : ShareState → Nat
  | .out => 0 | .sheet => 1 | .pool => 2 | .idle => 3 | .guardHold => 4 | .finished => 5 | .lost => 6

/-- Lag entries (R167): times in ns, rounded once to µs; a head without a sheet record has SHEET_DONE 0. -/
def State.writeLags (s : State) : State :=
  let l := s.lay
  let env := s.layEnv
  let done (h : Nat) : Nat := ((l.head h).sheetDone.getD 0) * env.ts
  let live := (List.range l.heads.length).filter fun (h : Nat) => (l.head h).live && !(l.head h).remote
  let sum := live.foldl (fun (a h : Nat) => a + done h) 0
  let n := live.length
  (List.range l.heads.length).foldl (fun (s : State) (h : Nat) =>
    let x := l.head h
    let lag : Int := if n = 0 then 0 else roundDiv ((n * done h : Nat) - (sum : Int)) (n * 1000)
    let entry := if !x.takesPart then zeros 16
      else leBytes 4 (roundNat (done h) 1000) ++ leBytes 4 (ofSigned 32 lag) ++ leBytes 4 (roundNat (x.holdTime * env.ts) 1000) ++
        leBytes 2 (satNat 65535 x.claimed) ++ leBytes 1 (l.shareState env h).code ++ zeros 1
    s.setGut h fun (y : GutHead) => { y with lag := entry }) s

/-- The layer's lists, maps and cross-device table are retired at its fence (R165, R226, R494). -/
def State.retireLists (s : State) : State :=
  let n := s.cyc.layer
  { s with
    gut := { s.gut with replays := s.gut.replays.filter fun r => r.layer != n, diverged := false, firstDone := none }
    loop := { s.loop with maps := s.loop.maps.filter fun m => m.layer != n, mapOff := false }
    pair := { s.pair with tables := s.pair.tables.filter fun t => t.1 != n, checks := [], points := [], requests := [] } }

/-! Entry to the states. -/

/-- EXPOSE or RECOAT stops for HOLD (R37, R39, R109, R295). -/
def State.holdNow (cause : Nat) (s : State) : State :=
  let s1 := if s.exposing then s.setLay (s.lay.enterHold s.layEnv) else s
  s1.holdMotion.setState .hold cause
/-- Entry to HOLD, told to the peer (R493). -/
def State.enterHold (cause : Nat) (s : State) : State := if s.cyc.state = .armed then (s.holdNow cause).tellPeer evHold cause else s

/-- The aborted results of quire loads that have not begun (Table 02.17). -/
def State.abortQuire (s : State) : State :=
  s.sig.quire.foldl (fun (s : State) (e : QuireEntry) =>
    if e.completed then s
    else ({ s with sig := { s.sig with quire := s.sig.quire.map fun (x : QuireEntry) => if x.id = e.id then { x with completed := true } else x } }).complete
      e.acc stAborted (loadResult 0 0 7 0 0 s.dt s.dt)) s

/-- Service operations that SAFE ends; a firmware load ends with the standby set loading the active image again. -/
def State.abortService (s0 : State) : State :=
  let s := s0.abandonCommandTrims.completeAll (s0.ledger.slots.filterMap fun (x : SnapSlot) => x.load.map (·.1)) stAborted
  { s with
    svc := { s.svc with
      loopback := [], selfTest := none
      fw := { s.svc.fw with
        committing := none
        loading := none } }
    ledger := { s.ledger with readouts := [], slots := s.ledger.slots.map fun (x : SnapSlot) => if x.state = .loading then {} else { x with load := none } }
    loop := { s.loop with captures := s.loop.captures.filter fun (c : Capture) => c.state == .done }
    mem := s.mem }

/-- Entry to SAFE (R36 to R38): every command in progress but the one in hand ends ABORTED. -/
def State.enterSafe (cause : Nat) (self : Option Nat) (s : State) : State :=
  if s.cyc.state = .safe then s
  else
    let s1 := if s.recorder.sum.open_ then s.listUnexposed.layerSummary 2 else s
    let s2 := (s1.stopAllAxes.setState .safe cause).emdSafe.dropTriggers
    let s3 := s2.abortPending.abortModes.dropLoads.dropRestores.dropBanks.abortQuire.abortService
    let s4 := s3.clearLay.setCyc fun (c : Cycle) => { c with
      phase := .idle, phaseDone := false, boundary := none, layersLeft := 0, disarm := none, hostPhase := none, asked := none, holdAtFence := none }
    let s5 := { s4 with
      head := { s4.head with trj := s4.head.trj.map fun (x : TrjHead) => { x with homed := false } }
      gut := { s4.gut with lossWait := false, firstDone := none }
      mot := { s4.mot with recoatWait := false, steps := [] } }
    let accs := ((s5.host.inProg.filter fun i => !i.silent).map (·.acc)).filter fun a => some a != self
    ((s5.completeAll accs stAborted).safeCapture).tellPeer evHold cause

/-- Entry to STANDBY from READY, SERVICE, RECOVERY or BOOT (R78, R138, Table 18.7). -/
def State.enterStandby (cause : Nat) (s : State) : State :=
  let s1 := (s.setState .standby cause).dropBanks
  let s2 := ({ s1 with las := { s1.las with stopped := 0 }, gut := { s1.gut with begun := [], replays := [] } }).noteEmit.portsFollow
  if (s2.pair.mode == .split || s2.pair.mode == .granted) && s2.pair.link then s2.pairLink
  else if s2.isPaired && !s2.pair.link then s2.pairLink else s2

/-- The heads stand at `TRJ.HOME` (R113). -/
def State.homePath (s : State) (h : Nat) : HeadPath :=
  let v := s.param 0x2008 h
  let z := 256 * sparam s 0x2003 h
  { x := 65536 * (byteField v 0 3 : Nat), y := 65536 * (byteField v 3 3 : Nat), z := z, zTarget := z }

/-- What every entry to READY does (R113, R205, R219, Table 02.20): links accepted, paths home, streams at their rings' start. -/
def State.enterReady (s : State) : State :=
  let s1 := (s.setState .ready causeCommand).loopsReady
  let s2 := (List.range 32).foldl (fun (s : State) (h : Nat) =>
    let s' := s.setTrj h fun (x : TrjHead) => { x with path := s.homePath h, homed := true, strHead := 0, tails := [(0, s.dt)] }
    if s'.inProfile h && s'.linkUp h then s'.setHlk h fun (x : HlkPort) => { x with accepted := some x.cap, capChanged := false } else s') s1
  { s2 with sig := { s2.sig with everReady := true } }

/-- ARMED or HOLD is left for READY (Table 01.10). -/
def State.disarmNow (s : State) : State :=
  let held := s.cyc.state == .hold
  let acc := s.cyc.disarm
  let s1 := if held && s.recorder.sum.open_ then s.listUnexposed.layerSummary 1 else s
  let s2 := if held then (if s.recorder.sum.open_ then s1.retainBank else s1) else s1
  let s3 := (s2.dropTriggers.clearLay.atFence.takeLoads).setCyc fun (c : Cycle) => { c with
    phase := .idle, phaseDone := false, boundary := none, layersLeft := 0, disarm := none, asked := none, holdAtFence := none }
  let s4 := { s3 with
    gut := { s3.gut with lossWait := false, firstDone := none }
    mot := { s3.mot with recoatWait := false, steps := [] } }
  let s5 := (match s4.cyc.hostPhase with | some a => (s4.setCyc fun (c : Cycle) => { c with hostPhase := none }).complete a stAborted [] | none => s4).enterReady
  match acc with
  | some a => s5.complete a stOk []
  | none => s5

/-! Phases. -/

/-- KETTLE, RECOAT or IMAGE begins: camera triggers by role, SYNC_OUT and latches by phase. -/
def State.beginPhase (p : Phase) (s : State) : State :=
  let s1 := (s.setCyc fun (c : Cycle) => { c with phase := p, phaseDone := false, asked := none })
  let s2 := { s1 with img := { s1.img with missed := false } }
  let s3 := match p with | .kettle => s2.phaseTriggers 1 | .image => s2.phaseTriggers 2 | _ => s2
  (s3.syncPhase p.code).phaseEmd p.code

/-- A phase has ended: the `CYCLE_PHASE` that named it completes (R34). -/
def State.endPhase (s : State) : State :=
  let acc := s.cyc.hostPhase
  let s1 := s.setCyc fun (c : Cycle) => { c with phaseDone := true, hostPhase := none }
  match acc with
  | some a => s1.complete a stOk []
  | none => s1

/-- A boundary's wait, when a gate or another rule asks for it (R32). -/
def State.waitAt (b : Boundary) (go : Bool) (s : State) : State := if go then s.setCyc fun (c : Cycle) => { c with boundary := some b } else s

/-- RECOAT may begin on a paired device only after both fences (R493). -/
def State.fencesDone (s : State) : Bool := !s.isPaired || (s.pair.fenceSent && s.pair.fenceGot)

/-- The kettle fence completes (R30, R165 to R167, Table 01.4): hand-over, everything pending, KETTLE. -/
def State.kettleFence (s : State) : State :=
  let s0 := s.depositsTo s.dt
  let s1 := (s0.setLay (s0.lay.leavePools s0.layEnv)).listUnexposed.closeEpisodes
  let s2 := (s1.timeEntry.writeLags.fixReadouts true s1.dt).flushRecords.mpsFlush
  let sum := { s2.recorder.sum with exposed := s2.exposedCount, diverged := s2.recorder.sum.diverged || s2.gut.diverged }
  let s3 := { s2 with
    recorder := { s2.recorder with sum := sum }
    head := { s2.head with trj := s2.head.trj.map fun (x : TrjHead) => { x with fenceDrift := x.drift } } }
  let s4 := s3.clearLay.retireLists.dropSnapshot.atFence.handOver
  let s5 := { s4 with loop := { s4.loop with
      ruleLag := s4.loop.ruleLag.zipIdx.map (fun (e : Nat × Nat) => (s4.loop.lagNext.getD e.2 none).getD e.1), lagNext := List.replicate 32 none } }
  let s6 := (s5.endPhase.tellPeer evFence 0).setPair fun (x : PairState) => { x with fenceSent := true }
  let s7 := if s6.hostCycle then s6 else s6.beginPhase .kettle
  match s7.cyc.holdAtFence with
  | some c => (s7.setCyc fun (x : Cycle) => { x with holdAtFence := none }).enterHold c
  | none => s7

/-- KETTLE ends once its frames are in (R29, R263): pending tables are taken, and the boundary before RECOAT is reached (R32). -/
def State.kettleEnd (s : State) : State :=
  if s.cyc.phase ≠ .kettle ∨ s.cyc.phaseDone ∨ s.cyc.state ≠ .armed ∨ !s.framesDone 1 false then s
  else
    let loss := s.dparam 0x4003 == 1 && decide (0 < s.recorder.sum.unexposed)
    let s1 := s.takeLoads.endPhase.waitAt .beforeRecoat
      (s.gate 1 || loss || (s.dparam 0x800A == 1 && s.img.missed) || (s.dparam 0xE108 == 1 && s.recorder.sum.strictGap))
    { s1 with gut := { s1.gut with lossWait := loss } }

/-- RECOAT begins (R29, R32, R299, R306, R307, R493). -/
def State.recoatStart (s : State) : State :=
  if s.cyc.phase ≠ .kettle ∨ !s.cyc.phaseDone ∨ s.cyc.state ≠ .armed ∨ s.cyc.boundary.isSome ∨ s.mot.stream.running ∨ !s.fencesDone ∨ s.pair.mode = .split ∨
      (s.hostCycle && s.cyc.asked != some .recoat) then s
  else
    let s1 := s.beginPhase .recoat
    if s1.motAssisted then ({ s1 with mot := { s1.mot with steps := [], recoatWait := false } }).streamStart (s1.dt / 16000 + 1) none true
    else s1.recoatBegin

def State.recoatOver (s : State) : Bool :=
  if s.motAssisted then !s.mot.stream.running && !s.mot.stream.recoat else s.recoatDone

/-- RECOAT ends (R299, R301, R306): the boundary before IMAGE, or IMAGE; a failed step with nothing running waits for a release. -/
def State.recoatEnd (s : State) : State :=
  if s.cyc.phase ≠ .recoat ∨ s.cyc.phaseDone ∨ s.cyc.state ≠ .armed then s
  else if s.recoatOver then
    let s1 := s.endPhase.waitAt .beforeImage (s.gate 2)
    if s1.cyc.boundary.isSome || s1.hostCycle then s1 else s1.beginPhase .image
  else if !s.motAssisted && s.recoatStuck then { s with mot := { s.mot with recoatWait := true } }
  else s

/-! Stitch (R168 to R171). -/

/-- The result of one head (Table 05.6). -/
def stitchResult (f : StitchFit) (result layer : Nat) : List Byte :=
  leBytes 2 (satNat 65535 f.marks) ++ leBytes 1 result ++ zeros 1 ++ leBytes 4 (satNat 4294967295 f.residual) ++ leBytes 4 (ofSigned 32 (satSigned 32 f.d.ox)) ++
    leBytes 4 (ofSigned 32 (satSigned 32 f.d.oy)) ++ leBytes 4 (ofSigned 32 (satSigned 32 f.d.g)) ++ leBytes 4 (ofSigned 32 (satSigned 32 f.d.rot)) ++
    leBytes 4 layer ++ zeros 4

/-- The measured centre of an entry's mark (R169); `none` for an invalid mark. -/
def State.measureMark (s : State) (layer : Nat) (e : StitchEntry) : Option Mark :=
  match (s.port e.port).exposure with
  | none => none
  | some (n, rows) =>
    if n ≠ layer then none
    else
      let nx : Int := 65536 * (e.x : Nat)
      let ny : Int := 65536 * (e.y : Nat)
      let half : Int := 262144 * (e.half : Nat)
      let map := s.param 0x8008 e.port
      let level := s.dparam 0x4023
      let px : List (Nat × Int × Int) := rows.zipIdx.flatMap fun (r : List Nat × Nat) => r.1.zipIdx.filterMap fun (c : Nat × Nat) =>
        if c.1 ≤ level then none
        else match bedMapPoint map c.2 r.2 with
          | some q => if (q.1 - nx).natAbs ≤ half.toNat ∧ (q.2 - ny).natAbs ≤ half.toNat then some (c.1, q.1, q.2) else none
          | none => none
      if px.length < s.dparam 0x4024 then none
      else
        let w : Int := sumBy (fun (p : Nat × Int × Int) => p.1) px
        some { nx := nx, ny := ny, mx := ratioRound (sumBy (fun (p : Nat × Int × Int) => p.1 * p.2.1) px) w,
               my := ratioRound (sumBy (fun (p : Nat × Int × Int) => p.1 * p.2.2) px) w }

/-- The stitch of one head at the end of IMAGE (R170, R171). -/
def State.stitchHead (layer : Nat) (es : List StitchEntry) (h : Nat) (s : State) : State :=
  if s.param 0x4020 h ≠ 1 then s
  else
    let t := s.trj h
    let c := match t.fc with | some f => (65536 * (f.ox + 128 * 2 ^ f.pitch : Nat), 65536 * (f.oy + 128 * 2 ^ f.pitch : Nat)) | none => (0, 0)
    let ms := (es.filter fun e => e.head == h).filterMap (s.measureMark layer)
    let f : StitchFit := if ms.isEmpty then { marks := 0, d := {}, residual := 0, offsetOnly := false } else stitchFit c.1 c.2 ms
    let lim := s.param 0x4021 devScope
    let tgt := stitchTarget t.fenceDrift f.d (byteField lim 0 4) (byteField lim 4 4)
    let result : Nat := if ms.isEmpty then 5 else if s.dparam 0x4022 * 262144 < f.residual then 3 else if t.moved then 4
      else if tgt.2 then 6 else if f.offsetOnly then 2 else 1
    let bytes := stitchResult f result layer
    let s1 := (s.setGut h fun (x : GutHead) => { x with stitch := bytes }).buildEntry 0x16 (leBytes 1 h ++ zeros 7 ++ bytes)
    if result = 1 ∨ result = 2 ∨ result = 6 then s1.setParam 0x2018 h tgt.1.nat else s1

/-- The stitch write of the layer (R171); the table is used up (log entry 43). -/
def State.stitchLayer (s : State) : State :=
  let layer := s.cyc.layer
  match s.gut.stitch.find? fun t => t.1 == layer with
  | none => s
  | some t =>
    let s1 := (List.range 32).foldl (fun (s : State) (h : Nat) => s.stitchHead layer t.2 h) s
    { s1 with gut := { s1.gut with stitch := s1.gut.stitch.filter fun x => x.1 != layer } }

/-! The end of a layer. -/

/-- The cycle goes on to the next layer, or to IDLE (R29, R33, R34). -/
def State.nextLayer (s : State) : State :=
  let stop := s.dparam 0x800A == 1 && s.img.missed
  let more := !s.hostCycle && decide (0 < s.cyc.layersLeft)
  let s1 := s.setCyc fun (c : Cycle) => { c with phase := if more then .load else .idle, phaseDone := false }
  s1.waitAt .afterImage ((more && s.gate 3) || stop)

/-- IMAGE ends once its frames and statistics are in (R29, R33, R36, R171, R263, R517). -/
def State.imageEnd (s : State) : State :=
  if s.cyc.phase ≠ .image ∨ s.cyc.phaseDone ∨ s.cyc.state ≠ .armed ∨ !s.framesDone 2 true then s
  else
    let s1 := ((s.stitchLayer.layerSummary 0).tellPeer evImage 0).setPair fun (x : PairState) => { x with imageSent := true }
    let s2 := (s1.setCyc fun (c : Cycle) => { c with layersLeft := c.layersLeft - 1 }).endPhase
    let s3 := { s2 with img := { s2.img with ports := s2.img.ports.map fun (x : ImgPort) => { x with exposure := none } } }
    if s3.cyc.disarm.isSome then s3.disarmNow else s3.nextLayer

/-- KETTLE_TIMEOUT (R166): HOLD, with each head's state in the event record. -/
def State.kettleTimeout (s : State) : State :=
  match s.gut.firstDone with
  | none => s
  | some d =>
    if s.cyc.state ≠ .armed ∨ !s.exposing ∨ s.dt < d + 16000000 * s.dparam 0x4004 then s
    else
      let env := s.layEnv
      let mask (st : ShareState) : Nat := (List.range s.lay.heads.length).foldl (fun (a h : Nat) => if s.lay.shareState env h = st ∧ h < 32 then a + 2 ^ h else a) 0
      (s.logEvent 0x4003 255 0 (beside (beside (mask .finished) 4 (mask .lost)) 8 (mask .guardHold))).enterHold causeKettle

/-! Releases and the cycle commands (R32 to R34). -/

/-- `CYCLE_RELEASE` passes the boundary the sequencer waits at; a recoat wait is another release's (R32, R301). -/
def State.release (s : State) : State :=
  match s.cyc.boundary with
  | none => if s.mot.recoatWait then s.recoatRelease else s
  | some b =>
    let s1 := s.setCyc fun (c : Cycle) => { c with boundary := none }
    let s2 := { s1 with gut := { s1.gut with lossWait := false } }
    if b = .beforeImage ∧ s2.cyc.phase = .recoat ∧ (!s2.hostCycle ∨ s2.cyc.asked = some .image) then s2.beginPhase .image else s2

/-- Whether a `CYCLE_PHASE` that names `p` names the next permitted phase (R34). -/
def State.phaseNext (s : State) (p : Phase) : Bool :=
  s.cyc.asked.isNone &&
    (match p with
     | .expose => s.cyc.phase == .idle
     | .kettle => s.cyc.phase == .expose && s.cyc.phaseDone
     | .recoat => s.cyc.phase == .kettle && s.cyc.phaseDone
     | .image => s.cyc.phase == .recoat && s.cyc.phaseDone
     | _ => false)
/-- The phase that a `CYCLE_PHASE` names: it begins at once, or once its conditions hold. -/
def State.askPhase (acc : Nat) (p : Phase) (s : State) : State :=
  let s1 := s.setCyc fun (c : Cycle) => { c with hostPhase := some acc, asked := some p }
  match p with
  | .expose => s1.setCyc fun (c : Cycle) => { c with phase := .load, phaseDone := false }
  | .kettle => s1.beginPhase .kettle
  | .image => if s1.cyc.boundary.isNone then s1.beginPhase .image else s1
  | _ => s1

end Sys2Proof.Machine
end

