-- ==== Sys2Proof/Machine/LinkRows.lean ====
section
/-! DEFINITION. The events and commands of the head links (13), frames of the slots apart. -/

namespace Sys2Proof.Machine

/-- The head ports of the grade (R2). -/
def State.isPort (s : State) (h : Nat) : Bool := decide (h < s.heads)

/-- What the loss of a port's link does by device state (R365). -/
def State.linkGone (h : Nat) (s : State) : State :=
  if s.cyc.state = .armed ∨ s.cyc.state = .hold then (s.noteEmit).loseHead h
  else if s.cyc.state = .ready ∧ s.inProfile h then s.enterStandby causeLink
  else s

/-- A link loss (R363, R365): causes 0 lock, 1 four frames, 2 configuration record. -/
def State.linkLoss (h cause : Nat) (s : State) : State :=
  if !s.linkUp h then s
  else
    let s1 := (s.toAcquire h).setHlk h fun (x : HlkPort) => { x with losses := inc32 x.losses, lock := x.lock && cause != 0 }
    (s1.logEvent 0xC001 h cause 0).linkGone h

/-- A port trains again by command or write (Table 13.10, Table 13.17). -/
def State.portRetrain (h : Nat) (s : State) : State := if s.linkUp h then (s.toAcquire h).linkGone h else s.retrain h

/-- LINK_LOSS: block lock lost, or four consecutive SAMPLE_UP frames missing or discarded. -/
def execLinkLoss (t h : Nat) (lock : Bool) (s : State) : Host.Outcome State Fault Refusal :=
  s.event t fun s => if lock then s.linkLoss h 0 else if 4 ≤ (s.hlk h).missRun then s.linkLoss h 1 else s

/-- CFG_ACK_TIMEOUT: a configuration record sent in 64 slots without acknowledgement (R353). -/
def execCfgAckTimeout (t h : Nat) (s : State) : Host.Outcome State Fault Refusal :=
  s.event t fun s => match (s.hlk h).cfg with | some c => if 64 ≤ c.slots then s.linkLoss h 2 else s | none => s

/-- BLOCK_LOCK_LOST in CAPABILITY, CALIBRATE or FAULT (R363, Table 13.10); of an UP port the loss is LINK_LOSS's. -/
def execBlockLockLost (t h : Nat) (s : State) : Host.Outcome State Fault Refusal :=
  s.event t fun s =>
    match (s.hlk h).link with
    | .capability | .calibrate | .fault => (s.toAcquire h).setHlk h fun (x : HlkPort) => { x with lock := false }
    | _ => s

/-- BLOCK_LOCK_HELD for 1 ms in ACQUIRE (Table 13.10). -/
def execBlockLockHeld (t h : Nat) (s : State) : Host.Outcome State Fault Refusal :=
  s.event t fun s =>
    if (s.hlk h).link = .acquire ∧ (s.hlk h).since + 16000000 ≤ s.dt then
      s.setHlk h fun (x : HlkPort) => { x with link := .capability, since := s.dt, lock := true, lockSince := s.dt - 16000000 }
    else s

/-- CAP_DOWN_SEND: the device's capability block, every 10 µs in CAPABILITY (Table 13.10). -/
def execCapDownSend (t h : Nat) (s : State) : Host.Outcome State Fault Refusal :=
  s.event t fun s => if (s.hlk h).link = .capability then s.send (.headFrame h (framed (s.capDown h))) else s

/-- CAP_UP (R358). -/
def execCapUp (t h : Nat) (frame : List Byte) (s : State) : Host.Outcome State Fault Refusal := s.event t (State.capUp h frame)

/-- ECHO_DOWN_SEND, once per microsecond in CALIBRATE (R359). -/
def execEchoDownSend (t h : Nat) (s : State) : Host.Outcome State Fault Refusal :=
  s.event t fun s => if (s.hlk h).link = .calibrate then s.send (.headFrame h (framed (s.echoDown h))) else s

/-- ECHO_UP (R359): T4 is the DT of its arrival. -/
def execEchoUp (t h : Nat) (frame : List Byte) (s : State) : Host.Outcome State Fault Refusal :=
  s.event t fun s => s.echoUp h s.dt frame

/-- TRAINING_TIMEOUT: 10 ms in CAPABILITY or CALIBRATE (Table 13.10). -/
def execTrainingTimeout (t h : Nat) (s : State) : Host.Outcome State Fault Refusal :=
  s.event t fun s =>
    let x := s.hlk h
    if (x.link = .capability ∨ x.link = .calibrate) ∧ x.since + 160000000 ≤ s.dt then s.toAcquire h else s

/-- LOOPBACK_END (R368): the result, then the port trains again. -/
def execLoopbackEnd (t h bits errors : Nat) (s : State) : Host.Outcome State Fault Refusal :=
  s.event t fun s =>
    match (s.hlk h).loop with
    | some l => if l.endsAt ≤ s.dt then (s.toAcquire h).complete l.acc stOk (leBytes 8 bits ++ leBytes 8 errors) else s
    | none => s

/-- HLK_RETRAIN (R369): one port, or every port of the grade. -/
def hlkRetrainSpec : CmdSpec where
  opcode := 0xC000
  lenOk p := p.params.isEmpty
  stateFail _ s := permitIn fromStandby s
  checks p s := [(!s.isPort p.scope && p.scope != 0xFFFF, stRange), (p.scope != 0xFFFF && s.portGanged p.scope, 0xC000)]
  run _ p s :=
    if p.scope = 0xFFFF then ((List.range s.heads).foldl (fun (s : State) (h : Nat) => s.portRetrain h) s, .done stOk [])
    else (s.portRetrain p.scope, .done stOk [])
def execHlkRetrain (p : Packet) (s : State) : Host.Outcome State Fault Refusal := serve hlkRetrainSpec p s

/-- A loopback starts; depth HEAD sends its record first (R368). -/
def State.loopbackStart (h acc depth pattern ms : Nat) (s : State) : State :=
  let s1 := (s.startTracks h fun _ => false).setHlk h fun (x : HlkPort) => { x with
    link := .loopback, since := s.dt, loop := some { acc := acc, depth := depth, pattern := pattern, endsAt := s.dt + 16000000 * ms } }
  if depth = 3 then s1.sendCfg h 3 (leBytes 1 pattern) else s1
/-- DEPTH OFF ends a loopback that runs (log entry 45). -/
def State.loopbackOff (h : Nat) (s : State) : State :=
  match (s.hlk h).loop with
  | some l => (s.toAcquire h).complete l.acc stAborted []
  | none => s

/-- HLK_LOOPBACK (R368, R369). -/
def hlkLoopbackSpec : CmdSpec where
  opcode := 0xC001
  lenOk p := p.params.length == 8
  stateFail _ s := permitIn [.service] s
  checks p s := [
    (!s.isPort p.scope || decide (3 < p.fld 0 1 ∨ 1 < p.fld 1 1) || !p.zeroAt 2 2 || decide (p.fld 4 4 = 0 ∨ 3600000 < p.fld 4 4), stRange),
    (s.portGanged p.scope, 0xC000), ((s.hlk p.scope).link == .disabled, 0xC001), (p.fld 0 1 == 3 && !s.linkUp p.scope, 0xC002),
    (p.fld 0 1 != 0 && (s.hlk p.scope).loop.isSome, stBusy)]
  resultLen _ _ := 16
  run acc p s :=
    if p.fld 0 1 = 0 then (s.loopbackOff p.scope, .done stOk (zeros 16))
    else (s.loopbackStart p.scope acc (p.fld 0 1) (p.fld 1 1) (p.fld 4 4), .accepted)
def execHlkLoopback (p : Packet) (s : State) : Host.Outcome State Fault Refusal := serve hlkLoopbackSpec p s

end Sys2Proof.Machine
end

