-- ==== Sys2Proof/Machine/CycRows.lean ====
section
/-! DEFINITION. The state and cycle commands (Table 01.12) and the interlock's events (R130 to R134). -/

namespace Sys2Proof.Machine

/-! Profiles (R41 to R45). -/

/-- The descriptor of a packet, filled for its preset. -/
def State.packetProfile (s : State) (p : Packet) : Profile := fillProfile s.heads (readDescriptor p.params)
/-- The result of a budget-checking command whose status is OK or BUDGET (R45). -/
def budgetResult (f : Packet → State → Profile) (p : Packet) (s : State) (st : Nat) : List Byte :=
  if st = stOk ∨ st = stBudget then (s.budget (f p s)).bytes else []

def profileChecks (p : Packet) (s : State) : List (Bool × Nat) :=
  [noScope p, (profileRange s.heads p.params, stRange), (s.budgetFails (s.packetProfile p), stBudget)]

/-- The profile is in force: trained ports of a new slot length train again (R351, R359), ports follow ganging (R108), another pitch
clears the ledger (R244). -/
def State.selectProfile (q : Profile) (s : State) : State :=
  let old := s.cyc.profile
  let s1 := s.setCyc fun (c : Cycle) => { c with profile := q }
  let s2 := if q.ts = old.ts then s1 else (List.range 32).foldl (fun (s : State) (h : Nat) => s.retrain h) s1
  let s3 := s2.portsFollow
  let s4 := if q.pitch = old.pitch then s3 else s3.clearLedger 2
  if s4.pair.mode = .linking then s4.pairLink else s4

def profileSelectSpec : CmdSpec where
  opcode := 0x0020
  lenOk p := p.params.length == 16
  stateFail _ s := permitIn [.standby] s
  checks := profileChecks
  resultLen _ _ := 24
  failResult := budgetResult fun p s => s.packetProfile p
  run _ p s := (s.selectProfile (s.packetProfile p), .done stOk (s.budget (s.packetProfile p)).bytes)
def execProfileSelect (p : Packet) (s : State) : Host.Outcome State Fault Refusal := serve profileSelectSpec p s

def profileCheckSpec : CmdSpec where
  opcode := 0x0021
  lenOk p := p.params.length == 16
  stateFail _ s := permitIn [.standby, .ready, .armed, .hold, .service] s
  checks := profileChecks
  resultLen _ _ := 24
  failResult := budgetResult fun p s => s.packetProfile p
  run _ p s := (s, .done stOk (s.budget (s.packetProfile p)).bytes)
def execProfileCheck (p : Packet) (s : State) : Host.Outcome State Fault Refusal := serve profileCheckSpec p s

/-! States (R36, Table 01.10). -/

/-- READY_ENTER. -/
def readyEnterSpec : CmdSpec where
  opcode := 0x0022
  lenOk p := p.params.isEmpty
  stateFail _ s := permitIn [.standby] s
  checks p s := noScope p :: s.readyChecks ++ [(s.budgetFails s.cyc.profile, stBudget)]
  resultLen _ _ := 24
  failResult := budgetResult fun _ s => s.cyc.profile
  run _ _ s := (s.enterReady, .done stOk (s.budget s.cyc.profile).bytes)
def execReadyEnter (p : Packet) (s : State) : Host.Outcome State Fault Refusal := serve readyEnterSpec p s

/-- STANDBY_ENTER. -/
def standbyEnterSpec : CmdSpec where
  opcode := 0x0023
  lenOk p := p.params.isEmpty
  stateFail _ s := permitIn [.ready, .service] s
  checks p _ := [noScope p]
  run _ _ s := (s.enterStandby causeCommand, .done stOk [])
def execStandbyEnter (p : Packet) (s : State) : Host.Outcome State Fault Refusal := serve standbyEnterSpec p s

/-- ARM (R131, R135). -/
def State.armNow (s : State) : State :=
  ({ s with las := { s.las with trip := false } }.setCyc fun (c : Cycle) => { c with armedAt := s.dt, phase := .idle, phaseDone := false }).setState .armed causeCommand
def armSpec : CmdSpec where
  opcode := 0x0024
  lenOk p := p.params.isEmpty
  critical _ _ := true
  stateFail _ s := permitIn [.ready] s
  checks p s := noScope p :: s.armChecks ++ [(s.budgetFails s.cyc.profile, stBudget)]
  resultLen _ _ := 24
  failResult := budgetResult fun _ s => s.cyc.profile
  run _ _ s := (s.armNow, .done stOk (s.budget s.cyc.profile).bytes)
def execArm (p : Packet) (s : State) : Host.Outcome State Fault Refusal := serve armSpec p s

/-- DISARM, of this device or of its peer: at once, or at the end of the layer's IMAGE (R36, R493). -/
def State.disarm (acc : Nat) (s : State) : State :=
  let s1 := s.setCyc fun (c : Cycle) => { c with disarm := some acc }
  if s.cyc.state = .hold ∨ s.cyc.phase = .idle then s1.disarmNow else s1
def disarmSpec : CmdSpec where
  opcode := 0x0025
  lenOk p := p.params.isEmpty
  stateFail _ s := permitIn [.armed, .hold] s
  checks p _ := [noScope p]
  run acc _ s :=
    let s1 := s.tellPeer evDisarm 0
    if s.cyc.state = .hold ∨ s.cyc.phase = .idle then
      let old := s.cyc.disarm
      let s2 := (s1.setCyc fun (c : Cycle) => { c with disarm := none }).disarmNow
      ((match old with | some a => s2.complete a stOk [] | none => s2), .done stOk [])
    else match s.cyc.disarm with
      | some _ => (s1, .done stOk [])
      | none => (s1.disarm acc, .accepted)
def execDisarm (p : Packet) (s : State) : Host.Outcome State Fault Refusal := serve disarmSpec p s

/-- HOLD (R36, R37, R40). -/
def holdSpec : CmdSpec where
  opcode := 0x0026
  lenOk p := p.params.isEmpty
  stateFail _ s := permitIn [.armed] s
  checks p _ := [noScope p]
  run _ _ s := (s.enterHold causeCommand, .done stOk [])
def execHold (p : Packet) (s : State) : Host.Outcome State Fault Refusal := serve holdSpec p s

/-- RESUME (R39, R131, R166, R295, R493): the layer goes on from the first sample boundary that `LAS.EMIT_LEAD` permits. -/
def State.resumeNow (s : State) : State :=
  let s1 := ({ s with
      las := { s.las with trip := false }
      gut := { s.gut with firstDone := s.gut.firstDone.map fun _ => s.dt } }).setCyc fun (c : Cycle) => { c with armedAt := s.dt }
  let s2 := (s1.setState .armed causeCommand).resumeMotion
  let wait := s.isPaired && !s.pair.resumedGot
  (s2.setPair fun (x : PairState) => { x with resumeWait := wait, resumedGot := false }).tellPeer evResumed 0
def resumeSpec : CmdSpec where
  opcode := 0x0027
  lenOk p := p.params.isEmpty
  critical _ _ := true
  stateFail _ s := permitIn [.hold] s
  checks p s := [noScope p, (s.interlockOpen, stInterlockOpen), (s.las.discrepancy, stIntlkDiscrepancy), (s.noWitness, 0xC081)]
  run _ _ s := (s.resumeNow, .done stOk [])
def execResume (p : Packet) (s : State) : Host.Outcome State Fault Refusal := serve resumeSpec p s

/-- SAFE_REQUEST (R36, R38, R40). -/
def safeRequestSpec : CmdSpec where
  opcode := 0x0028
  lenOk p := p.params.isEmpty
  stateFail _ s := permitIn [.standby, .ready, .armed, .hold, .service, .recovery] s
  checks p _ := [noScope p]
  run acc _ s := (s.enterSafe causeCommand (some acc), .done stOk [])
def execSafeRequest (p : Packet) (s : State) : Host.Outcome State Fault Refusal := serve safeRequestSpec p s

/-- An island whose self-test has passed returns to service in RECOVERY (Table 20.1). -/
def State.islandsReturn (s : State) : State :=
  { s with svc := { s.svc with islands := s.svc.islands.map fun (x : Island) => if x.passed then { x with status := .inService, passed := false } else x } }

/-- RECOVER (R36, R344): SAFE is left for RECOVERY. -/
def recoverSpec : CmdSpec where
  opcode := 0x0029
  lenOk p := p.params.isEmpty
  critical _ _ := true
  stateFail _ s := permitIn [.safe] s
  checks p _ := [noScope p]
  run _ _ s := ((s.setState .recovery causeCommand).islandsReturn.emdResume, .done stOk [])
def execRecover (p : Packet) (s : State) : Host.Outcome State Fault Refusal := serve recoverSpec p s

/-- A fault cause remains: the guard, motion or memory island is not in service (R36, R530). -/
def State.faultActive (s : State) : Bool := ([islandGuard, islandMotion, islandMemory] : List Nat).any fun i => !s.islandIn i
/-- RECOVERY_EXIT (R36, R244, R248). -/
def recoveryExitSpec : CmdSpec where
  opcode := 0x002A
  lenOk p := p.params.isEmpty
  stateFail _ s := permitIn [.recovery] s
  checks p s := [noScope p, (s.faultActive, stFaultActive)]
  run _ _ s :=
    let s1 := if s.ledger.stopped then s.clearLedger 5 else s
    (s1.enterStandby causeCommand, .done stOk [])
def execRecoveryExit (p : Packet) (s : State) : Host.Outcome State Fault Refusal := serve recoveryExitSpec p s

/-- SERVICE_ENTER. -/
def serviceEnterSpec : CmdSpec where
  opcode := 0x002B
  lenOk p := p.params.isEmpty
  critical _ _ := true
  stateFail _ s := permitIn [.standby] s
  checks p _ := [noScope p]
  run _ _ s := (s.setState .service causeCommand, .done stOk [])
def execServiceEnter (p : Packet) (s : State) : Host.Outcome State Fault Refusal := serve serviceEnterSpec p s

/-- DEVICE_RESET (R556): RESET follows after 1 ms; nothing starts in between. -/
def deviceResetSpec : CmdSpec where
  opcode := 0x002C
  lenOk p := p.params.isEmpty
  critical _ _ := true
  stateFail _ s := permitIn fromStandby s
  checks p _ := [noScope p]
  run _ _ s := ({ s with host := { s.host with resetAt := some (s.dt + 16000000) } }, .done stOk [])
def execDeviceReset (p : Packet) (s : State) : Host.Outcome State Fault Refusal := serve deviceResetSpec p s

/-! The cycle (R32 to R34). -/

/-- CYCLE_RUN (R33): in a cycle that runs, N replaces the count. -/
def State.cycleRun (n : Nat) (s : State) : State :=
  let s1 := s.setCyc fun (c : Cycle) => { c with layersLeft := n }
  if s.cyc.phase = .idle ∧ 0 < n then (s1.setCyc fun (c : Cycle) => { c with phase := .load, phaseDone := false }).waitAt .beforeExpose (s.gate 0)
  else s1
def cycleRunSpec : CmdSpec where
  opcode := 0x0030
  lenOk p := p.params.length == 8
  stateFail _ s := if s.hostCycle then some stState else permitIn [.armed] s
  checks p _ := [(p.scope != 0xFFFF || !p.zeroAt 4 4, stRange)]
  run _ p s := (s.cycleRun (p.fld 0 4), .done stOk [])
def execCycleRun (p : Packet) (s : State) : Host.Outcome State Fault Refusal := serve cycleRunSpec p s

/-- CYCLE_PHASE (R34). -/
def cyclePhaseSpec : CmdSpec where
  opcode := 0x0031
  lenOk p := p.params.length == 8
  stateFail _ s := if s.hostCycle then permitIn [.armed] s else some stState
  checks p s := [
    (p.scope != 0xFFFF || !p.zeroAt 1 7 || decide (p.fld 0 1 = 0 ∨ 5 < p.fld 0 1), stRange),
    (!s.phaseNext (Phase.ofCode (p.fld 0 1)), stPhaseOrder)]
  run acc p s := (s.askPhase acc (Phase.ofCode (p.fld 0 1)), .accepted)
def execCyclePhase (p : Packet) (s : State) : Host.Outcome State Fault Refusal := serve cyclePhaseSpec p s

/-- CYCLE_RELEASE (R32, R301). -/
def cycleReleaseSpec : CmdSpec where
  opcode := 0x0032
  lenOk p := p.params.isEmpty
  stateFail _ s := permitIn [.armed] s
  checks p s := [noScope p,
    (s.cyc.boundary.isNone && s.mot.recoatWait && s.recoatReleaseFail == some 0x9002, 0x9002),
    (s.cyc.boundary.isNone && s.mot.recoatWait && s.recoatReleaseFail == some 0x9000, 0x9000)]
  run _ _ s := (s.release, .done stOk [])
def execCycleRelease (p : Packet) (s : State) : Host.Outcome State Fault Refusal := serve cycleReleaseSpec p s

/-- CYCLE_STOP (R33). -/
def State.cycleStop (s : State) : State :=
  let s1 := s.setCyc fun (c : Cycle) => { c with layersLeft := 0 }
  if s.cyc.phase = .load ∧ !s.hostCycle then s1.setCyc fun (c : Cycle) => { c with phase := .idle, boundary := none } else s1
def cycleStopSpec : CmdSpec where
  opcode := 0x0033
  lenOk p := p.params.isEmpty
  stateFail _ s := permitIn [.armed] s
  checks p _ := [noScope p]
  run _ _ s := (s.cycleStop, .done stOk [])
def execCycleStop (p : Packet) (s : State) : Host.Outcome State Fault Refusal := serve cycleStopSpec p s

/-! The interlock (R130 to R134). -/

/-- What an opening at DT `t` records: the DT of each channel's opening, zero for a channel that is closed. -/
def State.interlockEvent (s : State) : State := s.logEvent 0x3001 255 0 (beside s.las.aOpen 8 s.las.bOpen)

/-- The instant since which exactly one channel is open. -/
def LasState.noteDiffer (dt : Nat) (x : LasState) : LasState :=
  let both := x.bothOpen || (!x.aClosed && !x.bClosed)
  let y := { x with bothOpen := both, differ := if x.aClosed = x.bClosed then 0 else dt }
  if y.aClosed && y.bClosed && y.bothOpen then { y with discrepancy := false, bothOpen := false } else { y with bothOpen := both && !(y.aClosed && y.bClosed) }

/-- A channel opens (R131, R132). -/
def State.channelOpen (ch : Nat) (s : State) : State :=
  if (if ch = 0 then s.las.aClosed else s.las.bClosed) then
    let tripped := s.las.trip
    let las := { s.las with
      aClosed := s.las.aClosed && ch != 0
      bClosed := s.las.bClosed && ch == 0
      aOpen := if ch = 0 then s.dt else s.las.aOpen
      bOpen := if ch = 0 then s.las.bOpen else s.dt
      trip := true
      trips := if tripped then s.las.trips else inc32 s.las.trips }
    (({ s with las := las.noteDiffer s.dt }).interlockEvent.noteEmit).enterHold causeInterlock
  else s
/-- A channel closes. -/
def State.channelClose (ch : Nat) (s : State) : State :=
  let las := { s.las with
    aClosed := s.las.aClosed || ch == 0
    bClosed := s.las.bClosed || ch != 0
    aOpen := if ch = 0 then 0 else s.las.aOpen
    bOpen := if ch = 0 then s.las.bOpen else 0 }
  ({ s with las := las.noteDiffer s.dt }).noteEmit

def execInterlockOpen (t ch : Nat) (s : State) : Host.Outcome State Fault Refusal := s.event t (State.channelOpen ch)
def execInterlockClose (t ch : Nat) (s : State) : Host.Outcome State Fault Refusal := s.event t (State.channelClose ch)

/-- INTLK_DISCREPANCY (R134): the channels have differed for longer than `LAS.INTLK_DISCREPANCY`. -/
def execIntlkDiscrepancy (t : Nat) (s : State) : Host.Outcome State Fault Refusal :=
  s.event t fun s =>
    if s.las.aClosed = s.las.bClosed ∨ s.las.discrepancy ∨ s.dt ≤ s.las.differ + 16000000 * s.dparam 0x3004 then s
    else ({ s with las := { s.las with discrepancy := true, bothOpen := false } }).logEvent 0x3002 255 (bit s.las.aClosed) 0

/-! Heads restored (R138). -/

/-- LAS_HEAD_RESTORE. -/
def lasHeadRestoreSpec : CmdSpec where
  opcode := 0x3000
  lenOk p := p.params.isEmpty
  critical _ _ := true
  stateFail _ s := permitIn [.standby, .ready, .armed, .hold] s
  checks p s := [(decide (s.heads ≤ p.scope), stRange), (s.sourceStops p.scope, stSourceFault)]
  run acc p s :=
    let s1 := s.setLas p.scope fun (x : LasHead) => { x with restore := x.restore ++ [acc] }
    if s.cyc.state = .armed ∨ s.cyc.state = .hold then (s1, .accepted)
    else
      let s2 := { s with las := { s.las with stopped := putBit s.las.stopped p.scope false } }
      (s2.noteEmit, .done stOk [])
def execLasHeadRestore (p : Packet) (s : State) : Host.Outcome State Fault Refusal := serve lasHeadRestoreSpec p s

end Sys2Proof.Machine
end

