-- ==== Sys2Proof/Machine/TableRows.lean ====
section
/-! DEFINITION. The commands that load and read tables, lists, maps and captures (03, 05, 06, 07) and the ledger's commands (08). -/

namespace Sys2Proof.Machine

/-- DRAM address and length of a table command's parameters. -/
def tabAddr (p : Packet) : Nat := p.fld 0 8
def tabLen (p : Packet) : Nat := p.fld 8 4
/-- The RANGE conditions of a command that moves a table of `len` bytes for one head (R105, R178). -/
def headTableRange (len : Nat) (p : Packet) (s : State) : Bool :=
  decide (s.heads ≤ p.scope) || !p.zeroAt 12 4 || decide (tabLen p ≠ len) || !s.dramOk (tabAddr p) len
def alignAddr (p : Packet) : Bool × Nat := (decide (tabAddr p % 64 ≠ 0), stAlign)
/-- A table is taken at once in these states, else in the next KETTLE (R105, R178). -/
def State.takesNow (s : State) : Bool :=
  ([DevState.standby, .ready, .service].contains s.cyc.state) || (s.cyc.state == .armed && s.cyc.phase == .idle)
def tableStates : List DevState := [.standby, .ready, .armed, .hold, .service]

/-! Field correction (R105, R413). -/

/-- TRJ_FC_LOAD (R105). -/
def trjFcLoadSpec : CmdSpec where
  opcode := 0x2000
  lenOk p := p.params.length == 16
  critical _ _ := true
  stateFail _ s := permitIn tableStates s
  checks p s := [
    (headTableRange fcImageLen p s, stRange), alignAddr p, ((s.trj p.scope).fcLoad.isSome, stBusy),
    ((fcFail (s.dramRead (tabAddr p) fcImageLen)).isSome, (fcFail (s.dramRead (tabAddr p) fcImageLen)).getD 0),
    (s.poisoned (tabAddr p) fcImageLen, stIntegrity)]
  onReject := poisonReject tabAddr fun _ => fcImageLen
  run acc p s :=
    if s.takesNow then
      ((s.setTrj p.scope fun (x : TrjHead) => { x with fc := some (fcOf (s.dramRead (tabAddr p) fcImageLen)) }).goodFc p.scope, .done stOk [])
    else (s.setTrj p.scope fun (x : TrjHead) => { x with fcLoad := some { acc := acc, addr := tabAddr p } }, .accepted)
def execTrjFcLoad (p : Packet) (s : State) : Host.Outcome State Fault Refusal := serve trjFcLoadSpec p s

/-- TRJ_FC_READ (R413). -/
def trjFcReadSpec : CmdSpec where
  opcode := 0x2001
  lenOk p := p.params.length == 16
  stateFail _ s := permitIn fromStandby s
  checks p s := [(headTableRange fcImageLen p s, stRange), ((s.trj p.scope).fc.isNone, stFcMissing), alignAddr p]
  run _ p s :=
    match (s.trj p.scope).fc with
    | some f => (s.dramWrite (tabAddr p) (padTo fcImageLen (f.image.take fcImageLen)), .done stOk [])
    | none => (s, .done stOk [])
def execTrjFcRead (p : Packet) (s : State) : Host.Outcome State Fault Refusal := serve trjFcReadSpec p s

/-! Ratio tables (R178, R413). -/

/-- MPS_RATIO_LOAD (R178). -/
def mpsRatioLoadSpec : CmdSpec where
  opcode := 0x5000
  lenOk p := p.params.length == 16
  critical _ _ := true
  stateFail _ s := permitIn tableStates s
  checks p s := [
    (headTableRange 2176 p s, stRange), alignAddr p, ((s.mpsHead p.scope).ratioLoad.isSome, stBusy),
    ((ratioFail (s.dramRead (tabAddr p) 2176)).isSome, (ratioFail (s.dramRead (tabAddr p) 2176)).getD 0),
    (s.poisoned (tabAddr p) 2176, stIntegrity)]
  onReject := poisonReject tabAddr fun _ => 2176
  run acc p s :=
    let im := s.dramRead (tabAddr p) 2176
    if s.takesNow then
      (s.setMps p.scope fun (x : MpsHead) => { x with ratio := some { generation := field im 8 4, image := im } }, .done stOk [])
    else (s.setMps p.scope fun (x : MpsHead) => { x with ratioLoad := some { acc := acc, addr := tabAddr p } }, .accepted)
def execMpsRatioLoad (p : Packet) (s : State) : Host.Outcome State Fault Refusal := serve mpsRatioLoadSpec p s

/-- MPS_RATIO_READ (R413, Table 06.8). -/
def mpsRatioReadSpec : CmdSpec where
  opcode := 0x5001
  lenOk p := p.params.length == 16
  stateFail _ s := permitIn fromStandby s
  checks p s := [(headTableRange 2176 p s, stRange), ((s.mpsHead p.scope).ratio.isNone, stRatioFormat), alignAddr p]
  run _ p s :=
    match (s.mpsHead p.scope).ratio with
    | some r => (s.dramWrite (tabAddr p) (padTo 2176 (r.image.take 2176)), .done stOk [])
    | none => (s, .done stOk [])
def execMpsRatioRead (p : Packet) (s : State) : Host.Outcome State Fault Refusal := serve mpsRatioReadSpec p s

/-! Replay lists and stitch tables (R148, R168, R173). -/

/-- Bytes a list of `n` entries of `size` bytes is read as (R173). -/
def listBytes (size n : Nat) : Nat := (size * n + 63) / 64 * 64

/-- GUT_REPLAY_LOAD (R148, R173). -/
def gutReplayLoadSpec : CmdSpec where
  opcode := 0x4000
  lenOk p := p.params.length == 16
  stateFail _ s := permitIn [.ready, .armed, .hold] s
  checks p s := [
    (p.scope != 0xFFFF || decide (4194304 < tabLen p) || !s.dramOk (tabAddr p) (listBytes 24 (tabLen p)), stRange),
    (s.gut.begun.contains (p.fld 12 4), stReplayLayer), alignAddr p]
  run _ p s :=
    let r : ReplayList := { layer := p.fld 12 4, addr := tabAddr p, count := tabLen p }
    ({ s with gut := { s.gut with replays := (s.gut.replays.filter fun x => x.layer != r.layer) ++ [r] } }, .done stOk [])
def execGutReplayLoad (p : Packet) (s : State) : Host.Outcome State Fault Refusal := serve gutReplayLoadSpec p s

/-- Entries of a stitch table as they stand in DRAM (Table 05.5). -/
def State.stitchEntries (s : State) (a n : Nat) : List (List Byte) := (List.range n).map fun (i : Nat) => s.dramRead (a + 16 * i) 16
/-- An entry that R168 rejects. -/
def State.stitchBad (s : State) (e : List Byte) : Bool := !s.inProfile (field e 6 1) || decide (7 < field e 7 1) || decide (field e 8 2 = 0)
def stitchEntryOf (e : List Byte) : StitchEntry :=
  { x := field e 0 3, y := field e 3 3, head := field e 6 1, port := field e 7 1, half := field e 8 2 }

/-- GUT_STITCH_TABLE (R168, R173). -/
def gutStitchTableSpec : CmdSpec where
  opcode := 0x4001
  lenOk p := p.params.length == 16
  stateFail _ s := permitIn [.standby, .ready, .armed, .hold] s
  checks p s :=
    let es := s.stitchEntries (tabAddr p) (tabLen p)
    [ (p.scope != 0xFFFF || decide (1024 < tabLen p) || !s.dramOk (tabAddr p) (listBytes 16 (tabLen p)), stRange), alignAddr p,
      (tabLen p != 0 && decide (2 ≤ (s.gut.stitch.filter fun t => t.1 != p.fld 12 4).length), stBusy),
      (es.any s.stitchBad, stStitchTable), (es.any fun e => !allZero (slice e 10 6), stRange),
      (s.poisoned (tabAddr p) (listBytes 16 (tabLen p)), stIntegrity)]
  onReject := poisonReject tabAddr fun p => listBytes 16 (tabLen p)
  run _ p s :=
    let others := s.gut.stitch.filter fun t => t.1 != p.fld 12 4
    let es := (s.stitchEntries (tabAddr p) (tabLen p)).map stitchEntryOf
    ({ s with gut := { s.gut with stitch := if tabLen p = 0 then others else others ++ [(p.fld 12 4, es)] } }, .done stOk [])
def execGutStitchTable (p : Packet) (s : State) : Host.Outcome State Fault Refusal := serve gutStitchTableSpec p s

/-! Generators, captures and maps (R226, R233 to R236). -/

def injectNodes : List Nat := [0, 1, 3, 5, 10, 11]
def genOf (p : Packet) : Gen :=
  { loop := p.fld 0 1, node := p.fld 1 1, kind := p.fld 2 1, amp := (p.fld 4 4 : Nat), start := p.fld 8 8, length := p.fld 16 4,
    f0 := p.fld 20 4, f1 := p.fld 24 4, fStep := p.fld 28 4, dwell := p.fld 32 4 }
/-- The generator at the loop and node of a packet. -/
def sameGen (p : Packet) (g : Gen) : Bool := g.loop == p.fld 0 1 && g.node == p.fld 1 1

/-- LOOP_INJECT (R233). -/
def loopInjectSpec : CmdSpec where
  opcode := 0x6000
  lenOk p := p.params.length == 48
  critical _ _ := true
  stateFail _ s := permitIn [.ready, .armed, .hold, .service] s
  checks p s := [
    (p.scope != 0xFFFF || !injectNodes.contains (p.fld 1 1) || decide (4 < p.fld 2 1) || !p.zeroAt 3 1 || decide (2 ^ 31 ≤ p.fld 4 4) ||
      decide (p.fld 16 4 = 0) || ((p.fld 2 1 == 2 || p.fld 2 1 == 3) && p.fld 32 4 == 0) || !p.zeroAt 36 12, stRange),
    (p.fld 2 1 != 0 && !(s.loop.gens.any (sameGen p)) && decide (16 ≤ s.loop.gens.length), 0x6003),
    (p.fld 2 1 != 0 && s.loopMode (p.fld 0 1) == .off, 0x6004)]
  run _ p s :=
    let gs := s.loop.gens
    let gs' := if p.fld 2 1 = 0 then gs.filter fun g => !sameGen p g
      else if gs.any (sameGen p) then gs.map fun (g : Gen) => if sameGen p g then genOf p else g
      else gs ++ [genOf p]
    ({ s with loop := { s.loop with gens := gs' } }, .done stOk [])
def execLoopInject (p : Packet) (s : State) : Host.Outcome State Fault Refusal := serve loopInjectSpec p s

/-- Bytes of the capture buffer that a capture takes (R235). -/
def Capture.space (c : Capture) : Nat := (4 * c.nodes.length * c.length + 63) / 64 * 64
def captureNodes (p : Packet) : List Nat := (List.range 4).map fun (i : Nat) => p.fld (1 + i) 1
def captureOf (p : Packet) (div : Nat) : Capture :=
  { loop := p.fld 0 1, raw := captureNodes p, nodes := (captureNodes p).filter fun n => n != 255, trigger := p.fld 5 1, length := p.fld 8 4,
    pre := p.fld 12 4, mask := p.fld 16 4, div := div }
def State.captureOfLoop (s : State) (l : Nat) : Option Capture := s.loop.captures.find? fun c => c.loop == l

/-- LOOP_CAPTURE (R235). -/
def loopCaptureSpec : CmdSpec where
  opcode := 0x6001
  lenOk p := p.params.length == 32
  stateFail _ s := permitIn fromStandby s
  checks p s :=
    let others := s.loop.captures.filter fun c => c.loop != p.fld 0 1
    [ (p.scope != 0xFFFF || ((captureNodes p).any fun n => n != 255 && decide (13 < n)) || decide (3 < p.fld 5 1) || !p.zeroAt 6 2 ||
        decide (p.fld 8 4 = 0 ∨ 65536 < p.fld 8 4 ∨ p.fld 8 4 ≤ p.fld 12 4) || !p.zeroAt 20 12, stRange),
      (decide (4194304 < others.foldl (fun (a : Nat) (c : Capture) => a + c.space) 0 + (captureOf p 1).space), 0x6002)]
  run _ p s :=
    let c := captureOf p (cfgDiv (s.loopCfg (p.fld 0 1)))
    ({ s with loop := { s.loop with captures := (s.loop.captures.filter fun x => x.loop != c.loop) ++ [c] } }, .done stOk [])
def execLoopCapture (p : Packet) (s : State) : Host.Outcome State Fault Refusal := serve loopCaptureSpec p s

/-- A capture as `LOOP_CAPTURE_READ` writes it (R236). -/
def Capture.image (c : Capture) : List Byte :=
  let first := ((c.rows.find? fun r => r.1 != 0).map (·.1)).getD 0
  let vals := c.rows.flatMap fun (r : Nat × List Nat) => r.2.flatMap (leBytes 4)
  let hdr := leBytes 4 0x50435853 ++ leBytes 1 0x10 ++ leBytes 1 c.loop ++ c.raw.flatMap (leBytes 1) ++ zeros 2 ++ leBytes 4 c.length ++
    leBytes 4 c.pre ++ leBytes 8 first ++ leBytes 4 c.div ++ zeros 32
  padTo (64 + c.space) (hdr ++ vals)

/-- LOOP_CAPTURE_READ (R236). -/
def loopCaptureReadSpec : CmdSpec where
  opcode := 0x6002
  lenOk p := p.params.length == 16
  stateFail _ s := permitIn fromStandby s
  checks p s :=
    let c := s.captureOfLoop (p.fld 8 1)
    [ (p.scope != 0xFFFF || !p.zeroAt 9 7 || c.isNone || !s.dramOk (tabAddr p) (64 + ((c.map Capture.space).getD 0)), stRange),
      ((match c with | some x => x.state != .done | none => false), 0x6006), alignAddr p]
  run _ p s :=
    match s.captureOfLoop (p.fld 8 1) with
    | some c =>
      (({ s with loop := { s.loop with captures := s.loop.captures.filter fun x => x.loop != c.loop } }).dramWrite (tabAddr p) c.image, .done stOk [])
    | none => (s, .done stOk [])
def execLoopCaptureRead (p : Packet) (s : State) : Host.Outcome State Fault Refusal := serve loopCaptureReadSpec p s

/-- LOOP_MAP_LOAD (R226). -/
def loopMapLoadSpec : CmdSpec where
  opcode := 0x6003
  lenOk p := p.params.length == 16
  stateFail _ s := permitIn [.standby, .ready, .armed, .hold] s
  checks p s :=
    let im := s.dramRead (tabAddr p) (tabLen p)
    [ (p.scope != 0xFFFF || decide (tabLen p < 64) || !s.dramOk (tabAddr p) (tabLen p), stRange),
      (decide (tabAddr p % 64 ≠ 0 ∨ tabLen p % 64 ≠ 0), stAlign),
      (decide (2 ≤ (s.loop.maps.filter fun m => m.layer != p.fld 12 4).length), stBusy),
      ((mapFail im (tabLen p)).isSome, (mapFail im (tabLen p)).getD 0), (s.poisoned (tabAddr p) (tabLen p), stIntegrity)]
  onReject := poisonReject tabAddr tabLen
  run _ p s :=
    let m : CorrMap := { layer := p.fld 12 4, addr := tabAddr p, count := leNat (s.dramRead (tabAddr p + 12) 4) }
    ({ s with loop := { s.loop with maps := (s.loop.maps.filter fun x => x.layer != m.layer) ++ [m] } }, .done stOk [])
def execLoopMapLoad (p : Packet) (s : State) : Host.Outcome State Fault Refusal := serve loopMapLoadSpec p s

/-! The ledger (R244, R249 to R253). -/

/-- LDG_CLEAR (R244). -/
def ldgClearSpec : CmdSpec where
  opcode := 0x7000
  lenOk p := p.params.isEmpty
  stateFail _ s := permitIdle [.standby, .ready, .service] s
  checks p _ := [noScope p]
  run _ _ s := (s.clearLedger 1, .done stOk [])
def execLdgClear (p : Packet) (s : State) : Host.Outcome State Fault Refusal := serve ldgClearSpec p s

def readoutOf (acc : Nat) (p : Packet) : Readout :=
  { acc := acc, addr := tabAddr p, col := p.fld 8 2, row := p.fld 10 2, width := p.fld 12 2, height := p.fld 14 2, kind := p.fld 16 1, fence := p.fld 17 1 == 1 }
/-- Bytes of a readout's output. -/
def Readout.bytes (r : Readout) : Nat := (64 + (if r.kind = 1 then 4 else 2) * (r.width * r.height) + 63) / 64 * 64

/-- LDG_READ (R248 to R250). -/
def ldgReadSpec : CmdSpec where
  opcode := 0x7001
  lenOk p := p.params.length == 24
  stateFail p s := if s.ledger.stopped && (p.fld 16 1 != 1 || !s.islandIn islandMemory) then some stState else permitIn fromStandby s
  checks p s := [
    (p.scope != 0xFFFF || decide (4096 < p.fld 12 2 ∨ 4096 < p.fld 14 2 ∨ 4096 < p.fld 8 2 + p.fld 12 2 ∨ 4096 < p.fld 10 2 + p.fld 14 2) ||
      decide (1 < p.fld 16 1 ∨ 1 < p.fld 17 1) || !p.zeroAt 18 6 || (p.fld 16 1 == 1 && s.ldgAssisted) ||
      !s.dramOk (tabAddr p) (readoutOf 0 p).bytes, stRange),
    alignAddr p, (decide (2 ≤ s.ledger.readouts.length), stBusy)]
  run acc p s :=
    let r := readoutOf acc p
    let s1 := s.depositsTo s.dt
    let r1 := if r.fence || s1.exposing then r else { r with at_ := some s1.dt, out := s1.readoutBytes s1.dt r }
    ({ s1 with ledger := { s1.ledger with readouts := s1.ledger.readouts ++ [r1] } }, .accepted)
def execLdgRead (p : Packet) (s : State) : Host.Outcome State Fault Refusal := serve ldgReadSpec p s

/-- LDG_READOUT_COPY (R249). -/
def execLdgReadoutCopy (t i : Nat) (s : State) : Host.Outcome State Fault Refusal := s.event t (State.readoutCopy i)

def snapLen : Nat := 33554496
/-- A switch of the ledger function to host-assisted mode is pending. -/
def State.ledgerPending (s : State) : Bool := s.svc.modeReq.any fun r => r.1 == fnLdg && r.2.1
/-- The slot a snapshot of a layer loads into: the VALID one of its layer, else an EMPTY one (R251). -/
def State.snapSlot (s : State) (layer : Nat) : Option Nat :=
  match (List.range 2).find? fun i => ((s.ledger.slots.getD i {}).state == .valid && (s.ledger.slots.getD i {}).layer == layer &&
      (s.ledger.slots.getD i {}).load.isNone) with
  | some i => some i
  | none => (List.range 2).find? fun i => (s.ledger.slots.getD i {}).state == .empty
/-- The image checks of R253. -/
def State.snapFail (s : State) (im : List Byte) : Option Nat := firstFail [
  (decide (field im 4 1 ≠ 0x10), stVersion),
  (decide (field im 0 4 ≠ 0x534C5853 ∨ field im 5 1 ≠ s.pitchCode ∨ field im 12 3 ≠ s.originX ∨ field im 15 3 ≠ s.originY), 0x7000),
  (!allZero (slice im 6 2) || !allZero (slice im 18 2) || !allZero (slice im 24 40), stRange),
  (decide (crc32c (slice im 64 33554432) ≠ field im 20 4), stIntegrity)]

/-- LDG_SNAPSHOT_LOAD (R251, R253, R254): the image is checked when the load ends. -/
def ldgSnapshotLoadSpec : CmdSpec where
  opcode := 0x7002
  lenOk p := p.params.length == 16
  stateFail _ s := if s.ldgAssisted || s.ledgerPending then permitIn [.standby, .ready, .armed, .hold] s else some stState
  checks p s := [
    (p.scope != 0xFFFF || !p.zeroAt 12 4 || decide (tabLen p ≠ snapLen) || !s.dramOk (tabAddr p) snapLen, stRange), alignAddr p,
    ((s.snapSlot (leNat (s.dramRead (tabAddr p + 8) 4))).isNone, stBusy)]
  run acc p s :=
    let layer := leNat (s.dramRead (tabAddr p + 8) 4)
    match s.snapSlot layer with
    | some i =>
      ({ s with ledger := { s.ledger with slots := updAt s.ledger.slots i fun (x : SnapSlot) =>
        { x with state := .loading, layer := layer, vals := [], load := some (acc, tabAddr p) } } }, .later)
    | none => (s, .done stBusy [])
def execLdgSnapshotLoad (p : Packet) (s : State) : Host.Outcome State Fault Refusal := serve ldgSnapshotLoadSpec p s

/-- A snapshot load ends (R253). -/
def State.snapLoaded (s : State) : State :=
  match (List.range 2).find? fun i => (s.ledger.slots.getD i {}).load.isSome with
  | none => s
  | some i =>
    match (s.ledger.slots.getD i {}).load with
    | none => s
    | some (acc, addr) =>
      let im := s.dramRead addr snapLen
      let put (x : SnapSlot) : State := { s with ledger := { s.ledger with slots := updAt s.ledger.slots i fun _ => x } }
      match s.snapFail im with
      | some st => (put {}).complete acc st []
      | none =>
        if s.poisoned addr snapLen then ((put {}).poisonSeen addr snapLen).complete acc stIntegrity []
        else (put { state := .valid, layer := field im 8 4, vals := Mem.writeBytes 0#8 [] 0 (slice im 64 33554432) }).complete acc stOk []

/-- LDG_SNAPSHOT_LOADED (R253). -/
def execLdgSnapshotLoaded (t : Nat) (s : State) : Host.Outcome State Fault Refusal := s.event t State.snapLoaded

end Sys2Proof.Machine
end

