-- ==== Sys2Proof/Machine/Streams.lean ====
section
/-! DEFINITION. Host-streamed samples (R114 to R117): blocks taken from the ring, faults, and the laser block of a sample. -/

namespace Sys2Proof.Machine

def State.strBase (s : State) (h : Nat) : Nat := byteField (s.param 0x2020 h) 0 8
def State.strSize (s : State) (h : Nat) : Nat := byteField (s.param 0x2020 h) 8 4
/-- TRJ.STREAM_TAIL as it stood at a DT. -/
def State.tailAt (s : State) (h dt : Nat) : Nat := (((s.trj h).tails.find? fun e => decide (e.2 ≤ dt)).map (·.1)).getD 0

/-- What the ring holds where the next block is due (R114 to R116). -/
inductive NextBlock where
  | late
  /-- a fault by its place in R116 -/
  | bad (cause : Nat)
  | wrap
  | block (samples : List StreamSample) (last : Bool) (next : Nat)
  deriving DecidableEq, Repr

/-- The samples of a whole block. -/
def blockSamples (ts : Nat) (b : List Byte) (n : Nat) : List StreamSample :=
  (List.range n).map fun (i : Nat) => readStreamSample ts (slice b (64 + 24 * i) 24)

/-- The block at ring offset `off`, with the tail as it counts at the sample in hand; `next` is the index it has to carry. -/
def State.nextBlock (s : State) (h off tail next : Nat) : NextBlock :=
  let size := s.strSize h
  let avail := if size = 0 then 0 else (tail + size - off) % size
  if avail < 64 then .late
  else
    let hdr := s.dramRead (s.strBase h + off) 64
    let n := field hdr 6 2
    let len := streamBlockLen n
    if avail < len ∧ !(field hdr 5 1).testBit 1 then .late
    else
      let b := s.dramRead (s.strBase h + off) (if (field hdr 5 1).testBit 1 then 64 else len)
      let x := readStreamBlock b
      if !x.ok || s.poisoned (s.strBase h + off) b.length then .bad 1
      else if x.zeroBad || (!x.wrap && !allZero (b.drop (64 + 24 * n))) then .bad 3
      else if x.wrap then .wrap
      else if x.first ≠ next then .bad 2
      else .block (blockSamples s.ts b n) x.last (if off + len = size then 0 else off + len)

/-- A stream fault (R116): the gate stays cut, the head counts as finished, its unsent samples are listed. -/
def State.trjFault (h cause : Nat) (s : State) : State :=
  let s1 := s.setTrj h fun (x : TrjHead) => { x with strFault := true, block := [], underruns := if cause = 0 then inc32 x.underruns else x.underruns }
  let s2 := ((s1.setLas h fun (x : LasHead) => { x with cut := true }).logEvent 0x2001 h cause (s.trj h).strNext).leaveStream h
  { s2 with lay := s2.lay.setHead h { s2.lay.head h with streamDone := true } }

/-- Blocks are taken until one holds the next sample (R116); WRAP and empty blocks are passed over. -/
def State.fetchBlock (h : Nat) : Nat → State → State
  | 0, s => s
  | fuel + 1, s =>
    let x := s.trj h
    if !x.block.isEmpty then s
    else match s.nextBlock h x.strHead (s.tailAt h (s.dt - 640000)) x.strNext with
      | .late => s.trjFault h 0
      | .bad c => s.trjFault h c
      | .wrap => State.fetchBlock h fuel (s.setTrj h fun (y : TrjHead) => { y with strHead := 0 })
      | .block [] last next =>
        let s1 := s.setTrj h fun (y : TrjHead) => { y with strHead := next }
        if last then { s1 with lay := s1.lay.setHead h { s1.lay.head h with streamDone := true } } else State.fetchBlock h fuel s1
      | .block ss last next => s.setTrj h fun (y : TrjHead) => { y with block := ss, blockLast := last, blockEnd := next }

/-- The next streamed sample of a head, consumed (R116); none once the stream is over or faults. -/
def State.streamNext (h : Nat) (s0 : State) : State × Option StreamSample :=
  if (s0.lay.head h).streamDone || (s0.trj h).strFault then (s0, none)
  else
    let s := State.fetchBlock h 1024 s0
    match (s.trj h).block with
    | [] => (s, none)
    | st :: rest =>
      if st.zeroBad then (s.trjFault h 3, none)
      else if st.edgeBad then (s.trjFault h 4, none)
      else
        let x := s.trj h
        let s1 := s.setTrj h fun (y : TrjHead) => { y with block := rest, strNext := y.strNext + 1, strHead := if rest.isEmpty then x.blockEnd else y.strHead }
        let s2 := if rest.isEmpty && x.blockLast then { s1 with lay := s1.lay.setHead h { s1.lay.head h with streamDone := true } } else s1
        (s2, some st)

/-- The samples that follow in the ring, as far as `n` of them are there: the look-ahead of R245 on a stream. -/
def State.streamPeek (s : State) (h tail : Nat) : Nat → Nat → Nat → Nat → List StreamSample
  | 0, _, _, _ => []
  | fuel + 1, off, next, n =>
    if n = 0 then []
    else match s.nextBlock h off tail next with
      | .wrap => State.streamPeek s h tail fuel 0 next n
      | .block ss last e => ss ++ (if last then [] else State.streamPeek s h tail fuel e (next + ss.length) (n - ss.length))
      | _ => []
def State.streamAhead (s : State) (h n : Nat) : List StreamSample :=
  let x := s.trj h
  if n ≤ x.block.length then x.block.take n
  else
    let more := if x.blockLast && !x.block.isEmpty then []
      else State.streamPeek s h (s.tailAt h s.dt) (n + 2) (if x.block.isEmpty then x.strHead else x.blockEnd) (x.strNext + x.block.length) (n - x.block.length)
    (x.block ++ more).take n

/-- A streamed sample as a sample of the head's path. -/
def StreamSample.point (st : StreamSample) : Sample :=
  { x := 65536 * (st.x : Int), y := 65536 * (st.y : Int), z := 0, v := 0, cls := st.cls, flags := st.flags }

/-- A streamed sample is lit while its own gate waveform is on in it. -/
def StreamSample.lit (st : StreamSample) (level : Bool) : Bool := level || st.edges.any fun e => e.2
def StreamSample.endLevel (st : StreamSample) (level : Bool) : Bool := (st.edges.getLast?.map (·.2)).getD level

/-- The laser block of a streamed sample (R118, R124, R127): the stream's edges, its POWER in place of the profile's. -/
def streamBlock (i : LaserIn) (level : Bool) (st : StreamSample) (wasLit : Bool) : LaserOut :=
  let lit := st.lit level
  let corr := if lit then appliedCorr i (decide (st.cls = 6)) else 16384
  if i.cut || i.ruleCut then
    { edges := if i.gate then [(0, false)] else [], gate := false, corr := corr, lit := lit, firstLit := lit && !wasLit }
  else
    let all := if level = i.gate then st.edges else (0, level) :: st.edges
    let thin := thinEdges all
    let pw : Nat × Bool := if lit then powerWord i st.power (1, 1) (if corr < 0 then 0 else corr) else (0, false)
    { power := pw.1, edges := thin.1, gate := st.endLevel level, dropped := thin.2, clamped := pw.2, corr := corr, lit := lit, firstLit := lit && !wasLit }

end Sys2Proof.Machine
end

