-- ==== Sys2Proof/Machine/Slot.lean ====
section
/-! DEFINITION. What a slot does in one head engine: points of the path, camera values, the ledger's feed-forward read, reaction rules,
the correction factor, the head command and the SAMPLE_DOWN frame (R81 to R129, R185 to R189, R222 to R232, R245, R351, R352). -/

namespace Sys2Proof.Machine

/-! Points of a head's path. -/

/-- Samples that the engine computes ahead of the one being sent (R82): enough for every edge delay and ramp, and for the look-ahead. -/
def State.aheadSteps (s : State) : Nat :=
  ceilDiv 100000 s.ts + 256 + 20000 / s.ts + 2 + (List.range 32).foldl (fun (a h : Nat) => max a (s.param 0x7004 h)) 0

/-- The filter span of a head; a streamed point is not filtered (R82). -/
def LayEnv.span (e : LayEnv) (streamed : Bool) (h : Nat) : Nat := if streamed then 0 else (e.path h).n

/-- A path as it stood `d` samples before its newest one; samples before sample 0 hold the rest position (R95). -/
def HeadPath.back (d : Nat) (p : HeadPath) : HeadPath := { p with hist := p.hist.drop (min d (p.hist.length - 1)) }
/-- The filtered bed point of head `h` at sample `j`, at or before the newest sample of the layer. -/
def Lay.pointAt (env : LayEnv) (l : Lay) (h j : Nat) : Pt :=
  let x := l.head h
  (x.path.back (l.k - 1 - j)).bedPoint (env.span x.streamed h)
/-- The record identity at a sample. -/
def Lay.identAt (l : Lay) (h j : Nat) : Sample :=
  (((l.head h).path.back (l.k - 1 - j)).hist.head?).getD { x := 0, y := 0, z := 0, v := 0, cls := 4 }

/-! Camera values (R185). -/

def State.camera (s : State) (h slotDt k : Nat) : Option FrameResult :=
  if s.cyc.profile.cam = 0 ∨ s.assisted fnMps then none
  else
    let done := (s.mpsHead h).results.filter fun r => decide (r.done < slotDt)
    let newest := done.foldl (fun (a : Option FrameResult) (r : FrameResult) => match a with
      | none => some r
      | some b => if b.number < r.number then some r else some b) none
    match newest with
    | some r => if r.truncated ∨ s.param 0x5007 h + r.start < k then none else some r
    | none => none

/-! Feed-forward (R245). -/

/-- L of a look-ahead point at the instant of the read. -/
def State.feedAt (s : State) (slotDt : Nat) (p : Pt) : Nat :=
  match cellOf (pitchUnits s.pitchCode) s.originX s.originY p with
  | none => 0
  | some c =>
    if s.ldgAssisted && s.ledger.active.isNone then 0 else feedForward (s.dparam 0x7005) (fun (i : Nat) => s.heatAt (tickOf slotDt) i) c
/-- The look-ahead point p_f(k − d + A) of a head: from the past, from the samples computed ahead, or from the stream. -/
def State.lookAhead (s : State) (env : LayEnv) (ahead : Lay) (h k : Nat) : Pt :=
  let d := s.param 0x500A h
  let a := s.param 0x7004 h
  if a ≤ d then s.lay.pointAt env h (k + a - d)
  else if (s.lay.head h).streamed then
    match (s.streamAhead h (a - d)).getLast? with
    | some st => (st.x, st.y)
    | none => s.lay.pointAt env h k
  else ahead.pointAt env h (k + a - d)

/-! Reaction rules (R228 to R232). -/

def State.ruleParam (s : State) (h n : Nat) : Nat := s.param (0x6010 + n) h
/-- A rule is armed at a sample (R228). -/
def BlockNote.arms (x : BlockNote) (n : Nat) : Bool := x.active && x.lit && !x.probe && x.mask.testBit n
def State.headRules (s : State) (h : Nat) : HeadRules := s.loop.rules.getD h {}
def State.setRules (h : Nat) (f : HeadRules → HeadRules) (s : State) : State := { s with loop := { s.loop with rules := updAt s.loop.rules h f } }

/-- Rule `n` evaluated on the sample of a slot; a change is recorded (R232). -/
def State.ruleEval (h slot : Nat) (note : BlockNote) (s : State) (n : Nat) : State :=
  let r := s.ruleParam h n
  let m := s.metricAt h slot (ruleMetric r)
  let old := (s.headRules h).rules.getD n {}
  let new := ruleStep r (note.arms n) (if m.2 then some m.1 else none) old
  let s1 := s.setRules h fun (x : HeadRules) => { x with
    rules := updAt x.rules n fun _ => new, fires := if new.fired && !old.fired then updAt x.fires n inc32 else x.fires }
  if new.fired = old.fired then s1
  else
    let s2 := if new.fired then
        { s1 with recorder := { s1.recorder with sum := { s1.recorder.sum with firings := s1.recorder.sum.firings + 1 } } }
      else s1
    s2.buildEntry 0x20 (leBytes 1 h ++ leBytes 1 n ++ leBytes 1 (bit new.fired) ++ zeros 1 ++ leBytes 4 note.ri ++
      leBytes 8 (16 * s.ts * slot) ++ leBytes 4 (if m.2 then m.1 else 0))
/-- Every rule of a head on the sample of a slot. -/
def State.rulesEval (h slot : Nat) (s : State) : State :=
  match s.noteAt h slot with
  | none => s
  | some note => if note.active then (List.range 8).foldl (fun (s : State) (n : Nat) => s.ruleEval h slot note n) s else s

/-- The SCALE and CUT rules that act on a block (R229). -/
def State.acting (s : State) (h : Nat) (note : BlockNote) : List Nat :=
  ((List.range 8).filter fun n => ((s.headRules h).rules.getD n {}).fired && note.arms n).map (s.ruleParam h)
    |>.filter fun r => ruleAction r == 1 || ruleAction r == 2
/-- The smallest factor of the acting SCALE rules. -/
def scaleOf (rs : List Nat) : Option Nat :=
  (rs.filter fun r => ruleAction r == 1).foldl (fun (a : Option Nat) (r : Nat) => some (match a with | some f => min f (ruleFactor r) | none => ruleFactor r)) none
/-- The release target a block's rules leave (R231). -/
def State.ruleTarget (s : State) (h : Nat) (rs : List Nat) : Int :=
  if rs.any fun r => ruleAction r == 2 then (s.loopCoef h).outMin else (65536 * (scaleOf rs).getD 0 : Nat)
/-- The rules of a block and the power loop (R231): a run goes on, or its release sets the output and the preset target. `before`
is the loop's output before this slot's executions. -/
def State.ruleRun (h : Nat) (before : Int) (rs : List Nat) (s : State) : State :=
  let x := s.headRules h
  if !rs.isEmpty then
    let rel := rs.any ruleReleaseRule
    let t := s.ruleTarget h rs
    let run : Int × Bool × Int := match x.run with
      | some (b, any_, _) => (b, any_ || rel, t)
      | none => (before, rel, t)
    s.setRules h fun (x : HeadRules) => { x with run := some run }
  else match x.run with
  | none => s
  | some (b, rel, last) =>
    let t := if rel then last else b
    let s1 := s.setRules h fun (x : HeadRules) => { x with run := none }
    if s.loopMode h = .off then s1 else s1.setLoop h fun (y : LoopState) => { y with out := t, preset := some t }

/-! The correction factor (R223, R227). -/

/-- The part of a window that a DT after DT_s lies in: record index, first and last instant. -/
def Win.partAt (w : Win) (t : Int) : Nat × Int × Option Int :=
  let starts : List (Int × Nat) := (w.tOn, w.ri) :: (w.joins.zip w.jri).map fun (j : (Int × Nat) × Nat) => (j.1.1, j.2)
  let n := (starts.filter fun e => decide (e.1 ≤ t)).length - 1
  let e := starts.getD n (w.tOn, w.ri)
  (e.2, e.1, match starts[n + 1]? with | some q => some q.1 | none => w.tOff)
/-- A path carried on alone until the part of its window in `w` that holds `t` has its end: a released unit does not stop. -/
def partEnd (env : PathEnv) (serial : Nat) (tOn t : Int) : Nat → Nat → HeadPath → Option Int
  | 0, _, _ => none
  | fuel + 1, j, p =>
    match p.wins.find? fun w => w.tOn == tOn with
    | none => none
    | some w =>
      match (w.partAt t).2.2 with
      | some e => some e
      | none => partEnd env serial tOn t fuel (j + 1) (p.step env serial j)

/-- The map factor of sample `k` of a head in window `w` (R227). -/
def State.mapCorr (s : State) (env : LayEnv) (ahead : Lay) (h k : Nat) (w : Win) : Int :=
  match s.loop.maps.find? fun m => m.layer == s.cyc.layer with
  | none => 16384
  | some m =>
    if s.loop.mapOff then 16384
    else
      let t : Int := (16 * env.ts * k : Nat)
      let part := w.partAt t
      let b := s.dramRead (m.addr + 64 + 4 * part.1) 4
      let start := toSigned 16 (field b 0 2)
      let stop := toSigned 16 (field b 2 2)
      if w.cls = 3 then start
      else
        let x := ahead.head h
        match (match part.2.2 with | some e => some e | none => partEnd (env.path h) x.serial w.tOn t 16777216 ahead.k x.path) with
        | some e => mapFactor start stop (t - part.2.1) (e - part.2.1)
        | none => start

/-- The factor of Table 07.7. -/
def State.corrOf (s : State) (env : LayEnv) (ahead : Lay) (h k : Nat) (w : Option Win) : Int :=
  if s.assisted fnCorr then (match w with | some w => s.mapCorr env ahead h k w | none => 16384)
  else if s.loopMode h = .off ∨ (s.placedOf h).isNone then 16384
  else loopWord (s.loopState h).out

/-! Head commands (R81, R100 to R107). -/

/-- An update point of the drift terms (R107). -/
def State.driftStep (h : Nat) (s : State) : State :=
  let t := s.trj h
  let d := Drift.update (driftOf (s.param 0x2018 h)) (s.param 0x201A h) (s.param 0x201B h) t.drift
  if d = t.drift then s else s.setTrj h fun (q : TrjHead) => { q with drift := d, moved := true }
/-- The triple of a filtered point; `sample` when it is a sample of EXPOSE, whose extrapolations, clamps and saturations are counted
(R102, R103). -/
def State.command (h : Nat) (sample : Bool) (x y z : Int) (s : State) : State :=
  let t := s.trj h
  match t.fc with
  | none => s
  | some fc =>
    let tr := fc.triple t.drift (toSigned 32 (byteField t.scale 8 4)) x y z
    s.setTrj h fun (q : TrjHead) => { q with
      triple := tr
      extraps := if sample && tr.extrap then inc32 q.extraps else q.extraps
      clamps := if sample && tr.clamped then inc32 q.clamps else q.clamps
      sats := if sample && tr.sat then inc32 q.sats else q.sats }
/-- Outside EXPOSE a head stands at its rest position, through the table in force; in SAFE, before READY, and between the layers of a
streaming head it stays as last sent (R113). -/
def State.restCommand (h : Nat) (s : State) : State :=
  let t := s.trj h
  if s.cyc.state = .safe ∨ !t.homed ∨ (s.streaming ∧ (s.cyc.state = .armed ∨ s.cyc.state = .hold)) then s else s.command h false t.path.x t.path.y t.path.z

/-! SAMPLE_DOWN (Table 13.4). -/

/-- Drive words and valid bits of a head's servo loops (R224, R357). -/
def State.drives (s : State) (h : Nat) : List Byte :=
  let on (a : Nat) : Bool := s.loopMode (32 + 3 * h + a) != .off && (s.placedOf (32 + 3 * h + a)).isSome && decide (2 ≤ (s.hlk h).version / 16)
  ((List.range 3).flatMap fun (a : Nat) => leBytes 2 (if on a then ofSigned 16 (loopWord (s.loopState (32 + 3 * h + a)).out) else 0)) ++
    leBytes 1 ((List.range 3).foldl (fun (m a : Nat) => if on a then m + 2 ^ a else m) 0)
/-- The frame of a slot. -/
def State.sampleDown (s : State) (h slot : Nat) (active gateStart : Bool) (o : LaserOut) : List Byte :=
  let x := s.hlk h
  let t := (s.trj h).triple
  let hw (v : Int) : List Byte := leBytes 3 (ofSigned 24 v)
  let c : List Byte := match x.cfg with
    | some r => leBytes 1 r.type ++ leBytes 1 r.seq ++ padTo 10 r.data
    | none => zeros 12
  leBytes 1 1 ++ leBytes 1 (bit active + 2 * bit (s.cyc.state == .hold) + 4 * bit gateStart + 8 * bit (active && s.cyc.profile.cam != 0)) ++
    leBytes 2 (slot % 65536) ++ leBytes 8 (16 * s.ts * slot) ++ hw t.hx ++ hw t.hy ++ hw t.hz ++ zeros 3 ++ o.bytes ++ s.drives h ++ zeros 1 ++
    leBytes 8 s.dt ++ c
/-- A port sends its frame of the slot, once its first slot has come (R351, R353). -/
def State.sendDown (h slot : Nat) (active gateStart : Bool) (o : LaserOut) (s : State) : State :=
  let x := s.hlk h
  if x.link != .up || decide (16 * s.ts * slot < x.upAt) || !s.headIslandOk h then s
  else
    (s.setHlk h fun (y : HlkPort) => { y with cfg := y.cfg.map fun (c : CfgRec) => { c with slots := c.slots + 1 } }).send
      (.headFrame h (framed (s.sampleDown h slot active gateStart o)))

/-- A note kept for the readers of the slot's sample. -/
def State.keepNote (h : Nat) (n : BlockNote) (s : State) : State :=
  { s with loop := { s.loop with notes := updAt s.loop.notes h fun (l : List BlockNote) => (n :: l).take 128 } }
def State.axisWords (s : State) (h : Nat) : List Int := let t := (s.trj h).triple; [t.hx, t.hy, t.hz]

end Sys2Proof.Machine
end

