-- ==== Sys2Proof/Machine/Monitor.lean ====
section
/-! DEFINITION. The plume guard's sample monitor (R151, R157, R158, R496) and the PEER_SLOT frame (Table 18.4). -/

namespace Sys2Proof.Machine

/-- A head at a checked sample: lit, its filtered bed point, and the anchor of its corridor while that is live (R151). -/
structure MonPoint where
  head : Nat
  lit : Bool
  at_ : Pt
  anchor : Option Pt
  deriving DecidableEq, Repr

/-- The conflict of the ordered pair (x, y) at a sample, as the squared distance of the two points (R157). -/
def pairConflict (e : LayEnv) (x y : MonPoint) : Option Nat :=
  let dx : Int := (x.at_.1 : Int) - y.at_.1
  let dy : Int := (x.at_.2 : Int) - y.at_.2
  let d := (dx * dx + dy * dy).toNat
  let covered := match x.anchor with
    | some a => inCorridor e.geom (e.corridors.getD (x.head % 32) ⟨0, 0, 0⟩) a y.at_
    | none => false
  if y.lit && (covered || (x.lit && decide (d < e.sepSq))) then some d else none

/-- The lit flags and points of the streamed samples that follow, from the level of the stream's own gate. -/
def streamSpots (level : Bool) : List StreamSample → List (Bool × Pt)
  | [] => []
  | st :: rest => (st.lit level, (st.x, st.y)) :: streamSpots (st.endLevel level) rest

/-- Lit flag and filtered point of head `h` at sample `k` and at the predicted samples after it (R157). `lit` says whether a streamed
head is lit at sample `k`. -/
def State.spots (s : State) (env : LayEnv) (ahead : Lay) (k h : Nat) (lit : Bool) : List (Bool × Pt) :=
  if (s.lay.head h).streamed then
    (lit, s.lay.pointAt env h k) :: (if s.lay.hold then [] else streamSpots (s.trj h).strLevel (s.streamAhead h env.ahead))
  else (List.range (env.ahead + 1)).map fun (j : Nat) => ((ahead.head h).lit env.ts (k + j), ahead.pointAt env h (k + j))

/-- The corridor of a head through its spots from sample `m` on (R151). -/
def anchorWalk (persist h : Nat) : Nat → Option (Nat × Pt) → List (Bool × Pt) → List MonPoint
  | _, _, [] => []
  | m, a, (lit, p) :: rest =>
    let a' := if lit then some (m, p) else a
    { head := h, lit := lit, at_ := p, anchor := a'.bind fun q => if m ≤ q.1 + persist then some q.2 else none } :: anchorWalk persist h (m + 1) a' rest

/-- The conflicts of every ordered pair of a row, and of the row's heads with the peer's points, at sample `m`. -/
def rowConflicts (e : LayEnv) (m : Nat) (own peer : List MonPoint) : List (Nat × Nat × Nat × Nat) :=
  let test (x y : MonPoint) : Option (Nat × Nat × Nat × Nat) := (pairConflict e x y).map fun d => (m, x.head, y.head, d)
  own.flatMap (fun x => own.filterMap fun y => if x.head = y.head then none else test x y) ++
    own.flatMap fun x => peer.flatMap fun y => (test x y).toList ++ (test y x).toList

/-- The conflicts the monitor sees at sample `k` (R157, R496). -/
def State.conflicts (s : State) (env : LayEnv) (ahead : Lay) (k : Nat) (lits : List Bool) : List (Nat × Nat × Nat × Nat) :=
  let heads := (List.range 32).filter fun (h : Nat) => (s.lay.head h).takesPart
  let rows := heads.map fun (h : Nat) => anchorWalk env.persist h k (s.lay.head h).anchor (s.spots env ahead k h (lits.getD h false))
  let peer := if s.isPaired then s.pair.points.map fun (p : PeerPoint) =>
      ({ head := 32 + p.head, lit := p.lit, at_ := p.at_, anchor := if p.live then some p.at_ else none } : MonPoint) else []
  (List.range (env.ahead + 1)).flatMap fun (j : Nat) => rowConflicts env (k + j) (rows.filterMap fun r => r[j]?) (if j = 0 then peer else [])

/-- One conflict joined to its pair's episode; a conflict no open episode reaches begins a new one (R157, R158). -/
def State.joinEpisode (env : LayEnv) (c : Nat × Nat × Nat × Nat) (s : State) : State :=
  let m := c.1
  let near (e : Episode) : Bool := e.h == c.2.1 && e.g == c.2.2.1 && decide (e.first ≤ m + env.persist ∧ m ≤ e.last + env.persist)
  if s.lay.episodes.any near then
    let grown := s.lay.episodes.map fun (e : Episode) =>
      if near e then { e with first := min e.first m, last := max e.last m, minSq := min e.minSq c.2.2.2 } else e
    { s with lay := { s.lay with episodes := grown } }
  else
    let breach := env.holding && !s.streaming
    let s1 := { s with lay := { s.lay with
      episodes := s.lay.episodes ++ [{ h := c.2.1, g := c.2.2.1, first := m, last := m, minSq := c.2.2.2, breach := breach }] } }
    if breach then
      ({ s1 with
        gut := { s1.gut with breaches := inc32 s1.gut.breaches }
        recorder := { s1.recorder with sum := { s1.recorder.sum with breaches := s1.recorder.sum.breaches + 1 } } }).logEvent 0x4001 c.2.1 c.2.2.1 (env.dtOf m)
    else s1

/-- The monitor at sample `k`: episodes begin, grow and end; the anchors move on (R151, R157). -/
def State.monitor (env : LayEnv) (ahead : Lay) (k : Nat) (lits : List Bool) (s : State) : State :=
  let s1 := (s.conflicts env ahead k lits).foldl (fun (s : State) (c : Nat × Nat × Nat × Nat) => s.joinEpisode env c) s
  let past (e : Episode) : Bool := decide (e.last + env.persist ≤ k)
  let ended := s1.lay.episodes.filter past
  let s2 := ended.foldl (fun (s : State) (e : Episode) => s.episodeEntry e) { s1 with lay := { s1.lay with episodes := s1.lay.episodes.filter fun e => !past e } }
  let anchors := (List.range 32).map fun (h : Nat) =>
    let lit := if (s.lay.head h).streamed then lits.getD h false else (ahead.head h).lit env.ts k
    if lit then some (k, s.lay.pointAt env h k) else (s.lay.head h).anchor
  { s2 with lay := { s2.lay with heads := s2.lay.heads.zipIdx.map fun (x : LayHead × Nat) => { x.1 with anchor := anchors.getD x.2 x.1.anchor } } }

/-! PEER_SLOT. -/

/-- The origin of the peer's grid, as its CAP gave it (log entry 40). -/
def State.peerOrigin (s : State) : Nat × Nat := (field s.pair.peerCap 16 3, field s.pair.peerCap 19 3)

/-- A deposit for the peer: sample DT, head, the peer's cell, heat (R255). -/
structure Border where
  dt : Nat
  head : Nat
  cell : Nat
  heat : Nat
  deriving DecidableEq, Repr

def Border.bytes (b : Border) : List Byte :=
  leBytes 8 b.dt ++ leBytes 1 b.head ++ zeros 1 ++ leBytes 2 (b.cell % 4096) ++ leBytes 2 (b.cell / 4096) ++ leBytes 2 b.heat
/-- The content of the slot's PEER_SLOT frame; in EXPOSE it carries the point of every head taking part. -/
def State.peerSlot (s : State) (env : LayEnv) (slot k : Nat) (active : Bool) (lits : List Bool) (bs : List Border) : List Byte :=
  let heads := if active then (List.range 32).filter fun (h : Nat) => (s.lay.head h).takesPart else []
  let point (h : Nat) : List Byte :=
    let p := s.lay.pointAt env h k
    let live := match (s.lay.head h).anchor with | some a => decide (k ≤ a.1 + env.persist) | none => false
    leBytes 1 h ++ leBytes 1 (bit (lits.getD h false) + 2 * bit live) ++ leBytes 3 p.1 ++ leBytes 3 p.2
  leBytes 1 0x11 ++ leBytes 1 (bit active + 2 * bit (s.cyc.state == .hold)) ++ leBytes 2 (slot % 65536) ++ leBytes 8 (16 * s.ts * slot) ++
    leBytes 1 heads.length ++ leBytes 1 bs.length ++ zeros 2 ++ heads.flatMap point ++ bs.flatMap Border.bytes
/-- The frame is sent while both lanes of the peer link are up. -/
def State.sendPeerSlot (content : List Byte) (s : State) : State :=
  if s.pair.link && s.role != 0 then s.send (.peer (framed content)) else s

end Sys2Proof.Machine
end

