-- ==== Sys2Proof/Machine/Cross.lean ====
section
/-! DEFINITION. Cross-device gutters and zone units in a pair's layer (R494 to R496), and what a split leaves of them (R498). The
places of the fields of CLAIM and RELEASE are the model's (log entry 44). -/

namespace Sys2Proof.Machine

/-! CLAIM and RELEASE payloads (Table 18.5). -/

/-- A CLAIM request: head, landing point, remaining cost, own round. -/
def claimRequest (h : Nat) (p : Pt) (cost round : Nat) : List Byte :=
  leBytes 1 0 ++ leBytes 1 h ++ zeros 2 ++ leBytes 3 p.1 ++ leBytes 3 p.2 ++ zeros 2 ++ leBytes 4 (satNat 4294967295 cost) ++ leBytes 8 round
/-- A CLAIM grant: head, the primary's pool, the record's index in it, the primary's round; 0xFFFFFFFF for no unit. -/
def claimGrant (h pool record round : Nat) : List Byte :=
  leBytes 1 1 ++ leBytes 1 h ++ leBytes 2 pool ++ leBytes 4 record ++ zeros 8 ++ leBytes 8 round
def noUnit : Nat := 4294967295
/-- A RELEASE request or grant: head, unit identity (its first record index), lines. -/
def releaseBytes (kind h unit : Nat) (lines : List GLine) : List Byte :=
  leBytes 1 kind ++ leBytes 1 h ++ leBytes 2 lines.length ++ leBytes 4 unit ++ lines.flatMap fun (g : GLine) =>
    leBytes 3 (toBed g.x0) ++ leBytes 3 (toBed g.y0) ++ leBytes 3 (toBed g.x1) ++ leBytes 3 (toBed g.y1)

/-! The primary (R495, R496). -/

/-- Units that a round has taken out of a cross-device pool. -/
def takenUnits (before after : Lay) (pool : Nat) : List WUnit :=
  (before.pools.getD pool []).filter fun (u : WUnit) => !(after.pools.getD pool []).contains u
/-- The head at work on a unit. -/
def Lay.holderOf (l : Lay) (u : WUnit) : Option Nat :=
  (List.range l.heads.length).find? fun (h : Nat) => match (l.head h).cur with | some v => v.first == u.first && v.pool == u.pool | none => false

/-- Every unit of a cross-device pool consumed in a round is told to the secondary, and a CLAIM that found nothing is answered. -/
def State.tellClaims (before : Lay) (round : Nat) (s : State) : State :=
  let env := s.layEnv
  let l := s.lay
  let s1 := s.layerTable.foldl (fun (s : State) (c : CrossPool) =>
    (takenUnits before l c.own).foldl (fun (s : State) (u : WUnit) =>
      match l.holderOf u with
      | some h => s.peerSend 4 (claimGrant h c.own (u.first - (env.pools.getD c.own {}).offset) round)
      | none => s) s) s
  let denied := (List.range l.heads.length).filter fun (h : Nat) => (l.head h).remote && (l.head h).asks && (l.head h).cur.isNone
  let s2 := denied.foldl (fun (s : State) (h : Nat) => s.peerSend 4 (claimGrant h 0 noUnit round)) s1
  let done := l.heads.map fun (x : LayHead) => if x.remote then { x with asks := false, cur := none, path := {} } else x
  { s2 with lay := { l with heads := done } }

/-- The primary's guard tests one release request of the secondary against every released unit (R152, R496). -/
def State.testRelease (round : Nat) (q : PeerReq) (s : State) : State :=
  let env := s.layEnv
  let lines := q.lines.filterMap guardLine
  if env.holding && (releaseFail env.geom env.corridors q.head lines (s.lay.others q.head)).isSome then s
  else
    let unit : Released := { head := q.head, serial := 1099511627776 + 64 * s.lay.nextSerial + q.head, lines := q.lines, round := round }
    let s1 := { s with lay := { s.lay with released := s.lay.released ++ [unit], nextSerial := s.lay.nextSerial + 1 } }
    (s1.setPair fun (x : PairState) => { x with requests := x.requests.filter fun r => r != q }).peerSend 5 (releaseBytes 1 (q.head - 32) q.unit [])

/-- The release of a peer head's unit ends P samples on, once the head asks for another unit: the device is told no earlier. -/
def Lay.endPeer (env : LayEnv) (h : Nat) (l : Lay) : Lay :=
  { l with released := l.released.map fun (r : Released) => if r.head = h ∧ r.until_.isNone then { r with until_ := some (l.k + env.persist) } else r }

/-! The secondary. -/

/-- A head that stands where a cross-device unit may be had sends CLAIM; a zone unit that waits for its release sends RELEASE. -/
def State.askPrimary (h : Nat) (s : State) : State :=
  let env := s.layEnv
  let x := s.lay.head h
  if x.free && x.waits == 0 && s.lay.asksPeer env h then
    { s with lay := s.lay.setHead h { x with waits := 1 } }.peerSend 4 (claimRequest h (toBed x.path.x, toBed x.path.y) x.cost s.lay.k)
  else match x.cur with
    | none => s
    | some u =>
      if x.live && !x.streamed && x.path.wantsRelease && x.holdSince.isSome && x.waits != 3 && env.zoned (unitLines u) then
        { s with lay := s.lay.setHead h { x with waits := 3 } }.peerSend 5 (releaseBytes 0 h u.first (unitLines u))
      else s

/-- What the two devices of a pair tell each other after a round. -/
def State.peerTalk (before : Lay) (s : State) : State :=
  if s.pairRole = 1 then
    let round := s.lay.k - 1
    let s1 := s.tellClaims before round
    s1.pair.requests.foldl (fun (s : State) (q : PeerReq) => s.testRelease round q) s1
  else if s.pairRole = 2 then (List.range 32).foldl (fun (s : State) (h : Nat) => s.askPrimary h) s
  else s

/-! Messages received (R495, R496). -/

/-- A CLAIM request on the primary: the peer head asks in the next round; its cost stands for its lead. -/
def State.claimAsked (p : List Byte) (s : State) : State :=
  let g := 32 + field p 1 1
  let x := s.lay.head g
  let cost := field p 12 4
  if !x.remote || !x.takesPart || decide (64 ≤ g) then s.peerSend 4 (claimGrant g 0 noUnit (s.lay.k - 1))
  else
    let l := s.lay.endPeer s.layEnv g
    let at_ : HeadPath := { x := 65536 * (field p 4 3 : Nat), y := 65536 * (field p 7 3 : Nat) }
    { s with lay := l.setHead g { x with asks := true, cost := cost, path := at_, sheet := if cost = 0 then [] else [{}] } }

/-- A CLAIM grant on the secondary: the unit is consumed here too, by this device's head or by the primary's. POS and CAUSE of the
primary's heads are free values, the message does not carry them. -/
def State.claimGranted (p : List Byte) (s : State) : State :=
  let env := s.layEnv
  let g := field p 1 1
  let record := field p 4 4
  let round := field p 16 8
  let l := s.lay
  if record = noUnit then
    let x := l.head (g - 32)
    if 32 ≤ g ∧ g < 64 then { s with lay := l.setHead (g - 32) { x with waits := if x.waits = 1 then 2 else x.waits } } else s
  else match s.layerTable.find? fun c => c.peer == field p 2 2 with
    | none => s
    | some c =>
      match (l.pools.getD c.own []).find? fun (u : WUnit) => u.first == (env.pools.getD c.own {}).offset + record with
      | none => s
      | some u =>
        if 32 ≤ g ∧ g < 64 then
          let h := g - 32
          let x := l.head h
          s.setLay (((l.remove u).out (.claim u.first c.own g (if x.sheet.isEmpty then 0 else 1) x.taken 0 round)).give env h 1 u)
        else
          let a := s.take
          let b := a.2.take
          b.2.setLay ((l.remove u).out (.claim u.first c.own g (Config.freeValue a.1 % 5) (Config.freeValue b.1 % 4294967296) 0 round))

/-- A RELEASE request on the primary: it waits for the guard's part of a round. -/
def State.releaseAsked (p : List Byte) (s : State) : State :=
  let g := 32 + field p 1 1
  let line (i : Nat) : URec :=
    { idx := i, x0 := 65536 * (field p (8 + 12 * i) 3 : Nat), y0 := 65536 * (field p (11 + 12 * i) 3 : Nat), x1 := 65536 * (field p (14 + 12 * i) 3 : Nat)
      y1 := 65536 * (field p (17 + 12 * i) 3 : Nat), prof := 0, cls := 0, flags := 0 }
  let q : PeerReq := { head := g, unit := field p 4 4, lines := (List.range (field p 2 2)).map line }
  if 64 ≤ g then s
  else ({ s with lay := s.lay.endPeer s.layEnv g } : State).setPair fun (x : PairState) => { x with requests := (x.requests.filter fun r => r.head != g) ++ [q] }

/-- A RELEASE grant on the secondary. -/
def State.releaseGranted (p : List Byte) (s : State) : State :=
  let env := s.layEnv
  let h := field p 1 1
  let k := s.lay.k - 1
  let x := s.lay.head h
  match x.cur with
  | none => s
  | some u =>
    if x.waits != 3 || u.first != field p 4 4 then s
    else
      let l := s.lay.endHold env k h
      let y := l.head h
      s.setLay { l.setHead h { y with path := y.path.grant k, waits := 0 } with
        released := l.released ++ [{ head := h, serial := y.serial, lines := u.recs, round := k }] }

/-- A CLAIM or RELEASE message (`type` 4 or 5), by the device's role. -/
def State.crossMessage (type : Nat) (p : List Byte) (s : State) : State :=
  let kind := field p 0 1
  if s.pairRole = 1 ∧ kind = 0 then (if type = 4 then s.claimAsked p else s.releaseAsked p)
  else if s.pairRole = 2 ∧ kind = 1 then (if type = 4 then s.claimGranted p else s.releaseGranted p)
  else s
/-- A message that comes before this device's EXPOSE has begun waits for it. -/
def State.crossArrived (type : Nat) (p : List Byte) (s : State) : State :=
  if s.exposing then s.crossMessage type p
  else if s.pairRole = 0 then s else s.setPair fun (x : PairState) => { x with early := x.early ++ [(type, p)] }
def State.crossEarly (s : State) : State :=
  let early := s.pair.early
  early.foldl (fun (s : State) (m : Nat × List Byte) => s.crossMessage m.1 m.2) (s.setPair fun (x : PairState) => { x with early := [] })

/-! Split (R498). -/

/-- The path keeps the record it is on, closed as the last of its unit, and stops there. -/
def HeadPath.endAfter (env : PathEnv) (r : URec) (p : HeadPath) : HeadPath :=
  let kept := (p.segs.takeWhile fun (g : Seg) => decide (g.ri ≠ r.idx)) ++ ((p.segs.dropWhile fun (g : Seg) => decide (g.ri ≠ r.idx)).takeWhile fun (g : Seg) => decide (g.ri = r.idx))
  match kept.getLast? with
  | none => p
  | some g =>
    let e0 : Expand := { x := g.bx, y := g.by_, out := kept.reverse }
    let e := e0.join 0 (decide (g.kind = .mark))
    { p with segs := (if decide (g.kind = .mark) && r.live then e.runOut env r else e).out.reverse }

/-- A unit of a cross-device pool in progress ends with the record it is on; the rest stays unexposed with cause 3. -/
def Lay.cutCross (env : LayEnv) (cross : List Nat) (h : Nat) (l : Lay) : Lay :=
  let x := l.head h
  match x.cur with
  | none => l
  | some u =>
    if !x.live || x.streamed || !((u.pool.map cross.contains).getD false) then l
    else
      let at_ := match x.path.segs.find? fun (g : Seg) => u.recs.any fun (r : URec) => r.idx == g.ri && decide (g.cls ≠ 5) with
        | some g => g.ri
        | none => u.first
      let keep := u.recs.filter fun (r : URec) => decide (r.idx ≤ at_)
      let rest := u.recs.filter fun (r : URec) => decide (at_ < r.idx)
      let path := match keep.find? fun (r : URec) => r.idx == at_ with | some r => x.path.endAfter (env.path h) r | none => x.path
      rest.foldl (fun (l : Lay) (r : URec) => if r.cls = 5 then l else l.out (.unexposed r.idx 255 3 0))
        (l.setHead h { x with cur := some { u with recs := keep }, path := if rest.isEmpty then x.path else path })

/-- The layer after a split: no cross-device unit is handed out any more, the peer's heads take no part. -/
def Lay.split (env : LayEnv) (cross : List Nat) (l : Lay) : Lay :=
  let l1 := (List.range 32).foldl (fun (l : Lay) (h : Nat) => l.cutCross env cross h) l
  let units := cross.flatMap fun (g : Nat) => l1.pools.getD g []
  let l2 : Lay := { l1 with
    pools := l1.pools.zipIdx.map fun (p : List WUnit × Nat) => if cross.contains p.2 then [] else p.1
    released := l1.released.filter fun (r : Released) => decide (r.head < 32)
    heads := l1.heads.map fun (x : LayHead) => if x.remote then { x with takesPart := false, cur := none } else { x with waits := 0 } }
  units.foldl (fun (l : Lay) (u : WUnit) => u.recs.foldl (fun (l : Lay) (r : URec) =>
    if r.cls = 5 then l else l.out (.unexposed r.idx 255 3 0)) l) l2

end Sys2Proof.Machine
end

