-- ==== Sys2Proof/Machine/Fences.lean ====
section
/-! DEFINITION. `STREAM_FENCE` (R392): the instant T_f and the markers of every output stream, completion queue and session. -/

namespace Sys2Proof.Machine

/-- Result of a `STREAM_FENCE` (Table 14.16). -/
def fenceResult (number tf : Nat) : List Byte := leBytes 4 number ++ zeros 4 ++ leBytes 8 tf

/-- The marker of a queue or session other than the issuing one. -/
def State.markQueue (o : Origin) (result : List Byte) (s : State) : State :=
  s.reply o 0 true (statusPacket 0x0042 (s.versionOf o) 1 0 0xFFFF stOk result)

/-- The queues and sessions that take a marker: every enabled one but the issuing one. -/
def State.markOrigins (from_ : Origin) (s : State) : List Origin :=
  (((List.range 64).filter fun (q : Nat) => (s.host.qps.getD q {}).enabled).map Origin.qp ++
    ((List.range 16).filter fun (i : Nat) => (s.host.sessions.getD i none).isSome).map Origin.session).filter fun (o : Origin) => o != from_

/-- The markers of the output streams (R191, R277, R514, R516); the raw stream takes none (R199). -/
def State.markStreams (tf tag number : Nat) (s : State) : State :=
  let slot := (tf + 16 * s.ts - 1) / (16 * s.ts)
  let s1 := { s with mps := { s.mps with fenceMarks := s.mps.fenceMarks ++ [(slot, fenceMarker tf tag number)] } }
  let s2 := s1.flushRecords
  let s3 := s2.statsEntry true ({ type := 3, number := number, dtA := tf, layer := s2.imgLayer, tag := tag } : EntryHead).bytes
  (s3.buildEntry 0xF0 (leBytes 4 number ++ leBytes 2 tag ++ zeros 2 ++ leBytes 8 tf)).streamEvent true (eventFence tf tag number)

/-- The fence of the packet at T_f: its number, the markers; answers the command's result. -/
def State.fenceAt (tf : Nat) (p : Packet) (s : State) : State × List Byte :=
  let number := s.host.fenceNumber + 1
  let s1 := ({ s with host := { s.host with fenceNumber := number } }).markStreams tf p.tag number
  let res := fenceResult number tf
  ((s1.markOrigins p.origin).foldl (fun (s : State) (o : Origin) => s.markQueue o res) s1, res)

/-- `STREAM_FENCE`s whose boundary has come: `tf` is a sample boundary after they started. -/
def State.fencesDue (tf : Nat) (s : State) : State :=
  let due := s.host.fences.filter fun (f : Nat × Nat) => decide (f.2 < tf)
  let s1 := { s with host := { s.host with fences := s.host.fences.filter fun (f : Nat × Nat) => !decide (f.2 < tf) } }
  due.foldl (fun (s : State) (f : Nat × Nat) =>
    match s.host.inProg.find? fun (i : InProg) => i.acc == f.1 with
    | none => s
    | some i =>
      let r := s.fenceAt tf i.packet
      r.1.complete f.1 stOk r.2) s1

end Sys2Proof.Machine
end

