-- ==== Sys2Proof/Machine/Expose.lean ====
section
/-! DEFINITION. The slot (R351): what every head engine does at a sample boundary of EXPOSE and in a slot outside it. -/

namespace Sys2Proof.Machine

/-! The steps of a sample, in the order the slot takes them. -/

/-- The generator step of the sample that begins; a layer that resumes does so before it (R91, R109, R111). -/
def State.layStep (env : LayEnv) (resume : Bool) (s : State) : State :=
  s.setLay ((if resume then s.lay.resume env else s.lay).step env)

/-- A streaming head takes its sample; without one its point stands (R116, R117). -/
def State.streamStep (h : Nat) (s : State) : State × Option StreamSample :=
  let x := s.lay.head h
  if !x.streamed || !x.takesPart || x.remote then (s, none)
  else
    let r := if x.lost || s.lay.hold || s.cyc.state != .armed then (s, none) else s.streamNext h
    let y := r.1.lay.head h
    let last : Sample := (y.path.hist.head?).getD { x := y.path.x, y := y.path.y, z := 0, v := 0, cls := 4 }
    let smp : Sample := match r.2 with | some st => st.point | none => { last with cls := 4, flags := 0 }
    ({ r.1 with lay := r.1.lay.setHead h { y with path := { y.path with hist := (smp :: y.path.hist).take histKeep } } }, r.2)

/-- The head command of sample `k` (R81, R107, R109, R116). -/
def State.headCommand (env : LayEnv) (h : Nat) (st : Option StreamSample) (s : State) : State :=
  let x := s.lay.head h
  if !x.takesPart then s
  else if x.streamed then
    match st with
    | some q => s.setTrj h fun (t : TrjHead) => { t with triple := { hx := q.hx, hy := q.hy, hz := q.hz } }
    | none => s
  else
    let n := env.span false h
    let f := x.path.filtered n
    let update := if s.lay.hold || x.lost then decide (x.path.v = 0) else decide (x.path.jumpRun = n + 1)
    (if update then s.driftStep h else s).command h true f.1 f.2.1 f.2.2

/-- A cut of R127 other than a cut rule's. -/
def State.laserCut (s : State) (h : Nat) : Bool :=
  (s.lay.head h).lost || (s.lasHead h).cut || s.lay.hold || s.cyc.state != .armed

/-- What the block of sample `k` of head `h` stands on. -/
structure Block where
  win : Option Win := none
  prof : ExpProfile := {}
  stream : Option StreamSample := none
  deriving DecidableEq, Repr

def State.blockOf (s : State) (env : LayEnv) (ahead : Lay) (k h : Nat) (st : Option StreamSample) : Block :=
  if (s.lay.head h).streamed then { stream := st }
  else
    let w := powerWindow env.ts k (ahead.head h).path.wins
    { win := w, prof := match w with | some w => s.activeProfiles.getD (w.profAt (16 * env.ts * k : Nat)) {} | none => {} }
def Block.lit (b : Block) (level : Bool) : Bool := match b.stream with | some st => st.lit level | none => b.win.isSome
def Block.probe (b : Block) : Bool :=
  match b.stream with | some st => decide (st.cls = 6) | none => (match b.win with | some w => decide (w.cls = 6) | none => false)

/-- The note of a block: what the rules and loops that read its sample need (R215, R222, R228). -/
def State.noteOf (s : State) (env : LayEnv) (ahead : Lay) (i k h : Nat) (b : Block) (af : Int) : BlockNote :=
  let x := s.lay.head h
  let lit := b.lit (s.trj h).strLevel
  { slot := i, active := x.takesPart, lit := lit, cut := s.laserCut h, probe := b.probe
    winStart := match b.win with
      | some w => s.slot0 + w.firstLit env.ts
      | none => match s.noteAt h (i - 1) with | some n => if n.lit then n.winStart else i | none => i
    af := af, mpClass := b.prof.mpClass, mask := if x.streamed then s.param 0x300C h else b.prof.ruleMask
    ledger := if x.takesPart then s.feedAt (env.dtOf k) (s.lookAhead env ahead h k) else 0
    ri := (s.lay.identAt h k).ri, frame := s.camera h (env.dtOf k) k, command := s.axisWords h }

/-- The laser block (R118 to R127). -/
def State.laserOf (s : State) (env : LayEnv) (ahead : Lay) (k h : Nat) (b : Block) (rules : List Nat) : LaserOut :=
  let x := s.lay.head h
  let l := s.lasHead h
  let i : LaserIn :=
    { corr := s.corrOf env ahead h k b.win, scale := scaleOf rules, ruleCut := rules.any fun r => ruleAction r == 2, cut := s.laserCut h, gate := l.gate
      ceil := min (s.param 0x3000 h) (field (s.hlk h).cap 24 2) }
  if !x.takesPart then { edges := if l.gate then [(0, false)] else [] }
  else if x.streamed then
    match b.stream with
    | some st => streamBlock i (s.trj h).strLevel st (match s.noteAt h (s.slot0 + k - 1) with | some n => n.lit | none => false)
    | none => { edges := if l.gate then [(0, false)] else [] }
  else laserBlock env.ts k s.activeProfiles (ahead.head h).path.wins i

/-- What a block leaves: the gate level, when it fell, the counts (R122, R124, R137). -/
def State.laserDone (h t : Nat) (b : Block) (o : LaserOut) (s : State) : State :=
  let s1 := s.setLas h fun (x : LasHead) => { x with
    gate := o.gate
    gateOff := match o.edges.getLast? with | some e => if e.2 then x.gateOff else t + e.1 | none => x.gateOff
    drops := add32 x.drops o.dropped
    clamps := if o.clamped then inc32 x.clamps else x.clamps }
  match b.stream with
  | some st => s1.setTrj h fun (q : TrjHead) => { q with strLevel := st.endLevel q.strLevel }
  | none => s1

/-- The deposit of a sample and its copy for the peer (R242, R255). -/
def State.deposit (h t : Nat) (p : Pt) (power : Nat) (s : State) : State × List Border :=
  let heat := depositHeat power s.ts (s.dparam 0x7002) (s.dparam 0x7003)
  if s.ldgAssisted || heat == 0 then (s, [])
  else
    let pitch := pitchUnits s.pitchCode
    let s1 := match cellOf pitch s.originX s.originY p with
      | none => { s with ledger := { s.ledger with outside := updAt s.ledger.outside h inc32 } }
      | some c => { s with ledger := { s.ledger with peer := s.ledger.peer ++ [{ key := t + 16 * s.ts, head := h, cell := c, heat := heat }] } }
    let far := if s.isPaired then cellOf pitch s.peerOrigin.1 s.peerOrigin.2 p else none
    (s1, match far with | some c => [{ dt := t, head := h, cell := c, heat := heat }] | none => [])

/-- The record of a sample, its deposit and its retained frame (R187, R188, R197, R242). -/
def State.sampleRecord (env : LayEnv) (i k h : Nat) (n : BlockNote) (o : LaserOut) (s : State) : State × List Border :=
  let t := env.dtOf k
  let d := s.param 0x500A h
  let j := k - d
  let p := if k < d then (s.lay.head h).path.hist.getLast?.map (fun (q : Sample) => (toBed q.x, toBed q.y)) |>.getD (s.lay.pointAt env h j)
    else s.lay.pointAt env h j
  let id : Sample := if k < d then { x := 0, y := 0, z := 0, v := 0, cls := 4 } else s.lay.identAt h j
  let r : PendingRec :=
    { k := i, head := h, dt := t, x := p.1, y := p.2, cls := id.cls, flags := id.flags, power := o.power, corr := o.corr, ledger := n.ledger, frame := n.frame }
  let s1 := { s with mps := { s.mps with pendingRecs := s.mps.pendingRecs ++ [r] } }
  let number := k / s.param 0x5001 h
  let s2 := if (s.lay.identAt h k).flags.testBit 2 then
      s1.setMps h fun (m : MpsHead) => if m.retain.contains number then m else { m with retain := number :: m.retain.take 15 }
    else s1
  s2.deposit h t p o.power

/-- A SOURCE_PULSED window begins on a port at version 1: a CMD_REJECT (R357). -/
def State.pulseReject (h k : Nat) (env : LayEnv) (b : Block) (s : State) : State :=
  match b.win with
  | some w => if b.prof.mode = 2 ∧ w.firstLit env.ts = k ∧ (s.hlk h).version / 16 = 1 ∧ !s.laserCut h then s.headStop h 10 else s
  | none => s

/-- One head at sample `k`: command, note, rules, block, record; answers the block and the gate level before it. -/
def State.headSample (env : LayEnv) (ahead : Lay) (i k h : Nat) (before : Int) (st : Option StreamSample) (s0 : State) :
    State × LaserOut × List Border :=
  let x := s0.lay.head h
  let b := s0.blockOf env ahead k h st
  let s1 := (s0.headCommand env h st).pulseReject h k env b
  let free : Int := toSigned 32 (Config.freeValue s1.fresh % 4294967296)
  let s2 := if x.streamed && x.takesPart then { s1 with fresh := s1.fresh + 1 } else s1
  let n0 := s2.noteOf env ahead i k h b (if x.streamed then free else x.path.af)
  let rules := s2.acting h n0
  let s3 := (s2.keepNote h { n0 with rule := !rules.isEmpty }).ruleRun h before rules
  let o := s3.laserOf env ahead k h b rules
  let s4 := s3.laserDone h (env.dtOf k) b o
  if (s4.lay.head h).live && !x.remote then
    let r := s4.sampleRecord env i k h n0 o
    (r.1, o, r.2)
  else (s4, o, [])

/-! The slot. -/

/-- A list of heads worked through, the answers kept in order. -/
def foldHeads {α : Type} (f : Nat → State → State × α) : List Nat → State → State × List α
  | [], s => (s, [])
  | h :: hs, s =>
    let r := f h s
    let q := foldHeads f hs r.1
    (q.1, r.2 :: q.2)

/-- A layer in HOLD goes on: RESUME has been given, the emission lead has passed, the peer has resumed (R39, R135, R493). -/
def State.resumesNow (s : State) (t : Nat) : Bool :=
  s.lay.hold && s.cyc.state == .armed && decide (s.cyc.armedAt + 16000 * s.dparam 0x3002 ≤ t) && !(s.isPaired && s.pair.resumeWait)

/-- Slot `i`, sample `k` of EXPOSE. -/
def State.exposeSlot (i k : Nat) (s0 : State) : State :=
  let env := s0.layEnv
  let t := env.dtOf k
  let before := (List.range 32).map fun (h : Nat) => (s0.loopState h).out
  let s1 := ((s0.layStep env (s0.resumesNow t)).peerTalk s0.lay).loopsAt i
  let r2 := foldHeads State.streamStep (List.range 32) s1
  let s2 := r2.1
  let ahead := s2.lay.run env s2.aheadSteps
  let lits := (List.range 32).map fun (h : Nat) =>
    let x := s2.lay.head h
    if x.streamed then (match r2.2.getD h none with | some st => st.lit (s2.trj h).strLevel | none => false) else (ahead.head h).lit env.ts k
  let s3 := s2.monitor env ahead k lits
  let s4 := (List.range 32).foldl (fun (s : State) (h : Nat) => if s.ruleLag h ≤ i then s.rulesEval h (i - s.ruleLag h) else s) s3
  let gates := (List.range 32).map fun (h : Nat) => (s4.lasHead h).gate
  let r5 := foldHeads (fun (h : Nat) (s : State) => s.headSample env ahead i k h (before.getD h 0) (r2.2.getD h none)) (List.range 32) s4
  let s6 := (List.range 32).foldl (fun (s : State) (h : Nat) => s.sendDown h i true (gates.getD h false) (r5.2.getD h ({}, [])).1) r5.1
  let s7 := s6.sendPeerSlot (s6.peerSlot env i k true lits (r5.2.flatMap (·.2)))
  (s7.setCyc fun (c : Cycle) => { c with sample := k + 1, lastSlot := t }).noteDone

/-- Slot `i` outside EXPOSE. -/
def State.restSlot (i : Nat) (s0 : State) : State :=
  let s1 := s0.loopsAt i
  let s2 := (List.range 32).foldl (fun (s : State) (h : Nat) =>
    let s' := if s.ruleLag h ≤ i then s.rulesEval h (i - s.ruleLag h) else s
    let s1 := if s'.partner h then s' else s'.driftStep h
    let s'' := if s1.inProfile h && !s1.partner h then s1.restCommand h else s1
    let off := s''.setLas h fun (x : LasHead) => if x.gate then { x with gate := false, gateOff := 16 * s0.ts * i } else x
    (off.keepNote h { slot := i, command := off.axisWords h }).sendDown h i false false {}) s1
  (s2.sendPeerSlot (s2.peerSlot s2.layEnv i 0 false [] [])).setCyc fun (c : Cycle) => { c with lastSlot := 16 * s0.ts * i }

/-- The kettle fence falls at the boundary of the next sample (R165). -/
def State.fenceDue (s : State) : Bool :=
  s.exposing && s.cyc.state == .armed && decide (s.layEnv.dtOf s.cyc.sample ≤ s.dt) && s.lay.fenceAt s.layEnv s.cyc.sample

/-- SLOT_BOUNDARY: in EXPOSE the next sample, once its DT has come; outside it the latest slot instant, once. -/
def State.slotBoundary (s0 : State) : State :=
  let at_ := if s0.exposing then s0.layEnv.dtOf s0.cyc.sample else s0.dt / (16 * s0.ts) * (16 * s0.ts)
  if s0.dt < at_ ∨ (!s0.exposing ∧ at_ ≤ s0.cyc.lastSlot) then s0
  else
    let s1 := s0.depositsTo at_
    let s2 := if s1.fenceDue then s1.kettleFence else s1
    let s3 := (s2.fixReadouts false at_).fencesDue at_
    let i := at_ / (16 * s3.ts)
    if s3.exposing then s3.exposeSlot i s3.cyc.sample else s3.restSlot i

end Sys2Proof.Machine
end

