-- ==== Sys2Proof/Machine/Start.lean ====
section
/-! DEFINITION. The start of EXPOSE (R28, R135, R353, Table 01.4) and of a pair's layers (R493, R494). -/

namespace Sys2Proof.Machine

/-- The bank whose signature the next EXPOSE takes. -/
def State.startBank (s : State) : Option Nat := match s.activeBank with | some k => some k | none => s.nextActive
def State.startSig (s : State) : Signature := match s.startBank with | some k => (s.bank k).sig | none => {}
/-- Heads that take part: in the profile, with a sheet polygon in the signature (R49). -/
def State.takesPart (s : State) (sig : Signature) (h : Nat) : Bool :=
  s.inProfile h && !s.partner h && !(sig.sheets.getD h {}).verts.isEmpty
/-- A head that can expose from sample 0; every other head taking part is lost (R160). -/
def State.usable (s : State) (h : Nat) : Bool :=
  s.linkUp h && !s.las.stopped.testBit h && (s.dparam 0x3001).testBit h && s.headIslandOk h && !(s.hlk h).capChanged &&
    (s.streaming || (s.trj h).fc.isSome)

/-- The EXPOSE conditions of Table 01.4, R34, R135 and R353; the DT and the peer apart. -/
def State.exposeReady (s : State) : Bool :=
  s.cyc.state == .armed && s.cyc.phase == .load && s.cyc.boundary.isNone && (!s.hostCycle || s.cyc.asked == some .expose) && s.startBank.isSome &&
    decide (s.cyc.armedAt + 16000 * s.dparam 0x3002 ≤ s.dt) &&
    !((List.range 32).any fun (h : Nat) => s.takesPart s.startSig h && s.linkUp h && (s.hlk h).cameraOpen)

/-! A pair (R493, R494). -/

/-- The check values of the cross-device pools agree with the partner's. -/
def State.poolsAgree (s : State) : Bool :=
  let sig := s.startSig
  (s.crossTable sig.layer).all fun (c : CrossPool) => ((s.pair.checks.find? fun e => e.1 == c.peer).map (·.2)).getD 0 == poolCheck sig c.own
/-- Both devices have named their layer: a mismatch is noted, or the primary fixes the start. -/
def State.pairStart (s : State) : State :=
  match s.pair.readySent, s.pair.readyGot with
  | some a, some b =>
    if a ≠ b then
      if s.pair.layerMismatch then s else (s.setPair fun (x : PairState) => { x with layerMismatch := true }).logEvent 0xC081 255 2 0
    else if !s.poolsAgree then
      if s.pair.poolMismatch then s else (s.setPair fun (x : PairState) => { x with poolMismatch := true }).logEvent 0xC081 255 3 0
    else if s.role = 1 ∧ s.pair.start.isNone ∧ s.pair.imageSent = s.pair.imageGot then
      let d := ceilDiv (s.dt + 16000 * s.dparam 0xC102) 16000 * 16000
      (s.setPair fun (x : PairState) => { x with start := some d, layerMismatch := false, poolMismatch := false }).cycleMessage a evStart 0 d []
    else s
  | _, _ => s
/-- READY_TO_EXPOSE, once the conditions hold and once for a layer. -/
def State.sayReady (s : State) : State :=
  let sig := s.startSig
  if s.pair.readySent = some sig.layer then s.pairStart
  else ((s.setPair fun (x : PairState) => { x with readySent := some sig.layer }).cycleMessage sig.layer evReady 0 0 (s.poolChecks sig)).pairStart

/-! What the start of EXPOSE does. -/

/-- The replay list of a layer (R148), read from DRAM (Table 05.1). -/
def State.replayOf (s : State) (layer : Nat) : Option (List ReplayEntry) :=
  (s.gut.replays.find? fun r => r.layer == layer).map fun (r : ReplayList) =>
    (List.range r.count).map fun (i : Nat) =>
      let b := s.dramRead (r.addr + 24 * i) 24
      { ri := field b 0 4, pool := field b 4 2, head := field b 6 1, pos := field b 8 4 }

/-- The correction map of the layer: none, or one of another size, gives 0x4000 throughout (R227). -/
def State.chooseMap (total : Nat) (s : State) : State :=
  if !s.assisted fnCorr then s
  else
    let bad (key : Nat) : State :=
      (({ s with loop := { s.loop with mapOff := true } }).logEvent 0x6002 255 key s.cyc.layer).buildEntry 0x22 (leBytes 1 key ++ zeros 7)
    match s.loop.maps.find? fun m => m.layer == s.cyc.layer with
    | none => bad 0
    | some m => if m.count = total then s else bad 1

/-- Streams, gates, cameras and drift notes of every head at the start of a layer (R114, R119, R171). -/
def State.freshHeads (s : State) : State :=
  let dt := s.dt
  { s with
    head := { s.head with trj := s.head.trj.map fun (x : TrjHead) => { x with
      strHead := 0, strNext := 0, tails := [(0, dt)], block := [], blockLast := false, strFault := false, strLevel := false, moved := false } }
    las := { s.las with heads := s.las.heads.map fun (x : LasHead) => { x with cut := false, gate := false } }
    mps := { s.mps with heads := s.mps.heads.map fun (x : MpsHead) => { x with results := [], retain := [], frameNo := 0, pixels := [], got := 0 } } }

/-- The peer's heads in the primary's layer (R495): they ask by CLAIM. -/
def State.peerHeads (s : State) (l : Lay) : Lay :=
  let table := s.layerTable
  if s.pairRole ≠ 1 ∨ table.isEmpty then l
  else
    let mask := table.foldl (fun (a : Nat) (c : CrossPool) => a ||| c.eligible) 0
    { l with heads := l.heads ++ (List.range 32).map fun (g : Nat) =>
      ({ takesPart := mask.testBit g, remote := true, streamed := true, streamDone := true } : LayHead) }

/-- EXPOSE begins at `dtS`. -/
def State.exposeStart (dtS : Nat) (s0 : State) : State :=
  let s1 := s0.dropRetained
  let s2 := match s1.activeBank, s1.nextActive with | none, some k => s1.activate k | _, _ => s1
  let sig := s2.startSig
  let s3 := s2.setCyc fun (c : Cycle) => { c with
    dtS := dtS, sample := 0, layer := sig.layer, thickness := sig.thickness, phase := .expose, phaseDone := false, asked := none }
  let s4 := s3.freshHeads.setPair fun (x : PairState) => { x with
    start := none, readySent := none, readyGot := none, fenceSent := false, fenceGot := false, imageSent := false, imageGot := false }
  let replay := s4.replayOf sig.layer
  let fixed := s4.assisted fnShare
  let replays := replay.isSome && !fixed && !s4.streaming
  let open_ : LayerSum := { open_ := true, layer := sig.layer, buildId := sig.buildId, replayed := replays }
  let s5 := { s4 with
    recorder := { s4.recorder with
      sum := open_
      build := s4.recorder.build.map fun (b : Build) => { b with firstLayer := some (b.firstLayer.getD sig.layer) } }
    gut := { s4.gut with begun := sig.layer :: s4.gut.begun, firstDone := none, diverged := false } }
  let s6 := (s5.buildEntry 2 (leBytes 8 dtS ++ leBytes 8 sig.buildId ++ leBytes 1 s5.cyc.profile.ts ++ leBytes 1 s5.cyc.profile.heads ++
    leBytes 1 (bit fixed + 2 * bit (s5.assisted fnGuard) + 4 * bit replays) ++ zeros 1 ++ leBytes 4 sig.total)).stageMarker
      (layerMarker dtS sig.layer s5.cyc.profile.ts s5.cyc.profile.heads)
  let s7 := (s6.useSnapshot sig.layer).chooseMap sig.total
  let paths := (List.range 32).map fun (h : Nat) => (s7.trj h).path
  let l := Lay.start s7.layEnv sig (s7.takesPart sig) s7.usable paths replay s7.streaming
  let all := Lay.start s7.layEnv sig (fun _ => false) (fun _ => false) paths none s7.streaming
  ((((s7.setLay (s7.peerHeads l)).peerTalk all).crossEarly.syncPhase 2).phaseEmd 2).noteDone

/-- EXPOSE_START. Unpaired, DT_s is the DT of the command, a multiple of 16,000 (R28); paired, it is the one START has fixed. -/
def State.tryExpose (s : State) : State :=
  if !s.exposeReady then s
  else if !s.isPaired then (if s.dt % 16000 = 0 then s.exposeStart s.dt else s)
  else match s.pair.start with
    | none => s.sayReady
    | some d => if s.dt < d then s else s.exposeStart d

end Sys2Proof.Machine
end

