-- ==== Sys2Proof/Machine/Upstream.lean ====
section
/-! DEFINITION. What a head sends up (R353 to R355): sensing, tracks, source status, camera pixels; frame results and retained frames
(R179 to R184, R190, R197 to R200). -/

namespace Sys2Proof.Machine

/-! Slots of upstream frames. -/

/-- The calibrated arrival instant of slot `i` (R355). -/
def State.arrival (s : State) (h i : Nat) : Nat := 16 * s.ts * (i + 1) + (s.hlk h).dUp
/-- The slot that a frame arriving now comes nearest to. -/
def State.nearSlot (s : State) (h : Nat) : Nat := (s.dt - (s.hlk h).dUp + 8 * s.ts) / (16 * s.ts) - 1
/-- The slot with this SEQ nearest to `near`. -/
def seqSlot (near seq : Nat) : Nat :=
  let d := (seq + 65536 - near % 65536) % 65536
  if d < 32768 then near + d else near + d - 65536

/-- A frame of a slot has come, whole or discarded. -/
def HlkPort.heard (i : Nat) (x : HlkPort) : HlkPort := { x with arrived := (i :: x.arrived).take 64 }

/-! Sensing (R175 to R177, R190). -/

def State.senseIn (s : State) (h : Nat) (pairs : List (Nat × Nat)) : Sense :=
  let c := s.param 0x5008 h
  senseOf (s.mpsHead h).ratio (s.param 0x5009 h) (byteField c 0 2) (byteField c 2 2) (byteField c 4 2) (byteField c 6 2) pairs
/-- The slot is a sample of EXPOSE for the head. -/
def State.sampleSlot (s : State) (h i : Nat) : Bool := match s.noteAt h i with | some n => n.active | none => false
/-- The sensing of a slot, and the records that it completes. -/
def State.putSense (h i : Nat) (x : Sense) (s : State) : State :=
  if (s.senseAt h i).isSome then s
  else
    let live := s.sampleSlot h i
    (s.setMps h fun (m : MpsHead) => { m with
      sense := ((i, x) :: m.sense).take 4096
      pdSat := if live && x.sat then inc32 m.pdSat else m.pdSat
      missingCount := if live && x.missing then inc32 m.missingCount else m.missingCount }).flushRecords

/-! Tracks (R321 to R323). -/

/-- The pairs of a slot on one axis; a lost track of a running servo loop stops the head (R323). -/
def State.putTrack (h a i : Nat) (pairs : List (Option (Nat × Nat))) (s : State) : State :=
  let was := (s.axisTrack h a).track.lost
  let s1 := s.axisSample h a i pairs
  if !was && (s1.axisTrack h a).track.lost && s1.loopMode (32 + 3 * h + a) != .off then s1.headStop h 34 else s1
/-- The slot's pairs did not come. -/
def State.noTracks (h i : Nat) (s : State) : State :=
  (List.range 3).foldl (fun (s : State) (a : Nat) =>
    if (s.axisTrack h a).track.active then s.putTrack h a i (List.replicate (trackPairs s.ts) none) else s) s

/-! Camera frames. -/

def State.roiW (s : State) (h : Nat) : Nat := byteField (s.param 0x5000 h) 4 1
def State.roiH (s : State) (h : Nat) : Nat := byteField (s.param 0x5000 h) 5 1
def State.pixelBytes (s : State) (h : Nat) : Nat := (10 * s.roiW h * s.roiH h + 7) / 8
/-- Pixel bytes of a frame at an offset; bytes that did not come stand as zero (R180, R197). -/
def State.pixelsIn (h n off : Nat) (bytes : List Byte) (s : State) : State :=
  if bytes.isEmpty then s
  else s.setMps h fun (m : MpsHead) =>
    let old := if m.frameNo = n then m.pixels else []
    let got := if m.frameNo = n then m.got else 0
    { m with frameNo := n, pixels := padTo off old ++ bytes, got := if off < old.length then got else got + bytes.length }

/-- The divisor of the profile's RAW field (R197). -/
def State.rawSelects (s : State) (n : Nat) : Bool := s.cyc.profile.raw != 0 && n % 2 ^ (s.cyc.profile.raw - 1) == 0
/-- A retained frame goes to the raw ring, or is dropped whole (R197 to R199). -/
def State.retainFrame (h : Nat) (r : FrameResult) (pixels : List Byte) (s : State) : State :=
  let keep := (s.mpsHead h).retain.contains r.number
  let host := s.assisted fnMps
  let cause := bit (s.rawSelects r.number) + 2 * bit keep + 4 * bit host
  if cause = 0 then s
  else
    let w := s.roiW h
    let hh := s.roiH h
    let raw := unpackPixels (w * hh) (padTo (s.pixelBytes h) pixels)
    let roi := s.param 0x5000 h
    let bytes := rawFrame h w hh s.cyc.layer (byteField roi 0 2) (byteField roi 2 2) cause (s.param 0x5002 h) raw
      (frameMarker h (16 * s.ts * (s.slot0 + r.start)) (!host) r)
    if s.ringSize 1 ≠ 0 ∧ bytes.length ≤ s.ringRoom 1 then { s.ringPut 1 bytes with mps := { s.mps with rawDropping := false } }
    else
      let s1 := { s with mps := { s.mps with rawDrops := inc32 s.mps.rawDrops, rawDropping := true } }
      if keep then s1.buildEntry 0x41 (leBytes 1 h ++ zeros 3 ++ leBytes 4 r.number) else s1

/-- A frame result: kept for the samples to come, marked in the stream, its frame retained (R184, R185, R191). -/
def State.putResult (h : Nat) (r : FrameResult) (pixels : List Byte) (s : State) : State :=
  let s1 := s.setMps h fun (m : MpsHead) => { m with
    results := (r :: m.results).take 8, truncCount := if r.truncated then inc32 m.truncCount else m.truncCount }
  let s2 :=
    if s1.param 0x500B h ≠ 1 ∨ s1.assisted fnMps then s1
    else
      let mark := frameMarker h (16 * s1.ts * (s1.slot0 + r.start)) true r
      if s1.exposing then { s1 with mps := { s1.mps with frameMarks := s1.mps.frameMarks ++ [(s1.dt / (16 * s1.ts) + 1, mark)] } }
      else s1.writeGroup s1.dt [] [mark]
  s2.retainFrame h r pixels

/-- Number of the next frame result of a head. -/
def MpsHead.next (m : MpsHead) : Nat := match m.results with | r :: _ => r.number + 1 | [] => 0
/-- Frame `n` began in the layer's EXPOSE and has no result yet (R179). -/
def State.frameOpen (s : State) (h n : Nat) : Bool :=
  s.cyc.profile.cam != 0 && s.recorder.sum.open_ && decide (n * s.param 0x5001 h < s.cyc.sample) && decide ((s.mpsHead h).next ≤ n)

/-- FRAME_RESULT: the frame being delivered is whole (R183, R184). -/
def State.frameDone (h : Nat) (s : State) : State :=
  let m := s.mpsHead h
  if !s.frameOpen h m.frameNo ∨ m.got ≠ s.pixelBytes h then s
  else
    let start := m.frameNo * s.param 0x5001 h
    let size := s.param 0x5006 h
    let r : FrameResult :=
      if s.assisted fnMps then { number := m.frameNo, start := start, done := s.dt }
      else frameMetrics (s.roiW h) (s.roiH h) (s.param 0x5003 h) (s.param 0x5004 h) (s.param 0x5005 h) (byteField size 0 2) (byteField size 2 2)
        (unpackPixels (s.roiW h * s.roiH h) m.pixels) m.frameNo start s.dt
    s.putResult h r m.pixels

/-- FRAME_TRUNCATED: the delivery window of a frame has ended without all of its bytes (R180, R184). -/
def State.frameCut (h : Nat) (s : State) : State :=
  let fp := s.param 0x5001 h
  let m := s.mpsHead h
  let n := m.next
  if s.dt < s.cyc.dtS + 16 * s.ts * fp * (n + 2) ∨ !s.frameOpen h n ∨ (m.frameNo = n ∧ m.got = s.pixelBytes h) then s
  else s.putResult h { number := n, start := n * fp, done := s.dt, truncated := true } (if m.frameNo = n then m.pixels else [])

/-! SAMPLE_UP. -/

/-- The lengths of Table 13.6 agree with the content. -/
def upLength (v : Nat) (c : List Byte) : Bool :=
  let axes := if v / 16 = 1 then 0 else ((List.range 3).filter fun a => (field c 14 1).testBit a).length
  let at_ := 16 + 4 * field c 2 1 + 4 * field c 3 1 * axes
  decide (at_ + 48 ≤ c.length) && c.length == at_ + 48 + field c (at_ + 36) 2

/-- A SAMPLE_UP that is discarded (R350, R355). -/
def State.upDiscard (h : Nat) (s : State) : State :=
  s.setHlk h fun (x : HlkPort) => { x.heard (s.nearSlot h) with discarded := inc32 x.discarded, missRun := x.missRun + 1 }

/-- A whole SAMPLE_UP: sensing, tracks, status, echo, acknowledgement, pixels. -/
def State.upWhole (h : Nat) (c : List Byte) (s0 : State) : State :=
  let i := seqSlot (s0.nearSlot h) (field c 12 2)
  let dtI := 16 * s0.ts * i
  let v := (s0.hlk h).version
  let n := field c 2 1
  let tc := field c 3 1
  let mask := if v / 16 = 1 then 0 else field c 14 1
  let axes := (List.range 3).filter fun a => mask.testBit a
  let trackAt := 16 + 4 * n
  let st := trackAt + 4 * tc * axes.length
  let miss := bit ((field c 1 1).testBit 0)
  let s1 := s0.setHlk h fun (x : HlkPort) => { x.heard i with missRun := 0, dsMiss := if miss = 1 then inc32 x.dsMiss else x.dsMiss }
  let want := pdInstants dtI (dtI + 16 * s1.ts)
  let whole := n == want.length && field c 4 4 == (want.headD 0) % 4294967296
  let late := decide (s1.arrival h i + 32 * s1.ts < s1.dt)
  let pairs := (List.range n).map fun (j : Nat) => (field c (16 + 4 * j) 2, field c (18 + 4 * j) 2)
  let s2 := if late then s1.putSense h i { missing := true } else if whole then s1.putSense h i (s1.senseIn h pairs) else s1
  let tracksOk := tc == trackPairs s2.ts && field c 8 4 == dtI / 4000 % 4294967296 && !late
  let s3 := (axes.zipIdx).foldl (fun (s : State) (a : Nat × Nat) =>
    s.putTrack h a.1 i ((List.range (trackPairs s.ts)).map fun (j : Nat) =>
      let o := trackAt + 4 * (tc * a.2 + j)
      if tracksOk then some (field c o 2, field c (o + 2) 2) else none)) s2
  let s4 := s3.sourceWord h (field c st 4) dtI
  let r : Int := ((s4.dt : Int) - field c (st + 4) 8) - ((field c (st + 20) 8 : Int) - field c (st + 12) 8)
  let s5 := (s4.runEcho h r).cfgAck h (field c (st + 38) 1)
  s5.pixelsIn h (field c (st + 28) 4) (field c (st + 32) 4) (c.drop (st + 48))

def State.sampleUp (h : Nat) (frame : List Byte) (s : State) : State :=
  if !s.linkUp h then s
  else match unframe frame with
    | none => s.upDiscard h
    | some c => if field c 0 1 ≠ 0x81 ∨ !upLength (s.hlk h).version c then s.upDiscard h else s.upWhole h c

/-- SAMPLE_MISSING: the pairs of slot `i` have not all come within 2 × Ts after their instant (R190, R322, R363). -/
def State.sampleMissing (h i : Nat) (s : State) : State :=
  if s.dt < s.arrival h i + 32 * s.ts ∨ (s.senseAt h i).isSome then s
  else
    let s1 := s.putSense h i { missing := true }
    if (s1.hlk h).arrived.contains i then s1
    else
      let s2 := s1.noTracks h i
      if s2.linkUp h then s2.setHlk h fun (x : HlkPort) => { x.heard i with missing := inc32 x.missing, missRun := x.missRun + 1 } else s2

end Sys2Proof.Machine
end

