-- ==== Sys2Proof/Machine/SlotRows.lean ====
section
/-! DEFINITION. The events of slots, samples and frames, of the streams' writers and of the layer cycle's phases. -/

namespace Sys2Proof.Machine

/-- EXPOSE_START (R28). -/
def execExposeStart (t : Nat) (s : State) : Host.Outcome State Fault Refusal := s.event t State.tryExpose
/-- SLOT_BOUNDARY (R351). -/
def execSlotBoundary (t : Nat) (s : State) : Host.Outcome State Fault Refusal := s.event t State.slotBoundary
/-- LOOP_DEADLINE_MISS: the execution of loop `l` due at the next slot boundary is abandoned (R207). -/
def execLoopDeadlineMiss (t l : Nat) (s : State) : Host.Outcome State Fault Refusal :=
  s.event t fun s =>
    let n := s.dt / (16 * s.ts) + 1
    if s.loopDelay l ≤ n ∧ s.loopDue l (n - s.loopDelay l) then s.loopMiss l (n - s.loopDelay l) else s
/-- SAMPLE_UP (R353 to R355). -/
def execSampleUp (t h : Nat) (frame : List Byte) (s : State) : Host.Outcome State Fault Refusal := s.event t (State.sampleUp h frame)
/-- SAMPLE_MISSING (R190). -/
def execSampleMissing (t h i : Nat) (s : State) : Host.Outcome State Fault Refusal := s.event t (State.sampleMissing h i)
/-- FRAME_RESULT (R184). -/
def execFrameResult (t h : Nat) (s : State) : Host.Outcome State Fault Refusal := s.event t (State.frameDone h)
/-- FRAME_TRUNCATED (R180). -/
def execFrameTruncated (t h : Nat) (s : State) : Host.Outcome State Fault Refusal := s.event t (State.frameCut h)
/-- MPS_FLUSH_TIMEOUT (R193). -/
def execMpsFlushTimeout (t : Nat) (s : State) : Host.Outcome State Fault Refusal :=
  s.event t fun s => if s.mps.lastIn + 16000 * s.dparam 0x5014 ≤ s.dt then s.mpsFlush else s
/-- MPS_RING_WRITE (R194). -/
def execMpsRingWrite (t : Nat) (s : State) : Host.Outcome State Fault Refusal := s.event t State.mpsRingWrite
/-- HOST_RING_COPY of output stream `i` (R195). -/
def execHostRingCopy (t i : Nat) (s : State) : Host.Outcome State Fault Refusal := s.event t (State.hostCopy i)
/-- KETTLE_FENCE (R165). -/
def execKettleFence (t : Nat) (s : State) : Host.Outcome State Fault Refusal := s.event t fun s => if s.fenceDue then s.kettleFence else s
/-- KETTLE_TIMEOUT (R166). -/
def execKettleTimeout (t : Nat) (s : State) : Host.Outcome State Fault Refusal := s.event t State.kettleTimeout
/-- KETTLE_END (R29, R263). -/
def execKettleEnd (t : Nat) (s : State) : Host.Outcome State Fault Refusal := s.event t State.kettleEnd
/-- RECOAT_START (R299). -/
def execRecoatStart (t : Nat) (s : State) : Host.Outcome State Fault Refusal := s.event t State.recoatStart
/-- RECOAT_END (R299, R301). -/
def execRecoatEnd (t : Nat) (s : State) : Host.Outcome State Fault Refusal := s.event t State.recoatEnd
/-- IMAGE_END (R517). -/
def execImageEnd (t : Nat) (s : State) : Host.Outcome State Fault Refusal := s.event t State.imageEnd
/-- SWEEPER_TICK (R243). -/
def execSweeperTick (t : Nat) (s : State) : Host.Outcome State Fault Refusal :=
  s.event t fun s => if s.ldgAssisted then s else { s with ledger := s.ledger.sweepTo (tickU s.dt) }

end Sys2Proof.Machine
end

