-- ==== Sys2Proof/Machine/PairRows.lean ====
section
/-! DEFINITION. Paired operation (18): the peer's messages and frames (R486 to R497), split and witness (R498, R499), the PAIR commands. -/

namespace Sys2Proof.Machine

/-! Frames received. -/

/-- A frame that is discarded: bad check value, or a content that is not what its row says. -/
def State.peerDiscard (s : State) : State := s.setPair fun (x : PairState) => { x with discarded := inc32 x.discarded }

/-- A MESSAGE frame of the given TYPE, whose payload has `len` bytes or any number: a message received before is not acted on again. -/
def State.peerMsg (type : Nat) (len : Option Nat) (frame : List Byte) (f : List Byte → State → State) (s : State) : State :=
  if !s.pair.link || s.role == 0 then s
  else match unframe frame with
    | none => s.peerDiscard
    | some c =>
      let payload := c.drop 16
      if field c 0 1 ≠ 0x12 ∨ field c 1 1 ≠ type ∨ field c 2 2 ≠ payload.length ∨ (len.getD payload.length) ≠ payload.length then s.peerDiscard
      else
        let seq := field c 4 4
        if s.pair.got.contains seq then s
        else f payload (s.setPair fun (x : PairState) => { x with got := (seq :: x.got).take 64 })

/-- PAIRED once both hold (Table 18.7): the secondary's relation follows, the primary sends its own (R491). -/
def State.pairTry (s : State) : State :=
  let s1 := s.pairUp
  if s.isPaired || !s1.isPaired then s
  else if s1.role = 2 then s1.setNet fun (x : NetState) => { x with rel := { x.rel with state := .peer } }
  else s1.peerSend 6 s1.net.rel.bytes

/-! CAP and ECHO (R489, R490). -/

/-- The peer's CAP: VERSION for another major, CAPABILITY for every other mismatch; on agreement the secondary begins to measure. -/
def State.capGot (b : List Byte) (s : State) : State :=
  let s1 := s.setPair fun (x : PairState) => { x with peerCap := b }
  if s.pair.mode ≠ .linking then s1
  else if field b 3 1 / 16 ≠ 1 then s1.setPair fun (x : PairState) => { x with cause := 2, capOk := false }
  else if !s.capAgrees b then s1.setPair fun (x : PairState) => { x with cause := 1, capOk := false }
  else
    let s2 := (s1.setPair fun (x : PairState) => { x with cause := 0, capOk := true }).pairTry
    if s.role == 2 && !s.pair.capOk then s2.sendEcho else s2
def execPeerCap (t : Nat) (frame : List Byte) (s : State) : Host.Outcome State Fault Refusal :=
  s.event t (State.peerMsg 1 (some 32) frame State.capGot)

/-- PAIR_CAP_RETRY: every 100 ms while the check has not passed. -/
def execPairCapRetry (t : Nat) (s : State) : Host.Outcome State Fault Refusal :=
  s.event t fun s => if s.pair.mode = .linking ∧ s.pair.link ∧ !s.pair.capOk ∧ s.pair.lastCap + 1600000000 ≤ s.dt then s.sendCap else s

/-- The measured offset is told to the primary in an ECHO whose T3 is not zero: T2 is Δ, T3 one more than the spread (log entry 46). -/
def State.tellOffset (s : State) : State := s.peerSend 2 (leBytes 8 s.dt ++ leBytes 8 (ofSigned 64 s.pair.delta) ++ leBytes 8 (s.pair.spread + 1))

/-- A value of Δ measured while LINKING: the 256th ends the measurement, which is made again when its values span more than 16 units. -/
def State.offsetValue (d : Int) (s : State) : State :=
  let es := d :: s.pair.echoes
  if es.length < 256 then (s.setPair fun (x : PairState) => { x with echoes := es }).sendEcho
  else
    let spread := (maxOf es - minOf es).toNat
    let s1 := s.setPair fun (x : PairState) => { x with echoes := [], spread := satNat 65535 spread }
    if 16 < spread then s1.sendEcho
    else (s1.setPair fun (x : PairState) => { x with delta := roundDiv (es.foldl (· + ·) 0) 256, offsetOk := true }).tellOffset.pairTry

/-- A value measured while PAIRED: the mean of the latest 1,024 is held against the trained Δ. -/
def State.offsetRun (d : Int) (s : State) : State :=
  let rs := (d :: s.pair.running).take 1024
  let s1 := s.setPair fun (x : PairState) => { x with running := rs }
  let off : Int := rs.foldl (· + ·) 0 - 1024 * s.pair.delta
  if rs.length = 1024 ∧ 8192 < off.natAbs ∧ !s.pair.drift then (s1.setPair fun (x : PairState) => { x with drift := true }).logEvent 0xC081 255 1 0 else s1

/-- An ECHO message: the primary answers a request, the secondary takes the value of an answer. -/
def State.echoGot (p : List Byte) (s : State) : State :=
  let t1 := field p 0 8
  let t2 := field p 8 8
  let t3 := field p 16 8
  if s.role = 1 then
    if t3 = 0 then s.peerSend 2 (leBytes 8 t1 ++ leBytes 8 s.dt ++ leBytes 8 s.dt)
    else if s.pair.mode = .linking then
      (s.setPair fun (x : PairState) => { x with delta := toSigned 64 t2, spread := t3 - 1, offsetOk := true }).pairTry
    else s
  else if t3 = 0 then s
  else
    let d := roundDiv (((t2 : Int) - t1) + ((t3 : Int) - s.dt)) 2
    if s.pair.mode = .linking ∧ !s.pair.offsetOk then s.offsetValue d else if s.isPaired then s.offsetRun d else s
def execPeerEcho (t : Nat) (frame : List Byte) (s : State) : Host.Outcome State Fault Refusal :=
  s.event t (State.peerMsg 2 (some 24) frame State.echoGot)

/-- PEER_OFFSET_ECHO_TIMER: one echo every 1 ms from the secondary of a pair. -/
def execPeerOffsetEchoTimer (t : Nat) (s : State) : Host.Outcome State Fault Refusal :=
  s.event t fun s => if s.isPaired ∧ s.role = 2 ∧ s.pair.lastEcho + 16000000 ≤ s.dt then s.sendEcho else s

/-! CYCLE (R493, R494). -/

/-- The check values of a READY_TO_EXPOSE, for the pools this device's table of the layer names. -/
def State.checksOf (layer : Nat) (p : List Byte) (s : State) : List (Nat × Nat) :=
  (s.crossTable layer).map fun (c : CrossPool) => (c.peer, field p (24 + 4 * c.peer) 4)

/-- START on the secondary: the first multiple of 16,000 at or after the primary's start less Δ, and λ. -/
def State.startGot (dtP : Nat) (s : State) : State :=
  let want : Int := (dtP : Int) - s.pair.delta
  let d := ceilDiv want.toNat 16000 * 16000
  s.setPair fun (x : PairState) => { x with
    start := some d, lambda := (((d : Int) + s.pair.delta) - dtP).toNat, layerMismatch := false, poolMismatch := false }

def State.cycleGot (p : List Byte) (s : State) : State :=
  let layer := field p 0 4
  let event := field p 4 1
  if !s.isPaired then s
  else if event = evReady then (s.setPair fun (x : PairState) => { x with readyGot := some layer, checks := s.checksOf layer p }).pairStart
  else if event = evStart then (if s.role = 2 then s.startGot (field p 8 8) else s)
  else if event = evFence then
    let l : Lay := { s.lay with
      released := s.lay.released.filter fun (r : Released) => decide (r.head < 32)
      heads := s.lay.heads.map fun (x : LayHead) => if x.remote then { x with takesPart := false } else x }
    ({ s with lay := l } : State).setPair fun (x : PairState) => { x with fenceGot := true }
  else if event = evHold then (if s.cyc.state = .armed then s.holdNow (field p 5 1) else s)
  else if event = evResumed then
    s.setPair fun (x : PairState) => if x.resumeWait then { x with resumeWait := false } else { x with resumedGot := true }
  else if event = evDisarm then (if (s.cyc.state == .armed || s.cyc.state == .hold) && s.cyc.disarm.isNone then s.disarm 0 else s)
  else if event = evImage then (s.setPair fun (x : PairState) => { x with imageGot := true }).pairStart
  else s
def execPeerCycle (t : Nat) (frame : List Byte) (s : State) : Host.Outcome State Fault Refusal :=
  s.event t (State.peerMsg 3 (some 1048) frame State.cycleGot)

/-! CLAIM, RELEASE, RELATION. -/

def execPeerClaim (t : Nat) (frame : List Byte) (s : State) : Host.Outcome State Fault Refusal :=
  s.event t (State.peerMsg 4 (some 24) frame (State.crossArrived 4))
def execPeerRelease (t : Nat) (frame : List Byte) (s : State) : Host.Outcome State Fault Refusal :=
  s.event t (State.peerMsg 5 none frame fun p s => if p.length = 8 + 12 * field p 2 2 then s.crossArrived 5 p else s.peerDiscard)
def execPeerRelation (t : Nat) (frame : List Byte) (s : State) : Host.Outcome State Fault Refusal :=
  s.event t (State.peerMsg 6 (some 32) frame fun p s => if s.isPaired ∧ s.role = 2 then s.relationGot p else s)
def execMessageResend (t seq : Nat) (s : State) : Host.Outcome State Fault Refusal := s.event t (State.peerResend seq)

/-! The link (R487, R488, R498). -/

/-- The layer in exposure after a split: no cross-device unit is handed out, and the fence ends in HOLD (R498). -/
def State.splitLayer (s : State) : State :=
  let cross := s.layerTable.map (·.own)
  let env := s.layEnv
  if s.exposing then s.setLay (s.lay.split env cross) else s

/-- The peer link goes down (R487): the pair moves as Table 18.7 states. -/
def State.peerDown (s0 : State) : State :=
  if !s0.pair.link then s0
  else
    let s := s0.setPair fun (x : PairState) => { x with link := false, downs := inc32 x.downs, capOk := false, offsetOk := false, echoes := [], unacked := [] }
    if !s.isPaired then s
    else
      let free := if s.net.rel.state = .peer then s.setNet fun (x : NetState) => { x with rel := { x.rel with state := .holdover } } else s
      match s.cyc.state with
      | .standby => free.pairLink
      | .ready => free.enterStandby causePeer
      | .armed | .hold =>
        let s1 := free.splitLayer
        let s2 := s1.setPair fun (x : PairState) => { x with mode := .split, splitAt := s.dt, expired := false, points := [], requests := [], early := [], start := none, resumeWait := false }
        (s2.setCyc fun (c : Cycle) => { c with holdAtFence := some causePeer }).logEvent 0xC081 255 4 0
      | _ => free
def execPeerLinkDown (t : Nat) (s : State) : Host.Outcome State Fault Refusal := s.event t State.peerDown

/-- Both lanes have block lock: a LINKING pair checks capabilities, a split device in STANDBY pairs again. -/
def State.peerUp (s : State) : State :=
  if s.role = 0 ∨ s.pair.link ∨ s.looped 1 0 then s
  else
    let s1 := s.setPair fun (x : PairState) => { x with link := true, slotSeq := none, lostRun := 0 }
    if (s.pair.mode == .split || s.pair.mode == .granted) && s.cyc.state == .standby then s1.pairLink
    else if s.pair.mode = .linking then s1.sendCap else s1
def execPeerLinkUp (t : Nat) (s : State) : Host.Outcome State Fault Refusal := s.event t State.peerUp

/-- Frames lost since the last good PEER_SLOT: the fourth takes the link down (R487). -/
def State.slotsLost (n : Nat) (s : State) : State :=
  let s1 := s.setPair fun (x : PairState) => { x with lostRun := x.lostRun + n }
  if 4 ≤ s1.pair.lostRun then s1.peerDown else s1

/-- A deposit entry of a PEER_SLOT (R255, R497); one whose key has passed is applied on arrival. -/
def State.borderGot (b : List Byte) (s : State) : State :=
  if s.ldgAssisted || !s.isPaired || s.ledger.stopped then s
  else
    let delta : Int := if s.role = 1 then s.pair.delta else -s.pair.delta
    let key := ((field b 0 8 : Int) + delta + 16 * s.ts * (1 + s.dparam 0x7009)).toNat
    let late := decide (key < s.dt)
    let d : PeerDeposit := { key := if late then s.dt else key, head := 32 + field b 8 1, cell := field b 10 2 % 4096 + 4096 * (field b 12 2 % 4096), heat := field b 14 2 }
    let s1 := { s with ledger := { s.ledger with peer := s.ledger.peer ++ [d], peerLate := if late then inc32 s.ledger.peerLate else s.ledger.peerLate } }
    if late then s1.depositsTo s.dt else s1

/-- A good PEER_SLOT: its points serve the monitor, its deposits the ledger; frames its SEQ shows to be missing are counted. -/
def State.slotGot (c : List Byte) (s : State) : State :=
  let seq := field c 2 2
  let n := field c 12 1
  let m := field c 13 1
  let missed := match s.pair.slotSeq with | some q => (seq + 65535 - q) % 65536 | none => 0
  let point (i : Nat) : PeerPoint :=
    let o := 16 + 8 * i
    { head := field c o 1, lit := (field c (o + 1) 1).testBit 0, live := (field c (o + 1) 1).testBit 1, at_ := (field c (o + 2) 3, field c (o + 5) 3) }
  let s1 := s.setPair fun (x : PairState) => { x with
    slotSeq := some seq, lostRun := 0, missing := add32 x.missing missed, points := (List.range n).map point }
  (List.range m).foldl (fun (s : State) (i : Nat) => s.borderGot (slice c (16 + 8 * n + 16 * i) 16)) s1

def State.slotArrived (frame : List Byte) (s : State) : State :=
  if !s.pair.link || s.role == 0 then s
  else match unframe frame with
    | none => s.peerDiscard.slotsLost 1
    | some c =>
      let n := field c 12 1
      let m := field c 13 1
      if field c 0 1 ≠ 0x11 ∨ 32 < n ∨ 32 < m ∨ c.length ≠ 16 + 8 * n + 16 * m then s.peerDiscard.slotsLost 1 else s.slotGot c
def execPeerSlot (t : Nat) (frame : List Byte) (s : State) : Host.Outcome State Fault Refusal := s.event t (State.slotArrived frame)

/-! Witness (R499). -/

/-- The last DT at which a grant counts. -/
def State.witnessEnds (s : State) : Nat := s.pair.splitAt + 16000000 * s.dparam 0xC101
def State.witnessOver (s : State) : Bool := s.pair.expired || decide (s.witnessEnds < s.dt)
def State.granted (s : State) : State := s.setPair fun (x : PairState) => { x with mode := .granted }
/-- WITNESS_PIN: held low for 1 ms. -/
def execWitnessPin (t : Nat) (s : State) : Host.Outcome State Fault Refusal :=
  s.event t fun s => if s.pair.mode = .split ∧ !s.witnessOver then s.granted else s
def execWitnessTimeout (t : Nat) (s : State) : Host.Outcome State Fault Refusal :=
  s.event t fun s => if s.pair.mode = .split ∧ s.witnessEnds ≤ s.dt then s.setPair fun (x : PairState) => { x with expired := true } else s

/-- PAIR_WITNESS_GRANT (R499). -/
def pairWitnessGrantSpec : CmdSpec where
  opcode := 0xC101
  lenOk p := p.params.isEmpty
  critical _ _ := true
  stateFail _ s := permitIn [.hold] s
  checks p s := [noScope p, (s.pair.mode != .split, stNoWitness), (s.witnessOver, stWitnessExpired)]
  run _ _ s := (s.granted, .done stOk [])
def execPairWitnessGrant (p : Packet) (s : State) : Host.Outcome State Fault Refusal := serve pairWitnessGrantSpec p s

/-- Entries of a cross-device table as they stand in DRAM (R494). -/
def State.crossEntries (s : State) (a n : Nat) : List CrossPool :=
  (List.range n).map fun (i : Nat) =>
    let b := s.dramRead (a + 8 * i) 8
    { own := field b 0 2, peer := field b 2 2, eligible := field b 4 4 }
/-- A pool named twice, or a peer mask of zero. -/
def crossBad (cs : List CrossPool) : Bool :=
  decide ((cs.map (·.own)).eraseDups.length ≠ cs.length) || decide ((cs.map (·.peer)).eraseDups.length ≠ cs.length) || cs.any fun (c : CrossPool) => c.eligible == 0

/-- PAIR_GUTTER_TABLE (R494, R588). -/
def pairGutterTableSpec : CmdSpec where
  opcode := 0xC100
  lenOk p := p.params.length == 16
  stateFail _ s := permitIn [.standby, .ready, .armed, .hold] s
  checks p s := [
    (p.scope != 0xFFFF || decide (256 < tabLen p) || !s.dramOk (tabAddr p) (listBytes 8 (tabLen p)), stRange), alignAddr p,
    (crossBad (s.crossEntries (tabAddr p) (tabLen p)), stPairTable), (s.poisoned (tabAddr p) (listBytes 8 (tabLen p)), stIntegrity)]
  onReject := poisonReject tabAddr fun p => listBytes 8 (tabLen p)
  run _ p s :=
    let cs := s.crossEntries (tabAddr p) (tabLen p)
    let others := s.pair.tables.filter fun t => t.1 != p.fld 12 4
    (s.setPair fun (x : PairState) => { x with tables := if cs.isEmpty then others else others ++ [(p.fld 12 4, cs)] }, .done stOk [])
def execPairGutterTable (p : Packet) (s : State) : Host.Outcome State Fault Refusal := serve pairGutterTableSpec p s

end Sys2Proof.Machine
end

