-- ==== Sys2Proof/Machine/Eth.lean ====
section
/-! DEFINITION. The Ethernet ports, the internal switch and the device endpoint (R475 to R478). -/

namespace Sys2Proof.Machine

/-- A big-endian field of a frame. -/
def beField (b : List Byte) (off len : Nat) : Nat := leNat (slice b off len).reverse
def beBytes (n v : Nat) : List Byte := (leBytes n v).reverse

def State.ethPort (s : State) (p : Nat) : EthPort := s.net.ports.getD p {}
def State.setEthPort (p : Nat) (f : EthPort → EthPort) (s : State) : State :=
  s.setNet fun (x : NetState) => { x with ports := updAt x.ports p f }
def State.ethEnabled (s : State) (p : Nat) : Bool := (s.param 0xE000 p).testBit 0
def State.ethUp (s : State) (p : Nat) : Bool := (s.ethPort p).lock && s.ethEnabled p && s.islandIn islandNetwork
/-- Counter `n` of `NET.COUNTERS`: 0 received, 1 sent, 2 FCS errors, 3 oversize, 4 discarded by the endpoint, 5 command datagrams. -/
def State.ethCount (p n : Nat) (s : State) : State :=
  s.setEthPort p fun (x : EthPort) => { x with counts := updAt x.counts n fun c => satNat (2 ^ 64 - 1) (c + 1) }
def State.ethSend (p : Nat) (frame : List Byte) (s : State) : State := (s.ethCount p 1).send (.eth p frame)

/-! `NET.SWITCH_CFG`. -/
def State.forward (s : State) : Bool := (s.dparam 0xE005).testBit 0
def State.vid (s : State) : Nat := byteField (s.dparam 0xE005) 2 2
def State.fdbAge (s : State) : Nat := 16000000000 * byteField (s.dparam 0xE005) 4 4
def State.mtu (s : State) : Nat := byteField (s.dparam 0xE005) 8 4

/-! Frames: the octets from the destination address on, without the check sequence. -/
def tagged (f : List Byte) : Bool := beField f 12 2 == 0x8100
def frameVid (f : List Byte) : Nat := beField f 14 2 % 4096
def headLen (f : List Byte) : Nat := if tagged f then 18 else 14
def etherType (f : List Byte) : Nat := beField f (headLen f - 2) 2
/-- The bytes a frame carries behind its header. -/
def carried (f : List Byte) : List Byte := f.drop (headLen f)
def isGroup (mac : Nat) : Bool := mac.testBit 0

/-- The bridge's address table (R476): 1,024 entries, those older than AGE dropped; a full table learns nothing more. -/
def State.learn (mac p : Nat) (s : State) : State :=
  let live := s.net.fdb.filter fun (e : FdbEntry) => e.mac != mac && decide (s.dt ≤ e.dt + s.fdbAge)
  if isGroup mac then s
  else s.setNet fun (x : NetState) => { x with fdb := if 1024 ≤ live.length then live else live ++ [{ mac := mac, port := p, dt := s.dt }] }
def State.lookup (mac : Nat) (s : State) : Option Nat :=
  (s.net.fdb.find? fun (e : FdbEntry) => e.mac == mac && decide (s.dt ≤ e.dt + s.fdbAge)).map (·.port)

/-- Destination addresses as little-endian numbers of their six bytes. -/
def macOf (bs : List Byte) : Nat := leNat bs
def broadcastMac : Nat := 0xFFFFFFFFFFFF
/-- Multicast groups the endpoint takes: IPv6 neighbour discovery (33-33), PTP (01-1B-19-00-00-00, 01-80-C2-00-00-0E, 01-00-5E-00-01-81). -/
def endpointGroup (mac : Nat) : Bool :=
  decide (mac % 65536 = 0x3333) || mac == 0x191B01 || mac == 0x0E0000C28001 || mac == 0x8101005E0001

/-- A frame bridged between the ports (R476); 01-80-C2-00-00-0x is never bridged. -/
def State.bridge (p : Nat) (f : List Byte) (s : State) : State :=
  let dst := macOf (slice f 0 6)
  let others := (List.range 4).filter fun (q : Nat) => q != p && s.ethUp q
  if !s.forward || dst == s.net.mac || decide (dst % 2 ^ 40 = 0xC28001 ∧ dst / 2 ^ 40 < 16) then s
  else match s.lookup dst with
    | some q => if q ≠ p ∧ s.ethUp q then s.ethSend q f else s
    | none => others.foldl (fun (s : State) (q : Nat) => s.ethSend q f) s

/-! The endpoint (R477). -/

/-- The internet checksum of a byte string. -/
def sum16 : List Byte → Nat
  | a :: b :: rest => 256 * a.toNat + b.toNat + sum16 rest
  | [a] => 256 * a.toNat
  | [] => 0
def foldSum (n : Nat) : Nat := let a := n % 65536 + n / 65536; a % 65536 + a / 65536
def inetCheck (bs : List Byte) : Nat := 65535 - foldSum (foldSum (sum16 bs))

def State.ownMac (s : State) : List Byte := leBytes 6 s.net.mac
def State.ownIp4 (s : State) : List Byte := leBytes 4 (s.dparam 0xE002)
def State.ownIp6 (s : State) : List Byte := leBytes 16 (s.dparam 0xE003)

/-- An endpoint frame to `dst`, tagged with VID when that is not zero, at least 60 bytes long. -/
def State.endpointFrame (s : State) (dst : List Byte) (type : Nat) (body : List Byte) : List Byte :=
  padTo 60 (dst ++ s.ownMac ++ (if s.vid = 0 then [] else beBytes 2 0x8100 ++ beBytes 2 s.vid) ++ beBytes 2 type ++ body)

/-- The answer to an ARP request for the device's own address. -/
def State.arpReply (s : State) (b : List Byte) : Option (List Byte) :=
  if beField b 0 2 = 1 ∧ beField b 2 2 = 0x0800 ∧ beField b 6 2 = 1 ∧ slice b 24 4 = s.ownIp4 ∧ !allZero s.ownIp4 then
    some (s.endpointFrame (slice b 8 6) 0x0806 (slice b 0 6 ++ beBytes 2 2 ++ s.ownMac ++ s.ownIp4 ++ slice b 8 6 ++ slice b 14 4))
  else none

/-- The answer to an ICMP echo request (log entry 47: its TIME_TO_LIVE is 64). -/
def State.echo4 (s : State) (to_ : List Byte) (b : List Byte) : Option (List Byte) :=
  let hl := 4 * (beField b 0 1 % 16)
  let total := beField b 2 2
  let icmp := slice b hl (total - hl)
  if beField b 9 1 = 1 ∧ beField icmp 0 1 = 8 ∧ beField b 6 2 % 16384 = 0 then
    let body := zeros 4 ++ icmp.drop 4
    let reply := slice body 0 2 ++ beBytes 2 (inetCheck body) ++ body.drop 4
    let head := beBytes 1 0x45 ++ slice b 1 1 ++ beBytes 2 (20 + icmp.length) ++ slice b 4 2 ++ beBytes 2 0 ++ beBytes 1 64 ++ beBytes 1 1
    let sum := inetCheck (head ++ zeros 2 ++ s.ownIp4 ++ slice b 12 4)
    some (s.endpointFrame to_ 0x0800 (head ++ beBytes 2 sum ++ s.ownIp4 ++ slice b 12 4 ++ reply))
  else none

/-- An ICMPv6 packet from the device, with its checksum over the pseudo-header. -/
def State.icmp6 (s : State) (to_ dst : List Byte) (msg : List Byte) : List Byte :=
  let pseudo := s.ownIp6 ++ dst ++ beBytes 4 msg.length ++ beBytes 4 58
  let sum := inetCheck (pseudo ++ msg)
  s.endpointFrame to_ 0x86DD (beBytes 4 0x60000000 ++ beBytes 2 msg.length ++ beBytes 1 58 ++ beBytes 1 255 ++ s.ownIp6 ++ dst ++
    slice msg 0 2 ++ beBytes 2 sum ++ msg.drop 4)
/-- The answers to a neighbour solicitation for the device's own address and to an ICMPv6 echo request. -/
def State.reply6 (s : State) (to_ : List Byte) (b : List Byte) : Option (List Byte) :=
  let src := slice b 8 16
  let m := slice b 40 (beField b 4 2)
  if beField b 6 1 ≠ 58 then none
  else if beField m 0 1 = 135 ∧ slice m 8 16 = s.ownIp6 then
    some (s.icmp6 to_ src (beBytes 1 136 ++ zeros 3 ++ beBytes 4 0x60000000 ++ s.ownIp6 ++ beBytes 1 2 ++ beBytes 1 1 ++ s.ownMac))
  else if beField m 0 1 = 128 ∧ slice b 24 16 = s.ownIp6 then some (s.icmp6 to_ src (beBytes 1 129 ++ zeros 3 ++ m.drop 4))
  else none

/-- UDP that rows of their own take up: command datagrams (UDP_DATAGRAM) and PTP (PTP_MESSAGE). -/
def State.udpTaken (s : State) (port : Nat) : Bool := port == s.dparam 0xE004 || port == 319 || port == 320

/-- A frame delivered to the endpoint: an answer, a row of its own, or discarded and counted. -/
def State.endpoint (p : Nat) (f : List Byte) (s : State) : State :=
  let b := carried f
  let from_ := slice f 6 6
  let drop := s.ethCount p 4
  let answer (r : Option (List Byte)) : State := match r with | some g => s.ethSend p g | none => drop
  let vidOk := if s.vid = 0 then !tagged f else tagged f && frameVid f == s.vid
  if !vidOk then drop
  else if etherType f = 0x0806 then answer (s.arpReply b)
  else if etherType f = 0x0800 then
    let hl := 4 * (beField b 0 1 % 16)
    if allZero s.ownIp4 || slice b 16 4 != s.ownIp4 && macOf (slice f 0 6) != 0x8101005E0001 then drop
    else if beField b 9 1 = 17 then
      (if s.udpTaken (beField b (hl + 2) 2) then (if beField b 6 2 % 16384 = 0 then s else s.ethCount p 5) else drop)
    else answer (s.echo4 from_ b)
  else if etherType f = 0x86DD then
    if allZero s.ownIp6 then drop
    else if beField b 6 1 = 17 then (if s.udpTaken (beField b 42 2) then s else drop)
    else answer (s.reply6 from_ b)
  else if etherType f = 0x88F7 then s
  else drop

/-- A frame received at port `p` (R476). -/
def State.frameIn (p : Nat) (good : Bool) (f : List Byte) (s : State) : State :=
  if !s.ethUp p || decide (f.length < 14) then s
  else
    let s1 := s.ethCount p 0
    if !good then s1.ethCount p 2
    else if s.mtu < (carried f).length then s1.ethCount p 3
    else
      let s2 := if s.forward then s1.learn (macOf (slice f 6 6)) p else s1
      let dst := macOf (slice f 0 6)
      let s3 := s2.bridge p f
      if dst == s.net.mac || dst == broadcastMac || endpointGroup dst then s3.endpoint p f else if s.forward then s3 else s3.ethCount p 4

/-- ETH_FRAME: a frame at port `p`, its check sequence good or not. -/
def execEthFrame (t p : Nat) (good : Bool) (frame : List Byte) (s : State) : Host.Outcome State Fault Refusal :=
  s.event t fun s => if p < 4 then s.frameIn p good frame else s

/-- ETH_PORT_LINK_CHANGE (R475): the receiver gains or loses block lock; a silent or disabled port has no link. -/
def State.ethLink (p : Nat) (lock : Bool) (s : State) : State :=
  let up := lock && s.ethEnabled p && !s.looped 2 p && s.islandIn islandNetwork && s.cyc.state != .boot
  s.setEthPort p fun (x : EthPort) => { x with lock := up, fec := up && (s.param 0xE000 p).testBit 1 }
def execEthPortLinkChange (t p : Nat) (lock : Bool) (s : State) : Host.Outcome State Fault Refusal :=
  s.event t fun s => if p < 4 then s.ethLink p lock else s

/-- The network island faults (R478): ports silent, sessions over, the relation holds over. -/
def State.networkFault (s : State) : State :=
  let s1 := s.holdover true
  let s2 := s1.setNet fun (x : NetState) => { x with
    ports := x.ports.map fun (e : EthPort) => { e with lock := false, fec := false }, fdb := [], portInUse := 255 }
  { s2 with host := { s2.host with sessions := List.replicate 16 none } }

end Sys2Proof.Machine
end

