-- ==== Sys2Proof/Machine/Firmware.lean ====
section
/-! DEFINITION. Firmware exchange: images, the two core sets, load, switch, commit, takeover (R531 to R534, R560). -/

namespace Sys2Proof.Machine

def State.fw (s : State) : Firmware := s.svc.fw
def State.setFw (f : Firmware → Firmware) (s : State) : State := { s with svc := { s.svc with fw := f s.svc.fw } }

/-! Images (Table 20.2). -/

def Grade.partBit : Grade → Nat
  | .sx32 => 0 | .sx16 => 1 | .sx08 => 2

/-- Check 1 of R531; `len` is the length a command gives, absent for a boot slot. -/
def fwHeaderOk (g : Grade) (len : Option Nat) (im : List Byte) : Bool :=
  let n := field im 16 4
  let parts := field im 20 1
  field im 0 4 == 0x57465853 && field im 4 1 == 0x10 && allZero (slice im 5 3) && field im 13 1 % 16 == 0 && allZero (slice im 14 2) &&
    decide (65536 ≤ n ∧ n ≤ 16777216 ∧ n % 64 = 0) && len.getD (n + 192) == n + 192 && decide (n + 192 ≤ im.length) &&
    parts.testBit g.partBit && decide (parts < 8) && allZero (slice im 21 43) && allZero (slice im (n + 160) 32)

/-- The signature of an image verifies (Table 20.2): it is one that the key's holder makes of the bytes before it (log entry 62). -/
def imageVerifies (im : List Byte) : Bool :=
  let n := field im 16 4 + 64
  slice im n 96 == (padTo 96 (Config.signatureOf (im.take n))).take 96 || Config.alsoSigned im

/-- The image a set holds once it has been loaded. -/
def fwImageOf (im : List Byte) : FwImage :=
  { version := field im 8 4, stateFormat := field im 12 1, oldest := field im 13 1, bytes := im.take (field im 16 4 + 192) }

/-- The image checks of R531, in its order. -/
def State.fwFail (s : State) (len : Nat) (im : List Byte) : Option Nat :=
  let act := s.fw.active.stateFormat / 16
  firstFail [
    (!fwHeaderOk s.otp.grade (some len) im, stFwImage),
    (!imageVerifies (im.take len), stFwSignature),
    (decide (act < field im 13 1 / 16) || decide (field im 12 1 / 16 < act), stFwIncompatible),
    (s.fw.standby == .loading || s.fw.switching.isSome || s.fw.committing.isSome, stBusy)]

/-! The core sets (R532, R449). -/

/-- Cores of a set: 0 to 5 of set A, 6 to 11 of set B. -/
def coresOf (set : Nat) : List Nat := (List.range 6).map fun (i : Nat) => 6 * set + i
/-- The core with the same place in the other set. -/
def counterpart (c : Nat) : Nat := if c < 6 then c + 6 else c - 6
/-- Every core of a set goes offline, its FALLBACK naming its counterpart. -/
def State.setOffline (set : Nat) (s : State) : State :=
  (coresOf set).foldl (fun (s : State) (c : Nat) => s.coreWrite c (counterpart c) false) s
def State.setOnline (set : Nat) (s : State) : State := (coresOf set).foldl (fun (s : State) (c : Nat) => s.coreOnline c true) s

/-- The sets change places (R532): FW_SET flips, the images with it; `kind` is KEY of the FW_SWITCH record. -/
def State.swapSets (kind : Nat) (s : State) : State :=
  let f := s.fw
  let s1 := (s.setOffline f.activeSet).setOnline (1 - f.activeSet)
  (s1.setFw fun (x : Firmware) => { x with
    activeSet := 1 - x.activeSet
    active := x.other
    other := x.active
    lastSwitch := s.dt
    switches := inc32 x.switches
    takeovers := if kind = 1 then inc32 x.takeovers else x.takeovers }).logEvent 0xF001 255 kind (beside f.active.version 4 f.other.version)

/-- The result of `SVC_FW_SWITCH`. -/
def switchResult (dt old new : Nat) : List Byte := leBytes 8 dt ++ leBytes 4 old ++ leBytes 4 new

/-- The standby set is reset and loads the active image again (R534); a retired set loads nothing (R562). -/
def State.reload (s : State) : State := s.setFw fun (x : Firmware) => { x with standby := .loading, loading := none }

/-- A load in progress ends with `st`. -/
def State.dropLoad (st : Nat) (s : State) : State :=
  match s.fw.loading with
  | some (acc, _) => (s.setFw fun (x : Firmware) => { x with loading := none }).complete acc st []
  | none => s
def State.dropCommit (st : Nat) (s : State) : State :=
  match s.fw.committing with
  | some (acc, _) => (s.setFw fun (x : Firmware) => { x with committing := none }).complete acc st []
  | none => s

/-- A switch waiting for its quiescent point ends. -/
def State.endSwitch (st : Nat) (result : List Byte) (s : State) : State :=
  match s.fw.switching with
  | some acc => (s.setFw fun (x : Firmware) => { x with switching := none }).complete acc st result
  | none => s

/-- The active set faults (R534): the standby set takes over at once, or once it has loaded the active image. -/
def State.activeFault (s : State) : State :=
  if s.fw.setRetired || s.fw.standby == .loading then
    ((((s.setOffline s.fw.activeSet).endSwitch stHwFault []).dropLoad stAborted).dropCommit stAborted).setFw fun (x : Firmware) => { x with takeoverWait := true }
  else
    let f := s.fw
    ((s.swapSets 1).endSwitch stOk (switchResult s.dt f.active.version f.other.version)).reload

/-- The standby set faults: a switch to it fails, what it held is lost, it loads the active image again (R534). -/
def State.standbyFault (s : State) : State := ((s.endSwitch stHwFault []).dropLoad stHwFault).reload

/-- A fault of core set `set` (0 A, 1 B). A set that is retired no longer faults; no set is left to take over from one that is
alone. -/
def State.fwFault (set : Nat) (s : State) : State := if set = s.fw.activeSet then s.activeFault else s.standbyFault

/-! Rows. -/

def fwStates : List DevState := [.standby, .ready, .armed, .hold, .safe, .service, .recovery]

/-- SVC_FW_LOAD (R531, R562). -/
def svcFwLoadSpec : CmdSpec where
  opcode := 0xF000
  lenOk p := p.params.length == 16
  critical _ _ := true
  stateFail _ s := permitIn fwStates s
  checks p s :=
    let a := p.fld 0 8
    let n := p.fld 8 4
    let im := s.dramRead a n
    [noScope p, (!p.zeroAt 12 4 || decide (n < 65728 ∨ 16777408 < n) || !s.dramOk a n, stRange), (s.fw.setRetired, stIslandRetired),
      (decide (a % 64 ≠ 0 ∨ n % 64 ≠ 0), stAlign), (s.poisoned a n, stIntegrity), ((s.fwFail n im).isSome, (s.fwFail n im).getD 0)]
  onReject := poisonReject (fun p => p.fld 0 8) (fun p => p.fld 8 4)
  run acc p s :=
    (s.setFw fun (x : Firmware) => { x with standby := .loading, loading := some (acc, fwImageOf (s.dramRead (p.fld 0 8) (p.fld 8 4))) }, .accepted)
def execSvcFwLoad (p : Packet) (s : State) : Host.Outcome State Fault Refusal := serve svcFwLoadSpec p s

/-- FW_STANDBY_READY: a load ends (R531, R534). The reload of a commit ends in FW_COMMIT_DONE. -/
def State.standbyReady (s : State) : State :=
  let f := s.fw
  if f.standby != .loading || f.setRetired || f.committing.isSome || (s.svc.islands.getD 44 {}).status == .testing then s
  else match f.loading with
    | some (acc, im) => (s.setFw fun (x : Firmware) => { x with standby := .staged, loading := none, other := im }).complete acc stOk []
    | none =>
      if f.takeoverWait then ((s.setFw fun (x : Firmware) => { x with other := x.active, takeoverWait := false }).swapSets 1).reload
      else s.setFw fun (x : Firmware) => { x with standby := .mirror, other := x.active }
def execFwStandbyReady (t : Nat) (s : State) : Host.Outcome State Fault Refusal := s.event t State.standbyReady

/-- SVC_FW_SWITCH (R532): it waits for the quiescent point. -/
def svcFwSwitchSpec : CmdSpec where
  opcode := 0xF001
  lenOk p := p.params.isEmpty
  critical _ _ := true
  stateFail _ s := permitIn fwStates s
  resultLen _ _ := 16
  checks p s := [noScope p, (s.fw.setRetired, stIslandRetired), (s.fw.standby != .staged && s.fw.standby != .trial, stFwState), (s.fw.switching.isSome, stBusy)]
  run acc _ s := (s.setFw fun (x : Firmware) => { x with switching := some acc }, .later)
def execSvcFwSwitch (p : Packet) (s : State) : Host.Outcome State Fault Refusal := serve svcFwSwitchSpec p s

/-- FW_QUIESCENT_POINT (R532): the sets change places; a fault of the incoming set before its first source leaves them as they
were (R534). -/
def State.quiescent (incomingFault : Bool) (s : State) : State :=
  let f := s.fw
  if f.switching.isNone then s
  else if incomingFault then s.standbyFault
  else
    let kind := if f.standby = .trial then 2 else 0
    ((s.swapSets kind).setFw fun (x : Firmware) => { x with standby := .trial }).endSwitch stOk (switchResult s.dt f.active.version f.other.version)
def execFwQuiescentPoint (t : Nat) (incomingFault : Bool) (s : State) : Host.Outcome State Fault Refusal := s.event t (State.quiescent incomingFault)

/-- SVC_FW_COMMIT (R533). -/
def svcFwCommitSpec : CmdSpec where
  opcode := 0xF002
  lenOk p := p.params.length == 8
  critical _ _ := true
  stateFail _ s := permitIn fwStates s
  checks p s := [noScope p, (decide (1 < p.fld 0 1) || !p.zeroAt 1 7, stRange), (s.fw.standby != .trial, stFwState)]
  run acc p s := (s.reload.setFw fun (x : Firmware) => { x with committing := some (acc, p.fld 0 1 == 1) }, .accepted)
def execSvcFwCommit (p : Packet) (s : State) : Host.Outcome State Fault Refusal := serve svcFwCommitSpec p s

/-- The boot slot the live BOOT_SELECT names, else slot 0 (R560). -/
def slotOf (es : List JEntry) : Nat := match liveOf (256 * 0x80) es with | some e => min 1 (field e.payload 0 1) | none => 0
def State.journalEntries (s : State) : List JEntry :=
  let b := s.recorder.journal.bank
  (scanJournal s.flash (s.jBase b + s.jSize) (s.jSize / 32) (s.jBase b)).entries
def State.bootOffset (s : State) (slot : Nat) : Nat := field s.power.record (28 + 4 * slot) 4
def State.bootSize (s : State) : Nat := field s.power.record 36 4

/-- FW_COMMIT_DONE: the standby set runs the active image; with PERSIST the image lies in the slot that is not selected, and a
BOOT_SELECT names it (R533, R560). `flashOk`: the slot's read-back and signature were good. -/
def State.commitDone (flashOk : Bool) (s : State) : State :=
  match s.fw.committing with
  | none => s
  | some (acc, persist) =>
    if (s.svc.islands.getD 44 {}).status == .testing then s
    else
      let s1 := s.setFw fun (x : Firmware) => { x with standby := .mirror, other := x.active, committing := none }
      if !persist then s1.complete acc stOk []
      else
        let slot := 1 - slotOf s.journalEntries
        let im := s.fw.active.bytes
        let s2 := (s1.flashErase (s.bootOffset slot) s.bootSize).flashWrite (s.bootOffset slot) im
        if !flashOk then s2.complete acc stHwFault []
        else if s2.recorder.journal.bad then s2.complete acc stJournalFail []
        else
          s2.journalAsk 0x80 (leBytes 1 slot ++ zeros 7 ++ leBytes 4 s.fw.active.version ++ leBytes 4 im.length) (.bootSelect acc)
def execFwCommitDone (t : Nat) (flashOk : Bool) (s : State) : Host.Outcome State Fault Refusal := s.event t (State.commitDone flashOk)

/-- `SVC.FW_STATUS` (Table 20.11). -/
def Standby.code : Standby → Nat
  | .mirror => 0 | .loading => 1 | .staged => 2 | .trial => 3
def State.fwStatus (s : State) : List Byte :=
  let f := s.fw
  leBytes 1 f.activeSet ++ leBytes 1 f.standby.code ++ zeros 2 ++ leBytes 4 f.active.version ++ leBytes 4 f.other.version ++
    leBytes 1 f.active.stateFormat ++ leBytes 1 f.other.stateFormat ++ zeros 2 ++ leBytes 8 f.lastSwitch ++ leBytes 4 f.switches ++ leBytes 4 f.takeovers

end Sys2Proof.Machine
end

