-- ==== Sys2Proof/Machine/Function.lean ====
section
/-! DEFINITION. The PCI Express function: its resets, power states and what waits for them (R371, R372, R399, R400, R420). -/

namespace Sys2Proof

/-- The packet came through a PCI Express queue. -/
def Origin.pcie (o : Origin) : Bool := match o with | .qp _ => true | .session _ => false

end Sys2Proof

namespace Sys2Proof.Machine

/-- Completions of a queue pair's commands are discarded; its commands that have not started do not start. -/
def State.muteQueues (which : Origin → Bool) (s : State) : State :=
  { s with host := { s.host with
    inProg := s.host.inProg.map fun (i : InProg) => if which i.packet.origin then { i with mute := true } else i
    waiting := s.host.waiting.filter fun (w : WaitingCmd) => !which w.packet.origin
    cqWait := s.host.cqWait.filter fun (c : CqItem) => !which (.qp c.qp) } }

/-- A reset of the function (R372, R420): configuration space, MSI-X, queue pairs, BAR0 registers, moderation; host DMA channels
are disabled. Entries of host rings wait for Bus Master Enable (R400). -/
def State.functionReset (s : State) : State :=
  let s1 := s.muteQueues Origin.pcie
  ({ s1 with host := { s1.host with
    qps := List.replicate 64 {}
    vectors := List.replicate 64 {}
    msixEnable := false
    functionMask := false
    busMaster := false
    d3hot := false
    pmeEn := false
    linkL1 := false
    pauseRequest := false
    qp0SqBase := 0
    qp0CqBase := 0
    qp0Cfg := 0
    lastQp := 63 } }).dmaDisableHost

/-- Messages that fell due and can now be sent (R399). -/
def State.flushMessages (s : State) : State :=
  (List.range 64).foldl (fun (s : State) (v : Nat) => if (s.host.vectors.getD v {}).due && s.maySend v then s.messageDue v else s) s
/-- Writes that waited go out in order, each an entry of its vector (R400). -/
def State.flushHeld (s : State) : State :=
  if !s.mayWrite then s
  else
    let held := s.host.held
    held.foldl (fun (s : State) (w : HeldWrite) =>
      let s1 := { s with tx := s.tx ++ [Tx.hostWrite w.addr w.bytes] }
      if w.vector < 64 then s1.countEntry w.vector else s1) { s with host := { s.host with held := [] } }

/-- FUNCTION_RESET: a Function Level Reset, a hot reset, a link-down event or PERST_N (R372). -/
def execFunctionReset (t : Nat) (s : State) : Host.Outcome State Fault Refusal := s.event t State.functionReset

/-- FUNCTION_D3HOT_ENTRY: a write of the power-management registers (R399, R400); in D3hot the link is in L1 (log entry 48). -/
def execFunctionD3hotEntry (t : Nat) (d3hot pmeEn : Bool) (s : State) : Host.Outcome State Fault Refusal :=
  s.event t fun s => { s with host := { s.host with d3hot := d3hot, pmeEn := pmeEn, linkL1 := d3hot } }

/-- FUNCTION_D0_RETURN: the function is in D0 with Bus Master Enable set; what waited is written, then messages are sent. -/
def execFunctionD0Return (t : Nat) (s : State) : Host.Outcome State Fault Refusal :=
  s.event t fun s => (({ s with host := { s.host with d3hot := false, busMaster := true, linkL1 := false } }).flushHeld).flushMessages

/-- CLKREQ_N_ASSERTED: the partner pulls CLKREQ_N low and the link leaves L1.1 or L1.2 (R371). -/
def execClkreqNAsserted (t : Nat) (s : State) : Host.Outcome State Fault Refusal :=
  s.event t fun s => { s with host := { s.host with linkL1 := false } }

/-- MSIX_UNMASK: a write of a table entry or of the capability (R399). -/
def execMsixUnmask (t : Nat) (w : MsixWrite) (s : State) : Host.Outcome State Fault Refusal :=
  s.event t fun s =>
    let s1 := match w with
      | .entry v addr data masked =>
        { s with host := { s.host with vectors := updAt s.host.vectors v fun (x : Vector64) => { x with addr := addr, data := data, masked := masked } } }
      | .control enable mask => { s with host := { s.host with msixEnable := enable, functionMask := mask } }
    if s.host.ready && !s.host.d3hot then s1.flushMessages else s

/-- MODERATION_TIMER_EXPIRE (R398): TIMER has run out since the first entry of the vector. -/
def execModerationTimerExpire (t v : Nat) (s : State) : Host.Outcome State Fault Refusal :=
  s.event t fun s =>
    let x := s.host.vectors.getD v {}
    if v < 64 ∧ 0 < x.entries ∧ !x.due ∧ x.first + 16000 * x.timer ≤ s.dt then s.messageDue v else s

end Sys2Proof.Machine
end

