-- ==== Sys2Proof/Machine/ImgRows.lean ====
section
/-! DEFINITION. The events and commands of layer imaging (09). -/

namespace Sys2Proof.Machine

/-- CXP_DISCOVERY: discovery ends on a port (R258). -/
def execCxpDiscovery (t p : Nat) (ok : Bool) (speed : Nat) (s : State) : Host.Outcome State Fault Refusal :=
  s.event t (State.discovered p ok speed) 

/-- CXP_LINK_LOSS (R258). -/
def execCxpLinkLoss (t p : Nat) (s : State) : Host.Outcome State Fault Refusal := s.event t (State.cxpLost p)

/-- CXP_EVENT_PACKET: a camera event packet is recorded and counted (R257, Table 19.3). -/
def execCxpEventPacket (t p : Nat) (bytes : List Byte) (s : State) : Host.Outcome State Fault Refusal :=
  s.event t fun s =>
    if (s.port p).link == .up then
      (s.setPort p fun x => { x with events := inc32 x.events }).logEvent 0x8001 p (leNat (bytes.take 8)) 0
    else s

/-- CXP_HEARTBEAT: the host heartbeat with floor(DT ÷ 16) on every UP port (R257). -/
def execCxpHeartbeat (t : Nat) (s : State) : Host.Outcome State Fault Refusal :=
  s.event t fun s =>
    if s.img.beat + msDt ≤ s.dt then
      (List.range 8).foldl (fun s p => if (s.port p).link == .up then s.send (.heartbeat p (s.dt / 16)) else s)
        { s with img := { s.img with beat := s.dt } }
    else s

/-- CXP_SOF: an image header arrives with its pixel format, width and height (R262, R264). -/
def execCxpSof (t p fmt w h : Nat) (s : State) : Host.Outcome State Fault Refusal := s.event t (State.startOfFrame p fmt w h)

/-- STRIPE_ARRIVAL (R265, R266). -/
def execStripeArrival (t p : Nat) (s : State) : Host.Outcome State Fault Refusal := s.event t (State.stripeArrives p)

/-- STRIPE_READY: the stripe's lines, its failed packets, a line of the wrong length, the frame's end (R264, R267). -/
def execStripeReady (t p : Nat) (lines : List (List Nat)) (crcFails : Nat) (badLine ends : Bool) (s : State) :
    Host.Outcome State Fault Refusal := s.event t (State.stripeReady p lines crcFails badLine ends)

/-- STRIPE_RETURN (R265). -/
def execStripeReturn (t p : Nat) (s : State) : Host.Outcome State Fault Refusal := s.event t (State.stripeReturns p)

/-- PIPELINE_STRIPE_DONE (R267, R268). -/
def execPipelineStripeDone (t : Nat) (s : State) : Host.Outcome State Fault Refusal := s.event t State.stripeDone

/-- CXP_CONTROL_ACK (R260). -/
def execCxpControlAck (t p : Nat) (valid : Bool) (code : Nat) (data : List Byte) (s : State) : Host.Outcome State Fault Refusal :=
  s.event t (State.camAck p valid code data)

/-- CXP_CONTROL_TIMEOUT (R260). -/
def execCxpControlTimeout (t p : Nat) (s : State) : Host.Outcome State Fault Refusal := s.event t (State.camTimeout p)

/-- FRAME_TIMEOUT (R263). -/
def execFrameTimeout (t p : Nat) (s : State) : Host.Outcome State Fault Refusal := s.event t (State.frameTimeout p)

/-- A port index in the scope (R281). -/
def portScope (p : Packet) : Bool := decide (7 < p.scope)

/-- IMG_CONTROL (Table 09.16). -/
def imgControlSpec : CmdSpec where
  opcode := 0x8000
  lenOk p := p.params.length == 24
  stateFail _ s := permitIn fromStandby s
  checks p s := [
    (portScope p || decide (1 < p.fld 0 1) || !p.zeroAt 1 3 || decide (p.fld 8 2 < 4 ∨ 256 < p.fld 8 2 ∨ p.fld 8 2 % 4 ≠ 0) || !p.zeroAt 10 6 ||
      !s.dramOk (p.fld 16 8) (p.fld 8 2), stRange),
    ((s.port p.scope).link != .up, 0x8000),
    (decide (p.fld 16 8 % 64 ≠ 0), stAlign)]
  resultLen _ _ := 8
  run acc p s :=
    let c : CamCtl := { write := p.fld 0 1 == 1, addr := p.fld 4 4, data := if p.fld 0 1 = 1 then s.dramRead (p.fld 16 8) (p.fld 8 2) else []
                        len := p.fld 8 2, dram := p.fld 16 8, acc := some acc, gen := 0 }
    ((s.setPort p.scope fun x => { x with queue := x.queue ++ [c] }).camKick p.scope, .later)

def execImgControl (p : Packet) (s : State) : Host.Outcome State Fault Refusal := serve imgControlSpec p s

/-- IMG_TONE_LOAD (Table 09.16): RANGE, ALIGN, then the image (R588); the curves commit as R272 states. -/
def imgToneLoadSpec : CmdSpec where
  opcode := 0x8002
  lenOk p := p.params.length == 16
  stateFail _ s := permitIn fromStandby s
  checks p s := [
    (portScope p || decide (p.fld 8 4 ≠ 8192) || !p.zeroAt 12 4 || !s.dramOk (p.fld 0 8) 8192, stRange),
    (decide (p.fld 0 8 % 64 ≠ 0), stAlign),
    (s.poisoned (p.fld 0 8) 8192, stIntegrity),
    ((List.range 4096).any fun i => decide (1023 < field (s.dramRead (p.fld 0 8) 8192) (2 * i) 2), stRange)]
  onReject := poisonReject (fun p => p.fld 0 8) fun _ => 8192
  run _ p s :=
    let im := s.dramRead (p.fld 0 8) 8192
    ((s.setPort p.scope fun x => { x with tones := (List.range 4096).map fun i => field im (2 * i) 2 }).settingsWritten p.scope false, .done stOk [])

def execImgToneLoad (p : Packet) (s : State) : Host.Outcome State Fault Refusal := serve imgToneLoadSpec p s

/-- IMG_PORT_RESET (Table 09.16). -/
def imgPortResetSpec : CmdSpec where
  opcode := 0x8003
  lenOk p := p.params.isEmpty
  stateFail _ s := permitIn fromStandby s
  checks p _ := [(portScope p, stRange)]
  run _ p s := (s.portRestart p.scope, .done stOk [])

def execImgPortReset (p : Packet) (s : State) : Host.Outcome State Fault Refusal := serve imgPortResetSpec p s

end Sys2Proof.Machine
end

