-- ==== Sys2Proof/Machine/Islands.lean ====
section
/-! DEFINITION. Islands: faults, self-test, return to service (R26, R528 to R530, Table 20.1). -/

namespace Sys2Proof.Machine

def State.island (s : State) (i : Nat) : Island := s.svc.islands.getD i {}
def State.setIsland (i : Nat) (f : Island → Island) (s : State) : State := { s with svc := { s.svc with islands := updAt s.svc.islands i f } }

/-- One hour of device time. -/
def hour : Nat := 57600000000000

/-- A fault counted; the third within one hour, or one of a firmware set that is alone, retires the island (R530). -/
def Island.count (dt : Nat) (x : Island) : Island :=
  let recent := dt :: x.recent.filter fun (d : Nat) => decide (dt < d + hour)
  { x with
    faults := inc32 x.faults
    recent := recent
    passed := false
    status := if 3 ≤ recent.length then .retired else .testing }

/-- A head engine's fault: the head is dark and lost, its port's frames stop (R112, R160). -/
def State.headFault (i : Nat) (s : State) : State :=
  let acc := (s.hlk i).loop.map (·.acc)
  let was := s.linkUp i
  let s1 := s.portFollow i
  let s2 := match acc with | some a => s1.complete a stHwFault [] | none => s1
  let s3 := if was then s2.linkGone i else s2
  if s.ganged && decide (16 ≤ i) then (s3.noteEmit).loseHead (i - 16) else (s3.noteEmit).loseHead i

/-- The imaging island's fault: control commands it served fail; a layer in progress goes on to its fence, then HOLD (Table 01.2). -/
def State.imagingFault (s : State) : State :=
  let accs := s.img.ports.flatMap fun (x : ImgPort) => x.queue.filterMap fun (c : CamCtl) => c.acc
  let s1 := s.imgFault.completeAll accs stHwFault
  if s.cyc.state = .armed then s1.setCyc fun (c : Cycle) => { c with holdAtFence := some causeIsland } else s1

/-- The memory island's fault stops the ledger's sweeper (R248) and leads to SAFE. -/
def State.memoryFault (s : State) : State :=
  (({ s with ledger := { s.ledger with stopped := true, peer := [] } }).enterSafe causeIsland none)

/-- The response of Table 01.2 to a fault of island `i`; `set` names the core set of a firmware fault. -/
def State.islandResponse (i set : Nat) (s : State) : State :=
  if i < 32 then s.headFault i
  else if i < 38 then
    let r := s.loopIslandFault (i - 32)
    if r.2 then r.1 else r.1.enterSafe causeIsland none
  else if i = islandImaging then s.imagingFault
  else if i = islandHost then ({ s with host := { s.host with ready := false } }).functionReset
  else if i = islandNetwork then s.networkFault
  else if i = islandMemory then s.memoryFault
  else if i = islandFirmware then s.fwFault set
  else s.enterSafe causeIsland none

/-- An island that may fault: one in service; of the firmware island, a set that is not retired. -/
def State.mayFault (s : State) (i set : Nat) : Bool :=
  decide (i < 45) && s.cyc.state != .boot &&
    (if i = islandFirmware then decide (set < 2) && (!s.fw.setRetired || set == s.fw.activeSet) else s.islandIn i)

/-- A fault: isolation, the response, the event record, and the self-test or retirement (R528 to R530). -/
def State.islandFault (i set : Nat) (s : State) : State :=
  if !s.mayFault i set then s
  else
    let s1 := (s.setIsland i (Island.count s.dt)).logEvent 0x0009 i 0 0
    let retired := (s1.island i).status == .retired
    let s2 := if retired then s1.logEvent 0xF002 i 0 0 else s1
    let s3 := s2.islandResponse i set
    if i = islandFirmware && retired then s3.setFw fun (x : Firmware) => { x with setRetired := true } else s3
def execIslandFault (t island set : Nat) (s : State) : Host.Outcome State Fault Refusal := s.event t (State.islandFault island set)

/-- The island is in service again (Table 20.1). -/
def State.islandBack (i : Nat) (s : State) : State :=
  let s1 := s.setIsland i fun (x : Island) => { x with status := .inService, passed := false }
  if i < 32 then s1.portFollow i
  else if i < 38 then s1.loopIslandBack (i - 32)
  else if i = islandImaging then s1.imgRecover
  else if i = islandHost then { s1 with host := { s1.host with ready := true } }
  else s1

/-- ISLAND_SELF_TEST_END (R530): the guard, motion and memory islands return in RECOVERY. -/
def State.islandTested (i : Nat) (pass : Bool) (s : State) : State :=
  if (s.island i).status != .testing then s
  else if !pass then
    let s1 := (s.setIsland i fun (x : Island) => { x with status := .retired }).logEvent 0xF002 i 0 0
    if i = islandFirmware then s1.setFw fun (x : Firmware) => { x with setRetired := true } else s1
  else if (i == islandGuard || i == islandMotion || i == islandMemory) && s.cyc.state != .recovery then
    s.setIsland i fun (x : Island) => { x with status := .faulted, passed := true }
  else s.islandBack i
def execIslandSelfTestEnd (t island : Nat) (pass : Bool) (s : State) : Host.Outcome State Fault Refusal :=
  s.event t (State.islandTested island pass)

/-- `SVC.ISLAND_STATUS` and `SVC.ISLAND_FAULT_COUNT`. -/
def IslandStatus.code : IslandStatus → Nat
  | .inService => 0 | .faulted => 1 | .testing => 2 | .retired => 3
def State.islandStatusBytes (s : State) : List Byte := padTo 48 (s.svc.islands.flatMap fun (x : Island) => leBytes 1 x.status.code)
def State.islandFaultBytes (s : State) : List Byte := s.svc.islands.flatMap fun (x : Island) => leBytes 4 x.faults

end Sys2Proof.Machine
end

