-- ==== Sys2Proof/Machine/Memory.lean ====
section
/-! DEFINITION. The stores and DDR5 (17): errors, scrub, repair, refresh, retraining, row hammer, map-out. -/

namespace Sys2Proof.Machine

def State.setMem (f : MemState → MemState) (s : State) : State := { s with mem := f s.mem }
def State.store (s : State) (n : Nat) : Store := s.mem.stores.getD n {}
def State.setStore (n : Nat) (f : Store → Store) (s : State) : State := s.setMem fun (m : MemState) => { m with stores := updAt m.stores n f }
def State.dchan (s : State) (c : Nat) : Channel := s.mem.channels.getD c {}
def State.setDchan (c : Nat) (f : Channel → Channel) (s : State) : State := s.setMem fun (m : MemState) => { m with channels := updAt m.channels c f }

/-! Stores (R454 to R458). Stores 0 Vector, 1 Ledger, 2 Trace; 3 the on-die SRAMs together. -/

def storeBytes : Nat := 67108864
def inc64 (n : Nat) : Nat := satNat 18446744073709551615 (n + 1)
def storeRow (offset : Nat) : Nat := offset / 64
/-- Tile (of an on-die SRAM: macro) of a row, and its spare rows. -/
def tileOf (n row : Nat) : Nat := if n = 3 then row / 64 else row / 16384
def sparesOf (n : Nat) : Nat := if n = 3 then 2 else 32
def Store.usedIn (x : Store) (tile : Nat) : Nat := (alGet tile x.used).getD 0
def Store.spares (x : Store) : Nat := x.used.foldl (fun (a : Nat) (e : Nat × Nat) => a + e.2) 0
def Store.needRepair (row : Nat) (x : Store) : Store := if x.due.contains row then x else { x with due := x.due ++ [row] }

/-- A correctable error: counted; a row that shows MEM.REPAIR_THRESHOLD of them within one pass is repaired (R456, R458). -/
def Store.correct (row : Nat) (x : Store) : Store :=
  let n := (alGet row x.passErrors).getD 0 + 1
  let y := { x with passErrors := alSet row n x.passErrors }
  if x.threshold ≤ n then y.needRepair row else y

/-- The repair of a row whose turn has come (R458). -/
def Store.repair (n row : Nat) (x : Store) : Store :=
  let tile := tileOf n row
  let k := x.usedIn tile
  let y := { x with due := x.due.filter fun (r : Nat) => r != row }
  if k < sparesOf n then
    { y with used := alSet tile (k + 1) x.used, moved := alSet row k x.moved, passErrors := alDrop row x.passErrors }
  else { y with sparesOut := true }

/-- Rows of a pass (R457); the size of the on-die SRAMs is not given, so their pass ends by time. -/
def storeRows : Nat := 1048576
def scrubPass : Nat := 1600000000
/-- The scrubber's read of the next row (R457, R474). -/
def State.scrubRead (n : Nat) (s : State) : State :=
  let x := s.store n
  let past := if n = 3 then decide (x.passSince + scrubPass ≤ s.dt) else decide (storeRows ≤ x.scrubRow + 1)
  s.setStore n fun (x : Store) =>
    if past then { x with scrubRow := 0, passSince := s.dt, passErrors := [], threshold := s.dparam 0xD003 } else { x with scrubRow := x.scrubRow + 1 }

/-- SCRUB_READ. -/
def execScrubRead (t store : Nat) (s : State) : Host.Outcome State Fault Refusal :=
  s.event t fun s => if store < 4 then s.scrubRead store else s

/-- STORE_CORRECTABLE (R456). -/
def execStoreCorrectable (t store offset : Nat) (s : State) : Host.Outcome State Fault Refusal :=
  s.event t fun s =>
    if 4 ≤ store ∨ (store < 3 ∧ storeBytes ≤ offset) then s
    else (s.setStore store (Store.correct (storeRow offset))).setMem fun (m : MemState) => { m with corrected := inc64 m.corrected }

/-- ROW_REPAIR (R458): a burst buffer returns to service after its repair (R433). -/
def execRowRepair (t store row : Nat) (s : State) : Host.Outcome State Fault Refusal :=
  s.event t fun s =>
    if 4 ≤ store ∨ !(s.store store).due.contains row then s
    else
      let s1 := s.setStore store (Store.repair store row)
      if store ≠ 3 then s1
      else match s.mem.bufferRows.find? fun (e : Nat × Nat) => e.1 == row with
        | some e =>
          (s1.setChan e.2 fun (ch : DmaChannel) => { ch with bufferOut := false }).setMem fun (m : MemState) =>
            { m with bufferRows := m.bufferRows.filter fun (e : Nat × Nat) => e.1 != row }
        | none => s1

/-! Uncorrectable store words (Table 17.2). -/

/-- The bank, or signature slot, whose records lie in a segment of the Vector store. -/
def State.bankAt (s : State) (segment : Nat) : Option Nat :=
  if s.long then (List.range 2).find? fun (k : Nat) => (s.bank k).segments.contains (segment, false) else some (segment / 32)
/-- An error in bank `k`'s records (R69, R36). -/
def State.bankError (k : Nat) (s : State) : State := if (s.bank k).state = .active then s.enterSafe causeStore none else s.bankStoreError k

/-- An error in the Ledger store: the cell becomes H = 0, STAMP = now (R248); of a snapshot, its value 0. -/
def State.ledgerError (offset : Nat) (s : State) : State :=
  let host := s.ldgAssisted
  let idx := if host then offset % 33554432 / 2 else offset / 4
  let l := s.ledger
  let l1 : Ledger := if host then
      { l with slots := updAt l.slots (offset / 33554432) fun (x : SnapSlot) => { x with vals := x.vals.writeBytes 0#8 (2 * idx) (zeros 2) } }
    else (l.sweepTo (tickU s.dt)).setCell { idx := idx, heat := 0, stamp := tickOf s.dt }
  ({ s with ledger := { l1 with ecc := inc32 l1.ecc } }).logEvent 0x7002 255 (beside (idx % 4096) 2 (idx / 4096)) 0

/-- An error in head `h`'s field-correction slot: the head is lost and the slot holds no table (Table 17.2). -/
def State.fcError (h offset : Nat) (s : State) : State :=
  if (s.trj h).fc.isNone || decide (fcImageLen ≤ offset) then s
  else
    let s1 := s.setMem fun (m : MemState) => { m with badFc := m.badFc ||| 2 ^ h }
    (s1.loseHead h).setTrj h fun (x : TrjHead) => { x with fc := none }

/-- An error in a port's stripe buffer: the frame is marked CHECK. Stripes lie in the buffer in their order (log entry 52). -/
def State.stripeError (p offset : Nat) (s : State) : State :=
  let x := s.port p
  let size := max 1 (stripeSize x.cfg)
  match (x.stripes.filter fun (st : Stripe) => !st.spilled && !st.lost)[offset / size]? with
  | some st => s.setPort p (addMark markCheck st.frame)
  | none => s

/-- An error in a record slot of the log (R508). -/
def State.recordError (slot : Nat) (s : State) : State :=
  let n := s.recorder.log.length
  if slot < n ∧ slot < s.otp.grade.slots then
    { s with recorder := { s.recorder with log := updAt s.recorder.log (n - 1 - slot) fun (r : LogRec) => { r with corrupt := true } } }
  else s

/-- An error in melt-pool staging: the record in the word is dropped with a GAP (R194); markers are not (log entry 52). -/
def State.stagingError (k : Nat) (s : State) : State :=
  match s.mps.staged[k]? with
  | some e =>
    if field e 15 1 % 16 = 15 then s
    else { s with mps := { s.mps with
      staged := s.mps.staged.eraseIdx k
      gap := addMpsGap (field e 0 8) 1 s.mps.gap
      drops := satNat 4294967295 (s.mps.drops + 1) } }
  | none => s

/-- The value of a capture at a word reads 0x8000_0000. -/
def Capture.spoil (v : Nat) (c : Capture) : Capture :=
  let n := max 1 c.nodes.length
  { c with rows := updAt c.rows (v / n) fun (r : Nat × List Nat) => (r.1, r.2.set (v % n) 0x80000000) }
/-- An error in the loop capture buffer; captures lie in it in their order (log entry 52). -/
def spoilCaptures : Nat → List Capture → List Capture
  | _, [] => []
  | off, c :: cs =>
    if off < c.space then (Capture.spoil (off / 8 * 2 + 1) (Capture.spoil (off / 8 * 2) c)) :: cs else c :: spoilCaptures (off - c.space) cs

/-- An error in the Trace store (Table 17.1). -/
def State.traceError (offset : Nat) (s : State) : State :=
  if offset < 0x2000000 then s.fcError (offset / 1048576) (offset % 1048576)
  else if offset < 0x3000000 then s.stripeError ((offset - 0x2000000) / 2097152) (offset % 2097152)
  else if offset < 0x3800000 then s.recordError ((offset - 0x3000000) / 64)
  else if offset < 0x3C00000 then s.stagingError ((offset - 0x3800000) / 32)
  else { s with loop := { s.loop with captures := spoilCaptures (offset - 0x3C00000) s.loop.captures } }

/-- An error in an on-die SRAM. -/
def State.onDieError (offset : Nat) (part : OnDie) (s : State) : State :=
  match part with
  | .other => s
  | .profileSet k => if k < 2 then (if s.sig.activeSet = some k then s.enterSafe causeStore none else s.bankError k) else s
  | .burstBuffer c =>
    if c < 32 then (s.dmaBufferLost c).setMem fun (m : MemState) => { m with bufferRows := m.bufferRows ++ [(storeRow offset, c)] } else s
  | .loopIsland i => if i < 6 then s.islandFault (islandLoop + i) 0 else s
  | .coreSet set => s.islandFault islandFirmware set

/-- The last row of Table 17.2 writes no event record of its own (R456). -/
def onDieSilent : OnDie → Bool
  | .loopIsland _ | .coreSet _ => true
  | _ => false

/-- STORE_UNCORRECTABLE (R456): counted, recorded, the row repaired, the reader affected. -/
def State.storeError (n offset reader : Nat) (part : OnDie) (s : State) : State :=
  let s1 := (s.setMem fun (m : MemState) => { m with uncorrectable := inc64 m.uncorrectable }).setStore n (Store.needRepair (storeRow offset))
  let s2 := if n = 3 && onDieSilent part then s1 else s1.logEvent 0xD001 n 0 (beside offset 4 (reader % 256))
  if n = 0 then (match s2.bankAt (offset / 1048576) with | some k => s2.bankError k | none => s2)
  else if n = 1 then s2.ledgerError offset
  else if n = 2 then s2.traceError offset
  else s2.onDieError offset part
def execStoreUncorrectable (t store offset reader : Nat) (part : OnDie) (s : State) : Host.Outcome State Fault Refusal :=
  s.event t fun s => if 4 ≤ store ∨ (store < 3 ∧ storeBytes ≤ offset) then s else s.storeError store offset reader part

/-! Map-out (R471 to R473). -/

/-- Blocks of a channel's main area. -/
def State.blocks (s : State) : Nat := 3 * s.mem.capacity * gib / 4 / 2048
/-- Migration away from a channel begins. -/
def State.startMapout (c : Nat) (acc : Option Nat) (s : State) : State :=
  (s.setDchan c fun (x : Channel) => { x with migrating := true }).setMem fun (m : MemState) =>
    { m with mapout := some c, pointer := 0, poisonedBlocks := 0, unreported := 0, acc := acc }
/-- DEGRADED becomes set (R464, R468); with MEM.AUTO_MAPOUT the channel is mapped out, unless one is already. -/
def State.degrade (c : Nat) (s : State) : State :=
  if (s.dchan c).degraded then s
  else
    let s1 := s.setDchan c fun (x : Channel) => { x with degraded := true }
    if s.dparam 0xD008 = 1 ∧ s.mem.mapout.isNone then s1.startMapout c none else s1

/-- MEM_CHANNEL_MAPOUT (R473). -/
def memChannelMapoutSpec : CmdSpec where
  opcode := 0xD000
  lenOk p := p.params.length == 8
  critical _ _ := true
  stateFail _ s := permitIn fwStates s
  checks p s := [noScope p, (decide (3 < p.fld 0 1) || !p.zeroAt 1 7, stRange), (s.mem.mapout.isSome, stMapoutDenied)]
  resultLen _ _ := 16
  run acc p s := (s.startMapout (p.fld 0 1) (some acc), .accepted)
def execMemChannelMapout (p : Packet) (s : State) : Host.Outcome State Fault Refusal := serve memChannelMapoutSpec p s

/-- Lines of a block of a channel. -/
def blockLines (c k : Nat) : List Nat := (List.range 32).map fun (i : Nat) => dramBase + (4 * k + c) * 2048 + 64 * i
def addLines (ls add : List Nat) : List Nat := ls ++ add.filter fun (l : Nat) => !ls.contains l

/-- A block migrated as poisoned (R472): one event record per 1,024 of them, with the first one's address. -/
def State.blockPoisoned (c k : Nat) (s : State) : State :=
  let a := dramBase + (4 * k + c) * 2048
  let first := if s.mem.unreported = 0 then a else s.mem.firstPoisoned
  let n := s.mem.unreported + 1
  let s1 := s.setMem fun (m : MemState) => { m with
    poison := addLines m.poison (blockLines c k), poisonedBlocks := m.poisonedBlocks + 1, firstPoisoned := first, unreported := if n = 1024 then 0 else n }
  let s2 := if n = 1024 then s1.logEvent 0xD002 c 0 (beside first 8 n) else s1
  if s.reservedBase ≤ a then s2.islandFault islandMemory 0 else s2

/-- MIGRATION_BLOCK (R471): the block at the pointer is copied; `ok`: its read could be corrected. -/
def State.migrateBlock (ok : Bool) (s : State) : State :=
  match s.mem.mapout with
  | some c =>
    if !(s.dchan c).migrating || decide (s.blocks ≤ s.mem.pointer) then s
    else (if ok then s else s.blockPoisoned c s.mem.pointer).setMem fun (m : MemState) => { m with pointer := m.pointer + 1 }
  | none => s
def execMigrationBlock (t : Nat) (ok : Bool) (s : State) : Host.Outcome State Fault Refusal := s.event t (State.migrateBlock ok)

/-- MIGRATION_END (R471, R473): the channel stops; poisoned blocks not yet reported are. -/
def State.migrateEnd (s : State) : State :=
  match s.mem.mapout with
  | some c =>
    if !(s.dchan c).migrating || decide (s.mem.pointer < s.blocks) then s
    else
      let s1 := if s.mem.unreported = 0 then s else s.logEvent 0xD002 c 0 (beside s.mem.firstPoisoned 8 s.mem.unreported)
      let s2 := (s1.setDchan c fun (x : Channel) => { x with migrating := false, mappedOut := true, inService := false }).logEvent 0xD003 c 0 0
      let s3 := s2.setMem fun (m : MemState) => { m with unreported := 0, acc := none }
      match s.mem.acc with
      | some a => s3.complete a stOk (leBytes 8 s.mem.pointer ++ leBytes 8 s.mem.poisonedBlocks)
      | none => s3
  | none => s
def execMigrationEnd (t : Nat) (s : State) : Host.Outcome State Fault Refusal := s.event t State.migrateEnd

/-! The DRAM code (R463, R464). -/

/-- DRAM_CORRECTED: one corrected line against a device; a device at MEM.DEVICE_ERR_LIMIT within one hour degrades its channel. -/
def State.lineCorrected (c d : Nat) (s : State) : State :=
  let s1 := s.setDchan c fun (x : Channel) => { x with
    corrected := alSet d (inc32 ((alGet d x.corrected).getD 0)) x.corrected
    recent := (d, s.dt) :: x.recent.filter fun (e : Nat × Nat) => decide (s.dt < e.2 + hour) }
  if s.dparam 0xD007 ≤ ((s1.dchan c).recent.filter fun (e : Nat × Nat) => e.1 == d).length then s1.degrade c else s1
def execDramCorrected (t ch rank sub dev : Nat) (s : State) : Host.Outcome State Fault Refusal :=
  s.event t fun s => if ch < 4 ∧ rank < 2 ∧ sub < 2 ∧ dev < 10 ∧ (s.dchan ch).inService then s.lineCorrected ch (20 * rank + 10 * sub + dev) else s

/-- The frame of the spilled stripe at an offset of the spill region; stripes lie in it by port (log entry 52). -/
def spilledAt : Nat → Nat → List ImgPort → Option (Nat × Nat)
  | _, _, [] => none
  | p, off, x :: xs =>
    let g := 65536 * granules (stripeSize x.cfg)
    let sp := x.stripes.filter fun (st : Stripe) => st.spilled
    if off < g * sp.length then (sp[off / max 1 g]?).map fun (st : Stripe) => (p, st.frame) else spilledAt (p + 1) (off - g * sp.length) xs

/-- DRAM_POISON: both lines of the pair at `a` are poisoned; in the reserved region the memory island faults (R464). -/
def State.dramPoison (a : Nat) (s : State) : State :=
  if a < dramBase ∨ dramBase + s.installed ≤ a then s
  else
    let pair := a / 128 * 128
    let c := (s.placeOf a).1
    let s1 := (s.setDchan c fun (x : Channel) => { x with uncorrectable := satNat 18446744073709551615 (x.uncorrectable + 2) }).setMem fun (m : MemState) =>
      { m with poison := addLines m.poison [pair, pair + 64] }
    let s2 := s1.logEvent 0xD002 c 0 (beside pair 8 0)
    if s.reservedBase ≤ a then s2.islandFault islandMemory 0
    else
      let base := byteField (s.dparam 0x800B) 0 8
      if base ≤ a ∧ a < base + byteField (s.dparam 0x800B) 8 8 then
        match spilledAt 0 (a - base) s.img.ports with
        | some e => s2.setPort e.1 (addMark markCheck e.2)
        | none => s2
      else s2
def execDramPoison (t addr : Nat) (s : State) : Host.Outcome State Fault Refusal := s.event t (State.dramPoison addr)

/-! Refresh and retraining (R467, R468). -/

/-- REFRESH_DUE: with a real-time burst on the rank the interval is postponed, and the fourth pre-empts; without one, every owed
interval is paid. `stall` in ns. -/
def Channel.refresh (rank : Nat) (burst : Bool) (stall : Nat) (x : Channel) : Channel :=
  let owed := x.owed.getD rank 0
  if !burst then { x with owed := x.owed.set rank 0 }
  else if owed < 3 then { x with owed := x.owed.set rank (owed + 1) }
  else { x with preemptive := inc64 x.preemptive, largestStall := max x.largestStall (satNat 4294967295 stall) }
def execRefreshDue (t ch rank : Nat) (burst : Bool) (stall : Nat) (s : State) : Host.Outcome State Fault Refusal :=
  s.event t fun s => if ch < 4 ∧ rank < 2 ∧ (s.dchan ch).inService then s.setDchan ch (Channel.refresh rank burst stall) else s

/-- A retraining pause: every owed refresh is issued, the margin is measured (R468). -/
def Channel.pause (margin stall : Nat) (x : Channel) : Channel :=
  { x with owed := [0, 0], margin := margin, pauses := inc32 x.pauses, largestStall := max x.largestStall (satNat 4294967295 stall) }
def State.pause (c margin stall : Nat) (s : State) : State :=
  let s1 := s.setDchan c (Channel.pause margin stall)
  if margin < s.dparam 0xD006 then s1.degrade c else s1
/-- RETRAIN_PAUSE: `margin` in 1/64 UI, `stall` in ns. -/
def execRetrainPause (t ch margin stall : Nat) (s : State) : Host.Outcome State Fault Refusal :=
  s.event t fun s => if ch < 4 ∧ (s.dchan ch).inService then s.pause ch (margin % 256) stall else s

/-! Row hammer (R469, R470). -/

/-- The entry with the lowest count, ties to the lowest index. -/
def lowestEntry : List (Nat × Nat) → Nat
  | [] => 0
  | e :: es =>
    match es with
    | [] => 0
    | _ => let j := lowestEntry es; if (es.getD j (0, 0)).2 < e.2 then j + 1 else 0
/-- One activate of a row in its bank's table: the table and the row's count. -/
def hammer (row : Nat) (t : List (Nat × Nat)) : List (Nat × Nat) × Nat :=
  match t.findIdx? fun (e : Nat × Nat) => e.1 == row with
  | some i => let n := (t.getD i (0, 0)).2 + 1; (t.set i (row, n), n)
  | none =>
    if t.length < 64 then (t ++ [(row, 1)], 1)
    else let i := lowestEntry t; let n := (t.getD i (0, 0)).2 + 1; (t.set i (row, n), n)
/-- Neighbours of a row that exist. -/
def neighbourCount (row : Nat) : Nat := bit (row != 0) + bit (decide (row < 65535))
/-- An activate: at MEM.RH_THRESHOLD the neighbourCount are refreshed and the count restarts. -/
def BankTable.activate (threshold row : Nat) (b : BankTable) : BankTable × Nat :=
  let r := hammer row b.rows
  let y := { b with rows := r.1, rolling := b.rolling + 1 }
  let cleared := r.1.map fun (e : Nat × Nat) => if e.1 = row then (row, 0) else e
  if threshold ≤ r.2 then ({ y with rows := cleared }, neighbourCount row) else (y, 0)
def BankTable.activates (threshold : Nat) (rows : List Nat) (b : BankTable) : BankTable × Nat :=
  rows.foldl (fun (a : BankTable × Nat) (row : Nat) => let r := a.1.activate threshold (row % 65536); (r.1, a.2 + r.2)) (b, 0)

def Channel.table (x : Channel) (rank bank : Nat) : BankTable := (x.banks.find? fun (b : BankTable) => b.rank == rank && b.bank == bank).getD { rank := rank, bank := bank }
def Channel.setTable (b : BankTable) (x : Channel) : Channel :=
  let less (a c : BankTable) : Bool := decide (64 * a.rank + a.bank < 64 * c.rank + c.bank)
  let rest := x.banks.filter fun (a : BankTable) => !(a.rank == b.rank && a.bank == b.bank)
  { x with banks := insertBy less b rest }

/-- NEIGHBOUR_REFRESH: the activates of a bank since the last such command, in order, with the refreshes they cause (R469). -/
def Channel.hammered (threshold rank bank : Nat) (acts : List Nat) (x : Channel) : Channel :=
  let r := (x.table rank bank).activates threshold acts
  let y := x.setTable r.1
  { y with neighbour := satNat 18446744073709551615 (x.neighbour + r.2) }
def execNeighbourRefresh (t ch rank bank : Nat) (acts : List Nat) (s : State) : Host.Outcome State Fault Refusal :=
  s.event t fun s =>
    if ch < 4 ∧ rank < 2 ∧ bank < 32 ∧ (s.dchan ch).inService then s.setDchan ch (Channel.hammered (s.dparam 0xD005) rank bank acts) else s

/-- RFM_ISSUE (R470): the rolling count has reached `raaimt`, which the bank's devices report; an RFMsb lowers it by that much
(log entry 53). `forced`: issued at a 64-byte boundary of a burst, with its stall in ns. -/
def Channel.rfm (rank bank raaimt : Nat) (forced : Bool) (stall : Nat) (x : Channel) : Channel :=
  let b := x.table rank bank
  if raaimt = 0 ∨ b.rolling < raaimt then x
  else
    let y := x.setTable { b with rolling := b.rolling - raaimt }
    if forced then { y with forcedRfm := inc64 y.forcedRfm, largestStall := max y.largestStall (satNat 4294967295 stall) } else y
def execRfmIssue (t ch rank bank raaimt : Nat) (forced : Bool) (stall : Nat) (s : State) : Host.Outcome State Fault Refusal :=
  s.event t fun s => if ch < 4 ∧ rank < 2 ∧ bank < 32 ∧ (s.dchan ch).inService then s.setDchan ch (Channel.rfm rank bank raaimt forced stall) else s

/-- REFRESH_WINDOW_CLEAR (R469). -/
def execRefreshWindowClear (t ch : Nat) (s : State) : Host.Outcome State Fault Refusal :=
  s.event t fun s => if ch < 4 then s.setDchan ch fun (x : Channel) => { x with banks := x.banks.map fun (b : BankTable) => { b with rows := [] } } else s

/-! Readings (Tables 17.6, 17.7). -/

def State.dramCfg (s : State) : List Byte :=
  leBytes 1 s.mem.width ++ leBytes 1 s.mem.ranks ++ leBytes 1 s.mem.density ++ zeros 1 ++ leBytes 4 s.mem.capacity ++ leBytes 8 s.installed ++
    leBytes 8 dramBase ++ leBytes 8 s.reservedBase
def State.storeStatus (s : State) : List Byte :=
  let out := s.mem.stores.zipIdx.foldl (fun (a : Nat) (x : Store × Nat) => a + bit x.1.sparesOut * 2 ^ x.2) 0
  leBytes 4 s.mem.badFc ++ leBytes 1 out ++ zeros 3 ++ (List.range 4).flatMap (fun (n : Nat) => leBytes 2 (satNat 65535 (s.store n).spares)) ++
    leBytes 8 s.mem.corrected ++ leBytes 8 s.mem.uncorrectable
def State.mapoutStatus (s : State) : List Byte :=
  let moving := match s.mem.mapout with | some c => (s.dchan c).migrating | none => false
  leBytes 1 (s.mem.mapout.getD 255) ++ leBytes 1 (bit moving) ++ zeros 6 ++ leBytes 8 s.mem.pointer
def Channel.status (x : Channel) : Nat :=
  bit x.inService + 2 * bit x.migrating + 4 * bit x.mappedOut + 8 * bit x.degraded + 256 * (x.owed.getD 0 0 + 16 * x.owed.getD 1 0) + 65536 * x.margin
def Channel.eccBytes (x : Channel) : List Byte :=
  (List.range 20).flatMap (fun (i : Nat) => leBytes 4 ((alGet i x.corrected).getD 0)) ++ leBytes 8 x.uncorrectable ++ zeros 8
def Channel.rtStats (x : Channel) : List Byte :=
  leBytes 8 x.preemptive ++ leBytes 8 x.forcedRfm ++ leBytes 8 x.neighbour ++ leBytes 4 x.largestStall ++ leBytes 4 x.pauses

end Sys2Proof.Machine
end

