-- ==== Sys2Proof/Machine/Service.lean ====
section
/-! DEFINITION. The commands of uninterrupted service (20): modes, self-trim, loopback, self-test. -/

namespace Sys2Proof.Machine

/-! Modes (R535 to R537). -/

/-- The requests of `SVC_MODE_SET`: bit and value for every function whose MASK bit is set. -/
def modeBits (mask value : Nat) : List (Nat × Bool) :=
  (List.range 10).filterMap fun (n : Nat) => if mask.testBit n then some (n, value.testBit n) else none
/-- Pending requests after those of a command: a later one replaces, one equal to the mode in force cancels (R535). Entries of bit 32
and above keep a command whose request is gone among those that complete at the fence. -/
def joinModes (modes acc : Nat) (new : List (Nat × Bool)) (old : List (Nat × Bool × Nat)) : List (Nat × Bool × Nat) :=
  let kept := old.map fun (r : Nat × Bool × Nat) => if new.any fun (n : Nat × Bool) => n.1 == r.1 then (r.1 + 32, r.2) else r
  kept ++ (32, false, acc) :: new.map fun (n : Nat × Bool) => (if modes.testBit n.1 = n.2 then n.1 + 32 else n.1, n.2, acc)

/-- The modes a command would produce: those in force when the requests have taken effect. -/
def State.modesWith (p : Packet) (s : State) : Nat :=
  modesAfter s.svc.modes (joinModes s.svc.modes 0 (modeBits (p.fld 0 4) (p.fld 4 4)) s.svc.modeReq)
def State.withModes (m : Nat) (s : State) : State := { s with svc := { s.svc with modes := m } }

/-- No layer is in progress: the switch takes effect at once (R535). -/
def State.modesNow (s : State) : Bool :=
  [DevState.standby, .ready, .service, .recovery].contains s.cyc.state || (s.cyc.state == .armed && s.cyc.phase == .idle)

/-- SVC_MODE_SET. -/
def svcModeSetSpec : CmdSpec where
  opcode := 0xF003
  lenOk p := p.params.length == 8
  critical _ _ := true
  stateFail _ s := permitIn [.standby, .ready, .armed, .hold, .service, .recovery] s
  checks p s :=
    let t := s.withModes (s.modesWith p)
    noScope p :: (decide (1024 ≤ p.fld 0 4 ∨ 1024 ≤ p.fld 4 4), stRange) :: t.modeChecks ++ [(t.budgetFails s.cyc.profile, stBudget)]
  run acc p s :=
    if s.modesNow then (s.switchModes (s.modesWith p), .done stOk [])
    else ({ s with svc := { s.svc with modeReq := joinModes s.svc.modes acc (modeBits (p.fld 0 4) (p.fld 4 4)) s.svc.modeReq } }, .accepted)
def execSvcModeSet (p : Packet) (s : State) : Host.Outcome State Fault Refusal := serve svcModeSetSpec p s

/-- `SVC.MODES`. -/
def State.modesBytes (s : State) : List Byte :=
  let live := s.svc.modeReq.filter fun (r : Nat × Bool × Nat) => decide (r.1 < 32)
  let mask := live.foldl (fun (m : Nat) (r : Nat × Bool × Nat) => m ||| 2 ^ r.1) 0
  let vals := live.foldl (fun (m : Nat) (r : Nat × Bool × Nat) => if r.2.1 then m ||| 2 ^ r.1 else m) 0
  leBytes 4 s.svc.modes ++ leBytes 4 vals ++ leBytes 4 mask ++ zeros 4

/-! Self-trim (R538 to R545). -/

/-- SVC_TRIM_RUN. -/
def svcTrimRunSpec : CmdSpec where
  opcode := 0xF004
  lenOk p := p.params.length == 8
  stateFail _ s := permitIn fwStates s
  checks p s := [noScope p, (decide (8 < p.fld 0 1) || !p.zeroAt 1 7, stRange),
    (s.assisted fnTrim || s.trimming (p.fld 0 1) || s.spareTaken (p.fld 0 1), stTrimState)]
  run acc p s := ((s.answer p 0xF004 false stAccepted []).askTrim (p.fld 0 1) (.run acc), .sent)
def execSvcTrimRun (p : Packet) (s : State) : Host.Outcome State Fault Refusal := serve svcTrimRunSpec p s

/-- SVC_TRIM_CAPTURE (R545). -/
def svcTrimCaptureSpec : CmdSpec where
  opcode := 0xF005
  lenOk p := p.params.length == 16
  stateFail _ s := permitIn fwStates s
  checks p s := [noScope p, (decide (8 < p.fld 8 1) || !p.zeroAt 9 7 || !s.dramOk (p.fld 0 8) 32832, stRange),
    (!s.assisted fnTrim || s.trimming (p.fld 8 1) || s.spareTaken (p.fld 8 1), stTrimState), (decide (p.fld 0 8 % 64 ≠ 0), stAlign)]
  run acc p s := ((s.answer p 0xF005 false stAccepted []).askTrim (p.fld 8 1) (.capture acc (p.fld 0 8)), .sent)
def execSvcTrimCapture (p : Packet) (s : State) : Host.Outcome State Fault Refusal := serve svcTrimCaptureSpec p s

/-- SVC_TRIM_SET (R545): its final status follows the TRIM journal entry (R523, R544). -/
def svcTrimSetSpec : CmdSpec where
  opcode := 0xF006
  lenOk p := p.params.length == 24
  critical _ _ := true
  stateFail _ s := permitIn fwStates s
  checks p s :=
    let fe := p.fld 0 1
    let d := deltaOf (slice p.params 8 10)
    let lim := s.dparam 0xF019
    [noScope p, (decide (8 < fe) || !p.zeroAt 1 7 || !p.zeroAt 18 6, stRange), (!s.assisted fnTrim || s.trimming fe, stTrimState),
      (!withinMax lim d || !withinStep lim d (s.frontEnd fe).delta, stTrimLimit)]
  run acc p s :=
    let fe := p.fld 0 1
    let d := deltaOf (slice p.params 8 10)
    let s1 := (s.applyDelta fe d).noteTrim fe 1 0 d
    if s1.recorder.journal.bad then (s1.persistFail fe, .done stJournalFail []) else (s1.trimEntry fe (.trimSet acc fe), .later)
def execSvcTrimSet (p : Packet) (s : State) : Host.Outcome State Fault Refusal := serve svcTrimSetSpec p s

/-- TRIM_PERIOD (R539). -/
def execTrimPeriod (t : Nat) (s : State) : Host.Outcome State Fault Refusal := s.event t State.trimPeriod
/-- TRIM_HANDOVER: the largest angle difference of the 1,024 pairs, and whether a pair raised an error (R540). -/
def execTrimHandover (t maxDiff : Nat) (pairError : Bool) (s : State) : Host.Outcome State Fault Refusal := s.event t (State.trimHandover maxDiff pairError)
/-- TRIM_FIT: the codes of the 8,192 reference conversions (R541). -/
def execTrimFit (t : Nat) (codes : List (Nat × Nat)) (s : State) : Host.Outcome State Fault Refusal := s.event t (State.trimFit codes)
/-- TRIM_HANDBACK (R540). -/
def execTrimHandback (t maxDiff : Nat) (pairError : Bool) (s : State) : Host.Outcome State Fault Refusal := s.event t (State.trimHandback maxDiff pairError)

/-! Loopback (R546). -/

/-- Indices of an interface (Table 20.8). -/
def loopIndices : Nat → Nat
  | 1 => 1 | 2 => 4 | 3 => 8 | 4 => 4 | 5 => 9 | _ => 0
/-- The depths of Table 20.8. -/
def loopDepths : Nat → List Nat
  | 1 => [1, 2, 3] | 2 => [1, 2, 4] | 3 => [2] | 4 => [4] | 5 => [4, 5] | _ => []

/-- The interface leaves normal running for the test. -/
def State.loopBegin (iface index : Nat) (s : State) : State :=
  match iface with
  | 1 => s.peerDown
  | 2 => s.setEthPort index fun (x : EthPort) => { x with lock := false, fec := false }
  | 3 => s.cxpLost index
  | _ => s
/-- Afterwards it trains again, or the channel restarts. -/
def State.loopFinish (iface index : Nat) (s : State) : State :=
  match iface with
  | 3 => s.portRestart index
  | 5 => s.restartChannel index
  | _ => s

/-- SVC_LOOPBACK. -/
def svcLoopbackSpec : CmdSpec where
  opcode := 0xF200
  lenOk p := p.params.length == 8
  stateFail _ s := permitIn [.service] s
  checks p s := [noScope p,
    (decide (loopIndices (p.fld 0 1) ≤ p.fld 1 1 ∨ 5 < p.fld 2 1 ∨ 1 < p.fld 3 1 ∨ p.fld 4 4 = 0 ∨ 3600000 < p.fld 4 4), stRange),
    (!(loopDepths (p.fld 0 1)).contains (p.fld 2 1), stLoopDepth), (s.looped (p.fld 0 1) (p.fld 1 1), stBusy)]
  resultLen _ _ := 16
  run acc p s :=
    let l : Loopback :=
      { acc := acc, iface := p.fld 0 1, index := p.fld 1 1, depth := p.fld 2 1, pattern := p.fld 3 1, endsAt := s.dt + 16000000 * p.fld 4 4 }
    ({ s.loopBegin l.iface l.index with svc := { (s.loopBegin l.iface l.index).svc with loopback := s.svc.loopback ++ [l] } }, .accepted)
def execSvcLoopback (p : Packet) (s : State) : Host.Outcome State Fault Refusal := serve svcLoopbackSpec p s

/-- SVC_LOOPBACK_END: bits, or pairs, compared and in error. -/
def State.loopEnd (iface index bits errors : Nat) (s : State) : State :=
  match s.svc.loopback.find? fun (l : Loopback) => l.iface == iface && l.index == index with
  | some l =>
    if s.dt < l.endsAt then s
    else
      let s1 := { s with svc := { s.svc with loopback := s.svc.loopback.filter fun (x : Loopback) => x.acc != l.acc } }
      (s1.loopFinish iface index).complete l.acc stOk (leBytes 8 bits ++ leBytes 8 errors)
  | none => s
def execSvcLoopbackEnd (t iface index bits errors : Nat) (s : State) : Host.Outcome State Fault Refusal := s.event t (State.loopEnd iface index bits errors)

/-! Self-test (R547). -/

/-- SVC_SELF_TEST. -/
def svcSelfTestSpec : CmdSpec where
  opcode := 0xF201
  lenOk p := p.params.length == 8
  stateFail _ s := permitIn [.service] s
  checks p s := [noScope p, (decide (7 < p.fld 0 1) || !p.zeroAt 1 7, stRange), (s.svc.selfTest.isSome, stBusy)]
  resultLen _ _ := 32
  run acc p s := ({ s with svc := { s.svc with selfTest := some (acc, p.fld 0 1) } }, .accepted)
def execSvcSelfTest (p : Packet) (s : State) : Host.Outcome State Fault Refusal := serve svcSelfTestSpec p s

/-- `SVC.TEST_STATUS`. -/
def State.testStatus (s : State) : List Byte := leBytes 8 s.svc.rowsTested ++ leBytes 4 s.svc.rowsRepaired ++ leBytes 4 s.svc.margin ++ zeros 16
def State.sparesUsed (s : State) : Nat := s.mem.stores.foldl (fun (a : Nat) (x : Store) => a + x.spares) 0

/-- SELF_TEST_END: rows tested, the (store, row) pairs that failed and stay repaired, the margin of each channel. -/
def State.selfTestEnd (rows : Nat) (failed : List (Nat × Nat)) (margins : List Nat) (s : State) : State :=
  match s.svc.selfTest with
  | none => s
  | some (acc, mask) =>
    let mine := failed.filter fun (e : Nat × Nat) => decide (e.1 < 4) && mask.testBit (if e.1 = 3 then 1 else 0)
    let s1 := mine.foldl (fun (s : State) (e : Nat × Nat) => s.setStore e.1 (Store.repair e.1 e.2)) s
    let chans := if mask.testBit 2 then (List.range 4).filter fun (c : Nat) => (s.dchan c).inService else []
    let s2 := chans.foldl (fun (s : State) (c : Nat) => s.pause c (margins.getD c 0 % 256) 0) s1
    let ms := chans.map fun (c : Nat) => margins.getD c 0 % 256
    let least := match ms with | [] => 0 | m :: rest => rest.foldl min m
    let s3 : State := { s2 with svc := { s2.svc with
      selfTest := none, rowsTested := if mask % 4 = 0 then 0 else rows, rowsRepaired := s1.sparesUsed - s.sparesUsed, margin := least } }
    s3.complete acc stOk s3.testStatus
def execSelfTestEnd (t rowsTested : Nat) (failed : List (Nat × Nat)) (margins : List Nat) (s : State) : Host.Outcome State Fault Refusal :=
  s.event t (State.selfTestEnd rowsTested failed margins)

end Sys2Proof.Machine
end

