-- ==== Sys2Proof/Machine/Protocol.lean ====
section
/-! DEFINITION. The commands of the host protocol: identity, queue pairs, stream fences, keys (Tables 14.16 and 15.2). -/

namespace Sys2Proof.Machine

/-! Identity (R403, Tables 14.2 to 14.4). -/

/-- VERSIONS (Table 14.4). -/
def versionBytes : List Byte := leBytes 8 0x102012202430
/-- FW_SET: it reads zero in BOOT (Table 15.2). -/
def State.fwSetReg (s : State) : Nat := if s.cyc.state == .boot then 0 else s.svc.fw.activeSet

/-- DEV_IDENTIFY (R403). -/
def devIdentifySpec : CmdSpec where
  opcode := 0x0010
  lenOk p := p.params.isEmpty
  stateFail _ _ := none
  checks p _ := [noScope p]
  resultLen _ _ := 32
  run _ _ s := (s, .done stOk (leBytes 4 s.idRegister ++ leBytes 4 s.heads ++ leBytes 8 s.otp.serial ++ leBytes 4 s.fwVersion ++
    leBytes 4 s.fwSetReg ++ versionBytes))
def execDevIdentify (p : Packet) (s : State) : Host.Outcome State Fault Refusal := serve devIdentifySpec p s

/-- NOP (R403). -/
def nopSpec : CmdSpec where
  opcode := 0x0043
  lenOk p := p.params.isEmpty
  stateFail _ _ := none
  checks p _ := [noScope p]
  run _ _ s := (s, .done stOk [])
def execNop (p : Packet) (s : State) : Host.Outcome State Fault Refusal := serve nopSpec p s

/-! Queue pairs (R381). -/

def State.qp (s : State) (q : Nat) : QueuePair := s.host.qps.getD q {}
def State.setQp (q : Nat) (f : QueuePair → QueuePair) (s : State) : State := { s with host := { s.host with qps := updAt s.host.qps q f } }
/-- The command came over UDP, where the queue commands are not permitted (Table 14.16; log entry 54). -/
def notPcie (p : Packet) (s : State) : Option Nat := if p.origin.pcie then permitIn fromStandby s else some stState

/-- QUEUE_CREATE (R381). -/
def queueCreateSpec : CmdSpec where
  opcode := 0x0040
  lenOk p := p.params.length == 32
  stateFail := notPcie
  checks p s := [
    noScope p,
    (decide (p.fld 0 1 = 0 ∨ 63 < p.fld 0 1 ∨ p.fld 1 1 < 4 ∨ 16 < p.fld 1 1 ∨ 63 < p.fld 2 1) || !p.zeroAt 3 5 || !p.zeroAt 24 8, stRange),
    ((s.qp (p.fld 0 1)).enabled, stQueueState),
    (decide (p.fld 8 8 % 64 ≠ 0 ∨ p.fld 16 8 % 64 ≠ 0), stAlign)]
  run _ p s :=
    (s.setQp (p.fld 0 1) fun _ => { enabled := true, sizeExp := p.fld 1 1, vector := p.fld 2 1, sqBase := p.fld 8 8, cqBase := p.fld 16 8 }, .done stOk [])
def execQueueCreate (p : Packet) (s : State) : Host.Outcome State Fault Refusal := serve queueCreateSpec p s

/-- QUEUE_DELETE (R381): ACCEPTED, then it waits for the pair's commands. -/
def queueDeleteSpec : CmdSpec where
  opcode := 0x0041
  lenOk p := p.params.length == 8
  stateFail := notPcie
  checks p s := [
    noScope p,
    (decide (p.fld 0 1 = 0 ∨ 63 < p.fld 0 1) || p.origin == .qp (p.fld 0 1) || !p.zeroAt 1 7, stRange),
    (!(s.qp (p.fld 0 1)).enabled || (s.qp (p.fld 0 1)).deleting.isSome, stQueueState)]
  run acc p s :=
    ((s.answer p 0x0041 false stAccepted []).setQp (p.fld 0 1) (fun (x : QueuePair) => { x with deleting := some acc }) |>.settleDeletes 64, .sent)
def execQueueDelete (p : Packet) (s : State) : Host.Outcome State Fault Refusal := serve queueDeleteSpec p s

/-! Fences (R392). -/

/-- The run of a `STREAM_FENCE`: during EXPOSE it waits for the next sample boundary. -/
def fenceRun (acc : Nat) (p : Packet) (s : State) : State × Answer :=
  if s.exposing then ({ s with host := { s.host with fences := s.host.fences ++ [(acc, s.dt)] } }, .later)
  else
    let r := s.fenceAt s.dt p
    (r.1, .done stOk r.2)

/-- STREAM_FENCE (R392). -/
def streamFenceSpec : CmdSpec where
  opcode := 0x0042
  lenOk p := p.params.isEmpty
  stateFail _ s := permitIn fromStandby s
  checks p _ := [noScope p]
  resultLen _ _ := 16
  run := fenceRun
def execStreamFence (p : Packet) (s : State) : Host.Outcome State Fault Refusal := serve streamFenceSpec p s

/-! Keys (R395 to R397). -/

def State.key (s : State) (k : Nat) : KeySlot := s.host.keys.getD k {}
def State.setKey (k : Nat) (f : KeySlot → KeySlot) (s : State) : State := { s with host := { s.host with keys := updAt s.host.keys k f } }
def State.anyActive (s : State) : Bool := s.host.keys.any fun (k : KeySlot) => k.state == .active
def KeyState.code : KeyState → Nat
  | .empty => 0 | .active => 1 | .retired => 2

/-- The key's journal entry (Table 19.9): encrypted under the device key of OTP (R395). -/
def State.storeKey (acc slot : Nat) (s : State) : State :=
  let k := s.key slot
  s.journalAsk 0x11 (leBytes 1 slot ++ leBytes 1 k.state.code ++ zeros 6 ++ padTo 40 (if k.state = .empty then [] else keyWrap Config.deviceKey k.key)) (.keySlot acc slot)

/-- The key a `KEY_LOAD` carries: clear, or unwrapped under the key of the slot that authenticates the command (R396). -/
def State.loadedKey (s : State) (p : Packet) : Option (List Byte) :=
  if p.fld 1 1 = 0 then some (slice p.params 8 32)
  else match p.trailer with
    | some t => keyUnwrap (s.key t.slot).key (slice p.params 8 40)
    | none => none

/-- KEY_LOAD (R396): the new key starts with the slot's committed L − 1. -/
def keyLoadSpec : CmdSpec where
  opcode := 0x0048
  lenOk p := p.params.length == 48
  critical _ s := s.anyActive
  stateFail _ s := permitIn [.standby, .ready, .service] s
  checks p s :=
    let clear := p.fld 1 1 == 0
    [ noScope p,
      (decide (7 < p.fld 0 1 ∨ 1 < p.fld 1 1) || !p.zeroAt 2 6 || (clear && !p.zeroAt 40 8) ||
        (clear && (s.anyActive || !p.origin.pcie || s.cyc.state == .ready)) || (!clear && p.trailer.isNone), stRange),
      ((s.loadedKey p).isNone, stIntegrity)]
  run acc p s :=
    let slot := p.fld 0 1
    let s1 := s.setKey slot fun (k : KeySlot) => { k with state := .active, key := (s.loadedKey p).getD [], last := max k.last (k.lease - 1) }
    if s.recorder.journal.bad then (s1, .done stJournalFail []) else (s1.storeKey acc slot, .later)
def execKeyLoad (p : Packet) (s : State) : Host.Outcome State Fault Refusal := serve keyLoadSpec p s

/-- KEY_RETIRE (R397). -/
def keyRetireSpec : CmdSpec where
  opcode := 0x0049
  lenOk p := p.params.length == 8
  critical _ _ := true
  stateFail _ s := permitIn fromStandby s
  checks p s := [
    noScope p,
    (decide (7 < p.fld 0 1) || !p.zeroAt 1 7 || (s.key (p.fld 0 1)).state != .active ||
      decide ((s.host.keys.filter fun (k : KeySlot) => k.state == .active).length < 2), stRange)]
  run acc p s :=
    let s1 := s.setKey (p.fld 0 1) fun (k : KeySlot) => { k with state := .retired, retiredAt := acc }
    if s.recorder.journal.bad then (s1, .done stJournalFail []) else (s1.storeKey acc (p.fld 0 1), .later)
def execKeyRetire (p : Packet) (s : State) : Host.Outcome State Fault Refusal := serve keyRetireSpec p s

/-- COUNTER_READ (R394, Table 14.16). -/
def counterReadSpec : CmdSpec where
  opcode := 0x004A
  lenOk p := p.params.isEmpty
  stateFail _ s := permitIn fromStandby s
  checks p _ := [noScope p]
  resultLen _ _ := 128
  run _ _ s := (s, .done stOk ((List.range 8).flatMap fun (i : Nat) => leBytes 1 (s.key i).state.code ++ zeros 7 ++ leBytes 8 (s.key i).last))
def execCounterRead (p : Packet) (s : State) : Host.Outcome State Fault Refusal := serve counterReadSpec p s

/-! The rest of BAR0 (R373 to R380, R401). -/

/-- BAR0 registers as they read (Table 14.2); the count of commands without a final status stands in PAUSE. -/
def State.outstandingPcie (s : State) : Nat :=
  (s.host.inProg.filter fun (i : InProg) => i.packet.origin.pcie && !i.mute).length + (s.host.waiting.filter fun (w : WaitingCmd) => w.packet.origin.pcie).length
def State.paused (s : State) : Bool :=
  s.host.pauseRequest && !(s.host.waiting.any fun (w : WaitingCmd) => w.packet.origin.pcie) &&
    !(s.host.inProg.any fun (i : InProg) => i.packet.origin.pcie && i.silent && !i.mute)
end Sys2Proof.Machine
end

