-- ==== Sys2Proof/Machine/Bar0.lean ====
section
/-! DEFINITION. BAR0 and the queues (R373 to R380, R398, R401): doorbells, queue pair 0, PAUSE, moderation, completion entries; the end
of a session (R386). -/

namespace Sys2Proof.Machine

/-- One dword of vector `v`'s entry of the MSI-X table: message address, its high half, message data, vector control. -/
def State.msixDword (s : State) (v k : Nat) : Nat :=
  let x := s.host.vectors.getD v {}
  if k = 0 then x.addr % 2 ^ 32 else if k = 1 then x.addr / 2 ^ 32 else if k = 2 then x.data else bit x.masked

/-- The registers of Table 14.2 that read, by their offset; every other offset reads zero (R373). -/
def State.bar0Read (s : State) (off : Nat) : Nat :=
  if off = 0x0000 then s.idRegister
  else if off = 0x0004 then s.heads
  else if off = 0x0008 then s.otp.serial
  else if off = 0x0010 then s.fwVersion
  else if off = 0x0014 then s.fwSetReg
  else if off = 0x0018 then leNat versionBytes
  else if off = 0x0020 then s.cyc.state.code + 256 * s.cyc.phase.code
  else if off = 0x0028 then s.dt
  else if off = 0x0040 then s.host.qp0SqBase
  else if off = 0x0048 then s.host.qp0CqBase
  else if off = 0x0050 then s.host.qp0Cfg
  else if off = 0x0058 then bit s.host.pauseRequest + 2 * bit s.paused + 65536 * s.outstandingPcie
  else if 0x1800 ≤ off ∧ off < 0x1900 ∧ off % 16 = 8 then s.dmaStatus ((off - 0x1800) / 16)
  else if 0x2000 ≤ off ∧ off < 0x2100 ∧ off % 4 = 0 then
    (s.host.vectors.getD ((off - 0x2000) / 4) {}).timer + 65536 * (s.host.vectors.getD ((off - 0x2000) / 4) {}).count
  else if 0x3000 ≤ off ∧ off < 0x3400 ∧ off % 4 = 0 then s.msixDword ((off - 0x3000) / 16) (off % 16 / 4)
  else if off = 0x3800 then (List.range 64).foldl (fun (a v : Nat) => a + bit (s.host.vectors.getD v {}).pba * 2 ^ v) 0
  else 0

/-- The 8-byte registers of Table 14.2 that read. -/
def wideRegisters : List Nat := [0x0008, 0x0018, 0x0028, 0x0040, 0x0048, 0x3800]

/-- A read of BAR0: what it answers and the state after it. A 4-byte read of an 8-byte register answers the low half and latches the
high half for the next read of that register; another size or alignment reads zero (R373). -/
def State.bar0Load (off size : Nat) (s : State) : Nat × State :=
  if !s.bar0 then (0, s)
  else if size = 4 ∧ off % 4 = 0 then
    if wideRegisters.contains off then
      (s.bar0Read off % 2 ^ 32, { s with host := { s.host with readLatch := some (off, s.bar0Read off / 2 ^ 32) } })
    else if off % 8 = 4 ∧ wideRegisters.contains (off - 4) then
      match s.host.readLatch with
      | some (r, h) =>
        if r = off - 4 then (h, { s with host := { s.host with readLatch := none } }) else (s.bar0Read (off - 4) / 2 ^ 32, s)
      | none => (s.bar0Read (off - 4) / 2 ^ 32, s)
    else (s.bar0Read off % 2 ^ 32, s)
  else if size = 8 ∧ off % 8 = 0 then
    if wideRegisters.contains off then (s.bar0Read off, s)
    else (s.bar0Read off % 2 ^ 32 + 2 ^ 32 * (s.bar0Read (off + 4) % 2 ^ 32), s)
  else (0, s)

/-- Slots of each queue of a pair. -/
def QueuePair.slots (q : QueuePair) : Nat := 2 ^ q.sizeExp

/-- SQ_TAIL_WRITE (R374, R380). -/
def State.sqTail (q v : Nat) (s : State) : State :=
  let x := s.qp q
  let tail := v % 65536
  if !s.bar0 || decide (64 ≤ q) then s
  else if !x.enabled || decide (x.slots ≤ tail) then s.badDoorbell
  else s.setQp q fun (y : QueuePair) => { y with sqTail := tail }
def execSqTailWrite (t qp v : Nat) (s : State) : Host.Outcome State Fault Refusal := s.event t (State.sqTail qp v)

/-- CQ_HEAD_WRITE (R377, R380): entries are released up to the new head. -/
def State.cqHead (q v : Nat) (s : State) : State :=
  let x := s.qp q
  let head := v % 65536
  let released := (head + x.slots - x.cqHead) % x.slots
  if !s.bar0 || decide (64 ≤ q) then s
  else if !x.enabled || decide (x.slots ≤ head) || decide (x.cqUsed < released) then s.badDoorbell
  else s.setQp q fun (y : QueuePair) => { y with cqHead := head, cqUsed := y.cqUsed - released }
def execCqHeadWrite (t qp v : Nat) (s : State) : Host.Outcome State Fault Refusal := s.event t (State.cqHead qp v)

/-! Queue pair 0 (Table 14.5). -/

/-- Fields of QP0_CFG. -/
def cfgEnable (v : Nat) : Bool := v.testBit 0
def cfgSizeExp (v : Nat) : Nat := bits v 8 5
def cfgVector (v : Nat) : Nat := bits v 16 6
def cfgWord (enable : Bool) (sizeExp vector : Nat) : Nat := bit enable + 256 * sizeExp + 65536 * vector

/-- A write of QP0_CFG: a reserved SIZE_EXP, or a change of SIZE_EXP or VECTOR while ENABLE is set, leaves the field and is counted
(R8). Setting ENABLE starts the pair at indices 0; clearing it discards the completions of its commands in progress (R381). -/
def State.qp0Cfg (v : Nat) (s : State) : State :=
  let old := s.host.qp0Cfg
  let on := cfgEnable old
  let badSize := (decide (cfgSizeExp v < 4 ∨ 16 < cfgSizeExp v)) || (on && cfgSizeExp v != cfgSizeExp old)
  let badVector := on && cfgVector v != cfgVector old
  let size := if badSize then cfgSizeExp old else cfgSizeExp v
  let vec := if badVector then cfgVector old else cfgVector v
  let s1 := { s with host := { s.host with qp0Cfg := cfgWord (cfgEnable v) size vec } }
  let s2 := if badSize || badVector then s1.reservedWrite else s1
  if cfgEnable v && !on then
    s2.setQp 0 fun _ => { enabled := true, sizeExp := size, vector := vec, sqBase := s.host.qp0SqBase, cqBase := s.host.qp0CqBase }
  else if on && !cfgEnable v then (s2.muteQueues fun (o : Origin) => o == .qp 0).setQp 0 fun _ => {}
  else s2

/-- A base of queue pair 0: ignored and counted while ENABLE is set or when it is no multiple of 64. -/
def State.qp0Base (cq : Bool) (v : Nat) (s : State) : State :=
  if cfgEnable s.host.qp0Cfg || decide (v % 64 ≠ 0) then s.reservedWrite
  else if cq then { s with host := { s.host with qp0CqBase := v } }
  else { s with host := { s.host with qp0SqBase := v } }

/-- A write of MOD[v] (Table 14.7): a message whose count is reached falls due. -/
def State.modWrite (v w : Nat) (s : State) : State :=
  let s1 := { s with host := { s.host with vectors := updAt s.host.vectors v fun (x : Vector64) => { x with count := w / 65536 % 65536, timer := w % 65536 } } }
  let x := s1.host.vectors.getD v {}
  if 64 ≤ v then s else if 0 < x.entries ∧ !x.due ∧ x.count ≤ x.entries then s1.messageDue v else s1

/-- QP0_CFG_WRITE: a write of QP0_SQ_BASE, QP0_CQ_BASE, QP0_CFG or MOD (Tables 14.2, 14.5, 14.7). -/
def execQp0CfgWrite (t : Nat) (reg : Bar0Reg) (v : Nat) (s : State) : Host.Outcome State Fault Refusal :=
  s.event t fun s =>
    if !s.bar0 then s
    else match reg with
      | .sqBase => s.qp0Base false v
      | .cqBase => s.qp0Base true v
      | .cfg => s.qp0Cfg v
      | .mod n => s.modWrite n v

/-- PAUSE_WRITE (R401). -/
def execPauseWrite (t v : Nat) (s : State) : Host.Outcome State Fault Refusal :=
  s.event t fun s => if s.bar0 then { s with host := { s.host with pauseRequest := v.testBit 0 } } else s

/-- BAR0_BAD_ACCESS (R373): an access that is not an aligned one of 4 or 8 bytes; a write is counted. -/
def execBar0BadAccess (t offset size : Nat) (write : Bool) (s : State) : Host.Outcome State Fault Refusal :=
  s.event t fun s => if s.bar0 && write && !((size == 4 || size == 8) && offset % size == 0) then s.reservedWrite else s

/-! Completion entries (R377 to R379). -/

/-- A CQ entry (Table 14.9). -/
def cqEntry (q : Nat) (x : QueuePair) (packet : List Byte) : List Byte :=
  padTo 48 (packet.take 48) ++ leBytes 2 x.sqHead ++ leBytes 1 q ++ leBytes 1 (bit (decide (48 < packet.length))) ++ zeros 11 ++ leBytes 1 (bit x.phase)

/-- The oldest entry that waits for a queue is written once the CQ has room; a long status packet goes to RESULT_ADDR first. -/
def State.writeEntry (q : Nat) (s : State) : State :=
  let x := s.qp q
  match s.host.cqWait.find? fun (c : CqItem) => c.qp == q with
  | none => s
  | some c =>
    if !x.enabled || decide (x.slots ≤ x.cqUsed) then s
    else
      let next := (x.cqTail + 1) % x.slots
      let s1 := { s with host := { s.host with cqWait := s.host.cqWait.eraseP fun (c : CqItem) => c.qp == q } }
      let s2 := s1.setQp q fun (y : QueuePair) => { y with cqTail := next, cqUsed := y.cqUsed + 1, phase := if next = 0 then !y.phase else y.phase }
      let entry : Nat × List Byte := (x.cqBase + 64 * x.cqTail, cqEntry q x c.packet)
      s2.hostEntry x.vector (if 48 < c.packet.length then [(c.resultAddr, c.packet), entry] else [entry])

/-- CQ_ENTRY_WRITE (R379). -/
def execCqEntryWrite (t qp : Nat) (s : State) : Host.Outcome State Fault Refusal := s.event t (State.writeEntry qp)

/-! Sessions (R386). -/

/-- A session ends: what has not started does not start, and replies to it are lost (log entry 55). -/
def State.endSession (i : Nat) (s : State) : State :=
  let s1 := s.muteQueues fun (o : Origin) => o == .session i
  { s1 with host := { s1.host with sessions := updAt s1.host.sessions i fun _ => none } }
def State.sessionTimeout (i : Nat) (s : State) : State :=
  match s.host.sessions.getD i none with
  | some x => if x.lastDt + 16000000000 * s.dparam 0x0018 ≤ s.dt then s.endSession i else s
  | none => s
/-- SESSION_TIMEOUT (R386). -/
def execSessionTimeout (t index : Nat) (s : State) : Host.Outcome State Fault Refusal := s.event t (State.sessionTimeout index)

end Sys2Proof.Machine
end

