-- ==== Sys2Proof/Machine/FbkRows.lean ====
section
/-! DEFINITION. The events and the command of position and speed feedback (11). -/

namespace Sys2Proof.Machine

/-- SINCOS_CONVERSION: the codes of one conversion instant (R311). -/
def execSincosConversion (t c sc cc : Nat) (s : State) : Host.Outcome State Fault Refusal := s.event t (State.sinCos c sc cc)

/-- QUAD_EDGE: the filtered levels after the sample (R314). -/
def execQuadEdge (t c : Nat) (a b : Bool) (s : State) : Host.Outcome State Fault Refusal := s.event t (State.quadEdge c a b)

/-- QUAD_INDEX (R314). -/
def execQuadIndex (t c : Nat) (s : State) : Host.Outcome State Fault Refusal := s.event t (State.quadIndex c)

/-- SSI_FRAME_END (R315). -/
def execSsiFrameEnd (t c raw extra : Nat) (good : Bool) (latch : Nat) (s : State) : Host.Outcome State Fault Refusal :=
  s.event t (State.ssiFrame c raw extra good latch)

/-- A bound axis that is not at rest (FBK_BOUND). -/
def State.boundMoving (s : State) (c : Nat) : Bool := (s.boundAxes c).any fun a => !s.atRest a

/-- FBK_SET_COUNT (R325). -/
def fbkSetCountSpec : CmdSpec where
  opcode := 0xA000
  lenOk p := p.params.length == 8
  critical _ _ := true
  stateFail _ s := permitIn [.standby, .ready, .armed, .hold, .service, .recovery] s
  checks p s := [(decide (8 < p.scope) || !p.zeroAt 4 4, stRange), (s.fbkMode p.scope == 0, 0xA000), (s.boundMoving p.scope, 0xA001)]
  run _ p s := (s.setCount p.scope (toSigned 32 (p.fld 0 4)), .done stOk [])

def execFbkSetCount (p : Packet) (s : State) : Host.Outcome State Fault Refusal := serve fbkSetCountSpec p s

end Sys2Proof.Machine
end

