-- ==== Sys2Proof/Machine/MotRows.lean ====
section
/-! DEFINITION. The events and commands of bed motion (10). -/

namespace Sys2Proof.Machine

/-- AXIS_TICK: the motion tick that begins at this DT (R285, R287). -/
def execAxisTick (t : Nat) (s : State) : Host.Outcome State Fault Refusal := s.event t State.motionTick

/-- MOVE_IN_POSITION (R292). -/
def execMoveInPosition (t a : Nat) (s : State) : Host.Outcome State Fault Refusal := s.event t (State.moveEnds a)

/-- POSITION_REESTABLISH: the bound channel's speed has read zero for 10 ms after a quick stop (R294). -/
def execPositionReestablish (t a : Nat) (s : State) : Host.Outcome State Fault Refusal :=
  s.event t fun s =>
    match (s.axis a).waitZero, s.feedback a with
    | some d, some f => if 10000 ≤ d then s.placeAxis a f 2 else s
    | _, _ => s

/-- MOT_FAULT_PIN: the level of MOT_FAULT_N (R296). -/
def execMotFaultPin (t a : Nat) (low : Bool) (s : State) : Host.Outcome State Fault Refusal :=
  s.event t fun s =>
    let s1 := s.setAxis a fun x => { x with pinLow := low }
    if low then s1.axisFault 1 a else s1

/-- An axis index in the scope (R308). -/
def axisScope (p : Packet) : Bool := decide (7 < p.scope)
/-- STANDBY, READY, ARMED, SERVICE and RECOVERY (Table 10.8). -/
def motStates : List DevState := [.standby, .ready, .armed, .service, .recovery]

/-- The move of an `MOT_MOVE` packet. -/
def packetMove (acc : Nat) (p : Packet) (s : State) : AxisMove :=
  s.moveOf p.scope (p.fld 0 1) (toSigned 32 (p.fld 4 4)) (p.fld 8 4) (some acc)

/-- MOT_MOVE (R286, R288, R302, R303, Table 10.8). -/
def motMoveSpec : CmdSpec where
  opcode := 0x9000
  lenOk p := p.params.length == 16
  stateFail _ s := if s.motAssisted then some stState else permitIn motStates s
  checks p s :=
    let max := s.param 0x9002 p.scope
    let speedMode := p.fld 0 1 == 2
    [(axisScope p || decide (2 < p.fld 0 1 ∨ 2 < p.fld 1 1) || !p.zeroAt 2 2 || !p.zeroAt 12 4 ||
       (if speedMode then p.fld 8 4 != 0 || decide (max < (toSigned 32 (p.fld 4 4)).natAbs) else decide (p.fld 8 4 = 0 ∨ max < p.fld 8 4)), stRange),
     ((s.axis p.scope).mode == .fault, 0x9002),
     (!s.axisOn p.scope || (!speedMode && !(s.axis p.scope).posValid), 0x9000),
     (!s.targetOk p.scope (packetMove 0 p s), 0x9001),
     (s.recoating && s.inRecoatSeq p.scope, 0x9003)]
  run acc p s :=
    if p.fld 1 1 = 0 then (s.beginMove p.scope (packetMove acc p s), .accepted)
    else
      let w : AxisWait := { input := p.fld 1 1 - 1, mode := p.fld 0 1, value := toSigned 32 (p.fld 4 4), speed := p.fld 8 4, acc := acc }
      let old := (s.axis p.scope).wait.map (·.acc)
      (((s.setAxis p.scope fun x => { x with wait := some w })).endMove old stAborted, .accepted)

def execMotMove (p : Packet) (s : State) : Host.Outcome State Fault Refusal := serve motMoveSpec p s

/-- The other axes of a stream that a stop ends make a controlled stop (R307). -/
def State.stopStream (except : Nat → Bool) (s : State) : State :=
  if !s.mot.stream.running then s
  else
    let acc := s.mot.stream.acc
    let s1 := { s with mot := { s.mot with stream := { s.mot.stream with running := false, acc := none, points := [] } } }
    ((List.range 8).foldl (fun s a => if s.axisOn a && !except a then s.setAxis a fun x => { x with move := some (s.stopMove a none), ramp := false } else s) s1).endMove
      acc stAborted

/-- MOT_STOP: a quick stop of one axis or of all (R293). -/
def motStopSpec : CmdSpec where
  opcode := 0x9001
  lenOk p := p.params.isEmpty
  stateFail _ s := permitIn fromStandby s
  checks p _ := [(axisScope p && p.scope != 0xFFFF, stRange)]
  run _ p s :=
    if p.scope = 0xFFFF then ((s.stopStream fun _ => true).stopAllAxes, .done stOk [])
    else ((s.stopStream fun a => a == p.scope).quickStop p.scope, .done stOk [])

def execMotStop (p : Packet) (s : State) : Host.Outcome State Fault Refusal := serve motStopSpec p s

/-- MOT_SET_POSITION (R297). -/
def motSetPositionSpec : CmdSpec where
  opcode := 0x9002
  lenOk p := p.params.length == 8
  critical _ _ := true
  stateFail _ s := permitIn motStates s
  checks p s := [(axisScope p || !p.zeroAt 4 4, stRange), (!s.atRest p.scope, 0x9003)]
  run _ p s :=
    let v := toSigned 32 (p.fld 0 4)
    let s1 := s.placeAxis p.scope v 1
    (s1.setAxis p.scope fun x => { x with offset := x.offset + (match s1.feedback p.scope with | some f => v - f | none => 0) }, .done stOk [])

def execMotSetPosition (p : Packet) (s : State) : Host.Outcome State Fault Refusal := serve motSetPositionSpec p s

/-- MOT_FAULT_CLEAR (R296). -/
def motFaultClearSpec : CmdSpec where
  opcode := 0x9003
  lenOk p := p.params.isEmpty
  stateFail _ s := permitIn fromStandby s
  checks p s := [(axisScope p, stRange), (s.causePresent p.scope, 0x9002)]
  run _ p s :=
    let x := s.axis p.scope
    if x.mode = .fault then
      let s1 := s.setAxis p.scope fun x => { x with mode := .idle, cause := 0 }
      (if x.pinLow then s1.axisFault 1 p.scope else s1, .done stOk [])
    else (s, .done stOk [])

def execMotFaultClear (p : Packet) (s : State) : Host.Outcome State Fault Refusal := serve motFaultClearSpec p s

/-- MOT_STREAM_START (R307). -/
def motStreamStartSpec : CmdSpec where
  opcode := 0x9004
  lenOk p := p.params.isEmpty
  stateFail _ s := if !s.motAssisted then some stState else permitIdle [.standby, .ready, .service, .recovery] s
  checks p s := [noScope p, (s.mot.stream.running, 0x9003)]
  run acc _ s := (s.streamStart ((s.dt + 16000000 + 15999) / 16000) (some acc) false, .accepted)

def execMotStreamStart (p : Packet) (s : State) : Host.Outcome State Fault Refusal := serve motStreamStartSpec p s

end Sys2Proof.Machine
end

