-- ==== Sys2Proof/Machine/Readers.lean ====
section
/-! DEFINITION. What the read-only parameters read as (the parameter tables of chapters 01 to 21). -/

namespace Sys2Proof.Machine

/-! Chapters 01, 02, 03, 04 and 21. -/

def BootStatus.bytes (b : BootStatus) : List Byte :=
  leBytes 1 b.result ++ leBytes 1 b.slot ++ leBytes 1 b.copy ++ leBytes 1 (bit b.fallback + 2 * bit b.setARetired + 4 * bit b.setBRetired) ++
    leBytes 1 b.dramFail ++ zeros 3 ++ leBytes 8 b.standbyDt
def State.supplyStatus (s : State) : Nat := s.power.warn % 256 + 256 * (s.power.warnSeen % 256) + 65536 * bit (decide (s.dt < s.power.pwrfailUntil))

def State.readDev (s : State) (id : Nat) : List Byte :=
  match id with
  | 0x0010 => leBytes 4 s.cyc.state.code
  | 0x0011 => leBytes 4 s.cyc.cause
  | 0x0012 => s.cyc.profile.bytes
  | 0x0013 => leBytes 4 s.cycleStatus
  | 0x0015 => leBytes 4 s.cyc.layersLeft
  | 0x0016 => leBytes 4 s.host.rsvdWrites
  | 0x0019 => leBytes 4 s.host.authFails
  | 0x001A => leBytes 4 s.host.doorbellErrs
  | 0x0020 => leBytes 4 s.power.resetCause
  | 0x0021 => s.power.boot.bytes
  | 0x0022 => leBytes 4 s.supplyStatus
  | 0x0023 => (List.range 4).flatMap fun (i : Nat) => leBytes 2 (ofSigned 16 (s.power.temp.getD i 0))
  | 0x0024 => padTo 256 s.power.record
  | _ => []

def State.readSig (s : State) (id : Nat) : List Byte :=
  match id with
  | 0x1003 => leBytes 4 s.bankStatus
  | 0x1004 => leBytes 4 s.sig.quire.length
  | 0x1005 => leBytes 4 s.sig.zeroLength
  | 0x1006 => leBytes 4 s.sig.reloads
  | 0x1008 => leBytes 4 s.sig.format1
  | _ => zeros 4

def Drift.bytes (d : Drift) : List Byte := leBytes 4 (ofSigned 32 d.ox) ++ leBytes 4 (ofSigned 32 d.oy) ++ leBytes 4 (ofSigned 32 d.g) ++ leBytes 4 (ofSigned 32 d.rot)
def State.readTrj (s : State) (id h : Nat) : List Byte :=
  let x := s.trj h
  match id with
  | 0x2009 => leBytes 4 x.shortRunups
  | 0x2010 => leBytes 4 (((x.fc.map (·.pitch)).getD 0) + 256 * bit x.fcLoad.isSome)
  | 0x2011 => leBytes 4 ((x.fc.map (·.generation)).getD 0)
  | 0x2012 => leBytes 4 x.extraps
  | 0x2013 => leBytes 4 x.clamps
  | 0x2014 => leBytes 4 x.sats
  | 0x2015 => leBytes 12 x.scale
  | 0x2019 => x.drift.bytes
  | 0x2022 => leBytes 4 x.strHead
  | 0x2023 => leBytes 8 x.strNext
  | 0x2024 => leBytes 4 x.underruns
  | _ => []

def State.readLas (s : State) (id h : Nat) : List Byte :=
  let x := s.lasHead h
  match id with
  | 0x3003 => leBytes 4 s.intlkStatus
  | 0x3006 => leBytes 4 x.source
  | 0x3007 => leBytes 4 s.las.stopped
  | 0x3008 => leBytes 4 x.drops
  | 0x3009 => leBytes 4 x.clamps
  | 0x300A => leBytes 4 x.warns
  | 0x300B => leBytes 4 s.las.trips
  | _ => []

/-! Chapters 05 to 09. -/

def State.gutStatus (s : State) : Nat :=
  bit (s.assisted fnShare) + 2 * bit (s.assisted fnGuard) + 4 * bit s.lay.replaying + 8 * bit (s.gut.diverged || s.lay.diverged) + 16 * bit s.gut.lossWait
def State.headShare (s : State) (h : Nat) : Nat :=
  if s.lay.heads.isEmpty then field (s.gutHead h).lag 14 1 else
  let st := s.lay.shareState s.layEnv h
  st.code + (if st = .guardHold then 256 * (s.lay.head h).holdCause else 0)
def State.readGut (s : State) (id h : Nat) : List Byte :=
  let x := s.gutHead h
  match id with
  | 0x4010 => leBytes 4 s.gutStatus
  | 0x4011 => leBytes 4 (s.headShare h)
  | 0x4012 => x.lag
  | 0x4013 => leBytes 4 x.holds
  | 0x4014 => leBytes 4 x.wouldHolds
  | 0x4015 => leBytes 4 s.gut.breaches
  | 0x4016 => leBytes 4 s.gut.orphans
  | 0x4017 => leBytes 4 s.gut.unexposed
  | 0x4025 => x.stitch
  | _ => []

def State.mpsStatus (s : State) : Nat :=
  bit (s.assisted fnMps) + 2 * bit s.mps.gap.isSome + 4 * bit s.mps.rawDropping + 8 * bit (s.mps.heads.any fun (x : MpsHead) => x.ratioLoad.isSome)
def State.readMps (s : State) (id h : Nat) : List Byte :=
  let x := s.mpsHead h
  match id with
  | 0x5018 => leBytes 4 s.mpsStatus
  | 0x5019 => leBytes 4 s.mps.drops
  | 0x501A => leBytes 4 s.mps.rawDrops
  | 0x501B => leBytes 4 x.missingCount
  | 0x501C => leBytes 4 x.truncCount
  | 0x501D => leBytes 4 x.pdSat
  | 0x501E => leBytes 4 ((x.ratio.map (·.generation)).getD 0)
  | _ => []

def CapState.code : CapState → Nat
  | .armed => 1 | .running => 2 | .done => 3
def State.captureStatus (s : State) : List Byte :=
  let used := s.loop.captures.foldl (fun (a : Nat) (c : Capture) => a + c.space) 0
  leBytes 4 (4194304 - used) ++ zeros 4 ++
    leBytes 64 (s.loop.captures.foldl (fun (a : Nat) (c : Capture) => a + c.state.code * 2 ^ (2 * c.loop)) 0)
def State.mapStatus (s : State) : List Byte :=
  let layer (i : Nat) : Nat := (s.loop.maps[i]?.map (·.layer)).getD 0
  leBytes 4 (layer 0) ++ leBytes 4 (layer 1) ++ leBytes 1 (2 ^ min 2 s.loop.maps.length - 1) ++ zeros 7
def LoopState.bytes (x : LoopState) : List Byte :=
  let w (v : Int) : List Byte := leBytes 4 (ofSigned 32 v)
  w x.rs ++ w x.ePrev ++ w x.i ++ ((List.range 4).flatMap fun (j : Nat) => w (x.s1.getD j 0) ++ w (x.s2.getD j 0)) ++ w x.out ++ w x.y ++
    leBytes 8 x.dt ++ leBytes 1 (ofSigned 8 x.lim) ++ zeros 3
def State.readLoop (s : State) (id h : Nat) : List Byte :=
  match id with
  | 0x6001 => if s.ruleLag h = 0 then zeros 4 else leBytes 1 (s.ruleLag h) ++ leBytes 1 (s.loopLag h) ++ zeros 2
  | 0x6002 => leBytes 4 ((s.loop.rules.getD h {}).rules.zipIdx.foldl (fun (a : Nat) (r : RuleState × Nat) => a + bit r.1.fired * 2 ^ r.2) 0)
  | 0x6003 => (s.loop.rules.getD h {}).fires.flatMap (leBytes 4)
  | 0x6021 => leBytes 1 s.loop.islands ++ zeros 1 ++ leBytes 2 s.loop.maxLoad ++ leBytes 4 s.loop.placements
  | 0x6022 => leBytes 32 (s.loop.loops.zipIdx.foldl (fun (a : Nat) (x : LoopState × Nat) => a + bit (x.1.flags != 0) * 2 ^ x.2) 0)
  | 0x6023 => s.captureStatus
  | 0x6024 => s.mapStatus
  | _ =>
    let x := s.loopState (id % 256)
    if id / 256 = 0x6D then x.bytes else leBytes 4 x.execs ++ leBytes 4 x.missed ++ leBytes 4 x.frozen ++ leBytes 4 x.presets

def SnapState.code : SnapState → Nat
  | .empty => 0 | .loading => 1 | .valid => 2 | .active => 3
def State.ledgerStatus (s : State) : Nat :=
  bit s.ldgAssisted + 2 * bit (s.ledger.slots.any fun (x : SnapSlot) => x.state == .active) + 4 * bit (s.isPaired && !s.ldgAssisted) +
    8 * bit (!s.ledger.readouts.isEmpty)
def State.readLdg (s : State) (id h : Nat) : List Byte :=
  let slot (i : Nat) : SnapSlot := s.ledger.slots.getD i {}
  match id with
  | 0x7006 => leBytes 4 s.ledgerStatus
  | 0x7007 => ((List.range 256).flatMap fun (b : Nat) => leBytes 4 (eLo s.ledger.tau b)) ++ (List.range 65).flatMap fun (a : Nat) => leBytes 4 (eHi s.ledger.tau a)
  | 0x7008 => leBytes 4 (slot 0).layer ++ leBytes 4 (slot 1).layer ++ leBytes 1 ((slot 0).state.code + 4 * (slot 1).state.code) ++ zeros 7
  | 0x7010 => leBytes 4 (s.ledger.outside.getD h 0)
  | 0x7011 => leBytes 4 (s.ledger.sat.getD h 0)
  | 0x7012 => leBytes 4 s.ledger.ecc
  | 0x7013 => leBytes 4 s.ledger.peerLate
  | 0x7014 => leBytes 4 (satNat u32 (s.ledger.ticks / 16384))
  | _ => []

def State.readImg (s : State) (id p : Nat) : List Byte :=
  let x := s.port p
  match id with
  | 0x8012 => leBytes 4 (s.portStatus p)
  | 0x8013 => leBytes 16 (s.portGeneration p)
  | 0x8014 => leBytes 4 x.checks
  | 0x8015 => leBytes 4 x.truncs
  | 0x8016 => leBytes 4 x.missings
  | 0x8017 => leBytes 4 x.noSlots
  | 0x8018 => leBytes 4 x.events
  | 0x8019 => leBytes 4 (s.stream 2).drops
  | 0x801A => leBytes 8 s.img.spillPeak
  | _ => []

/-! Chapters 10 to 13. -/

def State.readMot (s : State) (id a : Nat) : List Byte :=
  match id with
  | 0x9010 => leBytes 4 s.mot.head
  | 0x9018 => leBytes 8 (s.motPosition a)
  | 0x9019 => leBytes 4 (s.motStatus a)
  | 0x901A => leBytes 8 (s.mot.syncIn.getD 0 0) ++ leBytes 8 (s.mot.syncIn.getD 1 0)
  | 0x901B => leBytes 4 (s.axis a).quickStops
  | 0x901C => leBytes 4 (s.axis a).rampKepts
  | _ => []

def State.readFbk (s : State) (id c : Nat) : List Byte :=
  match id with
  | 0xA002 => leBytes 16 (s.calWord c)
  | 0xA008 => leBytes 24 (s.fbkCountWord c)
  | 0xA009 => leBytes 4 (s.fbkStatus c)
  | 0xA00A => leBytes 4 (s.channel c).track.errors
  | 0xA00B => leBytes 4 (ofSigned 32 (s.channel c).latchC) ++ zeros 4 ++ leBytes 8 (s.channel c).latchDt
  | 0xA011 => leBytes 16 (s.axisCounts c)
  | 0xA012 => leBytes 16 (s.axisStatusWord c)
  | 0xA013 => leBytes 16 (s.axisErrors c)
  | _ => []

def State.readEmd (s : State) (id b : Nat) : List Byte :=
  match id with
  | 0xB003 => leBytes 16 (s.busStatus b)
  | 0xB004 => leBytes 256 (s.driverWords b)
  | 0xB005 => leBytes 4 (s.bus b).lates
  | 0xB006 => leBytes 4 (s.bus b).skips
  | 0xB007 => leBytes 4 (s.bus b).retries
  | _ => []

def PairMode.code : PairMode → Nat
  | .solo => 0 | .linking => 1 | .paired => 2 | .split => 3 | .granted => 4
/-- `PAIR.STATUS` (Table 18.11); PEER_WAIT: this device's fence is done and the peer's is not (R493). -/
def State.pairStatus (s : State) : Nat :=
  let x := s.pair
  x.mode.code + 16 * bit (x.fenceSent && !x.fenceGot) + 32 * bit x.drift + 64 * bit x.layerMismatch + 128 * bit x.poolMismatch + 256 * x.cause
def State.readLink (s : State) (id h : Nat) : List Byte :=
  match id with
  | 0xC001 => leBytes 4 (s.hlkStatus h)
  | 0xC002 => padTo 128 ((s.hlk h).cap.take 128)
  | 0xC003 => s.hlkDelay h
  | 0xC004 => s.hlkErrors h
  | 0xC108 => leBytes 4 s.pairStatus
  | 0xC109 => leBytes 8 (ofSigned 64 s.pair.delta) ++ leBytes 2 s.pair.spread ++ leBytes 2 (satNat 65535 s.pair.lambda) ++ zeros 4
  | 0xC10A => leBytes 4 s.pair.missing ++ leBytes 4 s.pair.discarded ++ leBytes 4 s.pair.resent ++ leBytes 4 s.pair.downs
  | _ => []

/-! Chapters 16 to 18. -/

def IntSource.code (x : IntSource) : Nat := match x.state with | .idle => 0 | .pending => 1 | .active _ => 2 + bit x.level
def IntSource.route (x : IntSource) : Nat := x.target + 256 * bit x.enable + 4096 * x.priority
/-- CORE_STATE[c] (Table 16.16). SLEEP of an online core that owns no source is not fixed by any command: a free value (log entry 56). -/
def State.coreState (s : State) (c : Nat) : Nat :=
  let x := s.core c
  let own := !(s.owned c).isEmpty
  let sleep := if x.online && !own then Config.freeValue (s.fresh + c) % 2 else 0
  bit x.online + 4 * sleep + 4096 * x.fallback + 524288 * bit own + 1048576 * s.runPriority c
def State.dmaStatusBytes (s : State) (c : Nat) : List Byte :=
  let x := s.chan c
  leBytes 4 (s.dmaStatus c) ++ zeros 4 ++ leBytes 8 (if x.mode = .disabled then 0 else x.addr) ++ leBytes 8 x.countWritten ++ zeros 8
def State.dmaStats (s : State) (c : Nat) : List Byte :=
  let x := s.chan c
  leBytes 8 x.completed ++ leBytes 8 x.written ++ leBytes 4 x.doorbells ++ leBytes 4 x.parkedBells ++ leBytes 4 x.splits ++ leBytes 4 x.shorts
def State.readStore (s : State) (id : Nat) : List Byte :=
  if id = 0xD000 then s.dramCfg
  else if id = 0xD001 then s.storeStatus
  else if id = 0xD00A then s.mapoutStatus
  else if id / 16 = 0xD01 then leBytes 4 (s.dchan (id % 16)).status
  else if id / 16 = 0xD02 then (s.dchan (id % 16)).eccBytes
  else if id / 16 = 0xD03 then (s.dchan (id % 16)).rtStats
  else if id / 32 = 0xD10 / 2 then leBytes 32 (s.dparam id)
  else if id / 32 = 0xD12 / 2 then s.dmaStatusBytes (id % 32)
  else if id / 32 = 0xD14 / 2 then s.dmaStats (id % 32)
  else match id with
  | 0xD180 => leBytes 8 s.dma.staging ++ leBytes 8 2097152
  | 0xD181 => leBytes 4 s.dma.readFails
  | 0xD200 => leBytes 4 s.int.spuriousEoi
  | 0xD201 => leBytes 4 s.int.redirects
  | 0xD202 => leBytes 64 ((List.range 256).foldl (fun (a n : Nat) => a + (s.source n).code * 2 ^ (2 * n)) 0)
  | 0xD203 => (List.range 12).flatMap fun (c : Nat) => leBytes 4 (s.coreState c)
  | 0xD204 => (List.range 256).flatMap fun (n : Nat) => leBytes 4 (s.source n).route
  | 0xD205 => leBytes 4 s.int.wakeMax
  | _ => []

def State.refclkStatus (s : State) : Nat :=
  s.net.selected + 4 * bit (s.net.good.getD 0 false) + 8 * bit (s.net.good.getD 1 false) + 16 * bit s.net.bothLost + 65536 * min 65535 s.net.switches
def State.readNet (s : State) (id p : Nat) : List Byte :=
  match id with
  | 0xE001 => leBytes 6 s.net.mac ++ zeros 2
  | 0xE006 => leBytes 4 (bit (s.ethUp p) + 2 * bit (s.ethPort p).lock + 4 * bit (s.ethPort p).fec)
  | 0xE007 => (s.ethPort p).counts.flatMap (leBytes 8)
  | 0xE011 => s.net.rel.bytes
  | 0xE012 => leBytes 8 (ofSigned 64 s.net.lastOffset) ++ leBytes 8 s.net.master ++ leBytes 1 s.net.portInUse ++ zeros 3 ++ leBytes 4 s.net.steps ++ zeros 8
  | 0xE019 => leBytes 4 s.refclkStatus
  | 0xE100 => leBytes 4 s.recStatus
  | 0xE101 => s.logInfo
  | 0xE10A => leBytes 4 (s.stream 4).drops
  | 0xE10B => leBytes 4 (s.stream 3).drops
  | 0xE10C => s.journalStatus
  | 0xE10D => s.buildInfo
  | _ => []
def State.readSvc (s : State) (id c : Nat) : List Byte :=
  match id with
  | 0xF000 => s.fwStatus
  | 0xF008 => s.modesBytes
  | 0xF010 => s.islandStatusBytes
  | 0xF011 => s.islandFaultBytes
  | 0xF01A => s.trimCoef c
  | 0xF01B => s.trimStatus c
  | 0xF200 => s.testStatus
  | _ => []

/-- The bytes of a parameter that the store of written values does not hold. -/
def State.readOnly (s : State) (id scope : Nat) : List Byte :=
  match id / 4096 with
  | 0 => s.readDev id
  | 1 => s.readSig id
  | 2 => s.readTrj id scope
  | 3 => s.readLas id scope
  | 4 => s.readGut id scope
  | 5 => s.readMps id scope
  | 6 => s.readLoop id scope
  | 7 => s.readLdg id scope
  | 8 => s.readImg id scope
  | 9 => s.readMot id scope
  | 10 => s.readFbk id scope
  | 11 => s.readEmd id scope
  | 12 => s.readLink id scope
  | 13 => s.readStore id
  | 14 => s.readNet id scope
  | _ => s.readSvc id scope

end Sys2Proof.Machine
end

