-- ==== Sys2Proof/Machine/ParamChecks.lean ====
section
/-! DEFINITION. What a parameter write must satisfy beyond its row of the catalogue (R407): the ranges that span fields or other
parameters, the block statuses, ALIGN and BUSY. -/

namespace Sys2Proof.Machine

/-- The stream whose DRAM ring, host ring or read offset an ID is. -/
def ringStream (id : Nat) : Option Nat := (List.range 5).find? fun i => streamRingId i == id
def hostRingStream (id : Nat) : Option Nat := (List.range 5).find? fun i => streamHostId i == id
def streamReadId : Nat → Nat
  | 0 => 0x5015 | 1 => 0x5016 | 2 => 0x8010 | 3 => 0xE107 | _ => 0xE104
def readStream (id : Nat) : Option Nat := (List.range 5).find? fun i => streamReadId i == id

/-! RANGE. -/

/-- A ring of a stream (R196): a size in its range and a multiple of 2,048; or 0 with every other field zero. -/
def ringSizeBad (v size low : Nat) : Bool :=
  if size = 0 then v != 0 else size % 2048 != 0 || decide (size < low ∨ 17179869184 < size)
def State.dramRingBad (s : State) (v : Nat) : Bool :=
  ringSizeBad v (byteField v 8 8) 1048576 || (byteField v 8 8 != 0 && !s.dramOk (byteField v 0 8) (byteField v 8 8))
def hostRingBad (v : Nat) : Bool := ringSizeBad v (byteField v 8 8) 65536
/-- A ring of streamed blocks (R114). -/
def State.blockRingBad (s : State) (v : Nat) : Bool :=
  let size := byteField v 8 4
  if size = 0 then v != 0
  else size % 64 != 0 || decide (size < 65536 ∨ 1073741824 < size) || !s.dramOk (byteField v 0 8) size
/-- An offset that is a multiple of 64 below a ring's size. -/
def offsetBad (v size : Nat) : Bool := v % 64 != 0 || decide (size ≤ v)

/-- `LOOP.INPUT` slots: a metric, a head, a channel that does not exist (Tables 07.3 and 06.2, R2). -/
def State.inputBad (s : State) (v : Nat) : Bool :=
  (List.range 5).any fun n =>
    let index := byteField v (12 * n + 1) 1
    match byteField v (12 * n) 1 with
    | 1 => decide (12 < byteField v (12 * n + 2) 1 ∨ s.heads ≤ index)
    | 4 | 5 => decide (8 < index)
    | 6 => decide (s.heads ≤ index)
    | _ => false
/-- `LOOP.CFG` of loop `l` (Table 07.15). -/
def loopCfgBad (l v : Nat) : Bool :=
  let dest := byteField v 4 1
  let dl := byteField v 5 1
  decide (2 ^ byteField v 1 1 ≤ byteField v 2 1) ||
    (if l < 128 then dest != 0 || dl != 0 else if dest = 0 then dl != 0 else dl == l)

/-- `IMG.PORT_CFG` (Table 09.14): the sizes of an enabled port, and the pixel formats a mosaic takes. -/
def portCfgBad (v : Nat) : Bool :=
  (camEnable v && (decide (camWidth v < 64 ∨ 16384 < camWidth v ∨ camHeight v < 64) || camWidth v % 4 != 0 || camHeight v % 4 != 0)) ||
    (camMosaic v != 0 && decide (3 ≤ camPixel v))
/-- `MOT.RECOAT_SEQ` (Table 10.3). -/
def State.recoatSeqBad (s : State) (v : Nat) : Bool :=
  (List.range (recoatCount v)).any fun i =>
    let e := recoatStep v i
    decide (byteField e 8 4 = 0 ∨ s.param 0x9002 (stepAxis e) < byteField e 8 4) || (i == 0 && stepStart e == 1) ||
      (stepKind e == 2 && byteField e 6 2 != 0) || (stepKind e != 3 && byteField e 12 4 != 0)
/-- `MOT.SYNC_OUT` (Table 10.5). -/
def syncOutBad (v : Nat) : Bool :=
  (List.range 2).any fun o =>
    let e := byteField v (16 * o) 16
    let source := byteField e 0 1
    decide (5 < byteField e 2 1) || (source == 1 && byteField e 2 1 == 0) || (source != 0 && source != 5 && byteField e 8 2 == 0)
/-- `FBK.CHANNEL_CFG` (Table 11.5). -/
def channelCfgBad (v : Nat) : Bool :=
  let res := byteField v 2 1
  let filter := byteField v 3 1
  let index := byteField v 4 1
  let mode := byteField v 0 1
  (if mode = 1 then decide (res < 2 ∨ 12 < res) else res != 0) || (if mode = 2 then decide (8 < filter ∨ 2 < index) else filter != 0 || index != 0)
/-- `FBK.SSI_CFG` (Table 11.6). -/
def ssiCfgBad (v : Nat) : Bool :=
  decide (byteField v 10 2 < ceilDiv ((byteField v 0 1 + byteField v 1 1 + 1) * byteField v 4 2) 1000 + byteField v 8 2)
/-- `PAIR.ZONE` (R52, R53). -/
def zoneBad (v : Nat) : Bool :=
  let bs := leBytes 104 v
  let n := field bs 0 1
  let vs := (List.range n).map fun i => ptAt bs (8 + 6 * i)
  (n != 0 && (decide (n < 3) || !validPoly vs)) || !allZero (bs.drop (8 + 6 * min n 16))
/-- `DMA.CHANNEL_CFG` with ENABLE set (Table 16.19). -/
def dmaCfgBad (v : Nat) : Bool := v.testBit 0 && decide (63 < byteField v 1 1 ∨ byteField v 2 1 < 4 ∨ 16 < byteField v 2 1)

/-- The device-wide and per-axis rows of the ranges. -/
def State.rangeBad (s : State) (id scope v : Nat) : Bool :=
  if (ringStream id).isSome then s.dramRingBad v
  else if (hostRingStream id).isSome then hostRingBad v
  else match readStream id with
  | some i => offsetBad v (s.hostSize i)
  | none =>
    if isLoopCfg id then loopCfgBad (id - 0x6400) v
    else if 0x6500 ≤ id ∧ id ≤ 0x65FF then s.inputBad v
    else if 0x6A00 ≤ id ∧ id ≤ 0x6AFF then decide (toSigned 32 (byteField v 4 4) < toSigned 32 (byteField v 0 4))
    else if 0x6010 ≤ id ∧ id ≤ 0x6017 then byteField v 2 1 != 1 && byteField v 12 2 != 0
    else if 0xD100 ≤ id ∧ id ≤ 0xD11F then dmaCfgBad v
    else match id with
    | 0x2020 | 0x900E => s.blockRingBad v
    | 0x2021 => offsetBad v (byteField (s.written 0x2020 scope) 8 4)
    | 0x900F => offsetBad v (byteField (s.dparam 0x900E) 8 4)
    | 0x4005 => v == 0
    | 0x5000 => byteField v 4 1 % 8 != 0 || byteField v 5 1 % 8 != 0
    | 0x5006 => decide (byteField v 2 2 < byteField v 0 2)
    | 0x8000 => portCfgBad v
    | 0x800B => byteField v 8 8 % 65536 != 0 || decide (17179869184 < byteField v 8 8) ||
        (byteField v 8 8 != 0 && !s.dramOk (byteField v 0 8) (byteField v 8 8))
    | 0x800C => byteField v 8 4 * byteField v 12 2 != 0 && !s.dramOk (byteField v 0 8) (byteField v 8 4 * byteField v 12 2)
    | 0x800D => decide (byteField (s.param 0x800C scope) 12 2 ≤ v)
    | 0x9001 => decide (1000000000 < s.param 0x9002 scope * (byteField v 0 2 + byteField v 2 2))
    | 0x9002 => decide (1000000000 / (byteField (s.param 0x9001 scope) 0 2 + byteField (s.param 0x9001 scope) 2 2) < v)
    | 0x9006 => decide (toSigned 32 (byteField v 4 4) < toSigned 32 (byteField v 0 4))
    | 0x900C => s.recoatSeqBad v
    | 0x900D => syncOutBad v
    | 0x9000 => decide (8 < byteField v 1 1 ∧ byteField v 1 1 ≠ 255)
    | 0xA000 => channelCfgBad v
    | 0xA001 => ssiCfgBad v
    | 0xA003 => decide (byteField v 2 2 < byteField v 0 2)
    | 0xA005 => byteField v 0 1 != 0 && (byteField v 2 2 == 0 || decide (byteField v 4 2 < byteField v 2 2))
    | 0xB000 => decide (1600000 < byteField v 3 1 * 256 * byteField v 2 1 * byteField v 1 1)
    | 0xC000 => !([0x10, 0x11, 0x12, 0x20] : List Nat).contains (byteField v 2 1)
    | 0xC103 => zoneBad v
    | 0xE010 => byteField v 0 1 == 1 && byteField v 2 1 != 0
    | _ => false

/-! Block statuses. -/

/-- Axes a recoat sequence names. -/
def seqAxes (v : Nat) : List Nat := (List.range (recoatCount v)).map fun i => stepAxis (recoatStep v i)
/-- AXIS_BUSY (R308). -/
def State.axisBusy (s : State) (id scope v : Nat) : Bool :=
  let named := match id with
    | 0x9000 | 0x900B => [scope]
    | 0x900C => seqAxes v ++ seqAxes (s.dparam 0x900C)
    | _ => List.range 8
  s.recoating || named.any fun a => !s.atRest a

/-- The first block status of a write. -/
def State.blockFail (s : State) (id scope v : Nat) : Option Nat :=
  match id with
  | 0x9000 | 0x900B | 0x900C | 0x900E | 0x9011 => if s.axisBusy id scope v then some 0x9003 else none
  | 0xA000 | 0xA001 => firstFail [(id == 0xA000 && scope == 8 && s.dparam 0xA006 == 0, 0xA000), ((s.boundAxes scope).any fun a => !s.atRest a, 0xA001)]
  | 0xB001 =>
    let old := s.param 0xB001 scope
    if (List.range 2).any (fun k => byteField old (32 * k) 32 != byteField v (32 * k) 32 && s.emdActive scope k) then some 0xB000 else none
  | 0xC000 => if s.portGanged scope then some 0xC000 else none
  | 0xE105 | 0xE106 => if s.recorder.build.isSome then some 0xE081 else none
  | _ => none

/-! ALIGN and BUSY. -/

def State.alignBad (id v : Nat) : Bool :=
  if (ringStream id).isSome then byteField v 0 8 % 64 != 0
  else if (hostRingStream id).isSome then byteField v 0 8 % 64 != 0 || byteField v 16 8 % 64 != 0
  else if 0xD100 ≤ id ∧ id ≤ 0xD11F then v.testBit 0 && (byteField v 8 8 % 64 != 0 || byteField v 16 8 % 64 != 0)
  else match id with
  | 0x2020 | 0x900E => byteField v 0 8 % 64 != 0
  | 0x800B => byteField v 0 8 % 65536 != 0
  | 0x800C => byteField v 0 8 % 64 != 0 || byteField v 8 4 % 64 != 0
  | _ => false

def State.paramBusy (s : State) (id : Nat) : Bool :=
  if id = 0x1000 then s.sig.banks.any fun (b : Bank) => b.state != .empty
  else if 0xD100 ≤ id ∧ id ≤ 0xD11F then (s.chan (id - 0xD100)).mode == .running
  else false

end Sys2Proof.Machine
end

