-- ==== Sys2Proof/Machine/ParamHooks.lean ====
section
/-! DEFINITION. What the write of a parameter does when its value takes effect (the parameter tables and their rules). -/

namespace Sys2Proof.Machine

/-! Streams (R195, R196). -/

/-- A DRAM ring parameter written: its offsets restart at zero. -/
def State.ringWritten (i : Nat) (s : State) : State :=
  s.setStream i fun (x : Stream) => { x with written := 0, copied := 0, left := 0 }
/-- A host ring parameter written: its offsets restart at zero. -/
def State.hostRingWritten (i : Nat) (s : State) : State := s.setStream i fun (x : Stream) => { x with hostWrite := 0, hostRead := 0 }
/-- A read offset written: room is freed in the host ring. -/
def State.hostReadTo (i v : Nat) (s : State) : State := s.setStream i fun (x : Stream) => { x with hostRead := v }

/-- `TRJ.STREAM_TAIL` (R116): values at least 40 µs old matter only in the newest of them. -/
def State.tailWritten (h v : Nat) (s : State) : State :=
  let old := (s.trj h).tails
  let young := old.filter fun (e : Nat × Nat) => decide (s.dt < e.2 + 640000)
  let aged := old.filter fun (e : Nat × Nat) => !decide (s.dt < e.2 + 640000)
  s.setTrj h fun (x : TrjHead) => { x with tails := (v, s.dt) :: young ++ aged.take 1 }

/-! Emission (R129, R589). -/

/-- Heads of a mask whose emission a cleared bit stops: those of the profile that are no partner. -/
def State.stopMask (mask : Nat) (s : State) : State :=
  (List.range 32).foldl (fun (s : State) (h : Nat) => if mask.testBit h && s.inProfile h && !s.partner h then s.headStop h 32 else s) s

/-! Sticky bits (RW1C). -/

/-- `m` without the bits of `v`. -/
def clearBits (m v : Nat) : Nat := m - (m &&& v)
def State.flagsCleared (l v : Nat) (s : State) : State := s.setLoop l fun (x : LoopState) => { x with flags := clearBits x.flags v }
def State.motCleared (a v : Nat) (s : State) : State :=
  s.setAxis a fun (x : Axis) => { x with rampKept := x.rampKept && !v.testBit 7, overshoot := x.overshoot && !v.testBit 8 }
def State.fbkCleared (c v : Nat) (s : State) : State :=
  s.setChannel c fun (x : FbkChannel) => { x with track := { x.track with sticky := clearBits x.track.sticky v } }
def State.axisTracksCleared (h v : Nat) (s : State) : State :=
  (List.range 3).foldl (fun (s : State) (a : Nat) =>
    s.setAxisTrack h a fun (x : AxisTrack) => { x with track := { x.track with sticky := clearBits x.track.sticky (byteField v (4 * a) 4) } }) s

/-! Imaging. -/

/-- `IMG.PORT_CFG` (R281). -/
def State.portConfigured (p v : Nat) (s : State) : State := (s.setPort p fun (x : ImgPort) => { x with cfg := v }).portRestart p
/-- `IMG.OUT_RING`: the ring starts again at slot 0 (log entry 58). -/
def State.outRingWritten (p : Nat) (s : State) : State := s.setPort p fun (x : ImgPort) => { x with nextSlot := 0, full := [] }
/-- `IMG.OUT_RELEASE` (R271). -/
def State.slotReleased (p v : Nat) (s : State) : State := s.setPort p fun (x : ImgPort) => { x with full := x.full.filter fun k => k != v }

/-- `MOT.SYNC_OUT`: an output whose SOURCE is NONE is low (Table 10.5). -/
def State.syncWritten (s : State) : State :=
  let v := s.dparam 0x900D
  let ends := s.mot.syncOut.zipIdx.map fun (e : Nat × Nat) => if byteField v (16 * e.2) 1 = 0 then 0 else e.1
  { s with mot := { s.mot with syncOut := ends } }

/-! Links. -/

/-- `HLK.PORT_CFG` (Table 13.15): the port retrains; a loopback on it ends. -/
def State.linkConfigured (h : Nat) (s : State) : State := ((s.loopbackOff h).portFollow h).retrain h
/-- `NET.PORT_CFG` (R500): that port alone retrains. -/
def State.ethConfigured (p : Nat) (s : State) : State := s.setEthPort p fun (x : EthPort) => { x with lock := false, fec := false }
/-- `NET.REFCLK_CFG` (R484): the device runs from a good PRIMARY. -/
def State.refConfigured (old : Nat) (s : State) : State :=
  let i := byteField (s.dparam 0xE018) 0 1
  if i ≠ byteField old 0 1 ∧ s.net.good.getD i false ∧ s.net.selected ≠ i then s.refSwitch i else s
/-- `NET.CMD_UDP_PORT` (Table 18.9): sessions end. -/
def State.endSessions (s : State) : State := (List.range 16).foldl (fun (s : State) (i : Nat) => if (s.host.sessions.getD i none).isSome then s.endSession i else s) s

/-- `PAIR.ROLE` (R488): pairing starts from SOLO, and SOLO silences the lanes. -/
def State.roleWritten (s : State) : State :=
  if s.role = 0 then
    let s1 := s.setPair fun (x : PairState) => { x with
      mode := .solo, link := false, capOk := false, offsetOk := false, cause := 0, echoes := [], running := [], unacked := [], resumeWait := false }
    if s1.net.rel.state = .peer then s1.setNet fun (x : NetState) => { x with rel := { x.rel with state := .holdover } } else s1
  else if s.pair.mode = .solo then s.pairLink
  else s

/-! Loops (R209, R221). -/

/-- `LOOP.CFG` in force at once: a change that needs another placement gets one in READY, where the loops fit (log entry 57). -/
def State.cfgTaken (l old : Nat) (s : State) : State :=
  let s1 := (s.loopCfgChanged l old).loopParamEntry l (0x6400 + l)
  if s1.cyc.state = .ready ∧ replaces old (s1.loopCfg l) then (match s1.tryPlace with | some ps => s1.usePlacement ps | none => s1) else s1

/-- The value `v` of a parameter takes effect for one scope. -/
def State.takeValue (id scope v : Nat) (s : State) : State :=
  let old := s.param id scope
  let s1 := s.setParam id scope v
  match ringStream id, hostRingStream id, readStream id with
  | some i, _, _ => s1.ringWritten i
  | _, some i, _ => s1.hostRingWritten i
  | _, _, some i => s.hostReadTo i v
  | none, none, none =>
    if isLoopCfg id then s1.cfgTaken (id - 0x6400) old
    else if 0x6C00 ≤ id ∧ id ≤ 0x6CFF then s.flagsCleared (id - 0x6C00) v
    else if 0x6500 ≤ id ∧ id ≤ 0x6FFF then s1.loopParamEntry (id % 256) id
    else if 0xD100 ≤ id ∧ id ≤ 0xD10F then s1.dmaConfigured (id - 0xD100)
    else match id with
    | 0x2021 => s.tailWritten scope v
    | 0x7000 => s1.clearLedger 3
    | 0x8000 => s1.portConfigured scope v
    | 0x8004 => s1.settingsWritten scope true
    | 0x8005 | 0x8006 | 0x8007 => s1.settingsWritten scope false
    | 0x800C => s1.outRingWritten scope
    | 0x800D => s.slotReleased scope v
    | 0x9000 => s1.axisCfgWritten scope
    | 0x9004 => s1.decelWritten scope
    | 0x9006 => s1.limitsWritten scope
    | 0x900D => s1.syncWritten
    | 0x9019 => s.motCleared scope v
    | 0xA000 | 0xA001 => s1.restartChannel scope
    | 0xA005 => s1.dividerSet scope
    | 0xA006 => s.setSpare v
    | 0xA009 => s.fbkCleared scope v
    | 0xA012 => s.axisTracksCleared scope v
    | 0xB000 => if old = v then s1 else s1.busCfgWritten scope
    | 0xB001 => s1.levelsWritten scope old
    | 0xC000 => s1.linkConfigured scope
    | 0xC100 => s1.roleWritten
    | 0xE000 => s1.ethConfigured scope
    | 0xE004 => s1.endSessions
    | 0xE018 => s1.refConfigured old
    | _ => s1.fenceEffect id scope old

end Sys2Proof.Machine
end

