-- ==== Sys2Proof/Machine/Params.lean ====
section
/-! DEFINITION. `PARAM_GET` and `PARAM_SET` (R404 to R410), and the rows of the parameter writes that have one of their own. -/

namespace Sys2Proof

/-- ID and SIZE of a parameter command. -/
def Packet.paramId (p : Packet) : Nat := p.fld 0 2
def Packet.paramSize (p : Packet) : Nat := p.fld 4 4

end Sys2Proof

namespace Sys2Proof.Machine

def up8 (n : Nat) : Nat := (n + 7) / 8 * 8

/-- A scope that the parameter's kind does not allow (R404, Table 15.1). -/
def State.scopeBad (s : State) (r : ParamRow) (id scope : Nat) : Bool :=
  match r.scope with
  | .device | .loop => scope != 0xFFFF
  | .head => scope != 0xFFFF && decide (s.heads ≤ scope)
  | .port => decide ((if id / 4096 = 14 then 3 else 7) < scope)
  | .axis => decide (7 < scope)
  | .channel => decide (8 < scope)
  | .bus => decide (3 < scope)
/-- The scopes a command with scope 0xFFFF or one of its own reaches. -/
def State.scopesOf (s : State) (r : ParamRow) (scope : Nat) : List Nat :=
  if r.scope == .head && scope == 0xFFFF then List.range s.heads else [scope]

/-! PARAM_GET. -/

/-- A parameter's value as its bytes (R406): the value last written, a pending one included. -/
def State.readParam (s : State) (r : ParamRow) (id scope : Nat) : List Byte :=
  if r.access == .ro || (r.access == .rw1c && !(decide (0x6C00 ≤ id ∧ id ≤ 0x6CFF))) then (padTo r.size (s.readOnly id scope)).take r.size
  else
    let v := match readStream id with
      | some i => (s.stream i).hostRead
      | none =>
        if 0x6C00 ≤ id ∧ id ≤ 0x6CFF then (s.loopState (id - 0x6C00)).flags
        else if id = 0x2021 then ((s.trj scope).tails.head?.map (·.1)).getD 0
        else if id = 0x800D then 0
        else s.written id scope
    leBytes r.size v
/-- What a read changes: the peaks that it restarts, and the free values that it takes (log entry 56). -/
def State.readDone (id : Nat) (s : State) : State :=
  match id with
  | 0xD203 => { s with fresh := s.fresh + 12 }
  | 0xD205 => { s with int := { s.int with wakeMax := 0 } }
  | 0x801A => { s with img := { s.img with spillPeak := 0 } }
  | _ => s

def State.getLen (s : State) (p : Packet) : Nat :=
  match rowOf p.paramId with
  | some r => 8 + up8 ((s.scopesOf r p.scope).length * r.size)
  | none => 0
def State.getResult (s : State) (p : Packet) : List Byte :=
  match rowOf p.paramId with
  | some r =>
    let scopes := s.scopesOf r p.scope
    padTo (s.getLen p) (leBytes 2 p.paramId ++ leBytes 2 scopes.length ++ leBytes 4 r.size ++ scopes.flatMap (s.readParam r p.paramId))
  | none => []

def paramGetSpec : CmdSpec where
  opcode := 0x0011
  lenOk p := p.params.length == 8
  stateFail p s := if p.paramId / 4096 = 0 ∧ s.cyc.state = .boot then none else permitIn fromStandby s
  checks p s := [(!p.zeroAt 2 6, stRange), ((rowOf p.paramId).isNone, stUnknownParam),
    (((rowOf p.paramId).map fun r => s.scopeBad r p.paramId p.scope).getD false, stRange)]
  resultLen p s := s.getLen p
  run _ p s := (s.readDone p.paramId, .done stOk (s.getResult p))

/-- PARAM_GET (R406). -/
def execParamGet (p : Packet) (s : State) : Host.Outcome State Fault Refusal := serve paramGetSpec p s

/-! PARAM_SET: when a value acts. -/

def State.inLayer (s : State) : Bool := s.cyc.state == .armed || s.cyc.state == .hold
/-- A write of this ID and scope is pending. -/
def State.isPending (s : State) (id scope : Nat) : Bool := s.parPending.any fun p => p.id == id && p.scope == scope

/-- `LAS.POWER_MAX` (R129): a lower value acts at once. -/
def State.setPowerMax (h v : Nat) (s : State) : State × Bool :=
  if !s.inLayer then (s.takeValue 0x3000 h v, false)
  else (s.setParam 0x3000 h (min (s.param 0x3000 h) v), decide (s.param 0x3000 h < v) || s.isPending 0x3000 h)
/-- `LAS.EMIT_MASK` (Table 04.8): a cleared bit acts at once. -/
def State.setEmitMask (v : Nat) (s : State) : State × Bool :=
  if !s.inLayer then (s.takeValue 0x3001 devScope v, false)
  else
    let old := s.dparam 0x3001
    let cut := clearBits old v
    ((s.setParam 0x3001 devScope (old &&& v)).stopMask cut |>.noteEmit, v != (old &&& v) || s.isPending 0x3001 devScope)
/-- `LOOP.CFG` (R221): a change between MANUAL and AUTO acts at once. -/
def State.setLoopCfg (id v : Nat) (s : State) : State × Bool :=
  let old := s.dparam id
  if !s.inLayer then (s.takeValue id devScope v, false)
  else
    let modes := cfgMode old != .off && cfgMode v != .off && cfgMode old != cfgMode v
    let s1 := if modes then s.takeValue id devScope (old / 4 * 4 + v % 4) else s
    (s1, !(old == v || manualAuto old v) || s.isPending id devScope)

/-- One scope of a write: the part that acts at once, and whether the value waits for the kettle fence (R408). -/
def State.writeOne (id : Nat) (timing : Timing) (v scope : Nat) (s : State) : State × Bool :=
  match timing with
  | .now => (s.takeValue id scope v, false)
  | .fence => if s.inLayer then (s, true) else (s.takeValue id scope v, false)
  | .own =>
    if id = 0x3000 then s.setPowerMax scope v
    else if id = 0x3001 then s.setEmitMask v
    else if isLoopCfg id then s.setLoopCfg id v
    else if 0x6500 ≤ id ∧ id ≤ 0x65FF ∧ s.inLayer then (s, true)
    else (s.takeValue id scope v, false)

/-- The values that wait, as ID, scope and value: those of the same ID and scope are replaced, and a write none of whose values
waits any more is superseded (R408). -/
def State.deferWrite (acc : Nat) (vals : List (Nat × Nat × Nat)) (s : State) : State :=
  let hit (p : PendingPar) : Bool := vals.any fun (v : Nat × Nat × Nat) => v.1 == p.id && v.2.1 == p.scope
  let kept := s.parPending.filter fun p => !hit p
  let lost (d : Deferred) : Bool := (s.parPending.any fun p => hit p && p.acc == d.acc) && !(kept.any fun p => p.acc == d.acc)
  { s with
    parPending := kept ++ vals.map fun (v : Nat × Nat × Nat) => { id := v.1, scope := v.2.1, value := v.2.2, acc := acc }
    deferred := (s.deferred.map fun (d : Deferred) => { d with superseded := d.superseded || lost d }) ++ [{ acc := acc }] }

/-- A write of one parameter over its scopes: whether any part waits. -/
def State.writeParam (acc id : Nat) (timing : Timing) (v : Nat) (scopes : List Nat) (s : State) : State × Bool :=
  let step (a : State × List Nat) (sc : Nat) : State × List Nat :=
    let r := a.1.writeOne id timing v sc
    (r.1, if r.2 then a.2 ++ [sc] else a.2)
  let r := scopes.foldl step (s, [])
  if r.2.isEmpty then (r.1, false) else (r.1.deferWrite acc (r.2.map fun (sc : Nat) => (id, sc, v)), true)

/-- The conditions of a write from RANGE on, in the order of R23 (R407). -/
def State.writeChecks (s : State) (r : ParamRow) (id scope v : Nat) : List (Bool × Nat) :=
  let scopes := s.scopesOf r scope
  let block := (scopes.findSome? fun sc => s.blockFail id sc v)
  [(s.scopeBad r id scope || !r.fits v || (scopes.any fun sc => s.rangeBad id sc v), stRange), (block.isSome, block.getD 0),
    (State.alignBad id v, stAlign), (s.paramBusy id, stBusy)]

/-- `PARAM_SET` is critical (R410). -/
def criticalId (id : Nat) : Bool := id / 4096 == 3 || id / 4096 == 15 || decide (0xC100 ≤ id ∧ id ≤ 0xC1FF)

/-- The states a write is permitted in, READ_ONLY at the place of STATE (R402, R407). -/
def State.writeState (s : State) (id : Nat) : Option Nat :=
  match permitIn fromStandby s, rowOf id with
  | some st, _ => some st
  | none, none => none
  | none, some r =>
    if r.access == .ro then some stReadOnly
    else if !r.permit.contains s.cyc.state || (r.armedIdle && s.cyc.state == .armed && s.cyc.phase != .idle) then some stState
    else none

def paramSetSpec : CmdSpec where
  opcode := 0x0012
  lenOk p := decide (8 ≤ p.params.length) &&
    (match rowOf p.paramId with | some r => p.paramSize == r.size && p.params.length == 8 + up8 r.size | none => true)
  critical p _ := criticalId p.paramId
  stateFail p s := s.writeState p.paramId
  checks p s := (!p.zeroAt 2 2, stRange) ::
    (match rowOf p.paramId with
     | none => [(true, stUnknownParam)]
     | some r => (!p.zeroAt (8 + r.size) (up8 r.size - r.size), stRange) :: s.writeChecks r p.paramId p.scope (p.fld 8 r.size))
  resultLen _ _ := 16
  run acc p s :=
    match rowOf p.paramId with
    | none => (s, .done stUnknownParam [])
    | some r =>
      let v := p.fld 8 r.size
      if p.paramId = 0xA006 ∧ s.svc.trim.isSome then ({ s with svc := { s.svc with spareWrite := s.svc.spareWrite ++ [(acc, v)] } }, .later)
      else
        let w := s.writeParam acc p.paramId r.timing v (s.scopesOf r p.scope)
        if w.2 then (w.1, .accepted) else (w.1, .done stOk (w.1.setResult false false))

/-- PARAM_SET (R407, R408). -/
def execParamSet (p : Packet) (s : State) : Host.Outcome State Fault Refusal := serve paramSetSpec p s

/-! The writes that have a row of their own: each is a `PARAM_SET`, and what sets it apart stands in `State.takeValue` and in the
checks. -/

/-- SIG_LONG_WRITE: `SIG.LONG` (R72). -/
def execSigLongWrite (p : Packet) (s : State) : Host.Outcome State Fault Refusal := serve paramSetSpec p s
/-- LAS_POWER_MAX_WRITE (R129). -/
def execLasPowerMaxWrite (p : Packet) (s : State) : Host.Outcome State Fault Refusal := serve paramSetSpec p s
/-- LAS_EMIT_MASK_WRITE (R589). -/
def execLasEmitMaskWrite (p : Packet) (s : State) : Host.Outcome State Fault Refusal := serve paramSetSpec p s
/-- LDG_ORIGIN_WRITE (R244). -/
def execLdgOriginWrite (p : Packet) (s : State) : Host.Outcome State Fault Refusal := serve paramSetSpec p s
/-- RING_PARAM_WRITE (R196). -/
def execRingParamWrite (p : Packet) (s : State) : Host.Outcome State Fault Refusal := serve paramSetSpec p s
/-- LOOP_FLAGS_CLEAR (R220). -/
def execLoopFlagsClear (p : Packet) (s : State) : Host.Outcome State Fault Refusal := serve paramSetSpec p s
/-- MOT_DECEL_WRITE (R289). -/
def execMotDecelWrite (p : Packet) (s : State) : Host.Outcome State Fault Refusal := serve paramSetSpec p s
/-- MOT_JERK_WRITE: `MOT.JERK` or `MOT.ACCEL` (R289, R290). -/
def execMotJerkWrite (p : Packet) (s : State) : Host.Outcome State Fault Refusal := serve paramSetSpec p s
/-- MOT_LIMITS_WRITE (R298). -/
def execMotLimitsWrite (p : Packet) (s : State) : Host.Outcome State Fault Refusal := serve paramSetSpec p s
/-- FBK_CHANNEL_CFG_WRITE: `FBK.CHANNEL_CFG` or `FBK.SSI_CFG` (R324). -/
def execFbkChannelCfgWrite (p : Packet) (s : State) : Host.Outcome State Fault Refusal := serve paramSetSpec p s
/-- FBK_DIVIDER_WRITE (R320). -/
def execFbkDividerWrite (p : Packet) (s : State) : Host.Outcome State Fault Refusal := serve paramSetSpec p s
/-- FBK_SPARE_MODE_WRITE (R540). -/
def execFbkSpareModeWrite (p : Packet) (s : State) : Host.Outcome State Fault Refusal := serve paramSetSpec p s
/-- IMG_PORT_CFG_WRITE (R281). -/
def execImgPortCfgWrite (p : Packet) (s : State) : Host.Outcome State Fault Refusal := serve paramSetSpec p s
/-- IMG_SETTINGS_WRITE: `IMG.CAM_REGS`, `IMG.BLACK`, `IMG.WB_GAIN` or `IMG.COLOUR` (R272). -/
def execImgSettingsWrite (p : Packet) (s : State) : Host.Outcome State Fault Refusal := serve paramSetSpec p s
/-- IMG_OUT_RELEASE (R271). -/
def execImgOutRelease (p : Packet) (s : State) : Host.Outcome State Fault Refusal := serve paramSetSpec p s
/-- EMD_BUS_CFG_WRITE (R335). -/
def execEmdBusCfgWrite (p : Packet) (s : State) : Host.Outcome State Fault Refusal := serve paramSetSpec p s
/-- EMD_LEVELS_WRITE (R336). -/
def execEmdLevelsWrite (p : Packet) (s : State) : Host.Outcome State Fault Refusal := serve paramSetSpec p s
/-- HLK_PORT_CFG_WRITE (R369). -/
def execHlkPortCfgWrite (p : Packet) (s : State) : Host.Outcome State Fault Refusal := serve paramSetSpec p s
/-- NET_PORT_CFG_WRITE (R500). -/
def execNetPortCfgWrite (p : Packet) (s : State) : Host.Outcome State Fault Refusal := serve paramSetSpec p s
/-- PAIR_ROLE_WRITE (R488). -/
def execPairRoleWrite (p : Packet) (s : State) : Host.Outcome State Fault Refusal := serve paramSetSpec p s
/-- DMA_CHANNEL_CFG_WRITE (R441). -/
def execDmaChannelCfgWrite (p : Packet) (s : State) : Host.Outcome State Fault Refusal := serve paramSetSpec p s

/-- STREAM_READ_WRITE (R195): a host read offset through BAR0 or by a `PARAM_SET`; a BAR0 value that the parameter would not take
is ignored (log entry 59). -/
def execStreamReadWrite (w : StreamReadWrite) (s : State) : Host.Outcome State Fault Refusal :=
  match w with
  | .bar0 t i v => s.event t fun s => if s.bar0 && decide (i < 5) && !offsetBad v (s.hostSize i) then s.hostReadTo i v else s
  | .param p => serve paramSetSpec p s

end Sys2Proof.Machine
end

