-- ==== Sys2Proof/Machine/SigRows.lean ====
section
/-! DEFINITION. The events and commands of signatures and the quire (02). -/

namespace Sys2Proof.Machine

/-- QUIRE_LOAD_START (R73). -/
def execQuireLoadStart (t : Nat) (s : State) : Host.Outcome State Fault Refusal := s.event t State.quireLoadStart

/-- SIGNATURE_LOAD_END (R62). -/
def execSignatureLoadEnd (t : Nat) (s : State) : Host.Outcome State Fault Refusal := s.event t State.loadEnd

/-- LONG_SEGMENT_FREE (R71). -/
def execLongSegmentFree (t : Nat) (s : State) : Host.Outcome State Fault Refusal := s.event t State.segmentFree

/-- The checks of an address and a length (R74), ALIGN apart. -/
def loadRange (p : Packet) (s : State) : Bool :=
  p.scope != 0xFFFF || !p.zeroAt 12 4 || decide (p.fld 8 4 < 4352 ∨ 67440896 < p.fld 8 4) || !s.dramOk (p.fld 0 8) (p.fld 8 4)
def loadAlign (p : Packet) : Bool := decide (p.fld 0 8 % 64 ≠ 0 ∨ p.fld 8 4 % 64 ≠ 0)

/-- QUIRE_APPEND (R74). -/
def quireAppendSpec : CmdSpec where
  opcode := 0x1000
  lenOk p := p.params.length == 16
  stateFail _ s := permitIn [.standby, .ready, .armed, .hold] s
  checks p s := [(loadRange p s, stRange), (decide (256 ≤ s.sig.quire.length), stQuireFull), (loadAlign p, stAlign)]
  resultLen _ _ := 32
  run acc p s :=
    ({ s with sig := { s.sig with
        quire := s.sig.quire ++ [{ id := s.sig.nextQuire, acc := acc, addr := p.fld 0 8, len := p.fld 8 4 }], nextQuire := s.sig.nextQuire + 1 } }, .accepted)

def execQuireAppend (p : Packet) (s : State) : Host.Outcome State Fault Refusal := serve quireAppendSpec p s

/-- SIG_LOAD (R75). -/
def sigLoadSpec : CmdSpec where
  opcode := 0x1001
  lenOk p := p.params.length == 16
  stateFail _ s := permitIn [.ready, .armed, .hold] s
  checks p s := [
    (loadRange p s, stRange), (loadAlign p, stAlign),
    (!s.sig.quire.isEmpty || s.sig.loading.isSome || ((List.range 2).find? fun k => (s.bank k).state == .empty).isNone, stBusy)]
  resultLen _ _ := 32
  run acc p s :=
    match (List.range 2).find? fun k => (s.bank k).state == .empty with
    | some k => (s.startLoad k (p.fld 0 8) (p.fld 8 4) none acc, .accepted)
    | none => (s, .done stBusy [])

def execSigLoad (p : Packet) (s : State) : Host.Outcome State Fault Refusal := serve sigLoadSpec p s

/-- Every entry of the quire is retired (R76). -/
def State.flushQuire (s : State) : State :=
  let es := s.sig.quire
  let s1 := match s.sig.loading with | some l => if l.quire.isSome then s.abandonLoad stAborted 7 else s | none => s
  let s2 := (List.range 2).foldl (fun (s : State) (k : Nat) =>
    if (s.bank k).state == .valid && (s.bank k).quire.isSome then s.emptyBank k else s) s1
  let s3 := es.foldl (fun s e =>
    match s.sig.quire.find? fun x => x.id == e.id with
    | some x => if x.completed then s else s.complete e.acc stAborted (loadResult 0 0 7 0 0 s.dt s.dt)
    | none => s) s2
  { s3 with sig := { s3.sig with quire := [] } }

/-- QUIRE_FLUSH (R76). -/
def quireFlushSpec : CmdSpec where
  opcode := 0x1002
  lenOk p := p.params.isEmpty
  stateFail _ s := permitIn [.standby, .ready, .armed, .hold] s
  checks p _ := [noScope p]
  resultLen _ _ := 8
  run _ _ s := (s.flushQuire, .done stOk (leBytes 4 s.sig.quire.length ++ zeros 4))

def execQuireFlush (p : Packet) (s : State) : Host.Outcome State Fault Refusal := serve quireFlushSpec p s

/-- SIG_DISCARD (R77). -/
def sigDiscardSpec : CmdSpec where
  opcode := 0x1003
  lenOk p := p.params.length == 8
  stateFail _ s := permitIn [.ready, .armed, .hold] s
  checks p s := [(p.scope != 0xFFFF || decide (1 < p.fld 0 1) || !p.zeroAt 1 7, stRange), ((s.bank (p.fld 0 1)).state == .active, stBusy)]
  run _ p s :=
    let k := p.fld 0 1
    let q := (s.bank k).quire
    ((match (s.bank k).state with
      | .loading => (s.abandonLoad stAborted 7).retire q
      | .empty => s
      | _ => (s.emptyBank k).retire q), .done stOk [])

def execSigDiscard (p : Packet) (s : State) : Host.Outcome State Fault Refusal := serve sigDiscardSpec p s

end Sys2Proof.Machine
end

