-- ==== Sys2Proof/Machine/Forerunner.lean ====
section
/-! DEFINITION. The version-2 opcodes of the forerunner's command protocol (R389, R416 to R418, Table 15.7). -/

namespace Sys2Proof

/-- The packet with other parameters. -/
def Packet.withParams (ps : List Byte) (p : Packet) : Packet := { p with params := ps }

end Sys2Proof

namespace Sys2Proof.Machine

/-- A version-2 opcode as a native command: its own length, the conversion of its parameters, and what the conversion rejects. -/
def v2 (opcode minor len : Nat) (f : Packet → Packet) (bad : Packet → Bool) (c : CmdSpec) : CmdSpec where
  opcode := opcode
  major := 2
  fromMinor := minor
  lenOk p := p.params.length == len
  critical p s := c.critical (f p) s
  stateFail p s := c.stateFail (f p) s
  checks p s := (bad p, stRange) :: c.checks (f p) s
  resultLen p s := c.resultLen (f p) s
  failResult p s st := c.failResult (f p) s st
  onReject p st s := c.onReject (f p) st s
  run acc p s := c.run acc (f p) s

/-- A version-2 opcode without parameters and with nothing to convert. -/
def v2Same (opcode minor : Nat) (c : CmdSpec) : CmdSpec := v2 opcode minor 0 id (fun _ => false) c

/-- OP_STATUS. -/
def opStatusSpec : CmdSpec where
  opcode := 0x0F00
  major := 2
  lenOk p := p.params.isEmpty
  stateFail _ s := permitIn fromStandby s
  checks p _ := [noScope p]
  resultLen _ _ := 16
  run _ _ s := (s, .done stOk (leBytes 1 s.cyc.state.code ++ leBytes 1 s.cyc.phase.code ++ leBytes 1 s.waitCode ++ zeros 1 ++
    leBytes 4 s.cyc.layersLeft ++ leBytes 8 s.dt))
def execOpStatus (p : Packet) (s : State) : Host.Outcome State Fault Refusal := serve opStatusSpec p s

/-! The layer cycle. -/

def opArmSpec : CmdSpec := v2Same 0x0F01 0 armSpec
/-- OP_ARM. -/
def execOpArm (p : Packet) (s : State) : Host.Outcome State Fault Refusal := serve opArmSpec p s
def opDisarmSpec : CmdSpec := v2Same 0x0F02 0 disarmSpec
/-- OP_DISARM. -/
def execOpDisarm (p : Packet) (s : State) : Host.Outcome State Fault Refusal := serve opDisarmSpec p s
def opPauseSpec : CmdSpec := v2Same 0x0F03 0 holdSpec
/-- OP_PAUSE: `HOLD`. -/
def execOpPause (p : Packet) (s : State) : Host.Outcome State Fault Refusal := serve opPauseSpec p s
def opContinueSpec : CmdSpec := v2Same 0x0F04 0 resumeSpec
/-- OP_CONTINUE: `RESUME`. -/
def execOpContinue (p : Packet) (s : State) : Host.Outcome State Fault Refusal := serve opContinueSpec p s
def opAbortSpec : CmdSpec := v2Same 0x0F05 0 safeRequestSpec
/-- OP_ABORT: `SAFE_REQUEST`. -/
def execOpAbort (p : Packet) (s : State) : Host.Outcome State Fault Refusal := serve opAbortSpec p s
def opRunSpec : CmdSpec := v2 0x0F06 0 8 id (fun _ => false) cycleRunSpec
/-- OP_RUN: `CYCLE_RUN`. -/
def execOpRun (p : Packet) (s : State) : Host.Outcome State Fault Refusal := serve opRunSpec p s
def opFenceSpec : CmdSpec := v2Same 0x0F07 3 streamFenceSpec
/-- OP_FENCE: `STREAM_FENCE`. -/
def execOpFence (p : Packet) (s : State) : Host.Outcome State Fault Refusal := serve opFenceSpec p s

/-! The quire. -/

/-- The image length rounded up to a multiple of 64 (R79). -/
def loadLayerOf (p : Packet) : Packet := p.withParams (slice p.params 0 8 ++ leBytes 4 (up64 (p.fld 8 4)) ++ slice p.params 12 4)
/-- A length that the rounding carries out of its field. -/
def loadLayerBad (p : Packet) : Bool := !p.zeroAt 12 4 || decide (4294967295 < up64 (p.fld 8 4))
def opLoadLayerSpec : CmdSpec := v2 0x1F00 0 16 loadLayerOf loadLayerBad quireAppendSpec
/-- OP_LOAD_LAYER: `QUIRE_APPEND`. -/
def execOpLoadLayer (p : Packet) (s : State) : Host.Outcome State Fault Refusal := serve opLoadLayerSpec p s
def opFlushSpec : CmdSpec := v2Same 0x1F01 0 quireFlushSpec
/-- OP_FLUSH: `QUIRE_FLUSH`. -/
def execOpFlush (p : Packet) (s : State) : Host.Outcome State Fault Refusal := serve opFlushSpec p s

/-! Parameters (R417). -/

/-- The heads of a version-2 scope: 0xFFFF stands for those of HEAD 0 to HEAD 11 that the grade has. -/
def State.v2Heads (s : State) (scope : Nat) : List Nat := if scope = 0xFFFF then List.range (min 12 s.heads) else [scope]
def State.v2ScopeBad (s : State) (scope : Nat) : Bool := scope != 0xFFFF && decide (min 12 s.heads ≤ scope)

/-- Several values that take effect at one instant under the rule of the first. -/
def State.writeTogether (acc : Nat) (vals : List (Nat × Nat × Nat)) (s : State) : State × Answer :=
  if s.inLayer then (s.deferWrite acc vals, .accepted)
  else
    let s1 := vals.foldl (fun (s : State) (v : Nat × Nat × Nat) => s.takeValue v.1 v.2.1 v.2.2) s
    (s1, .done stOk (s1.setResult false false))
def v2Writes (heads : List Nat) (vals : List (Nat × Nat)) : List (Nat × Nat × Nat) :=
  heads.flatMap fun (h : Nat) => vals.map fun (v : Nat × Nat) => (v.1, h, v.2)

/-- OP_SET_JUMP: `TRJ.JUMP_SPEED` and `TRJ.ACCEL`. -/
def opSetJumpSpec : CmdSpec where
  opcode := 0x2F00
  major := 2
  lenOk p := p.params.length == 8
  stateFail _ s := s.writeState 0x2002
  checks p s := [(s.v2ScopeBad p.scope || !p.zeroAt 2 2 || decide (p.fld 0 2 = 0 ∨ 32767 < p.fld 0 2), stRange)]
  resultLen _ _ := 16
  run acc p s := s.writeTogether acc (v2Writes (s.v2Heads p.scope) [(0x2002, 2 * p.fld 0 2), (0x2000, p.fld 4 4)])
def execOpSetJump (p : Packet) (s : State) : Host.Outcome State Fault Refusal := serve opSetJumpSpec p s

/-- OP_SET_DELAYS: `TRJ.SCANNER_DELAY`, `TRJ.LASER_ON_DELAY` and `TRJ.LASER_OFF_DELAY`. -/
def opSetDelaysSpec : CmdSpec where
  opcode := 0x2F01
  major := 2
  fromMinor := 1
  lenOk p := p.params.length == 8
  stateFail _ s := s.writeState 0x2005
  checks p s := [(s.v2ScopeBad p.scope || !p.zeroAt 6 2 || decide (50000 < p.fld 0 2 ∨ 10000 < p.fld 2 2 ∨ 10000 < p.fld 4 2), stRange)]
  resultLen _ _ := 16
  run acc p s :=
    s.writeTogether acc (v2Writes (s.v2Heads p.scope) [(0x2005, 10 * p.fld 0 2), (0x2006, 10 * p.fld 2 2), (0x2007, 10 * p.fld 4 2)])
def execOpSetDelays (p : Packet) (s : State) : Host.Outcome State Fault Refusal := serve opSetDelaysSpec p s

/-- OP_SET_POWER_LIMIT: `LAS.POWER_MAX`, critical (R410). -/
def opSetPowerLimitSpec : CmdSpec where
  opcode := 0x3F00
  major := 2
  lenOk p := p.params.length == 8
  critical _ _ := true
  stateFail _ s := s.writeState 0x3000
  checks p s := [(s.v2ScopeBad p.scope || !p.zeroAt 2 6 || decide (20479 < p.fld 0 2), stRange)]
  resultLen _ _ := 16
  run acc p s :=
    let w := s.writeParam acc 0x3000 .own (roundNat (16 * p.fld 0 2) 5) (s.v2Heads p.scope)
    if w.2 then (w.1, .accepted) else (w.1, .done stOk (w.1.setResult false false))
def execOpSetPowerLimit (p : Packet) (s : State) : Host.Outcome State Fault Refusal := serve opSetPowerLimitSpec p s

/-! Heads, motion, links. -/

def opHeadResetSpec : CmdSpec := v2 0x3F01 2 0 id (fun p => decide (11 < p.scope)) lasHeadRestoreSpec
/-- OP_HEAD_RESET: `LAS_HEAD_RESTORE` of one head. -/
def execOpHeadReset (p : Packet) (s : State) : Host.Outcome State Fault Refusal := serve opHeadResetSpec p s

/-- The `MOT_MOVE` with START NOW. -/
def moveAxisOf (p : Packet) : Packet := p.withParams (slice p.params 0 1 ++ zeros 3 ++ p.params.drop 4)
def opMoveAxisSpec : CmdSpec := v2 0x9F00 0 16 moveAxisOf (fun p => decide (1 < p.fld 0 1) || !p.zeroAt 1 3) motMoveSpec
/-- OP_MOVE_AXIS. -/
def execOpMoveAxis (p : Packet) (s : State) : Host.Outcome State Fault Refusal := serve opMoveAxisSpec p s

/-- OP_RETRAIN: `HLK_RETRAIN`. -/
def opRetrainSpec : CmdSpec where
  opcode := 0xCF00
  major := 2
  fromMinor := 4
  lenOk p := p.params.isEmpty
  stateFail p s := hlkRetrainSpec.stateFail p s
  checks p s := (s.v2ScopeBad p.scope, stRange) :: hlkRetrainSpec.checks p s
  run _ p s := ((s.v2Heads p.scope).foldl (fun (s : State) (h : Nat) => s.portRetrain h) s, .done stOk [])
def execOpRetrain (p : Packet) (s : State) : Host.Outcome State Fault Refusal := serve opRetrainSpec p s

end Sys2Proof.Machine
end

