-- ==== Sys2Proof/Machine/RecRows.lean ====
section
/-! DEFINITION. The events and commands of the recorder, the build record and the journal (19). -/

namespace Sys2Proof.Machine

/-- EVENT_ARRIVAL: event `i` of those on their way reaches the recorder (R502). -/
def execEventArrival (t i : Nat) (s : State) : Host.Outcome State Fault Refusal := s.event t (State.eventArrival i)

/-- FREEZE_TIMEOUT (R511). -/
def execFreezeTimeout (t : Nat) (s : State) : Host.Outcome State Fault Refusal :=
  s.event t fun s =>
    match s.recorder.frozen with
    | some d => if d + 16000000000 * s.dparam 0xE109 ≤ s.dt then s.unfreeze else s
    | none => s

/-- What follows a journal entry that has been made or given up (R394, R396, R523, R534, R545). -/
def State.journalResult (use : JournalUse) (ok : Bool) (s : State) : State :=
  match use with
  | .keySlot acc _ | .bootSelect acc => s.complete acc (if ok then stOk else stJournalFail) []
  | .trimSet acc fe => (if ok then s else s.persistFail fe).complete acc (if ok then stOk else stJournalFail) []
  | .trim fe => if ok then s else s.persistFail fe
  | .lease _ | .capture | .imported | .header => s

/-- JOURNAL_WRITE_END: the entry in hand is written, or its attempt fails (R523); the entry of a lease is the row LEASE_COMMIT's. -/
def execJournalWriteEnd (t : Nat) (ok : Bool) (s : State) : Host.Outcome State Fault Refusal :=
  s.event t fun s =>
    match s.recorder.journal.queue with
    | [] => s
    | r :: _ =>
      match r.use with
      | .lease _ => s
      | _ =>
        match s.journalEnd ok with
        | (s1, some (use, good)) => s1.journalResult use good
        | (s1, none) => s1

/-- COMPACTION_END (R526). -/
def execCompactionEnd (t : Nat) (s : State) : Host.Outcome State Fault Refusal :=
  s.event t fun s => if s.recorder.journal.compacting then s.compact else s

/-- Bytes of a datagram's payload within MTU at the session's source (R385, R510). -/
def State.datagramRoom (o : Origin) (s : State) : Option Nat :=
  match o with
  | .qp _ => none
  | .session n => (s.host.sessions.getD n none).map fun (x : Session) => byteField (s.dparam 0xE005) 8 4 - (if x.src < 2 ^ 32 then 28 else 48)

def recAddr (p : Packet) : Nat := p.fld 0 8
def recMax (p : Packet) : Nat := p.fld 16 4
/-- Result bytes of a `REC_READ` (R510). -/
def recResultLen (p : Packet) (_ : State) : Nat := if recAddr p = 0 then 64 + 64 * recMax p else 32

/-- REC_READ (R509, R510). -/
def recReadSpec : CmdSpec where
  opcode := 0xE100
  lenOk p := p.params.length == 24
  stateFail p s := if recAddr p = 0 then none else permitIn fromStandby s
  checks p s := [
    (p.scope != 0xFFFF || !p.zeroAt 20 4 || decide (s.otp.grade.slots < recMax p) ||
      (if recAddr p = 0 then decide (255 < recMax p) || (match s.datagramRoom p.origin with | some n => decide (n < 80 + 64 * recMax p) | none => false)
       else !s.dramOk (recAddr p) (64 + 64 * recMax p)), stRange),
    (decide (recAddr p % 64 ≠ 0), stAlign)]
  resultLen := recResultLen
  run _ p s :=
    let r := s.readLog (p.fld 8 8) (recMax p)
    let bad := (r.1.filter fun (e : LogRec) => e.corrupt).length
    let s1 := { s with recorder := { s.recorder with corrupt := satNat 4294967295 (s.recorder.corrupt + bad) } }
    let recs := r.1.flatMap LogRec.bytes
    if recAddr p = 0 then (s1, .done stOk (padTo (recResultLen p s) (r.2 ++ recs)))
    else (s1.dramWrite (recAddr p) (r.2 ++ recs), .done stOk (slice r.2 0 32))

def execRecRead (p : Packet) (s : State) : Host.Outcome State Fault Refusal := serve recReadSpec p s

/-- REC_FREEZE (R511). -/
def recFreezeSpec : CmdSpec where
  opcode := 0xE101
  lenOk p := p.params.isEmpty
  stateFail _ s := permitIn [.boot, .service, .recovery] s
  checks p _ := [noScope p]
  run _ _ s := ({ s with recorder := { s.recorder with frozen := some s.dt } }, .done stOk [])

def execRecFreeze (p : Packet) (s : State) : Host.Outcome State Fault Refusal := serve recFreezeSpec p s

/-- REC_UNFREEZE (R511). -/
def recUnfreezeSpec : CmdSpec where
  opcode := 0xE102
  lenOk p := p.params.isEmpty
  stateFail _ s := permitIn [.boot, .service, .recovery] s
  checks p _ := [noScope p]
  run _ _ s := (s.unfreeze, .done stOk [])

def execRecUnfreeze (p : Packet) (s : State) : Host.Outcome State Fault Refusal := serve recUnfreezeSpec p s

/-- REC_CLEAR (R512). -/
def recClearSpec : CmdSpec where
  opcode := 0xE103
  lenOk p := p.params.isEmpty
  critical _ _ := true
  stateFail _ s := permitIn fromStandby s
  checks p _ := [noScope p]
  run _ p s := (s.clearLog ((p.trailer.map (·.slot)).getD 255), .done stOk [])

def execRecClear (p : Packet) (s : State) : Host.Outcome State Fault Refusal := serve recClearSpec p s

/-- A build opened: BUILD_BEGIN is its first entry (R519, R520). -/
def State.beginBuild (id : Nat) (s : State) : State :=
  let s1 := { s with recorder := { s.recorder with build := some { id := id, begun := s.dt } } }
  let s2 := s1.buildEntry 1 (leBytes 8 id ++ leBytes 4 s.idRegister ++ leBytes 4 s.fwVersion ++ leBytes 8 s.otp.serial ++ leBytes 4 s.net.rel.generation ++ zeros 4)
  { s2 with recorder := { s2.recorder with build := s2.recorder.build.map fun (b : Build) => { b with entries := 0 } } }

/-- REC_BUILD_BEGIN (R520). -/
def recBuildBeginSpec : CmdSpec where
  opcode := 0xE104
  lenOk p := p.params.length == 8
  stateFail _ s := permitIdle [.standby, .ready] s
  checks p s := [noScope p, (s.recorder.build.isSome, 0xE081), (!s.streamOn 3, 0xE082)]
  run _ p s := (s.beginBuild (p.fld 0 8), .done stOk [])

def execRecBuildBegin (p : Packet) (s : State) : Host.Outcome State Fault Refusal := serve recBuildBeginSpec p s

/-- REC_BUILD_END (R521): during a layer the colophon follows its summary. -/
def recBuildEndSpec : CmdSpec where
  opcode := 0xE105
  lenOk p := p.params.isEmpty
  critical _ _ := true
  stateFail _ s := permitIn [.standby, .ready, .armed, .hold, .safe, .recovery] s
  checks p s := [noScope p, (s.recorder.build.isNone || s.recorder.buildEnd.isSome, 0xE081)]
  resultLen _ _ := 96
  run acc p s :=
    let slot := (p.trailer.map (·.slot)).getD 255
    let counter := (p.trailer.map (·.counter)).getD 0
    if s.cyc.phase == .idle then
      let r := s.endBuild slot counter
      (r.1, .done stOk r.2)
    else ({ s with recorder := { s.recorder with buildEnd := some (acc, slot, counter) } }, .accepted)

def execRecBuildEnd (p : Packet) (s : State) : Host.Outcome State Fault Refusal := serve recBuildEndSpec p s

end Sys2Proof.Machine
end

