-- ==== Sys2Proof/Machine/Commands.lean ====
section
/-! DEFINITION. Every command by its opcode (R411, Tables 15.4 and 15.7), and the packet that bytes spell (R382). -/

namespace Sys2Proof.Machine

/-- DEV (Tables 15.4, 14.16, 01.19). -/
def specsDev : List CmdSpec := [
  devIdentifySpec, paramGetSpec, paramSetSpec, profileSelectSpec, profileCheckSpec, readyEnterSpec, standbyEnterSpec, armSpec,
  disarmSpec, holdSpec, resumeSpec, safeRequestSpec, recoverSpec, recoveryExitSpec, serviceEnterSpec, deviceResetSpec,
  cycleRunSpec, cyclePhaseSpec, cycleReleaseSpec, cycleStopSpec, queueCreateSpec, queueDeleteSpec, streamFenceSpec, nopSpec,
  keyLoadSpec, keyRetireSpec, counterReadSpec]

/-- SIG to LDG. -/
def specsLayer : List CmdSpec := [
  quireAppendSpec, sigLoadSpec, quireFlushSpec, sigDiscardSpec, trjFcLoadSpec, trjFcReadSpec, lasHeadRestoreSpec,
  gutReplayLoadSpec, gutStitchTableSpec, mpsRatioLoadSpec, mpsRatioReadSpec, loopInjectSpec, loopCaptureSpec,
  loopCaptureReadSpec, loopMapLoadSpec, ldgClearSpec, ldgReadSpec, ldgSnapshotLoadSpec]

/-- IMG to HLK, PAIR and MEM. -/
def specsMachine : List CmdSpec := [
  imgControlSpec, imgSnapSpec, imgToneLoadSpec, imgPortResetSpec, motMoveSpec, motStopSpec, motSetPositionSpec,
  motFaultClearSpec, motStreamStartSpec, fbkSetCountSpec, emdFrameLoadSpec, emdLatchSpec, emdDarkSpec, hlkRetrainSpec,
  hlkLoopbackSpec, pairGutterTableSpec, pairWitnessGrantSpec, memChannelMapoutSpec]

/-- REC and SVC. -/
def specsService : List CmdSpec := [
  recReadSpec, recFreezeSpec, recUnfreezeSpec, recClearSpec, recBuildBeginSpec, recBuildEndSpec, svcFwLoadSpec, svcFwSwitchSpec,
  svcFwCommitSpec, svcModeSetSpec, svcTrimRunSpec, svcTrimCaptureSpec, svcTrimSetSpec, svcLoopbackSpec, svcSelfTestSpec]

/-- The version-2 opcodes (Table 15.7). -/
def specsV2 : List CmdSpec := [
  opStatusSpec, opArmSpec, opDisarmSpec, opPauseSpec, opContinueSpec, opAbortSpec, opRunSpec, opFenceSpec, opLoadLayerSpec,
  opFlushSpec, opSetJumpSpec, opSetDelaysSpec, opSetPowerLimitSpec, opHeadResetSpec, opMoveAxisSpec, opRetrainSpec]

/-- `DMA_CHANNEL_CTRL` by its OP; a reserved OP fails STOP's check with RANGE. -/
def dmaSpecOf (p : Packet) : CmdSpec := match p.fld 1 1 with | 1 => dmaRetrySpec | 2 => dmaSkipSpec | _ => dmaStopSpec

/-- An opcode that no table assigns: UNKNOWN_OPCODE (R411). -/
def unknownSpec (opcode : Nat) : CmdSpec where
  opcode := opcode
  major := 99
  lenOk _ := true
  stateFail _ _ := none
  run _ _ s := (s, .done stUnknownOpcode [])

/-- The command of an opcode in the version of its packet. -/
def specFor (opcode : Nat) (p : Packet) : CmdSpec :=
  if p.version / 16 = 2 then (specsV2.find? fun c => c.opcode == opcode).getD (unknownSpec opcode)
  else if opcode = 0xD100 then dmaSpecOf p
  else ((specsDev ++ specsLayer ++ specsMachine ++ specsService).find? fun c => c.opcode == opcode).getD (unknownSpec opcode)

/-- The opcode and the packet that bytes spell (Tables 14.10, 14.11); bytes that are missing read zero. -/
def packetOf (t : Nat) (o : Origin) (resultSize resultAddr : Nat) (bs : List Byte) : Nat × Packet :=
  let len := 8 * field bs 4 2
  let b := padTo len bs
  let auth := (field b 3 1).testBit 0 && decide (48 ≤ len)
  let body := len - 16 - (if auth then 32 else 0)
  let tl : Trailer :=
    { slot := field b (len - 32) 1, zero := field b (len - 31) 7, counter := field b (len - 24) 8, mac := slice b (len - 16) 16 }
  (field b 0 2,
    { t := t, origin := o, resultSize := resultSize, resultAddr := resultAddr, version := field b 2 1, flags := field b 3 1
      length := field b 4 2, tag := field b 6 2, scope := field b 8 2, zero := field b 10 6, params := slice b 16 body
      trailer := if auth then some tl else none })

end Sys2Proof.Machine
end

