-- ==== Sys2Proof/Machine/Fetch.lean ====
section
/-! DEFINITION. Commands reach the device: fetched from a queue (R374 to R379), as a UDP datagram (R385 to R387), and those that
waited for a fence or a lease (R390, R391, R394). -/

namespace Sys2Proof.Machine

/-! SQ_FETCH. -/

/-- Entries that wait in the device for a queue's CQ. -/
def State.cqWaiting (s : State) (q : Nat) : Nat := (s.host.cqWait.filter fun (c : CqItem) => c.qp == q).length
/-- A slot of queue `q` may be fetched (R376, R379, R381); entries that wait take room too. -/
def State.canFetch (s : State) (q : Nat) : Bool :=
  let x := s.qp q
  x.enabled && x.sqHead != x.sqTail && x.deleting.isNone && !(s.host.waiting.any fun (w : WaitingCmd) => w.packet.origin == .qp q) &&
    decide (2 * (s.outstanding (.qp q) + 1) + x.cqUsed + s.cqWaiting q ≤ x.slots)
/-- The queue whose turn it is (R376). -/
def State.turn (s : State) : Option Nat :=
  if !s.accepts || s.host.pauseRequest || !s.mayWrite then none
  else ((List.range 64).map fun (i : Nat) => (s.host.lastQp + 1 + i) % 64).find? fun q => s.canFetch q

/-- Why a slot yields no packet (R375), in the order of R23. -/
def slotFail (slot packet : List Byte) : Option Nat :=
  let form := field slot 0 1
  let size := field slot 4 4
  let addr := field slot 8 8
  let len := 8 * field packet 4 2
  firstFail [
    (form == 0 && decide (48 < len), stLength),
    (decide (1 < form) || field slot 1 1 != 0 || size % 64 != 0 || (size == 0 && addr != 0) ||
      !allZero (if form = 0 then slot.drop (16 + max 16 len) else slot.drop 24) || field slot 2 2 != field packet 6 2, stRange),
    (addr % 64 != 0 || (form == 1 && field slot 16 8 % 64 != 0), stAlign)]

/-- A slot of queue `q` is fetched: `packet` is what stands at the packet address of an INDIRECT slot. -/
def State.fetchSlot (t q : Nat) (slot packet : List Byte) (s : State) : State :=
  let s1 := ({ s with host := { s.host with lastQp := q } }).setQp q fun (x : QueuePair) => { x with sqHead := (x.sqHead + 1) % x.slots }
  let bytes := if field slot 0 1 = 0 then slot.drop 16 else packet
  match slotFail slot bytes with
  | some st => s1.reply (.qp q) 0 false (statusPacket 0 (s1.versionOf (.qp q)) 0 (field slot 2 2) 0 st [])
  | none =>
    let c := packetOf t (.qp q) (field slot 4 4) (field slot 8 8) bytes
    accept (specFor c.1 c.2) c.2 s1

/-- SQ_FETCH: the next pending slot, round-robin; its 64 bytes and the packet it names are what host memory returns. -/
def execSqFetch (t : Nat) (slot packet : List Byte) (s : State) : Host.Outcome State Fault Refusal :=
  s.event t fun s => match s.turn with | some q => s.fetchSlot t q (padTo 64 (slot.take 64)) packet | none => s

/-! UDP_DATAGRAM. -/

/-- The session of a source, or a free place, or that of the session longest idle without a command (R386). -/
def State.sessionFor (s : State) (src port : Nat) : Option Nat :=
  let at_ (i : Nat) : Option Session := s.host.sessions.getD i none
  let all := List.range 16
  let mine := all.find? fun i => match at_ i with | some x => x.src == src && x.port == port | none => false
  let free := all.find? fun i => (at_ i).isNone
  let idle := all.filter fun i => s.outstanding (.session i) == 0
  let age (i : Nat) : Nat := ((at_ i).map (·.lastDt)).getD 0
  let oldest := idle.foldl (fun (b : Option Nat) (i : Nat) => match b with | some j => if age i < age j then some i else b | none => some i) none
  mine.orElse fun _ => free.orElse fun _ => oldest

/-- The session takes the datagram: a new source replaces the session whose place it takes. -/
def State.openSession (i src port : Nat) (s : State) : State :=
  let new : Session := { src := src, port := port, lastDt := s.dt }
  let f (x : Option Session) : Option Session := match x with
    | some y => if y.src == src && y.port == port then some { y with lastDt := s.dt } else some new
    | none => some new
  { s with host := { s.host with sessions := updAt s.host.sessions i f } }

def State.datagram (t port src srcPort dstPort : Nat) (fragment : Bool) (payload : List Byte) (s : State) : State :=
  if !s.ethUp port || decide (4 ≤ port) || fragment || dstPort != s.dparam 0xE004 || !s.accepts then s
  else if payload.length < 16 ∨ payload.length ≠ 8 * field payload 4 2 then s.ethCount port 5
  else match s.sessionFor src srcPort with
    | none => s.ethCount port 5
    | some i =>
      let s1 := s.openSession i src srcPort
      let c := packetOf t (.session i) 0 0 payload
      accept (specFor c.1 c.2) c.2 s1

/-- UDP_DATAGRAM. -/
def execUdpDatagram (t port src srcPort dstPort : Nat) (fragment : Bool) (payload : List Byte) (s : State) : Host.Outcome State Fault Refusal :=
  s.event t (State.datagram t port src srcPort dstPort fragment payload)

/-! Commands that waited. -/

def State.unwait (acc : Nat) (s : State) : State := { s with host := { s.host with waiting := s.host.waiting.filter fun (w : WaitingCmd) => w.acc != acc } }

/-- A waiting command starts. -/
def State.startWaiting (leased : Bool) (w : WaitingCmd) (s : State) : State := start (specFor w.opcode w.packet) leased w.acc w.packet (s.unwait w.acc)

/-- FENCE_RELEASE: nothing holds the command any more (R376, R390). -/
def State.fenceRelease (acc : Nat) (s : State) : State :=
  match s.host.waiting.find? fun (w : WaitingCmd) => w.acc == acc && w.lease.isNone with
  | some w => if s.blocked acc w.packet then s else State.settleDeletes 64 (s.startWaiting false w)
  | none => s
def execFenceRelease (t acc : Nat) (s : State) : Host.Outcome State Fault Refusal := s.event t (State.fenceRelease acc)

/-- FENCE_TIMEOUT: a command has waited under a fence for longer than `DEV.FENCE_TIMEOUT` (R391). -/
def State.fenceTimeout (acc : Nat) (s : State) : State :=
  match s.host.waiting.find? fun (w : WaitingCmd) => w.acc == acc && w.lease.isNone with
  | some w =>
    if s.fenced acc w.packet ∧ w.since + 16000000 * s.dparam 0x0017 < s.dt then
      State.settleDeletes 64 ((s.unwait acc).answer w.packet w.opcode true stFenceTimeout [])
    else s
  | none => s
def execFenceTimeout (t acc : Nat) (s : State) : Host.Outcome State Fault Refusal := s.event t (State.fenceTimeout acc)

/-- A command that waited for a lease of `l` when its entry has been made or given up (R394). -/
def State.afterLease (l : Nat) (made : Bool) (w : WaitingCmd) (s : State) : State :=
  if w.lease = some l then
    if made then s.startWaiting true w else reject (specFor w.opcode w.packet) w.packet stLease (s.unwait w.acc)
  else s.startWaiting false w

/-- LEASE_COMMIT: the lease's journal entry at the head of the journal's queue is written, or its attempt fails. -/
def State.leaseCommit (slot : Nat) (ok : Bool) (s : State) : State :=
  match s.recorder.journal.queue with
  | [] => s
  | r :: _ =>
    if r.use ≠ .lease slot then s
    else match s.journalEnd ok with
      | (s1, none) => s1
      | (s1, some (_, made)) =>
        let l := field r.payload 8 8
        let s2 := s1.setKey slot fun (k : KeySlot) => { k with lease := if made then l else k.lease, wanted := none }
        let ws := s2.host.waiting.filter fun (w : WaitingCmd) => w.lease.isSome && (w.packet.trailer.map (·.slot)) == some slot
        State.settleDeletes 64 (ws.foldl (fun (s : State) (w : WaitingCmd) => s.afterLease l made w) s2)
def execLeaseCommit (t slot : Nat) (ok : Bool) (s : State) : Host.Outcome State Fault Refusal := s.event t (State.leaseCommit slot ok)

end Sys2Proof.Machine
end

