-- ==== Sys2Proof/Machine/Power.lean ====
section
/-! DEFINITION. Power, resets and BOOT (21). -/

namespace Sys2Proof.Machine

/-! Resets (R554 to R557). -/

/-- 1 ns, 1 ms in units of DT. -/
def nsDt : Nat := 16
def msOf (n : Nat) : Nat := 16000000 * n

/-- The flash when a journal entry is being written as the reset begins: a free value decides how far it has come (Table 21.4;
log entry 60). -/
def State.tornJournal (s : State) : State :=
  match s.recorder.journal.queue with
  | [] => s
  | r :: _ =>
    let j := s.recorder.journal
    if j.compacting || j.bad || !s.up then s
    else
      let a := s.jBase j.bank + j.pos
      let f := s.take
      match Config.freeValue f.1 % 3 with
      | 0 => f.2
      | 1 => f.2.flashWrite a (journalBody r.type j.nextSeq r.payload)
      | _ => f.2.flashWrite a (journalEntry r.type j.nextSeq r.payload)

/-- The log as a reset leaves it (R504): a freeze ends (R511), events that had not arrived are gone. -/
def State.keptLog (s : State) : Recorder :=
  let r := s.unfreeze.recorder
  { log := r.log, nextSeq := r.nextSeq, lost := r.lost, clears := r.clears, corrupt := r.corrupt, full := r.full }

/-- The reference inputs are monitored on through a reset (R484); the other fields of the network island restart. -/
def State.keptRefs (s : State) : NetState :=
  let g := s.net.good
  { good := g, selected := if g.getD 0 false then 0 else if g.getD 1 false then 1 else 0 }

/-- RESET begins with this cause (R557): device time, parameters, registers, queues, key cache, streams, banks and commands
restart; OTP, the flash and the log stay. What is left of the supplies' and pins' times carries into the new epoch. -/
def State.resetBy (cause : Nat) (s0 : State) : State :=
  let s := s0.tornJournal
  { pending := s.pending
    fresh := s.fresh
    otp := s.otp
    flash := s.flash
    cyc := { state := .reset, profile := fillProfile s.heads {} }
    net := s.keptRefs
    recorder := s.keptLog
    power :=
      { railsIn := true
        railsOkAt := s.power.railsOkAt - s.dt
        pinUntil := s.power.pinUntil - s.dt
        pwrfailUntil := s.power.pwrfailUntil - s.dt
        resetCause := cause
        temp := s.power.temp } }

/-- A reset source (Table 21.3): a device that is off has none; in RESET the cause stays as recorded (Table 21.4). -/
def State.resetFrom (cause : Nat) (s : State) : State := if s.up then s.resetBy cause else s

/-- RAILS_IN_WINDOW: OFF is left for RESET with cause POWER_ON (R550). The log starts empty (R503). -/
def State.railsIn (s : State) : State :=
  if s.cyc.state = .off then
    { pending := s.pending
      fresh := s.fresh
      otp := s.otp
      flash := s.flash
      cyc := { state := .reset, profile := fillProfile s.heads {} }
      power := { railsIn := true, railsOkAt := msOf 2, pinUntil := 0 } }
  else s
def execRailsInWindow (t : Nat) (s : State) : Host.Outcome State Fault Refusal := s.eventReset t State.railsIn

/-- RAIL_OUT_OF_WINDOW: any state is left for OFF (R551). -/
def State.railOut (s0 : State) : State :=
  if s0.cyc.state = .off then s0
  else
    let s := s0.tornJournal
    { pending := s.pending, dt := s.dt, fresh := s.fresh, otp := s.otp, flash := s.flash, cyc := { profile := fillProfile s.heads {} } }
def execRailOutOfWindow (t rail : Nat) (s : State) : Host.Outcome State Fault Refusal := s.eventReset t fun s => if rail < 8 then s.railOut else s

/-- States from which Table 01.10 permits SAFE. -/
def safeStates : List DevState := [.standby, .ready, .armed, .hold, .service, .recovery]
/-- SAFE from a state that permits it. -/
def State.safeFrom (cause : Nat) (s : State) : State := if safeStates.contains s.cyc.state then s.enterSafe cause none else s

/-- SUPPLY_WARNING: rail `rail` has been in warning for 10 µs (R549, R551, Table 21.11). -/
def State.supplyWarn (rail : Nat) (s : State) : State :=
  ({ s with power := { s.power with warn := putBit s.power.warn rail true, warnSeen := putBit s.power.warnSeen rail true } }).safeFrom causeSupply
def execSupplyWarning (t rail : Nat) (s : State) : Host.Outcome State Fault Refusal :=
  s.eventPowered t fun s => if rail < 8 then s.supplyWarn rail else s

/-- PWRFAIL_ASSERT: PWRFAIL_N falls at `t` and stays low for `lowNs`; from 1 µs on that is a supply warning (R551). -/
def State.pwrfail (lowNs : Nat) (s : State) : State :=
  let s1 := { s with power := { s.power with pwrfailUntil := max s.power.pwrfailUntil (s.dt + nsDt * lowNs) } }
  if 1000 ≤ lowNs then s1.safeFrom causeSupply else s1
def execPwrfailAssert (t lowNs : Nat) (s : State) : Host.Outcome State Fault Refusal := s.eventPowered t (State.pwrfail lowNs)

/-- RESET_PIN: RESET_N falls at `t` and stays low for `lowNs` (R555): ignored below 100 ns, a reset from 1 µs on; in between a
free value decides. RESET is not left while the pin is low. -/
def State.resetPin (lowNs : Nat) (s : State) : State :=
  let f := s.take
  let acts : Bool := if lowNs < 100 then false else if 1000 ≤ lowNs then true else Config.freeValue f.1 % 2 == 1
  let s1 := if lowNs < 100 ∨ 1000 ≤ lowNs then s else f.2
  if s.cyc.state = .off ∨ !acts then s1
  else ({ s1 with power := { s1.power with pinUntil := max s1.power.pinUntil (s1.dt + nsDt * lowNs) } }).resetFrom 1
def execResetPin (t lowNs : Nat) (s : State) : Host.Outcome State Fault Refusal := s.eventReset t (State.resetPin lowNs)

/-- DEVICE_RESET_DELAY_END: 1 ms after `DEVICE_RESET` (R556). -/
def State.resetDue (s : State) : State :=
  match s.host.resetAt with
  | some r => if r ≤ s.dt then s.resetFrom 2 else s
  | none => s
def execDeviceResetDelayEnd (t : Nat) (s : State) : Host.Outcome State Fault Refusal := s.eventReset t State.resetDue

/-- WATCHDOG_RESET (Table 21.3). -/
def execWatchdogReset (t : Nat) (s : State) : Host.Outcome State Fault Refusal := s.eventReset t (State.resetFrom 3)

/-- A temperature of a die (0 logic, 1 link, 2 hottest store) in 0.125 °C. -/
def State.heatUp (die : Nat) (temp : Int) (s : State) : State :=
  { s with power := { s.power with temp := (s.power.temp.set die temp).set 3 (max (s.power.temp.getD 3 0) temp) } }

/-- JUNCTION_OVER_115: SAFE with cause THERMAL (Table 01.10). -/
def execJunctionOver115 (t die : Nat) (temp : Int) (s : State) : Host.Outcome State Fault Refusal :=
  s.eventPowered t fun s => if die < 3 ∧ 920 < temp then (s.heatUp die temp).safeFrom causeThermal else s

/-- JUNCTION_OVER_125: RESET with cause THERMAL (R554, R555). -/
def execJunctionOver125 (t die : Nat) (temp : Int) (s : State) : Host.Outcome State Fault Refusal :=
  s.eventReset t fun s => if die < 3 ∧ 1000 < temp ∧ s.cyc.state ≠ .off then (s.heatUp die temp).resetFrom 4 else s

/-! The board configuration record (Table 21.5, R559). -/

def isPow2 (n lo hi : Nat) : Bool := (List.range 32).any fun (k : Nat) => n == 2 ^ k && decide (lo ≤ n ∧ n ≤ hi)
/-- Two regions, offset and size, do not overlap. -/
def apart (a b : Nat × Nat) : Bool := decide (a.1 + a.2 ≤ b.1 ∨ b.1 + b.2 ≤ a.1)

def recordValid (b : List Byte) : Bool :=
  let f (o n : Nat) : Nat := field b o n
  let sector := f 20 4
  let regions := [(f 28 4, f 36 4), (f 32 4, f 36 4), (f 40 4, f 48 4), (f 44 4, f 48 4)]
  f 0 4 == 0x42525853 && f 4 1 == 0x10 && allZero (slice b 5 3) && f 12 4 == crc32c (slice b 0 12 ++ zeros 4 ++ slice b 16 240) &&
    decide (f 16 1 ≤ 2 ∧ f 17 1 ≤ 1 ∧ 25 ≤ f 18 1 ∧ f 18 1 ≤ 200) && f 19 1 == 0 && isPow2 sector 4096 65536 &&
    decide (67108864 ≤ f 24 4 ∧ f 24 4 ≤ 1073741824 ∧ 16777408 ≤ f 36 4 ∧ 1048576 ≤ f 48 4 ∧ f 48 4 ≤ 16777216) &&
    ([f 24 4, f 28 4, f 32 4, f 36 4, f 40 4, f 44 4, f 48 4].all fun (n : Nat) => n % sector == 0) &&
    (regions.all fun (r : Nat × Nat) => decide (0x20000 ≤ r.1 ∧ r.1 + r.2 ≤ f 24 4)) && regions.Pairwise (fun a b => apart a b = true) &&
    f 58 2 == 0 && allZero (slice b 96 160)

/-- The copy in use and its bytes (R559). -/
def State.boardRecord (s : State) : Option (Nat × List Byte) :=
  let r0 := s.flashRead 0 256
  let r1 := s.flashRead 0x10000 256
  match recordValid r0, recordValid r1 with
  | true, true => if field r0 8 4 < field r1 8 4 then some (1, r1) else some (0, r0)
  | true, false => some (0, r0)
  | false, true => some (1, r1)
  | false, false => none

/-! BOOT (R561). -/

/-- DDR5 channels after training as DRAM_CONFIG states (Table 17.3): a channel that fails alone is mapped out (R471). -/
def State.trainDram (fails : Nat) (s : State) : State :=
  let cfg := field s.power.record 16 1
  let chan (c : Nat) : Channel := if fails.testBit c then { mappedOut := true } else { inService := true }
  { s with mem := { s.mem with
    width := if cfg = 2 then 4 else 8
    ranks := if cfg = 1 then 2 else 1
    density := 16
    capacity := if cfg = 0 then 16 else 32
    channels := (List.range 4).map chan
    mapout := (List.range 4).find? fun (c : Nat) => fails.testBit c } }

/-- The DMA staging region lies somewhere in the reserved region (R462): a free value places it (log entry 61). -/
def State.placeStaging (s : State) : State :=
  let f := s.take
  { f.2 with dma := { f.2.dma with staging := f.2.reservedBase + Config.freeValue f.1 % (gib / 2097152) * 2097152 } }

/-- The key slots from the journal's live entries (R394, R395). -/
def State.bootKeys (es : List JEntry) (s : State) : State :=
  (List.range 8).foldl (fun (s : State) (k : Nat) =>
    let lease := match liveOf (256 * 0x10 + k) es with | some e => field e.payload 8 8 | none => 0
    let s1 := s.setKey k fun (x : KeySlot) => { x with lease := lease, last := lease - 1 }
    match liveOf (256 * 0x11 + k) es with
    | none => s1
    | some e =>
      match keyUnwrap Config.deviceKey (slice e.payload 8 40) with
      | none => s1
      | some key =>
        match field e.payload 1 1 with
        | 1 => s1.setKey k fun (x : KeySlot) => { x with state := .active, key := key }
        | 2 => s1.setKey k fun (x : KeySlot) => { x with state := .retired, key := key }
        | _ => s1) s

/-- The image of a boot slot, when check 1 of R531 passes and its signature verifies. -/
def State.bootImage (s : State) (slot : Nat) : Option (List Byte) :=
  let a := s.bootOffset slot
  let n := field (s.flashRead a 64) 16 4
  if 16777216 < n then none
  else
    let im := s.flashRead a (n + 192)
    if fwHeaderOk s.otp.grade none im && imageVerifies im then some im else none

def State.setBoot (f : BootStatus → BootStatus) (s : State) : State := { s with power := { s.power with boot := f s.power.boot } }
/-- BOOT ends with this result and the device stays in BOOT (Table 21.10). -/
def State.stayInBoot (result : Nat) (s : State) : State := s.setBoot fun (b : BootStatus) => { b with result := result }

/-- The sets of firmware cores (R562): the active set runs the image, the other mirrors it unless it is retired. -/
def State.startCores (aPass bPass : Bool) (im : List Byte) (s : State) : State :=
  let act : Nat := if aPass then 0 else 1
  let both := aPass && bPass
  let i := fwImageOf im
  let s1 := s.setFw fun (x : Firmware) => { x with activeSet := act, active := i, other := i, standby := .mirror, setRetired := !both }
  let s2 := s1.setBoot fun (b : BootStatus) => { b with setARetired := !aPass, setBRetired := !bPass }
  let s3 := if both then s2 else s2.setIsland islandFirmware fun (x : Island) => { x with status := .retired }
  s3.setOnline act

/-- The log after BOOT's check (R504): kept with a RESET record, or emptied with POWER_ON. -/
def State.checkLog (s : State) : State :=
  let r := s.recorder
  if r.log.isEmpty || r.log.any fun (e : LogRec) => e.corrupt then
    { s with recorder := { r with
      log := [{ dt := s.dt, code := 3, detail := s.idRegister }]
      nextSeq := 1
      lost := 0
      clears := 0
      corrupt := 0
      full := false } }
  else ({ s with recorder := { r with retained := true } }).receive { dt := s.dt, code := 4, key := s.power.resetCause }

/-- A log record of a SAFE_CAPTURE (R524), marked IMPORTED. -/
def importedRec (b : List Byte) : LogRec :=
  { dt := field b 0 8, code := field b 16 2, source := field b 18 1, flags := field b 19 1 ||| 4, repeats := field b 20 4, lastDt := field b 24 8,
    key := field b 32 8, detail := field b 40 24 }
/-- It is appended with a SEQ of its own; a full log loses it. -/
def State.importOne (e0 : LogRec) (s : State) : State :=
  let r := s.recorder
  let e := { e0 with seq := r.nextSeq }
  let s1 := { s with recorder := { r with nextSeq := r.nextSeq + 1 } }
  if r.log.length + 1 < s.otp.grade.slots then { s1 with recorder := { s1.recorder with log := e :: r.log } } else (s1.logOne e).1
/-- A SAFE_CAPTURE newer than the latest import joins the log (R524). -/
def State.importCapture (es : List JEntry) (s : State) : State :=
  match liveOf (256 * 0x12) es with
  | none => s
  | some c =>
    let seen := match liveOf (256 * 0x13) es with | some e => decide (c.seq < e.seq) | none => false
    if seen then s
    else
      let s1 := (List.range (min 32 (field c.payload 9 1))).foldl (fun (s : State) (i : Nat) => s.importOne (importedRec (slice c.payload (16 + 64 * i) 64))) s
      s1.journalAsk 0x13 (leBytes 8 c.seq) .imported

/-- The live deltas within the MAX limits in force are in use (R544). -/
def State.bootTrims (es : List JEntry) (s : State) : State :=
  (List.range 9).foldl (fun (s : State) (fe : Nat) =>
    match liveOf (256 * 0x40 + fe) es with
    | none => s
    | some e =>
      let d := deltaOf (slice e.payload 8 10)
      if withinMax (s.dparam 0xF019) d then s.setFront fe fun (x : FrontEnd) => { x with delta := d, slewFrom := d } else s) s

/-- The end of BOOT once an image runs: the self-test's outcome (R530, R561), then STANDBY. -/
def State.bootEnd (es : List JEntry) (pass : Bool) (s : State) : State :=
  if !pass then (s.stayInBoot 5).enterSafe causeSelfTest none
  else
    let s1 := (((s.checkLog).importCapture es).bootTrims es).clearLedger 0
    (s1.setBoot fun (b : BootStatus) => { b with result := 1, standbyDt := s.dt }).enterStandby 0

/-- BOOT from the recovered journal on. -/
def State.bootFrom (es : List JEntry) (b : BootInputs) (s0 : State) : State :=
  let s := s0.bootKeys es
  let first := slotOf es
  let used : Option (Nat × List Byte) := match s.bootImage first with
    | some im => some (first, im)
    | none => (s.bootImage (1 - first)).map fun im => (1 - first, im)
  match used with
  | none => s.stayInBoot 4
  | some (slot, im) =>
    let s1 := s.setBoot fun (x : BootStatus) => { x with slot := slot, fallback := slot != first }
    if !b.setAPass && !b.setBPass then
      s1.setBoot fun (x : BootStatus) => { x with result := 5, setARetired := true, setBRetired := true }
    else (s1.startCores b.setAPass b.setBPass im).bootEnd es b.selfTestPass

/-- How many DDR5 channels fail to train. -/
def failedChannels (m : Nat) : Nat := ((List.range 4).filter fun (c : Nat) => m.testBit c).length

/-- BOOT (R561): every step up to the STANDBY, SAFE or BOOT it ends in. -/
def State.boot (b : BootInputs) (s0 : State) : State :=
  let s := { s0 with cyc := { s0.cyc with state := .boot }, host := { s0.host with ready := true } }
  match s.boardRecord with
  | none => s.stayInBoot 2
  | some (copy, r) =>
    let s1 := { s with
      power := { s.power with record := r, boot := { s.power.boot with copy := copy, dramFail := b.dramFail % 16 } }
      net := { s.net with mac := leNat (slice r 52 6) } }
    if 2 ≤ failedChannels b.dramFail then s1.stayInBoot 3
    else
      let j := ((s1.trainDram b.dramFail).placeStaging).recoverJournal
      j.1.bootFrom j.2 b

/-- The conditions of R554 for leaving RESET. -/
def State.mayRelease (b : BootInputs) (s : State) : Bool :=
  s.cyc.state == .reset && s.power.railsIn && decide (s.power.railsOkAt ≤ s.dt ∧ s.power.pinUntil ≤ s.dt ∧ msOf 1 ≤ s.dt) &&
    (b.temp.all fun (x : Int) => decide (x ≤ 880)) && s.net.good.contains true

/-- RESET_RELEASE: what a programmer wrote stands in the flash (R558); BOOT runs to its end at DT `tEnd`. -/
def State.releaseReset (b : BootInputs) (s : State) : State :=
  if !s.mayRelease b then s
  else
    let s1 := b.programmed.foldl (fun (s : State) (w : Nat × List Byte) => s.flashWrite w.1 w.2) s
    let temps := (List.range 3).map fun (i : Nat) => b.temp.getD i 0
    let high := temps.foldl (fun (a x : Int) => max a x) (temps.getD 0 0)
    { s1 with power := { s1.power with temp := temps ++ [high] }, dt := max s1.dt b.tEnd }.boot b
def execResetRelease (t : Nat) (b : BootInputs) (s : State) : Host.Outcome State Fault Refusal := s.eventReset t (State.releaseReset b)

end Sys2Proof.Machine
end

