-- ==== Sys2Proof/Machine/Dispatch.lean ====
section
/-! DEFINITION. One arm per command: a direct call of its meaning. -/

namespace Sys2Proof.Machine

def exec (i : Instr) (s : State) : Host.Outcome State Fault Refusal :=
  match i with
  | .devIdentify p => Sys2Proof.Machine.execDevIdentify p s
  | .paramGet p => Sys2Proof.Machine.execParamGet p s
  | .paramSet p => Sys2Proof.Machine.execParamSet p s
  | .profileSelect p => Sys2Proof.Machine.execProfileSelect p s
  | .profileCheck p => Sys2Proof.Machine.execProfileCheck p s
  | .readyEnter p => Sys2Proof.Machine.execReadyEnter p s
  | .standbyEnter p => Sys2Proof.Machine.execStandbyEnter p s
  | .arm p => Sys2Proof.Machine.execArm p s
  | .disarm p => Sys2Proof.Machine.execDisarm p s
  | .hold p => Sys2Proof.Machine.execHold p s
  | .resume p => Sys2Proof.Machine.execResume p s
  | .safeRequest p => Sys2Proof.Machine.execSafeRequest p s
  | .recover p => Sys2Proof.Machine.execRecover p s
  | .recoveryExit p => Sys2Proof.Machine.execRecoveryExit p s
  | .serviceEnter p => Sys2Proof.Machine.execServiceEnter p s
  | .deviceReset p => Sys2Proof.Machine.execDeviceReset p s
  | .deviceResetDelayEnd t => Sys2Proof.Machine.execDeviceResetDelayEnd t s
  | .cycleRun p => Sys2Proof.Machine.execCycleRun p s
  | .cyclePhase p => Sys2Proof.Machine.execCyclePhase p s
  | .cycleRelease p => Sys2Proof.Machine.execCycleRelease p s
  | .cycleStop p => Sys2Proof.Machine.execCycleStop p s
  | .queueCreate p => Sys2Proof.Machine.execQueueCreate p s
  | .queueDelete p => Sys2Proof.Machine.execQueueDelete p s
  | .streamFence p => Sys2Proof.Machine.execStreamFence p s
  | .nop p => Sys2Proof.Machine.execNop p s
  | .keyLoad p => Sys2Proof.Machine.execKeyLoad p s
  | .keyRetire p => Sys2Proof.Machine.execKeyRetire p s
  | .counterRead p => Sys2Proof.Machine.execCounterRead p s
  | .quireAppend p => Sys2Proof.Machine.execQuireAppend p s
  | .sigLoad p => Sys2Proof.Machine.execSigLoad p s
  | .quireFlush p => Sys2Proof.Machine.execQuireFlush p s
  | .sigDiscard p => Sys2Proof.Machine.execSigDiscard p s
  | .trjFcLoad p => Sys2Proof.Machine.execTrjFcLoad p s
  | .trjFcRead p => Sys2Proof.Machine.execTrjFcRead p s
  | .lasHeadRestore p => Sys2Proof.Machine.execLasHeadRestore p s
  | .gutReplayLoad p => Sys2Proof.Machine.execGutReplayLoad p s
  | .gutStitchTable p => Sys2Proof.Machine.execGutStitchTable p s
  | .mpsRatioLoad p => Sys2Proof.Machine.execMpsRatioLoad p s
  | .mpsRatioRead p => Sys2Proof.Machine.execMpsRatioRead p s
  | .loopInject p => Sys2Proof.Machine.execLoopInject p s
  | .loopCapture p => Sys2Proof.Machine.execLoopCapture p s
  | .loopCaptureRead p => Sys2Proof.Machine.execLoopCaptureRead p s
  | .loopMapLoad p => Sys2Proof.Machine.execLoopMapLoad p s
  | .ldgClear p => Sys2Proof.Machine.execLdgClear p s
  | .ldgRead p => Sys2Proof.Machine.execLdgRead p s
  | .ldgSnapshotLoad p => Sys2Proof.Machine.execLdgSnapshotLoad p s
  | .imgControl p => Sys2Proof.Machine.execImgControl p s
  | .imgSnap p => Sys2Proof.Machine.execImgSnap p s
  | .imgToneLoad p => Sys2Proof.Machine.execImgToneLoad p s
  | .imgPortReset p => Sys2Proof.Machine.execImgPortReset p s
  | .motMove p => Sys2Proof.Machine.execMotMove p s
  | .motStop p => Sys2Proof.Machine.execMotStop p s
  | .motSetPosition p => Sys2Proof.Machine.execMotSetPosition p s
  | .motFaultClear p => Sys2Proof.Machine.execMotFaultClear p s
  | .motStreamStart p => Sys2Proof.Machine.execMotStreamStart p s
  | .fbkSetCount p => Sys2Proof.Machine.execFbkSetCount p s
  | .emdFrameLoad p => Sys2Proof.Machine.execEmdFrameLoad p s
  | .emdLatch p => Sys2Proof.Machine.execEmdLatch p s
  | .emdDark p => Sys2Proof.Machine.execEmdDark p s
  | .hlkRetrain p => Sys2Proof.Machine.execHlkRetrain p s
  | .hlkLoopback p => Sys2Proof.Machine.execHlkLoopback p s
  | .dmaStop p => Sys2Proof.Machine.execDmaStop p s
  | .dmaRetry p => Sys2Proof.Machine.execDmaRetry p s
  | .dmaSkip p => Sys2Proof.Machine.execDmaSkip p s
  | .memChannelMapout p => Sys2Proof.Machine.execMemChannelMapout p s
  | .pairGutterTable p => Sys2Proof.Machine.execPairGutterTable p s
  | .pairWitnessGrant p => Sys2Proof.Machine.execPairWitnessGrant p s
  | .recRead p => Sys2Proof.Machine.execRecRead p s
  | .recFreeze p => Sys2Proof.Machine.execRecFreeze p s
  | .recUnfreeze p => Sys2Proof.Machine.execRecUnfreeze p s
  | .recClear p => Sys2Proof.Machine.execRecClear p s
  | .recBuildBegin p => Sys2Proof.Machine.execRecBuildBegin p s
  | .recBuildEnd p => Sys2Proof.Machine.execRecBuildEnd p s
  | .svcFwLoad p => Sys2Proof.Machine.execSvcFwLoad p s
  | .svcFwSwitch p => Sys2Proof.Machine.execSvcFwSwitch p s
  | .svcFwCommit p => Sys2Proof.Machine.execSvcFwCommit p s
  | .svcModeSet p => Sys2Proof.Machine.execSvcModeSet p s
  | .svcTrimRun p => Sys2Proof.Machine.execSvcTrimRun p s
  | .svcTrimCapture p => Sys2Proof.Machine.execSvcTrimCapture p s
  | .svcTrimSet p => Sys2Proof.Machine.execSvcTrimSet p s
  | .svcLoopback p => Sys2Proof.Machine.execSvcLoopback p s
  | .svcSelfTest p => Sys2Proof.Machine.execSvcSelfTest p s
  | .opStatus p => Sys2Proof.Machine.execOpStatus p s
  | .opArm p => Sys2Proof.Machine.execOpArm p s
  | .opDisarm p => Sys2Proof.Machine.execOpDisarm p s
  | .opPause p => Sys2Proof.Machine.execOpPause p s
  | .opContinue p => Sys2Proof.Machine.execOpContinue p s
  | .opAbort p => Sys2Proof.Machine.execOpAbort p s
  | .opRun p => Sys2Proof.Machine.execOpRun p s
  | .opFence p => Sys2Proof.Machine.execOpFence p s
  | .opLoadLayer p => Sys2Proof.Machine.execOpLoadLayer p s
  | .opFlush p => Sys2Proof.Machine.execOpFlush p s
  | .opSetJump p => Sys2Proof.Machine.execOpSetJump p s
  | .opSetDelays p => Sys2Proof.Machine.execOpSetDelays p s
  | .opSetPowerLimit p => Sys2Proof.Machine.execOpSetPowerLimit p s
  | .opHeadReset p => Sys2Proof.Machine.execOpHeadReset p s
  | .opMoveAxis p => Sys2Proof.Machine.execOpMoveAxis p s
  | .opRetrain p => Sys2Proof.Machine.execOpRetrain p s
  | .sigLongWrite p => Sys2Proof.Machine.execSigLongWrite p s
  | .lasPowerMaxWrite p => Sys2Proof.Machine.execLasPowerMaxWrite p s
  | .lasEmitMaskWrite p => Sys2Proof.Machine.execLasEmitMaskWrite p s
  | .ldgOriginWrite p => Sys2Proof.Machine.execLdgOriginWrite p s
  | .ringParamWrite p => Sys2Proof.Machine.execRingParamWrite p s
  | .streamReadWrite w => Sys2Proof.Machine.execStreamReadWrite w s
  | .loopFlagsClear p => Sys2Proof.Machine.execLoopFlagsClear p s
  | .motDecelWrite p => Sys2Proof.Machine.execMotDecelWrite p s
  | .motJerkWrite p => Sys2Proof.Machine.execMotJerkWrite p s
  | .motLimitsWrite p => Sys2Proof.Machine.execMotLimitsWrite p s
  | .fbkChannelCfgWrite p => Sys2Proof.Machine.execFbkChannelCfgWrite p s
  | .fbkDividerWrite p => Sys2Proof.Machine.execFbkDividerWrite p s
  | .fbkSpareModeWrite p => Sys2Proof.Machine.execFbkSpareModeWrite p s
  | .imgPortCfgWrite p => Sys2Proof.Machine.execImgPortCfgWrite p s
  | .imgSettingsWrite p => Sys2Proof.Machine.execImgSettingsWrite p s
  | .imgOutRelease p => Sys2Proof.Machine.execImgOutRelease p s
  | .emdBusCfgWrite p => Sys2Proof.Machine.execEmdBusCfgWrite p s
  | .emdLevelsWrite p => Sys2Proof.Machine.execEmdLevelsWrite p s
  | .hlkPortCfgWrite p => Sys2Proof.Machine.execHlkPortCfgWrite p s
  | .netPortCfgWrite p => Sys2Proof.Machine.execNetPortCfgWrite p s
  | .pairRoleWrite p => Sys2Proof.Machine.execPairRoleWrite p s
  | .dmaChannelCfgWrite p => Sys2Proof.Machine.execDmaChannelCfgWrite p s
  | .sqTailWrite t qp v => Sys2Proof.Machine.execSqTailWrite t qp v s
  | .cqHeadWrite t qp v => Sys2Proof.Machine.execCqHeadWrite t qp v s
  | .qp0CfgWrite t reg v => Sys2Proof.Machine.execQp0CfgWrite t reg v s
  | .pauseWrite t v => Sys2Proof.Machine.execPauseWrite t v s
  | .bar0BadAccess t offset size write => Sys2Proof.Machine.execBar0BadAccess t offset size write s
  | .dmaDoorbell t c w => Sys2Proof.Machine.execDmaDoorbell t c w s
  | .dmaRingHeadWrite t c v => Sys2Proof.Machine.execDmaRingHeadWrite t c v s
  | .sqFetch t slot packet => Sys2Proof.Machine.execSqFetch t slot packet s
  | .leaseCommit t slot ok => Sys2Proof.Machine.execLeaseCommit t slot ok s
  | .fenceRelease t acc => Sys2Proof.Machine.execFenceRelease t acc s
  | .fenceTimeout t acc => Sys2Proof.Machine.execFenceTimeout t acc s
  | .cqEntryWrite t qp => Sys2Proof.Machine.execCqEntryWrite t qp s
  | .moderationTimerExpire t v => Sys2Proof.Machine.execModerationTimerExpire t v s
  | .msixUnmask t w => Sys2Proof.Machine.execMsixUnmask t w s
  | .functionD0Return t => Sys2Proof.Machine.execFunctionD0Return t s
  | .functionD3hotEntry t d3hot pmeEn => Sys2Proof.Machine.execFunctionD3hotEntry t d3hot pmeEn s
  | .functionReset t => Sys2Proof.Machine.execFunctionReset t s
  | .udpDatagram t port src srcPort dstPort fragment payload => Sys2Proof.Machine.execUdpDatagram t port src srcPort dstPort fragment payload s
  | .sessionTimeout t index => Sys2Proof.Machine.execSessionTimeout t index s
  | .railsInWindow t => Sys2Proof.Machine.execRailsInWindow t s
  | .railOutOfWindow t rail => Sys2Proof.Machine.execRailOutOfWindow t rail s
  | .supplyWarning t rail => Sys2Proof.Machine.execSupplyWarning t rail s
  | .pwrfailAssert t lowNs => Sys2Proof.Machine.execPwrfailAssert t lowNs s
  | .resetPin t lowNs => Sys2Proof.Machine.execResetPin t lowNs s
  | .junctionOver115 t die temp => Sys2Proof.Machine.execJunctionOver115 t die temp s
  | .junctionOver125 t die temp => Sys2Proof.Machine.execJunctionOver125 t die temp s
  | .watchdogReset t => Sys2Proof.Machine.execWatchdogReset t s
  | .resetRelease t b => Sys2Proof.Machine.execResetRelease t b s
  | .interlockOpen t ch => Sys2Proof.Machine.execInterlockOpen t ch s
  | .interlockClose t ch => Sys2Proof.Machine.execInterlockClose t ch s
  | .intlkDiscrepancy t => Sys2Proof.Machine.execIntlkDiscrepancy t s
  | .witnessPin t => Sys2Proof.Machine.execWitnessPin t s
  | .witnessTimeout t => Sys2Proof.Machine.execWitnessTimeout t s
  | .islandFault t island set => Sys2Proof.Machine.execIslandFault t island set s
  | .islandSelfTestEnd t island pass => Sys2Proof.Machine.execIslandSelfTestEnd t island pass s
  | .fwStandbyReady t => Sys2Proof.Machine.execFwStandbyReady t s
  | .fwQuiescentPoint t incomingFault => Sys2Proof.Machine.execFwQuiescentPoint t incomingFault s
  | .fwCommitDone t flashOk => Sys2Proof.Machine.execFwCommitDone t flashOk s
  | .quireLoadStart t => Sys2Proof.Machine.execQuireLoadStart t s
  | .signatureLoadEnd t => Sys2Proof.Machine.execSignatureLoadEnd t s
  | .longSegmentFree t => Sys2Proof.Machine.execLongSegmentFree t s
  | .exposeStart t => Sys2Proof.Machine.execExposeStart t s
  | .slotBoundary t => Sys2Proof.Machine.execSlotBoundary t s
  | .loopDeadlineMiss t l => Sys2Proof.Machine.execLoopDeadlineMiss t l s
  | .sampleUp t h frame => Sys2Proof.Machine.execSampleUp t h frame s
  | .sampleMissing t h idx => Sys2Proof.Machine.execSampleMissing t h idx s
  | .frameResult t h => Sys2Proof.Machine.execFrameResult t h s
  | .frameTruncated t h => Sys2Proof.Machine.execFrameTruncated t h s
  | .mpsFlushTimeout t => Sys2Proof.Machine.execMpsFlushTimeout t s
  | .mpsRingWrite t => Sys2Proof.Machine.execMpsRingWrite t s
  | .hostRingCopy t idx => Sys2Proof.Machine.execHostRingCopy t idx s
  | .linkLoss t h lock => Sys2Proof.Machine.execLinkLoss t h lock s
  | .cfgAckTimeout t h => Sys2Proof.Machine.execCfgAckTimeout t h s
  | .blockLockLost t h => Sys2Proof.Machine.execBlockLockLost t h s
  | .blockLockHeld t h => Sys2Proof.Machine.execBlockLockHeld t h s
  | .capDownSend t h => Sys2Proof.Machine.execCapDownSend t h s
  | .capUp t h frame => Sys2Proof.Machine.execCapUp t h frame s
  | .echoDownSend t h => Sys2Proof.Machine.execEchoDownSend t h s
  | .echoUp t h frame => Sys2Proof.Machine.execEchoUp t h frame s
  | .trainingTimeout t h => Sys2Proof.Machine.execTrainingTimeout t h s
  | .loopbackEnd t h bits errors => Sys2Proof.Machine.execLoopbackEnd t h bits errors s
  | .kettleFence t => Sys2Proof.Machine.execKettleFence t s
  | .kettleTimeout t => Sys2Proof.Machine.execKettleTimeout t s
  | .triggerDue t p => Sys2Proof.Machine.execTriggerDue t p s
  | .kettleEnd t => Sys2Proof.Machine.execKettleEnd t s
  | .recoatStart t => Sys2Proof.Machine.execRecoatStart t s
  | .recoatEnd t => Sys2Proof.Machine.execRecoatEnd t s
  | .imageEnd t => Sys2Proof.Machine.execImageEnd t s
  | .frameTimeout t p => Sys2Proof.Machine.execFrameTimeout t p s
  | .cxpSof t p fmt w h => Sys2Proof.Machine.execCxpSof t p fmt w h s
  | .stripeArrival t p => Sys2Proof.Machine.execStripeArrival t p s
  | .stripeReturn t p => Sys2Proof.Machine.execStripeReturn t p s
  | .pipelineStripeDone t => Sys2Proof.Machine.execPipelineStripeDone t s
  | .cxpControlAck t p valid code data => Sys2Proof.Machine.execCxpControlAck t p valid code data s
  | .cxpControlTimeout t p => Sys2Proof.Machine.execCxpControlTimeout t p s
  | .cxpDiscovery t p ok speed => Sys2Proof.Machine.execCxpDiscovery t p ok speed s
  | .cxpLinkLoss t p => Sys2Proof.Machine.execCxpLinkLoss t p s
  | .cxpEventPacket t p bytes => Sys2Proof.Machine.execCxpEventPacket t p bytes s
  | .cxpHeartbeat t => Sys2Proof.Machine.execCxpHeartbeat t s
  | .axisTick t => Sys2Proof.Machine.execAxisTick t s
  | .moveInPosition t a => Sys2Proof.Machine.execMoveInPosition t a s
  | .positionReestablish t a => Sys2Proof.Machine.execPositionReestablish t a s
  | .motFaultPin t a low => Sys2Proof.Machine.execMotFaultPin t a low s
  | .syncInEdge t idx => Sys2Proof.Machine.execSyncInEdge t idx s
  | .sincosConversion t c sc cc => Sys2Proof.Machine.execSincosConversion t c sc cc s
  | .quadEdge t c a b => Sys2Proof.Machine.execQuadEdge t c a b s
  | .quadIndex t c => Sys2Proof.Machine.execQuadIndex t c s
  | .ssiFrameEnd t c raw extra good latch => Sys2Proof.Machine.execSsiFrameEnd t c raw extra good latch s
  | .trimPeriod t => Sys2Proof.Machine.execTrimPeriod t s
  | .trimHandover t maxDiff pairError => Sys2Proof.Machine.execTrimHandover t maxDiff pairError s
  | .trimFit t codes => Sys2Proof.Machine.execTrimFit t codes s
  | .trimHandback t maxDiff pairError => Sys2Proof.Machine.execTrimHandback t maxDiff pairError s
  | .sweeperTick t => Sys2Proof.Machine.execSweeperTick t s
  | .ldgReadoutCopy t idx => Sys2Proof.Machine.execLdgReadoutCopy t idx s
  | .ldgSnapshotLoaded t => Sys2Proof.Machine.execLdgSnapshotLoaded t s
  | .emdLatchDue t b => Sys2Proof.Machine.execEmdLatchDue t b s
  | .emdRefreshLatch t b => Sys2Proof.Machine.execEmdRefreshLatch t b s
  | .emdTransferEnd t b replies => Sys2Proof.Machine.execEmdTransferEnd t b replies s
  | .emdStatusPoll t b d reply => Sys2Proof.Machine.execEmdStatusPoll t b d reply s
  | .dmaDescriptorFetch t c bytes => Sys2Proof.Machine.execDmaDescriptorFetch t c bytes s
  | .dmaBurstEnd t c src dst => Sys2Proof.Machine.execDmaBurstEnd t c src dst s
  | .dmaDescriptorEnd t c => Sys2Proof.Machine.execDmaDescriptorEnd t c s
  | .dmaLinkReadReturn t c w => Sys2Proof.Machine.execDmaLinkReadReturn t c w s
  | .dmaReadFailed t c => Sys2Proof.Machine.execDmaReadFailed t c s
  | .periphRequest t e => Sys2Proof.Machine.execPeriphRequest t e s
  | .periphWithdraw t e c n bytes => Sys2Proof.Machine.execPeriphWithdraw t e c n bytes s
  | .sourceLevelChange t n level => Sys2Proof.Machine.execSourceLevelChange t n level s
  | .sourceTake t c wake => Sys2Proof.Machine.execSourceTake t c wake s
  | .eoiWrite t c v => Sys2Proof.Machine.execEoiWrite t c v s
  | .routeWrite t n v => Sys2Proof.Machine.execRouteWrite t n v s
  | .coreOnlineWrite t c v => Sys2Proof.Machine.execCoreOnlineWrite t c v s
  | .swiWrite t v => Sys2Proof.Machine.execSwiWrite t v s
  | .storeUncorrectable t store offset reader part => Sys2Proof.Machine.execStoreUncorrectable t store offset reader part s
  | .storeCorrectable t store offset => Sys2Proof.Machine.execStoreCorrectable t store offset s
  | .scrubRead t store => Sys2Proof.Machine.execScrubRead t store s
  | .rowRepair t store row => Sys2Proof.Machine.execRowRepair t store row s
  | .dramCorrected t ch rank sub dev => Sys2Proof.Machine.execDramCorrected t ch rank sub dev s
  | .dramPoison t addr => Sys2Proof.Machine.execDramPoison t addr s
  | .refreshDue t ch rank burst stall => Sys2Proof.Machine.execRefreshDue t ch rank burst stall s
  | .retrainPause t ch margin stall => Sys2Proof.Machine.execRetrainPause t ch margin stall s
  | .neighbourRefresh t ch rank bank acts => Sys2Proof.Machine.execNeighbourRefresh t ch rank bank acts s
  | .rfmIssue t ch rank bank raaimt forced stall => Sys2Proof.Machine.execRfmIssue t ch rank bank raaimt forced stall s
  | .refreshWindowClear t ch => Sys2Proof.Machine.execRefreshWindowClear t ch s
  | .migrationBlock t ok => Sys2Proof.Machine.execMigrationBlock t ok s
  | .migrationEnd t => Sys2Proof.Machine.execMigrationEnd t s
  | .ethFrame t p good frame => Sys2Proof.Machine.execEthFrame t p good frame s
  | .ptpMessage t p master utc offset => Sys2Proof.Machine.execPtpMessage t p master utc offset s
  | .timeHoldover t => Sys2Proof.Machine.execTimeHoldover t s
  | .refclkBad t idx => Sys2Proof.Machine.execRefclkBad t idx s
  | .refclkGood t idx => Sys2Proof.Machine.execRefclkGood t idx s
  | .peerCap t frame => Sys2Proof.Machine.execPeerCap t frame s
  | .pairCapRetry t => Sys2Proof.Machine.execPairCapRetry t s
  | .peerEcho t frame => Sys2Proof.Machine.execPeerEcho t frame s
  | .peerOffsetEchoTimer t => Sys2Proof.Machine.execPeerOffsetEchoTimer t s
  | .peerSlot t frame => Sys2Proof.Machine.execPeerSlot t frame s
  | .peerCycle t frame => Sys2Proof.Machine.execPeerCycle t frame s
  | .peerClaim t frame => Sys2Proof.Machine.execPeerClaim t frame s
  | .peerRelease t frame => Sys2Proof.Machine.execPeerRelease t frame s
  | .peerRelation t frame => Sys2Proof.Machine.execPeerRelation t frame s
  | .messageResend t seq => Sys2Proof.Machine.execMessageResend t seq s
  | .peerLinkDown t => Sys2Proof.Machine.execPeerLinkDown t s
  | .eventArrival t idx => Sys2Proof.Machine.execEventArrival t idx s
  | .freezeTimeout t => Sys2Proof.Machine.execFreezeTimeout t s
  | .journalWriteEnd t ok => Sys2Proof.Machine.execJournalWriteEnd t ok s
  | .compactionEnd t => Sys2Proof.Machine.execCompactionEnd t s
  | .selfTestEnd t rowsTested failed margins => Sys2Proof.Machine.execSelfTestEnd t rowsTested failed margins s
  | .svcLoopbackEnd t iface index bits errors => Sys2Proof.Machine.execSvcLoopbackEnd t iface index bits errors s
  | .peerLinkUp t => Sys2Proof.Machine.execPeerLinkUp t s
  | .stripeReady t p lines crcFails badLine ends => Sys2Proof.Machine.execStripeReady t p lines crcFails badLine ends s
  | .clkreqNAsserted t => Sys2Proof.Machine.execClkreqNAsserted t s
  | .ethPortLinkChange t p lock => Sys2Proof.Machine.execEthPortLinkChange t p lock s

end Sys2Proof.Machine
end

