-- ==== Sys2Proof/Machine/Step.lean ====
section
/-! DEFINITION. One step of the block: the command at the front of the queue; on an empty queue device time advances. -/

namespace Sys2Proof.Machine

/-- The block with nothing commanded: device time advances by one count while the device counts it (R14, R15; log entry 1). -/
def State.idle (s : State) : State := if s.up then { s with dt := s.dt + 1, tx := [] } else { s with tx := [] }

/-- The command at the front of the queue is taken and run with the queue's rest; an empty queue idles. -/
def step (s : State) : Host.Outcome State Fault Refusal :=
  match s.pending with
  | [] => .next s.idle
  | c :: rest => exec c { s with pending := rest }

/-- `s` with the command that a word of the table spells in front of its queue; no row of the table has bits, so no word
spells one. -/
def State.withFetchWord (s : State) (nbits w : Nat) : State :=
  match Sys2Proof.decodeTableWord nbits w with
  | some c => { s with pending := c :: s.pending }
  | none => s

end Sys2Proof.Machine
end

