-- ==== Sys2Proof/Safety.lean ====
section
/-! DEFINITION. The words that statements use: what counts as a safe run, what a command reaches, when a packet starts at once. -/

namespace Sys2Proof.Machine

/-- A run of `n` steps that meets no fault and no refusal. -/
def SafeRun : Nat → State → Prop
  | 0, _ => True
  | n + 1, s => ∃ t, step s = .next t ∧ SafeRun n t

/-- The command answers a next state, and `P` holds of it. -/
def Reaches (c : Instr) (s : State) (P : State → Prop) : Prop := ∃ t, exec c s = .next t ∧ P t

/-- The version in force once the packet has come (R388). -/
def versionFor (p : Packet) (s : State) : Nat := (fixVersion ((s.at p.t).fixedVersion p.origin) p.version).getD 0

/-- The state in which a packet is checked: it has taken its acceptance number, and its version is in force (R376, R388). -/
def taken (p : Packet) (s : State) : State :=
  let u := s.at p.t
  ({ u with host := { u.host with nextAcc := u.host.nextAcc + 1 } }).setVersion p.origin (versionFor p s)

/-- The state in which the command of an accepted packet runs: its counter is noted, and it is in progress (R384, R394). -/
def running (c : CmdSpec) (p : Packet) (s : State) : State :=
  let u := (taken p s).acceptCounter p
  { u with host := { u.host with inProg := u.host.inProg ++ [{ acc := s.host.nextAcc, opcode := c.opcode, packet := p }] } }

/-- The command of a trailer whose counter lies below its slot's committed lease needs no new one (R394). -/
def leased (p : Packet) (s : State) : Bool :=
  match p.trailer with
  | none => true
  | some t => decide (t.counter < (s.host.keys.getD t.slot {}).lease)

/-- The packet of command `c` starts as soon as it comes: the device takes commands (R403), the packet's queue or session runs
(R376, R386), nothing it repeats is stored (R387), nothing holds it back (R376, R390, R393), every check of R23 passes, and no
lease has to be committed first (R394). Its acceptance number is new. -/
def startsNow (c : CmdSpec) (p : Packet) (s : State) : Bool :=
  let u := s.at p.t
  let v := taken p s
  u.accepts && u.originOk p.origin && (u.tagMatch p).isNone &&
    !(({ u with host := { u.host with nextAcc := u.host.nextAcc + 1 } } : State).blocked u.host.nextAcc p) &&
    (s.host.inProg.all fun i => i.acc != s.host.nextAcc) &&
    (fixVersion (u.fixedVersion p.origin) p.version).isSome &&
    (checkFail c s.host.nextAcc (versionFor p s) p v).isNone && leased p v

/-- `t` is `u` but for what serving a packet touches beside its command's own effect: device time, the queue, the host interface,
what is sent, and the journal's queue, which a lease may join (R394). -/
def Served (p : Packet) (s u t : State) : Prop :=
  ∃ g q x, t = { u with
    dt := max s.dt p.t, pending := s.pending, tx := x, host := g
    recorder := { u.recorder with journal := { u.recorder.journal with queue := q } } }

/-- A status packet stands on its way to the host: among the entries that wait for the packet's queue, or in a datagram to its
session. -/
def Answered (p : Packet) (bytes : List Byte) (t : State) : Prop :=
  match p.origin with
  | .qp n => ∃ e ∈ t.host.cqWait, e.qp = n ∧ e.packet = bytes ∧ e.marker = false
  | .session _ => ∃ src port, Tx.udp src port bytes ∈ t.tx

/-- The status packet of a command that starts at once (Table 14.12). -/
def statusOf (c : CmdSpec) (p : Packet) (s : State) (status : Nat) (result : List Byte) : List Byte :=
  statusPacket c.opcode (versionFor p s) 0 p.tag p.scope status result

/-- A MESSAGE frame with a good check value of a type, as R486 lays it out, whose sequence number is new. -/
def goodMessage (type : Nat) (s : State) (frame c : List Byte) : Prop :=
  s.up = true ∧ s.pair.link = true ∧ s.role ≠ 0 ∧ unframe frame = some c ∧ field c 0 1 = 0x12 ∧ field c 1 1 = type ∧
    field c 2 2 = (c.drop 16).length ∧ s.pair.got.contains (field c 4 4) = false

/-! What a command leaves alone. Each list names commands that leave one part of the device as it is in every state; a command that is
not listed may change the part in some states. -/

/-- The commands that leave the state machine and the layer cycle as they are (01). -/
def keepsCycle : Instr → Bool
  | .devIdentify .. | .paramGet .. | .profileCheck .. | .deviceReset .. | .queueCreate .. | .queueDelete .. | .streamFence .. | .nop ..
  | .keyLoad .. | .keyRetire .. | .counterRead .. | .quireAppend .. | .sigLoad .. | .quireFlush .. | .sigDiscard .. | .trjFcLoad ..
  | .trjFcRead .. | .lasHeadRestore .. | .gutReplayLoad .. | .gutStitchTable .. | .mpsRatioLoad .. | .mpsRatioRead .. | .loopInject ..
  | .loopCapture .. | .loopCaptureRead .. | .loopMapLoad .. | .ldgClear .. | .ldgRead .. | .ldgSnapshotLoad .. | .imgControl ..
  | .imgSnap .. | .imgToneLoad .. | .imgPortReset .. | .motMove .. | .motStop .. | .motSetPosition .. | .motFaultClear ..
  | .motStreamStart .. | .fbkSetCount .. | .emdFrameLoad .. | .emdLatch .. | .emdDark .. | .hlkLoopback .. | .memChannelMapout ..
  | .pairGutterTable .. | .pairWitnessGrant .. | .recRead .. | .recFreeze .. | .recUnfreeze .. | .recClear .. | .recBuildBegin ..
  | .recBuildEnd .. | .svcFwLoad .. | .svcFwSwitch .. | .svcFwCommit .. | .svcModeSet .. | .svcTrimRun .. | .svcTrimCapture ..
  | .svcTrimSet .. | .svcSelfTest .. | .opStatus .. | .sqTailWrite .. | .cqHeadWrite .. | .qp0CfgWrite .. | .pauseWrite ..
  | .bar0BadAccess .. | .dmaDoorbell .. | .dmaRingHeadWrite .. | .fenceTimeout .. | .cqEntryWrite .. | .moderationTimerExpire ..
  | .msixUnmask .. | .functionD0Return .. | .functionD3hotEntry .. | .functionReset .. | .sessionTimeout .. | .interlockClose ..
  | .intlkDiscrepancy .. | .witnessPin .. | .witnessTimeout .. | .islandSelfTestEnd .. | .fwStandbyReady .. | .fwQuiescentPoint ..
  | .fwCommitDone .. | .quireLoadStart .. | .signatureLoadEnd .. | .longSegmentFree .. | .slotBoundary .. | .loopDeadlineMiss ..
  | .sampleUp .. | .sampleMissing .. | .frameResult .. | .frameTruncated .. | .mpsFlushTimeout .. | .mpsRingWrite .. | .hostRingCopy ..
  | .blockLockLost .. | .blockLockHeld .. | .capDownSend .. | .capUp .. | .echoDownSend .. | .echoUp .. | .trainingTimeout ..
  | .loopbackEnd .. | .kettleFence .. | .kettleTimeout .. | .triggerDue .. | .kettleEnd .. | .recoatStart .. | .recoatEnd ..
  | .imageEnd .. | .frameTimeout .. | .stripeArrival .. | .cxpControlAck .. | .cxpControlTimeout .. | .cxpDiscovery ..
  | .cxpEventPacket .. | .moveInPosition .. | .positionReestablish .. | .motFaultPin .. | .syncInEdge .. | .sincosConversion ..
  | .quadEdge .. | .quadIndex .. | .ssiFrameEnd .. | .trimPeriod .. | .trimHandover .. | .trimHandback .. | .sweeperTick ..
  | .ldgReadoutCopy .. | .ldgSnapshotLoaded .. | .emdLatchDue .. | .emdRefreshLatch .. | .emdStatusPoll .. | .dmaDescriptorFetch ..
  | .dmaBurstEnd .. | .dmaDescriptorEnd .. | .dmaLinkReadReturn .. | .periphRequest .. | .periphWithdraw .. | .sourceLevelChange ..
  | .sourceTake .. | .eoiWrite .. | .routeWrite .. | .coreOnlineWrite .. | .swiWrite .. | .storeCorrectable .. | .scrubRead ..
  | .rowRepair .. | .dramCorrected .. | .refreshDue .. | .retrainPause .. | .neighbourRefresh .. | .rfmIssue .. | .refreshWindowClear ..
  | .migrationEnd .. | .ptpMessage .. | .timeHoldover .. | .refclkBad .. | .refclkGood .. | .pairCapRetry .. | .peerOffsetEchoTimer ..
  | .messageResend .. | .eventArrival .. | .freezeTimeout .. | .compactionEnd .. | .selfTestEnd .. | .svcLoopbackEnd .. | .peerLinkUp ..
  | .clkreqNAsserted .. | .ethPortLinkChange .. => true
  | _ => false

/-- The commands that leave the emission stage and the interlock as they are (04, 05). -/
def keepsEmitters : Instr → Bool
  | .devIdentify .. | .paramGet .. | .profileSelect .. | .profileCheck .. | .deviceReset .. | .cycleRun .. | .cyclePhase ..
  | .cycleRelease .. | .cycleStop .. | .queueCreate .. | .queueDelete .. | .streamFence .. | .nop .. | .keyLoad .. | .keyRetire ..
  | .counterRead .. | .quireAppend .. | .sigLoad .. | .quireFlush .. | .sigDiscard .. | .trjFcLoad .. | .trjFcRead .. | .gutReplayLoad ..
  | .gutStitchTable .. | .mpsRatioLoad .. | .mpsRatioRead .. | .loopInject .. | .loopCapture .. | .loopCaptureRead .. | .loopMapLoad ..
  | .ldgClear .. | .ldgRead .. | .ldgSnapshotLoad .. | .imgControl .. | .imgSnap .. | .imgToneLoad .. | .imgPortReset .. | .motMove ..
  | .motStop .. | .motSetPosition .. | .motFaultClear .. | .motStreamStart .. | .fbkSetCount .. | .emdFrameLoad .. | .emdLatch ..
  | .emdDark .. | .hlkLoopback .. | .memChannelMapout .. | .pairGutterTable .. | .pairWitnessGrant .. | .recRead .. | .recFreeze ..
  | .recUnfreeze .. | .recClear .. | .recBuildBegin .. | .recBuildEnd .. | .svcFwLoad .. | .svcFwSwitch .. | .svcFwCommit ..
  | .svcModeSet .. | .svcTrimRun .. | .svcTrimCapture .. | .svcTrimSet .. | .svcSelfTest .. | .opStatus .. | .sqTailWrite ..
  | .cqHeadWrite .. | .qp0CfgWrite .. | .pauseWrite .. | .bar0BadAccess .. | .dmaDoorbell .. | .dmaRingHeadWrite .. | .fenceTimeout ..
  | .cqEntryWrite .. | .moderationTimerExpire .. | .msixUnmask .. | .functionD0Return .. | .functionD3hotEntry .. | .functionReset ..
  | .sessionTimeout .. | .witnessPin .. | .witnessTimeout .. | .islandSelfTestEnd .. | .fwStandbyReady .. | .fwQuiescentPoint ..
  | .fwCommitDone .. | .quireLoadStart .. | .signatureLoadEnd .. | .longSegmentFree .. | .loopDeadlineMiss .. | .sampleUp ..
  | .sampleMissing .. | .frameResult .. | .frameTruncated .. | .mpsFlushTimeout .. | .mpsRingWrite .. | .hostRingCopy ..
  | .blockLockLost .. | .blockLockHeld .. | .capDownSend .. | .capUp .. | .echoDownSend .. | .echoUp .. | .trainingTimeout ..
  | .loopbackEnd .. | .kettleFence .. | .kettleTimeout .. | .triggerDue .. | .kettleEnd .. | .recoatStart .. | .recoatEnd ..
  | .imageEnd .. | .frameTimeout .. | .stripeArrival .. | .cxpControlAck .. | .cxpControlTimeout .. | .cxpDiscovery ..
  | .cxpEventPacket .. | .moveInPosition .. | .positionReestablish .. | .motFaultPin .. | .syncInEdge .. | .sincosConversion ..
  | .quadEdge .. | .quadIndex .. | .ssiFrameEnd .. | .trimPeriod .. | .trimHandover .. | .trimHandback .. | .sweeperTick ..
  | .ldgReadoutCopy .. | .ldgSnapshotLoaded .. | .emdLatchDue .. | .emdRefreshLatch .. | .emdStatusPoll .. | .dmaDescriptorFetch ..
  | .dmaBurstEnd .. | .dmaDescriptorEnd .. | .dmaLinkReadReturn .. | .periphRequest .. | .periphWithdraw .. | .sourceLevelChange ..
  | .sourceTake .. | .eoiWrite .. | .routeWrite .. | .coreOnlineWrite .. | .swiWrite .. | .storeCorrectable .. | .scrubRead ..
  | .rowRepair .. | .dramCorrected .. | .refreshDue .. | .retrainPause .. | .neighbourRefresh .. | .rfmIssue .. | .refreshWindowClear ..
  | .migrationEnd .. | .ptpMessage .. | .timeHoldover .. | .refclkBad .. | .refclkGood .. | .pairCapRetry .. | .peerOffsetEchoTimer ..
  | .messageResend .. | .eventArrival .. | .freezeTimeout .. | .compactionEnd .. | .selfTestEnd .. | .svcLoopbackEnd .. | .peerLinkUp ..
  | .clkreqNAsserted .. | .ethPortLinkChange .. => true
  | _ => false

/-- The commands that leave the motion loops as they are (09). -/
def keepsMotion : Instr → Bool
  | .devIdentify .. | .paramGet .. | .profileSelect .. | .profileCheck .. | .standbyEnter .. | .arm .. | .recover .. | .recoveryExit ..
  | .serviceEnter .. | .deviceReset .. | .cycleRun .. | .cycleStop .. | .queueCreate .. | .queueDelete .. | .streamFence .. | .nop ..
  | .keyLoad .. | .keyRetire .. | .counterRead .. | .quireAppend .. | .sigLoad .. | .quireFlush .. | .sigDiscard .. | .trjFcLoad ..
  | .trjFcRead .. | .lasHeadRestore .. | .gutReplayLoad .. | .gutStitchTable .. | .mpsRatioLoad .. | .mpsRatioRead .. | .loopInject ..
  | .loopCapture .. | .loopCaptureRead .. | .loopMapLoad .. | .ldgClear .. | .ldgRead .. | .ldgSnapshotLoad .. | .imgControl ..
  | .imgSnap .. | .imgToneLoad .. | .imgPortReset .. | .emdFrameLoad .. | .emdLatch .. | .emdDark .. | .hlkRetrain .. | .hlkLoopback ..
  | .memChannelMapout .. | .pairGutterTable .. | .pairWitnessGrant .. | .recRead .. | .recFreeze .. | .recUnfreeze .. | .recClear ..
  | .recBuildBegin .. | .recBuildEnd .. | .svcFwLoad .. | .svcFwSwitch .. | .svcFwCommit .. | .svcModeSet .. | .svcTrimRun ..
  | .svcTrimCapture .. | .svcTrimSet .. | .svcLoopback .. | .svcSelfTest .. | .opStatus .. | .opRetrain .. | .sqTailWrite ..
  | .cqHeadWrite .. | .qp0CfgWrite .. | .pauseWrite .. | .bar0BadAccess .. | .dmaDoorbell .. | .dmaRingHeadWrite .. | .fenceTimeout ..
  | .cqEntryWrite .. | .moderationTimerExpire .. | .msixUnmask .. | .functionD0Return .. | .functionD3hotEntry .. | .functionReset ..
  | .sessionTimeout .. | .interlockClose .. | .intlkDiscrepancy .. | .witnessPin .. | .witnessTimeout .. | .islandSelfTestEnd ..
  | .fwStandbyReady .. | .fwQuiescentPoint .. | .fwCommitDone .. | .quireLoadStart .. | .signatureLoadEnd .. | .longSegmentFree ..
  | .exposeStart .. | .slotBoundary .. | .loopDeadlineMiss .. | .sampleUp .. | .sampleMissing .. | .frameResult .. | .frameTruncated ..
  | .mpsFlushTimeout .. | .mpsRingWrite .. | .hostRingCopy .. | .linkLoss .. | .cfgAckTimeout .. | .blockLockLost .. | .blockLockHeld ..
  | .capDownSend .. | .capUp .. | .echoDownSend .. | .echoUp .. | .trainingTimeout .. | .loopbackEnd .. | .kettleFence ..
  | .kettleTimeout .. | .triggerDue .. | .kettleEnd .. | .recoatStart .. | .recoatEnd .. | .imageEnd .. | .frameTimeout ..
  | .stripeArrival .. | .cxpControlAck .. | .cxpControlTimeout .. | .cxpDiscovery .. | .cxpEventPacket .. | .trimPeriod ..
  | .sweeperTick .. | .ldgReadoutCopy .. | .ldgSnapshotLoaded .. | .emdLatchDue .. | .emdRefreshLatch .. | .emdStatusPoll ..
  | .dmaDescriptorFetch .. | .dmaBurstEnd .. | .dmaDescriptorEnd .. | .dmaLinkReadReturn .. | .periphRequest .. | .periphWithdraw ..
  | .sourceLevelChange .. | .sourceTake .. | .eoiWrite .. | .routeWrite .. | .coreOnlineWrite .. | .swiWrite .. | .storeCorrectable ..
  | .scrubRead .. | .rowRepair .. | .dramCorrected .. | .refreshDue .. | .retrainPause .. | .neighbourRefresh .. | .rfmIssue ..
  | .refreshWindowClear .. | .migrationEnd .. | .ptpMessage .. | .timeHoldover .. | .refclkBad .. | .refclkGood .. | .pairCapRetry ..
  | .peerOffsetEchoTimer .. | .peerSlot .. | .messageResend .. | .peerLinkDown .. | .eventArrival .. | .freezeTimeout ..
  | .compactionEnd .. | .selfTestEnd .. | .svcLoopbackEnd .. | .peerLinkUp .. | .clkreqNAsserted .. | .ethPortLinkChange .. => true
  | _ => false

/-- The commands that leave the imaging ports as they are (08). -/
def keepsImaging : Instr → Bool
  | .devIdentify .. | .profileSelect .. | .profileCheck .. | .standbyEnter .. | .arm .. | .hold .. | .recover .. | .recoveryExit ..
  | .serviceEnter .. | .deviceReset .. | .cycleRun .. | .cycleStop .. | .queueCreate .. | .queueDelete .. | .streamFence .. | .nop ..
  | .keyLoad .. | .keyRetire .. | .counterRead .. | .quireAppend .. | .sigLoad .. | .quireFlush .. | .sigDiscard .. | .trjFcLoad ..
  | .trjFcRead .. | .lasHeadRestore .. | .gutReplayLoad .. | .gutStitchTable .. | .mpsRatioLoad .. | .mpsRatioRead .. | .loopInject ..
  | .loopCapture .. | .loopCaptureRead .. | .loopMapLoad .. | .ldgClear .. | .ldgRead .. | .ldgSnapshotLoad .. | .motMove ..
  | .motStop .. | .motSetPosition .. | .motFaultClear .. | .motStreamStart .. | .fbkSetCount .. | .emdFrameLoad .. | .emdLatch ..
  | .emdDark .. | .hlkRetrain .. | .hlkLoopback .. | .memChannelMapout .. | .pairGutterTable .. | .pairWitnessGrant .. | .recRead ..
  | .recFreeze .. | .recUnfreeze .. | .recClear .. | .recBuildBegin .. | .recBuildEnd .. | .svcFwLoad .. | .svcFwSwitch ..
  | .svcFwCommit .. | .svcModeSet .. | .svcTrimRun .. | .svcTrimCapture .. | .svcTrimSet .. | .svcSelfTest .. | .opStatus ..
  | .opRetrain .. | .sqTailWrite .. | .cqHeadWrite .. | .qp0CfgWrite .. | .pauseWrite .. | .bar0BadAccess .. | .dmaDoorbell ..
  | .dmaRingHeadWrite .. | .fenceTimeout .. | .cqEntryWrite .. | .moderationTimerExpire .. | .msixUnmask .. | .functionD0Return ..
  | .functionD3hotEntry .. | .functionReset .. | .sessionTimeout .. | .interlockOpen .. | .interlockClose .. | .intlkDiscrepancy ..
  | .witnessPin .. | .witnessTimeout .. | .fwStandbyReady .. | .fwQuiescentPoint .. | .fwCommitDone .. | .quireLoadStart ..
  | .signatureLoadEnd .. | .longSegmentFree .. | .loopDeadlineMiss .. | .sampleUp .. | .sampleMissing .. | .frameResult ..
  | .frameTruncated .. | .mpsFlushTimeout .. | .mpsRingWrite .. | .hostRingCopy .. | .linkLoss .. | .cfgAckTimeout .. | .blockLockLost ..
  | .blockLockHeld .. | .capDownSend .. | .capUp .. | .echoDownSend .. | .echoUp .. | .trainingTimeout .. | .loopbackEnd ..
  | .kettleFence .. | .kettleTimeout .. | .kettleEnd .. | .recoatStart .. | .recoatEnd .. | .imageEnd .. | .moveInPosition ..
  | .positionReestablish .. | .motFaultPin .. | .syncInEdge .. | .sincosConversion .. | .quadEdge .. | .quadIndex .. | .ssiFrameEnd ..
  | .trimPeriod .. | .trimHandover .. | .trimHandback .. | .sweeperTick .. | .ldgReadoutCopy .. | .ldgSnapshotLoaded .. | .emdLatchDue ..
  | .emdRefreshLatch .. | .emdStatusPoll .. | .dmaDescriptorFetch .. | .dmaBurstEnd .. | .dmaDescriptorEnd .. | .dmaLinkReadReturn ..
  | .periphRequest .. | .periphWithdraw .. | .sourceLevelChange .. | .sourceTake .. | .eoiWrite .. | .routeWrite .. | .coreOnlineWrite ..
  | .swiWrite .. | .storeCorrectable .. | .scrubRead .. | .rowRepair .. | .dramCorrected .. | .refreshDue .. | .retrainPause ..
  | .neighbourRefresh .. | .rfmIssue .. | .refreshWindowClear .. | .migrationEnd .. | .ptpMessage .. | .timeHoldover .. | .refclkBad ..
  | .refclkGood .. | .pairCapRetry .. | .peerOffsetEchoTimer .. | .peerSlot .. | .messageResend .. | .peerLinkDown .. | .eventArrival ..
  | .freezeTimeout .. | .compactionEnd .. | .selfTestEnd .. | .peerLinkUp .. | .clkreqNAsserted .. | .ethPortLinkChange .. => true
  | _ => false

/-- The commands that store nothing to DRAM (17). -/
def keepsDram : Instr → Bool
  | .devIdentify .. | .paramGet .. | .profileSelect .. | .profileCheck .. | .standbyEnter .. | .arm .. | .recover .. | .recoveryExit ..
  | .serviceEnter .. | .deviceReset .. | .cycleRun .. | .cyclePhase .. | .cycleRelease .. | .cycleStop .. | .queueCreate ..
  | .queueDelete .. | .nop .. | .keyLoad .. | .keyRetire .. | .counterRead .. | .quireAppend .. | .sigLoad .. | .quireFlush ..
  | .sigDiscard .. | .trjFcLoad .. | .trjFcRead .. | .lasHeadRestore .. | .gutReplayLoad .. | .gutStitchTable .. | .mpsRatioLoad ..
  | .mpsRatioRead .. | .loopInject .. | .loopCapture .. | .loopCaptureRead .. | .loopMapLoad .. | .ldgClear .. | .ldgRead ..
  | .ldgSnapshotLoad .. | .imgControl .. | .imgSnap .. | .imgToneLoad .. | .imgPortReset .. | .motMove .. | .motStop ..
  | .motSetPosition .. | .motFaultClear .. | .motStreamStart .. | .fbkSetCount .. | .emdFrameLoad .. | .emdLatch .. | .emdDark ..
  | .hlkLoopback .. | .memChannelMapout .. | .pairGutterTable .. | .pairWitnessGrant .. | .recFreeze .. | .recUnfreeze .. | .recClear ..
  | .svcFwLoad .. | .svcFwSwitch .. | .svcFwCommit .. | .svcModeSet .. | .svcTrimRun .. | .svcTrimCapture .. | .svcTrimSet ..
  | .svcLoopback .. | .svcSelfTest .. | .opStatus .. | .sqTailWrite .. | .cqHeadWrite .. | .qp0CfgWrite .. | .pauseWrite ..
  | .bar0BadAccess .. | .dmaDoorbell .. | .dmaRingHeadWrite .. | .fenceTimeout .. | .cqEntryWrite .. | .moderationTimerExpire ..
  | .msixUnmask .. | .functionD0Return .. | .functionD3hotEntry .. | .functionReset .. | .sessionTimeout .. | .interlockClose ..
  | .intlkDiscrepancy .. | .witnessPin .. | .witnessTimeout .. | .islandSelfTestEnd .. | .fwStandbyReady .. | .fwQuiescentPoint ..
  | .fwCommitDone .. | .quireLoadStart .. | .signatureLoadEnd .. | .longSegmentFree .. | .exposeStart .. | .slotBoundary ..
  | .loopDeadlineMiss .. | .sampleUp .. | .sampleMissing .. | .frameResult .. | .frameTruncated .. | .mpsFlushTimeout ..
  | .mpsRingWrite .. | .hostRingCopy .. | .blockLockLost .. | .blockLockHeld .. | .capDownSend .. | .capUp .. | .echoDownSend ..
  | .echoUp .. | .trainingTimeout .. | .loopbackEnd .. | .kettleFence .. | .kettleTimeout .. | .triggerDue .. | .kettleEnd ..
  | .recoatStart .. | .recoatEnd .. | .imageEnd .. | .stripeArrival .. | .cxpControlTimeout .. | .cxpDiscovery .. | .cxpEventPacket ..
  | .moveInPosition .. | .positionReestablish .. | .motFaultPin .. | .syncInEdge .. | .sincosConversion .. | .quadEdge .. | .quadIndex ..
  | .ssiFrameEnd .. | .trimPeriod .. | .trimHandover .. | .trimHandback .. | .sweeperTick .. | .ldgReadoutCopy .. | .ldgSnapshotLoaded ..
  | .emdRefreshLatch .. | .dmaDescriptorFetch .. | .dmaDescriptorEnd .. | .dmaLinkReadReturn .. | .periphRequest ..
  | .sourceLevelChange .. | .sourceTake .. | .eoiWrite .. | .routeWrite .. | .coreOnlineWrite .. | .swiWrite .. | .storeCorrectable ..
  | .scrubRead .. | .rowRepair .. | .dramCorrected .. | .refreshDue .. | .retrainPause .. | .neighbourRefresh .. | .rfmIssue ..
  | .refreshWindowClear .. | .migrationEnd .. | .ptpMessage .. | .timeHoldover .. | .refclkBad .. | .refclkGood .. | .pairCapRetry ..
  | .peerOffsetEchoTimer .. | .messageResend .. | .freezeTimeout .. | .compactionEnd .. | .selfTestEnd .. | .svcLoopbackEnd ..
  | .peerLinkUp .. | .clkreqNAsserted .. | .ethPortLinkChange .. => true
  | _ => false

/-- The commands that store nothing to flash (19). -/
def keepsFlash : Instr → Bool
  | .devIdentify .. | .paramGet .. | .profileSelect .. | .profileCheck .. | .standbyEnter .. | .arm .. | .hold .. | .safeRequest ..
  | .recover .. | .recoveryExit .. | .serviceEnter .. | .deviceReset .. | .cycleRun .. | .cyclePhase .. | .cycleRelease ..
  | .cycleStop .. | .queueCreate .. | .queueDelete .. | .streamFence .. | .nop .. | .keyLoad .. | .keyRetire .. | .counterRead ..
  | .quireAppend .. | .sigLoad .. | .quireFlush .. | .sigDiscard .. | .trjFcLoad .. | .trjFcRead .. | .lasHeadRestore ..
  | .gutReplayLoad .. | .gutStitchTable .. | .mpsRatioLoad .. | .mpsRatioRead .. | .loopInject .. | .loopCapture .. | .loopCaptureRead ..
  | .loopMapLoad .. | .ldgClear .. | .ldgRead .. | .ldgSnapshotLoad .. | .imgControl .. | .imgSnap .. | .imgToneLoad ..
  | .imgPortReset .. | .motMove .. | .motStop .. | .motSetPosition .. | .motFaultClear .. | .motStreamStart .. | .fbkSetCount ..
  | .emdFrameLoad .. | .emdLatch .. | .emdDark .. | .hlkRetrain .. | .hlkLoopback .. | .memChannelMapout .. | .pairGutterTable ..
  | .pairWitnessGrant .. | .recRead .. | .recFreeze .. | .recUnfreeze .. | .recClear .. | .recBuildBegin .. | .recBuildEnd ..
  | .svcFwLoad .. | .svcFwSwitch .. | .svcFwCommit .. | .svcModeSet .. | .svcTrimRun .. | .svcTrimCapture .. | .svcTrimSet ..
  | .svcSelfTest .. | .opStatus .. | .opRetrain .. | .sqTailWrite .. | .cqHeadWrite .. | .qp0CfgWrite .. | .pauseWrite ..
  | .bar0BadAccess .. | .dmaDoorbell .. | .dmaRingHeadWrite .. | .fenceTimeout .. | .cqEntryWrite .. | .moderationTimerExpire ..
  | .msixUnmask .. | .functionD0Return .. | .functionD3hotEntry .. | .functionReset .. | .sessionTimeout .. | .supplyWarning ..
  | .pwrfailAssert .. | .junctionOver115 .. | .interlockOpen .. | .interlockClose .. | .intlkDiscrepancy .. | .witnessPin ..
  | .witnessTimeout .. | .islandFault .. | .islandSelfTestEnd .. | .fwStandbyReady .. | .fwQuiescentPoint .. | .quireLoadStart ..
  | .signatureLoadEnd .. | .longSegmentFree .. | .loopDeadlineMiss .. | .sampleMissing .. | .frameResult .. | .frameTruncated ..
  | .mpsFlushTimeout .. | .mpsRingWrite .. | .hostRingCopy .. | .linkLoss .. | .cfgAckTimeout .. | .blockLockLost .. | .blockLockHeld ..
  | .capDownSend .. | .capUp .. | .echoDownSend .. | .echoUp .. | .trainingTimeout .. | .loopbackEnd .. | .kettleTimeout ..
  | .triggerDue .. | .kettleEnd .. | .recoatStart .. | .recoatEnd .. | .frameTimeout .. | .stripeArrival .. | .cxpControlAck ..
  | .cxpControlTimeout .. | .cxpDiscovery .. | .cxpEventPacket .. | .moveInPosition .. | .positionReestablish .. | .motFaultPin ..
  | .syncInEdge .. | .sincosConversion .. | .quadEdge .. | .quadIndex .. | .ssiFrameEnd .. | .trimPeriod .. | .trimHandover ..
  | .trimHandback .. | .sweeperTick .. | .ldgReadoutCopy .. | .ldgSnapshotLoaded .. | .emdLatchDue .. | .emdRefreshLatch ..
  | .emdStatusPoll .. | .dmaDescriptorFetch .. | .dmaBurstEnd .. | .dmaDescriptorEnd .. | .dmaLinkReadReturn .. | .periphRequest ..
  | .periphWithdraw .. | .sourceLevelChange .. | .sourceTake .. | .eoiWrite .. | .routeWrite .. | .coreOnlineWrite .. | .swiWrite ..
  | .storeUncorrectable .. | .storeCorrectable .. | .scrubRead .. | .rowRepair .. | .dramCorrected .. | .refreshDue .. | .retrainPause ..
  | .neighbourRefresh .. | .rfmIssue .. | .refreshWindowClear .. | .migrationEnd .. | .timeHoldover .. | .refclkBad .. | .refclkGood ..
  | .pairCapRetry .. | .peerOffsetEchoTimer .. | .peerSlot .. | .messageResend .. | .peerLinkDown .. | .eventArrival ..
  | .freezeTimeout .. | .selfTestEnd .. | .svcLoopbackEnd .. | .peerLinkUp .. | .clkreqNAsserted .. | .ethPortLinkChange .. => true
  | _ => false

end Sys2Proof.Machine
end

