-- ==== Sys2Proof/WellFormed.lean ====
section
/-! DEFINITION. What a command of the table may carry: the field widths of a packet and the index ranges of events. -/

namespace Sys2Proof

/-- A command packet's DT and fields lie within the widths of R14, Table 14.10, Table 14.8 and Table 14.11. -/
def Packet.wf (p : Packet) : Bool :=
  decide (p.t < 2 ^ 64 ∧ p.version < 256 ∧ p.flags < 256 ∧ p.length < 65536 ∧ p.tag < 65536 ∧ p.scope < 65536 ∧ p.zero < 2 ^ 48 ∧
    p.resultSize < 2 ^ 32 ∧ p.resultAddr < 2 ^ 64) &&
  (match p.origin with | .qp n => decide (n < 64) | .session n => decide (n < 16)) &&
  (match p.trailer with
   | none => true
   | some t => decide (t.slot < 256 ∧ t.zero < 2 ^ 56 ∧ t.counter < 2 ^ 64 ∧ t.mac.length = 16))

/-- The packet or the operands of a command lie within their ranges: DT in 64 bits (R14), heads, ports, axes, channels, buses,
slots, rails, islands and registers by their tables. -/
def Instr.wf : Instr → Bool
  | .devIdentify p => p.wf
  | .paramGet p => p.wf
  | .paramSet p => p.wf
  | .profileSelect p => p.wf
  | .profileCheck p => p.wf
  | .readyEnter p => p.wf
  | .standbyEnter p => p.wf
  | .arm p => p.wf
  | .disarm p => p.wf
  | .hold p => p.wf
  | .resume p => p.wf
  | .safeRequest p => p.wf
  | .recover p => p.wf
  | .recoveryExit p => p.wf
  | .serviceEnter p => p.wf
  | .deviceReset p => p.wf
  | .deviceResetDelayEnd t => decide (t < 2 ^ 64)
  | .cycleRun p => p.wf
  | .cyclePhase p => p.wf
  | .cycleRelease p => p.wf
  | .cycleStop p => p.wf
  | .queueCreate p => p.wf
  | .queueDelete p => p.wf
  | .streamFence p => p.wf
  | .nop p => p.wf
  | .keyLoad p => p.wf
  | .keyRetire p => p.wf
  | .counterRead p => p.wf
  | .quireAppend p => p.wf
  | .sigLoad p => p.wf
  | .quireFlush p => p.wf
  | .sigDiscard p => p.wf
  | .trjFcLoad p => p.wf
  | .trjFcRead p => p.wf
  | .lasHeadRestore p => p.wf
  | .gutReplayLoad p => p.wf
  | .gutStitchTable p => p.wf
  | .mpsRatioLoad p => p.wf
  | .mpsRatioRead p => p.wf
  | .loopInject p => p.wf
  | .loopCapture p => p.wf
  | .loopCaptureRead p => p.wf
  | .loopMapLoad p => p.wf
  | .ldgClear p => p.wf
  | .ldgRead p => p.wf
  | .ldgSnapshotLoad p => p.wf
  | .imgControl p => p.wf
  | .imgSnap p => p.wf
  | .imgToneLoad p => p.wf
  | .imgPortReset p => p.wf
  | .motMove p => p.wf
  | .motStop p => p.wf
  | .motSetPosition p => p.wf
  | .motFaultClear p => p.wf
  | .motStreamStart p => p.wf
  | .fbkSetCount p => p.wf
  | .emdFrameLoad p => p.wf
  | .emdLatch p => p.wf
  | .emdDark p => p.wf
  | .hlkRetrain p => p.wf
  | .hlkLoopback p => p.wf
  | .dmaStop p => p.wf
  | .dmaRetry p => p.wf
  | .dmaSkip p => p.wf
  | .memChannelMapout p => p.wf
  | .pairGutterTable p => p.wf
  | .pairWitnessGrant p => p.wf
  | .recRead p => p.wf
  | .recFreeze p => p.wf
  | .recUnfreeze p => p.wf
  | .recClear p => p.wf
  | .recBuildBegin p => p.wf
  | .recBuildEnd p => p.wf
  | .svcFwLoad p => p.wf
  | .svcFwSwitch p => p.wf
  | .svcFwCommit p => p.wf
  | .svcModeSet p => p.wf
  | .svcTrimRun p => p.wf
  | .svcTrimCapture p => p.wf
  | .svcTrimSet p => p.wf
  | .svcLoopback p => p.wf
  | .svcSelfTest p => p.wf
  | .opStatus p => p.wf
  | .opArm p => p.wf
  | .opDisarm p => p.wf
  | .opPause p => p.wf
  | .opContinue p => p.wf
  | .opAbort p => p.wf
  | .opRun p => p.wf
  | .opFence p => p.wf
  | .opLoadLayer p => p.wf
  | .opFlush p => p.wf
  | .opSetJump p => p.wf
  | .opSetDelays p => p.wf
  | .opSetPowerLimit p => p.wf
  | .opHeadReset p => p.wf
  | .opMoveAxis p => p.wf
  | .opRetrain p => p.wf
  | .sigLongWrite p => p.wf
  | .lasPowerMaxWrite p => p.wf
  | .lasEmitMaskWrite p => p.wf
  | .ldgOriginWrite p => p.wf
  | .ringParamWrite p => p.wf
  | .streamReadWrite (.bar0 t s v) => decide (t < 2 ^ 64 ∧ s < 5 ∧ v < 2 ^ 64)
  | .streamReadWrite (.param p) => p.wf
  | .loopFlagsClear p => p.wf
  | .motDecelWrite p => p.wf
  | .motJerkWrite p => p.wf
  | .motLimitsWrite p => p.wf
  | .fbkChannelCfgWrite p => p.wf
  | .fbkDividerWrite p => p.wf
  | .fbkSpareModeWrite p => p.wf
  | .imgPortCfgWrite p => p.wf
  | .imgSettingsWrite p => p.wf
  | .imgOutRelease p => p.wf
  | .emdBusCfgWrite p => p.wf
  | .emdLevelsWrite p => p.wf
  | .hlkPortCfgWrite p => p.wf
  | .netPortCfgWrite p => p.wf
  | .pairRoleWrite p => p.wf
  | .dmaChannelCfgWrite p => p.wf
  | .sqTailWrite t qp v => decide (t < 2 ^ 64 ∧ qp < 64 ∧ v < 2 ^ 32)
  | .cqHeadWrite t qp v => decide (t < 2 ^ 64 ∧ qp < 64 ∧ v < 2 ^ 32)
  | .qp0CfgWrite t (.mod n) v => decide (t < 2 ^ 64 ∧ n < 64 ∧ v < 2 ^ 32)
  | .qp0CfgWrite t _ v => decide (t < 2 ^ 64 ∧ v < 2 ^ 64)
  | .pauseWrite t v => decide (t < 2 ^ 64 ∧ v < 2 ^ 32)
  | .bar0BadAccess t offset _ _ => decide (t < 2 ^ 64 ∧ offset < 2 ^ 16)
  | .dmaDoorbell t c w => decide (t < 2 ^ 64 ∧ c < 16 ∧ w < 2 ^ 32)
  | .dmaRingHeadWrite t c v => decide (t < 2 ^ 64 ∧ c < 16 ∧ v < 2 ^ 32)
  | .sqFetch t _ _ => decide (t < 2 ^ 64)
  | .leaseCommit t slot _ => decide (t < 2 ^ 64 ∧ slot < 8)
  | .fenceRelease t _ => decide (t < 2 ^ 64)
  | .fenceTimeout t _ => decide (t < 2 ^ 64)
  | .cqEntryWrite t qp => decide (t < 2 ^ 64 ∧ qp < 64)
  | .moderationTimerExpire t v => decide (t < 2 ^ 64 ∧ v < 64)
  | .msixUnmask t (.entry v addr data _) => decide (t < 2 ^ 64 ∧ v < 64 ∧ addr < 2 ^ 64 ∧ data < 2 ^ 32)
  | .msixUnmask t (.control _ _) => decide (t < 2 ^ 64)
  | .functionD0Return t => decide (t < 2 ^ 64)
  | .functionD3hotEntry t _ _ => decide (t < 2 ^ 64)
  | .functionReset t => decide (t < 2 ^ 64)
  | .udpDatagram t port src srcPort dstPort _ _ => decide (t < 2 ^ 64 ∧ port < 4 ∧ src < 2 ^ 128 ∧ srcPort < 2 ^ 16 ∧ dstPort < 2 ^ 16)
  | .sessionTimeout t index => decide (t < 2 ^ 64 ∧ index < 16)
  | .railsInWindow t => decide (t < 2 ^ 64)
  | .railOutOfWindow t rail => decide (t < 2 ^ 64 ∧ rail < 8)
  | .supplyWarning t rail => decide (t < 2 ^ 64 ∧ rail < 8)
  | .pwrfailAssert t _ => decide (t < 2 ^ 64)
  | .resetPin t _ => decide (t < 2 ^ 64)
  | .junctionOver115 t die _ => decide (t < 2 ^ 64 ∧ die < 3)
  | .junctionOver125 t die _ => decide (t < 2 ^ 64 ∧ die < 3)
  | .watchdogReset t => decide (t < 2 ^ 64)
  | .resetRelease t b => decide (t < 2 ^ 64 ∧ b.tEnd < 2 ^ 64 ∧ b.temp.length = 3)
  | .interlockOpen t ch => decide (t < 2 ^ 64 ∧ ch < 2)
  | .interlockClose t ch => decide (t < 2 ^ 64 ∧ ch < 2)
  | .intlkDiscrepancy t => decide (t < 2 ^ 64)
  | .witnessPin t => decide (t < 2 ^ 64)
  | .witnessTimeout t => decide (t < 2 ^ 64)
  | .islandFault t island set => decide (t < 2 ^ 64 ∧ island < 45 ∧ set < 2)
  | .islandSelfTestEnd t island _ => decide (t < 2 ^ 64 ∧ island < 45)
  | .fwStandbyReady t => decide (t < 2 ^ 64)
  | .fwQuiescentPoint t _ => decide (t < 2 ^ 64)
  | .fwCommitDone t _ => decide (t < 2 ^ 64)
  | .quireLoadStart t => decide (t < 2 ^ 64)
  | .signatureLoadEnd t => decide (t < 2 ^ 64)
  | .longSegmentFree t => decide (t < 2 ^ 64)
  | .exposeStart t => decide (t < 2 ^ 64)
  | .slotBoundary t => decide (t < 2 ^ 64)
  | .loopDeadlineMiss t l => decide (t < 2 ^ 64 ∧ l < 256)
  | .sampleUp t h _ => decide (t < 2 ^ 64 ∧ h < 32)
  | .sampleMissing t h _ => decide (t < 2 ^ 64 ∧ h < 32)
  | .frameResult t h => decide (t < 2 ^ 64 ∧ h < 32)
  | .frameTruncated t h => decide (t < 2 ^ 64 ∧ h < 32)
  | .mpsFlushTimeout t => decide (t < 2 ^ 64)
  | .mpsRingWrite t => decide (t < 2 ^ 64)
  | .hostRingCopy t i => decide (t < 2 ^ 64 ∧ i < 5)
  | .linkLoss t h _ => decide (t < 2 ^ 64 ∧ h < 32)
  | .cfgAckTimeout t h => decide (t < 2 ^ 64 ∧ h < 32)
  | .blockLockLost t h => decide (t < 2 ^ 64 ∧ h < 32)
  | .blockLockHeld t h => decide (t < 2 ^ 64 ∧ h < 32)
  | .capDownSend t h => decide (t < 2 ^ 64 ∧ h < 32)
  | .capUp t h _ => decide (t < 2 ^ 64 ∧ h < 32)
  | .echoDownSend t h => decide (t < 2 ^ 64 ∧ h < 32)
  | .echoUp t h _ => decide (t < 2 ^ 64 ∧ h < 32)
  | .trainingTimeout t h => decide (t < 2 ^ 64 ∧ h < 32)
  | .loopbackEnd t h _ _ => decide (t < 2 ^ 64 ∧ h < 32)
  | .kettleFence t => decide (t < 2 ^ 64)
  | .kettleTimeout t => decide (t < 2 ^ 64)
  | .triggerDue t p => decide (t < 2 ^ 64 ∧ p < 8)
  | .kettleEnd t => decide (t < 2 ^ 64)
  | .recoatStart t => decide (t < 2 ^ 64)
  | .recoatEnd t => decide (t < 2 ^ 64)
  | .imageEnd t => decide (t < 2 ^ 64)
  | .frameTimeout t p => decide (t < 2 ^ 64 ∧ p < 8)
  | .cxpSof t p _ w _ => decide (t < 2 ^ 64 ∧ p < 8 ∧ w < 2 ^ 32)
  | .stripeArrival t p => decide (t < 2 ^ 64 ∧ p < 8)
  | .stripeReturn t p => decide (t < 2 ^ 64 ∧ p < 8)
  | .pipelineStripeDone t => decide (t < 2 ^ 64)
  | .cxpControlAck t p _ _ _ => decide (t < 2 ^ 64 ∧ p < 8)
  | .cxpControlTimeout t p => decide (t < 2 ^ 64 ∧ p < 8)
  | .cxpDiscovery t p _ _ => decide (t < 2 ^ 64 ∧ p < 8)
  | .cxpLinkLoss t p => decide (t < 2 ^ 64 ∧ p < 8)
  | .cxpEventPacket t p _ => decide (t < 2 ^ 64 ∧ p < 8)
  | .cxpHeartbeat t => decide (t < 2 ^ 64)
  | .axisTick t => decide (t < 2 ^ 64)
  | .moveInPosition t a => decide (t < 2 ^ 64 ∧ a < 8)
  | .positionReestablish t a => decide (t < 2 ^ 64 ∧ a < 8)
  | .motFaultPin t a _ => decide (t < 2 ^ 64 ∧ a < 8)
  | .syncInEdge t i => decide (t < 2 ^ 64 ∧ i < 2)
  | .sincosConversion t c sc cc => decide (t < 2 ^ 64 ∧ c < 9 ∧ sc < 2 ^ 16 ∧ cc < 2 ^ 16)
  | .quadEdge t c _ _ => decide (t < 2 ^ 64 ∧ c < 9)
  | .quadIndex t c => decide (t < 2 ^ 64 ∧ c < 9)
  | .ssiFrameEnd t c _ _ _ _ => decide (t < 2 ^ 64 ∧ c < 9)
  | .trimPeriod t => decide (t < 2 ^ 64)
  | .trimHandover t _ _ => decide (t < 2 ^ 64)
  | .trimFit t _ => decide (t < 2 ^ 64)
  | .trimHandback t _ _ => decide (t < 2 ^ 64)
  | .sweeperTick t => decide (t < 2 ^ 64)
  | .ldgReadoutCopy t _ => decide (t < 2 ^ 64)
  | .ldgSnapshotLoaded t => decide (t < 2 ^ 64)
  | .emdLatchDue t b => decide (t < 2 ^ 64 ∧ b < 4)
  | .emdRefreshLatch t b => decide (t < 2 ^ 64 ∧ b < 4)
  | .emdTransferEnd t b _ => decide (t < 2 ^ 64 ∧ b < 4)
  | .emdStatusPoll t b d _ => decide (t < 2 ^ 64 ∧ b < 4 ∧ d < 16)
  | .dmaDescriptorFetch t c _ => decide (t < 2 ^ 64 ∧ c < 16)
  | .dmaBurstEnd t c _ _ => decide (t < 2 ^ 64 ∧ c < 16)
  | .dmaDescriptorEnd t c => decide (t < 2 ^ 64 ∧ c < 16)
  | .dmaLinkReadReturn t c w => decide (t < 2 ^ 64 ∧ c < 16 ∧ w < 2 ^ 32)
  | .dmaReadFailed t c => decide (t < 2 ^ 64 ∧ c < 16)
  | .periphRequest t e => decide (t < 2 ^ 64 ∧ e < 4)
  | .periphWithdraw t e c _ _ => decide (t < 2 ^ 64 ∧ e < 4 ∧ c < 16)
  | .sourceLevelChange t n _ => decide (t < 2 ^ 64 ∧ n < 256)
  | .sourceTake t c _ => decide (t < 2 ^ 64 ∧ c < 12)
  | .eoiWrite t c v => decide (t < 2 ^ 64 ∧ c < 12 ∧ v < 2 ^ 32)
  | .routeWrite t n v => decide (t < 2 ^ 64 ∧ n < 256 ∧ v < 2 ^ 32)
  | .coreOnlineWrite t c v => decide (t < 2 ^ 64 ∧ c < 12 ∧ v < 2 ^ 32)
  | .swiWrite t v => decide (t < 2 ^ 64 ∧ v < 2 ^ 32)
  | .storeUncorrectable t store _ _ _ => decide (t < 2 ^ 64 ∧ store < 4)
  | .storeCorrectable t store _ => decide (t < 2 ^ 64 ∧ store < 4)
  | .scrubRead t store => decide (t < 2 ^ 64 ∧ store < 4)
  | .rowRepair t store _ => decide (t < 2 ^ 64 ∧ store < 4)
  | .dramCorrected t ch rank sub dev => decide (t < 2 ^ 64 ∧ ch < 4 ∧ rank < 2 ∧ sub < 2 ∧ dev < 10)
  | .dramPoison t addr => decide (t < 2 ^ 64 ∧ addr < 2 ^ 64)
  | .refreshDue t ch rank _ _ => decide (t < 2 ^ 64 ∧ ch < 4 ∧ rank < 2)
  | .retrainPause t ch _ _ => decide (t < 2 ^ 64 ∧ ch < 4)
  | .neighbourRefresh t ch rank bank _ => decide (t < 2 ^ 64 ∧ ch < 4 ∧ rank < 2 ∧ bank < 32)
  | .rfmIssue t ch rank bank _ _ _ => decide (t < 2 ^ 64 ∧ ch < 4 ∧ rank < 2 ∧ bank < 32)
  | .refreshWindowClear t ch => decide (t < 2 ^ 64 ∧ ch < 4)
  | .migrationBlock t _ => decide (t < 2 ^ 64)
  | .migrationEnd t => decide (t < 2 ^ 64)
  | .ethFrame t p _ _ => decide (t < 2 ^ 64 ∧ p < 4)
  | .ptpMessage t p _ _ _ => decide (t < 2 ^ 64 ∧ p < 4)
  | .timeHoldover t => decide (t < 2 ^ 64)
  | .refclkBad t i => decide (t < 2 ^ 64 ∧ i < 2)
  | .refclkGood t i => decide (t < 2 ^ 64 ∧ i < 2)
  | .peerCap t _ => decide (t < 2 ^ 64)
  | .pairCapRetry t => decide (t < 2 ^ 64)
  | .peerEcho t _ => decide (t < 2 ^ 64)
  | .peerOffsetEchoTimer t => decide (t < 2 ^ 64)
  | .peerSlot t _ => decide (t < 2 ^ 64)
  | .peerCycle t _ => decide (t < 2 ^ 64)
  | .peerClaim t _ => decide (t < 2 ^ 64)
  | .peerRelease t _ => decide (t < 2 ^ 64)
  | .peerRelation t _ => decide (t < 2 ^ 64)
  | .messageResend t seq => decide (t < 2 ^ 64 ∧ seq < 2 ^ 32)
  | .peerLinkDown t => decide (t < 2 ^ 64)
  | .eventArrival t _ => decide (t < 2 ^ 64)
  | .freezeTimeout t => decide (t < 2 ^ 64)
  | .journalWriteEnd t _ => decide (t < 2 ^ 64)
  | .compactionEnd t => decide (t < 2 ^ 64)
  | .selfTestEnd t _ _ _ => decide (t < 2 ^ 64)
  | .svcLoopbackEnd t iface index _ _ => decide (t < 2 ^ 64 ∧ iface < 6 ∧ index < 9)
  | .peerLinkUp t => decide (t < 2 ^ 64)
  | .stripeReady t p _ _ _ _ => decide (t < 2 ^ 64 ∧ p < 8)
  | .clkreqNAsserted t => decide (t < 2 ^ 64)
  | .ethPortLinkChange t p _ => decide (t < 2 ^ 64 ∧ p < 4)

end Sys2Proof
end

