-- ==== Sys2Proof/Certificates/Slice0/Obligations.lean ====
section
/-! DEFINITION. The statements of this model for its provers. -/

open Sys2Proof Sys2Proof.Machine

/-! The block as a whole. -/

/-- A step takes the command at the front of the queue and runs it with the queue's rest. -/
def Obligations.StepTakesFront : Prop :=
  ∀ (c : Instr) (s : State), step { s with pending := c :: s.pending } = exec c s

/-- A block with nothing commanded counts device time while it is powered and out of reset, and sends nothing; everything else stays (the
model's choice, log entry 1). A device that is off or held in RESET serves no command packet: only what it sends is set to nothing (log
entry 6). -/
def Obligations.DeviceIdles : Prop :=
  (∀ s : State, s.pending = [] →
     step s = .next { s with dt := if s.cyc.state = .off ∨ s.cyc.state = .reset then s.dt else s.dt + 1, tx := [] }) ∧
  (∀ (c : CmdSpec) (p : Packet) (s : State), s.up = false → serve c p s = .next { s with tx := [] })

/-- Before power has come the device is OFF, device time stands at zero, nothing waits, and memory lists nothing but what an unlisted byte
reads as (Table 00.6). -/
def Obligations.ResetState : Prop :=
  State.reset.cyc.state = .off ∧ State.reset.dt = 0 ∧ State.reset.pending = [] ∧ State.reset.cyc.phase = .idle ∧
    State.reset.host.nextAcc = 1 ∧ (∀ q < 64, (State.reset.host.qps.getD q { enabled := true }).enabled = false) ∧
    State.reset.dram.wf dramDefault = true ∧ State.reset.flash.wf 255#8 = true

/-- No command ends in a fault or a refusal, and each leaves the commands that wait behind it where they stand. -/
def Obligations.EveryCommandCompletes : Prop :=
  ∀ (c : Instr) (s : State), ∃ t, exec c s = .next t ∧ t.pending = s.pending

/-- Device time never decreases; only the entry to RESET restarts it, at zero (R15). -/
def Obligations.DeviceTimeNeverDecreases : Prop :=
  ∀ s t : State, step s = .next t → s.dt ≤ t.dt ∨ (t.cyc.state = .reset ∧ t.dt = 0)

/-- A rejected command has no effect but its answer (R23): every part of the device outside the host interface, the event records on their
way and what is sent stands as it was, and no slot's counter advances. It is stated for every command whose rejection writes no event
record of its own (R464). -/
def Obligations.RejectionHasNoEffect : Prop :=
  ∀ (c : CmdSpec) (p : Packet) (st : Nat) (s : State), s.up = true →
    (∀ st s, c.onReject p st s = s) → checkFail c s.host.nextAcc (versionFor p s) p (taken p s) = some st →
    (fixVersion ((s.at p.t).fixedVersion p.origin) p.version).isSome →
    ∃ g a x, serve c p s = .next { s with
      dt := max s.dt p.t, tx := x, host := g, recorder := { s.recorder with arriving := a } } ∧ g.keys = s.host.keys

/-- The status of the first check that fails is the one returned (R23): VERSION apart, LENGTH comes before UNKNOWN_OPCODE, that before the
authentication statuses, those before STATE, that before the checks from RANGE on, and RESULT_SPACE is last. -/
def Obligations.FirstStatusWins : Prop :=
  ∀ (c : CmdSpec) (acc v : Nat) (p : Packet) (s : State),
    (lengthOk c p = false → checkFail c acc v p s = some stLength) ∧
    (lengthOk c p = true → v / 16 ≠ c.major → checkFail c acc v p s = some stUnknownOpcode) ∧
    (lengthOk c p = true → v / 16 = c.major → c.fromMinor ≤ v % 16 →
      (∀ st, authFail c.opcode acc (c.critical p s) p s = some st → checkFail c acc v p s = some st) ∧
      (authFail c.opcode acc (c.critical p s) p s = none →
        (∀ st, c.stateFail p s = some st → checkFail c acc v p s = some st) ∧
        (c.stateFail p s = none → (headerRange (c.critical p s) p).1 = true → checkFail c acc v p s = some stRange) ∧
        (c.stateFail p s = none → (headerRange (c.critical p s) p).1 = false → firstFail (c.checks p s) = none →
          checkFail c acc v p s = if noSpace (c.resultLen p s) p then some stResultSpace else none)))

/-- A critical command authenticates with a trailer of an ACTIVE slot whose MAC verifies and whose counter is new; without a trailer it
fails with AUTH (R393). -/
def Obligations.AuthenticationOrder : Prop :=
  ∀ (op acc : Nat) (crit : Bool) (p : Packet) (s : State),
    (p.trailer = none → authFail op acc crit p s = if crit then some stAuth else none) ∧
    (∀ t, p.trailer = some t →
      (7 < t.slot ∨ (s.host.keys.getD t.slot {}).activeFor acc = false → authFail op acc crit p s = some stKey) ∧
      (t.slot ≤ 7 → (s.host.keys.getD t.slot {}).activeFor acc = true →
        (t.mac ≠ cmac (s.host.keys.getD t.slot {}).key (p.signed op) → authFail op acc crit p s = some stAuth) ∧
        (t.mac = cmac (s.host.keys.getD t.slot {}).key (p.signed op) →
          (t.counter ≤ (s.host.keys.getD t.slot {}).last → authFail op acc crit p s = some stReplay) ∧
          ((s.host.keys.getD t.slot {}).last < t.counter → authFail op acc crit p s = none))))

/-! The layer cycle (01). -/

/-- The state commands that start bring the device into the state Table 01.10 names (R36, R38, R39), with cause COMMAND. DISARM (R36):
READY at once in HOLD or with PHASE = IDLE, else the device stays ARMED and READY follows the layer. -/
def Obligations.StateCommandsAct : Prop :=
  (∀ (p : Packet) (s : State),
     (startsNow readyEnterSpec p s = true → Reaches (.readyEnter p) s fun t => t.cyc.state = .ready ∧ t.cyc.cause = 1) ∧
     (startsNow standbyEnterSpec p s = true → Reaches (.standbyEnter p) s fun t => t.cyc.state = .standby ∧ t.cyc.cause = 1) ∧
     (startsNow armSpec p s = true → Reaches (.arm p) s fun t =>
       t.cyc.state = .armed ∧ t.cyc.phase = .idle ∧ t.cyc.armedAt = max s.dt p.t ∧ t.las.trip = false) ∧
     (startsNow holdSpec p s = true → Reaches (.hold p) s fun t => t.cyc.state = .hold ∧ t.cyc.cause = 1) ∧
     (startsNow resumeSpec p s = true → Reaches (.resume p) s fun t => t.cyc.state = .armed ∧ t.cyc.armedAt = max s.dt p.t) ∧
     (startsNow safeRequestSpec p s = true → Reaches (.safeRequest p) s fun t =>
       t.cyc.state = .safe ∧ t.cyc.cause = 1 ∧ t.cyc.phase = .idle ∧ t.cyc.layersLeft = 0) ∧
     (startsNow recoverSpec p s = true → Reaches (.recover p) s fun t => t.cyc.state = .recovery) ∧
     (startsNow recoveryExitSpec p s = true → Reaches (.recoveryExit p) s fun t => t.cyc.state = .standby) ∧
     (startsNow serviceEnterSpec p s = true → Reaches (.serviceEnter p) s fun t => t.cyc.state = .service)) ∧
  (∀ (p : Packet) (s : State), startsNow disarmSpec p s = true →
     (s.cyc.state = .hold ∨ s.cyc.phase = .idle → Reaches (.disarm p) s fun t => t.cyc.state = .ready) ∧
     (s.cyc.state = .armed → s.cyc.phase ≠ .idle → s.cyc.disarm = none →
       Reaches (.disarm p) s fun t => t.cyc = { s.cyc with disarm := some s.host.nextAcc }))

/-- PROFILE_SELECT puts the filled descriptor in force (R41); PROFILE_CHECK changes nothing but the reply (R44). The cycle commands (R32
to R34): the layer count, the phase asked for, the boundary released, the count stopped. DEVICE_RESET (R556): the wait of 1 ms begins, and
only the host interface changes. -/
def Obligations.CycleCommandsAct : Prop :=
  (∀ (p : Packet) (s : State),
     (startsNow profileSelectSpec p s = true → Reaches (.profileSelect p) s fun t =>
       t.cyc = { s.cyc with profile := fillProfile s.heads (readDescriptor p.params) }) ∧
     (startsNow profileCheckSpec p s = true → Reaches (.profileCheck p) s (Served p s s))) ∧
  (∀ (p : Packet) (s : State),
     (startsNow cycleRunSpec p s = true → Reaches (.cycleRun p) s fun t =>
       t.cyc.layersLeft = p.fld 0 4 ∧ (s.cyc.phase = .idle → 0 < p.fld 0 4 → t.cyc.phase = .load)) ∧
     (startsNow cyclePhaseSpec p s = true → p.fld 0 1 = 2 → Reaches (.cyclePhase p) s fun t =>
       t.cyc = { s.cyc with hostPhase := some s.host.nextAcc, asked := some .expose, phase := .load, phaseDone := false }) ∧
     (startsNow cycleReleaseSpec p s = true → s.cyc.boundary.isSome → Reaches (.cycleRelease p) s fun t =>
       t.cyc.boundary = none ∧ t.gut.lossWait = false) ∧
     (startsNow cycleStopSpec p s = true → Reaches (.cycleStop p) s fun t => t.cyc.layersLeft = 0)) ∧
  (∀ (p : Packet) (s : State), startsNow deviceResetSpec p s = true → Reaches (.deviceReset p) s fun t =>
     Served p s s t ∧ t.host.resetAt = some (max s.dt p.t + 16000000))

/-! Signatures (02). -/

/-- QUIRE_APPEND and SIG_LOAD (R74, R75): the entry joins the quire's end; the load starts in the first EMPTY bank. QUIRE_FLUSH retires
every entry (R76); SIG_DISCARD empties a VALID, RETAINED or LOADING bank (R77). -/
def Obligations.SignatureCommandsAct : Prop :=
  (∀ (p : Packet) (s : State),
     (startsNow quireAppendSpec p s = true → Reaches (.quireAppend p) s (Served p s { s with sig := { s.sig with
       quire := s.sig.quire ++ [{ id := s.sig.nextQuire, acc := s.host.nextAcc, addr := p.fld 0 8, len := p.fld 8 4 }]
       nextQuire := s.sig.nextQuire + 1 } })) ∧
     (startsNow sigLoadSpec p s = true → ∀ k, (List.range 2).find? (fun k => (s.bank k).state == .empty) = some k →
       Reaches (.sigLoad p) s fun t => ∃ l, t.sig.loading = some l ∧ l.bank = k ∧ l.addr = p.fld 0 8 ∧ l.len = p.fld 8 4 ∧ l.quire = none)) ∧
  (∀ (p : Packet) (s : State),
     (startsNow quireFlushSpec p s = true → Reaches (.quireFlush p) s fun t => t.sig.quire = []) ∧
     (startsNow sigDiscardSpec p s = true →
       ((s.bank (p.fld 0 1)).state = .valid ∨ (s.bank (p.fld 0 1)).state = .retained → p.fld 0 1 < s.sig.banks.length →
         Reaches (.sigDiscard p) s fun t => (t.bank (p.fld 0 1)).state = .empty) ∧
       ((s.bank (p.fld 0 1)).state = .loading → s.sig.loading.isSome → Reaches (.sigDiscard p) s fun t => t.sig.loading = none) ∧
       ((s.bank (p.fld 0 1)).state = .empty → Reaches (.sigDiscard p) s (Served p s s))))

/-- The events of loads (R62, R71, R73): the oldest entry without a bank starts to load; a load ends; a consumed segment becomes free. -/
def Obligations.SignatureEventsAct : Prop :=
  ∀ (t : Nat) (s : State), s.up = true →
    (∀ e k, s.cyc.state = .ready ∨ s.cyc.state = .armed ∨ s.cyc.state = .hold → s.sig.loading = none → s.long = false → s.nextLoad = some (e, k) →
      Reaches (.quireLoadStart t) s fun u => ∃ l, u.sig.loading = some l ∧ l.bank = k ∧ l.addr = e.addr ∧ l.len = e.len ∧ l.quire = some e.id) ∧
    (s.sig.loading.isSome → s.long = false → Reaches (.signatureLoadEnd t) s fun u => u.sig.loading = none) ∧
    (∀ k j n, s.activeBank = some k → s.long = true → s.cyc.phase = .expose → k < s.sig.banks.length →
      (s.bank k).segments[j]? = some (n, false) →
      ((s.outstandingRecords ++ (s.bank k).left).any fun i => i / 65536 == j) = false →
      Reaches (.longSegmentFree t) s fun u => (u.bank k).segments[j]? = some (n, true))

/-! Tables and lists (03, 05, 06, 07, 18). -/

/-- Field-correction and ratio tables (R105, R178): in force at once where the device is not in a layer, else waiting for KETTLE.
TRJ_FC_READ, MPS_RATIO_READ and LOOP_CAPTURE_READ store one image from their DRAM address on, and no other byte of DRAM changes (R236,
R413). -/
def Obligations.ImageTablesAct : Prop :=
  (∀ (p : Packet) (s : State),
     (startsNow trjFcLoadSpec p s = true → p.scope < s.head.trj.length →
       (s.takesNow = true → Reaches (.trjFcLoad p) s fun t => (t.trj p.scope).fc = some (fcOf (s.dramRead (tabAddr p) fcImageLen)) ∧ t.dram = s.dram) ∧
       (s.takesNow = false → Reaches (.trjFcLoad p) s fun t =>
         (t.trj p.scope).fcLoad = some { acc := s.host.nextAcc, addr := tabAddr p } ∧ (t.trj p.scope).fc = (s.trj p.scope).fc)) ∧
     (startsNow mpsRatioLoadSpec p s = true → p.scope < s.mps.heads.length →
       (s.takesNow = true → Reaches (.mpsRatioLoad p) s fun t =>
         (t.mpsHead p.scope).ratio = some { generation := field (s.dramRead (tabAddr p) 2176) 8 4, image := s.dramRead (tabAddr p) 2176 } ∧ t.dram = s.dram) ∧
       (s.takesNow = false → Reaches (.mpsRatioLoad p) s fun t => (t.mpsHead p.scope).ratioLoad = some { acc := s.host.nextAcc, addr := tabAddr p }))) ∧
  (∀ (p : Packet) (s : State),
     (startsNow trjFcReadSpec p s = true → ∀ f, (s.trj p.scope).fc = some f → Reaches (.trjFcRead p) s
       (Served p s (s.dramWrite (tabAddr p) (padTo fcImageLen (f.image.take fcImageLen))))) ∧
     (startsNow mpsRatioReadSpec p s = true → ∀ r, (s.mpsHead p.scope).ratio = some r → Reaches (.mpsRatioRead p) s
       (Served p s (s.dramWrite (tabAddr p) (padTo 2176 (r.image.take 2176))))) ∧
     (startsNow loopCaptureReadSpec p s = true → ∀ c, s.captureOfLoop (p.fld 8 1) = some c → Reaches (.loopCaptureRead p) s
       (Served p s (({ s with loop := { s.loop with captures := s.loop.captures.filter fun x => x.loop != c.loop } }).dramWrite (tabAddr p) c.image))) ∧
     ∀ (a b : Nat) (bs : List Byte), b < a ∨ a + bs.length ≤ b → s.dram.wf dramDefault = true →
       (s.dramWrite a bs).dram.read dramDefault b = s.dram.read dramDefault b)

/-- Replay lists, stitch tables, correction maps and cross-device tables are kept by layer, a new one in place of the layer's old one
(R148, R168, R226, R494); the rest of the device stands as it was. Generators and captures (R233, R235): at most one of each loop and
node, one of each loop. -/
def Obligations.LayerTablesAct : Prop :=
  (∀ (p : Packet) (s : State),
     (startsNow gutReplayLoadSpec p s = true → Reaches (.gutReplayLoad p) s (Served p s { s with gut := { s.gut with
       replays := (s.gut.replays.filter fun x => x.layer != p.fld 12 4) ++ [{ layer := p.fld 12 4, addr := tabAddr p, count := tabLen p }] } })) ∧
     (startsNow gutStitchTableSpec p s = true → Reaches (.gutStitchTable p) s (Served p s { s with gut := { s.gut with
       stitch := (s.gut.stitch.filter fun t => t.1 != p.fld 12 4) ++
         (if tabLen p = 0 then [] else [(p.fld 12 4, (s.stitchEntries (tabAddr p) (tabLen p)).map stitchEntryOf)]) } })) ∧
     (startsNow loopMapLoadSpec p s = true → Reaches (.loopMapLoad p) s (Served p s { s with loop := { s.loop with
       maps := (s.loop.maps.filter fun x => x.layer != p.fld 12 4) ++
         [{ layer := p.fld 12 4, addr := tabAddr p, count := leNat (s.dramRead (tabAddr p + 12) 4) }] } })) ∧
     (startsNow pairGutterTableSpec p s = true → Reaches (.pairGutterTable p) s (Served p s { s with pair := { s.pair with
       tables := (s.pair.tables.filter fun t => t.1 != p.fld 12 4) ++
         (if (s.crossEntries (tabAddr p) (tabLen p)).isEmpty then [] else [(p.fld 12 4, s.crossEntries (tabAddr p) (tabLen p))]) } }))) ∧
  (∀ (p : Packet) (s : State),
     (startsNow loopInjectSpec p s = true → Reaches (.loopInject p) s (Served p s { s with loop := { s.loop with
       gens := if p.fld 2 1 = 0 then s.loop.gens.filter fun g => !sameGen p g
         else if s.loop.gens.any (sameGen p) then s.loop.gens.map fun g => if sameGen p g then genOf p else g
         else s.loop.gens ++ [genOf p] } })) ∧
     (startsNow loopCaptureSpec p s = true → Reaches (.loopCapture p) s (Served p s { s with loop := { s.loop with
       captures := (s.loop.captures.filter fun x => x.loop != p.fld 0 1) ++ [captureOf p (cfgDiv (s.loopCfg (p.fld 0 1)))] } })))

/-! The ledger (08). -/

/-- A clear leaves no heat in any cell, at one logical key (R244). LDG_READ joins the readouts that wait; LDG_SNAPSHOT_LOAD takes a slot
(R249, R251). -/
def Obligations.LedgerCommandsAct : Prop :=
  (∀ (p : Packet) (s : State), startsNow ldgClearSpec p s = true → Reaches (.ldgClear p) s fun t =>
     t.ledger.cells = [] ∧ t.ledger.ticks = 0 ∧ t.ledger.clearU = tickU (max s.dt p.t) ∧ t.ledger.sweptU = t.ledger.clearU ∧
     ∃ e, t.recorder.arriving = s.recorder.arriving ++ [e] ∧ e.code = 0x7001 ∧ e.key = 1) ∧
  (∀ (p : Packet) (s : State),
     (startsNow ldgReadSpec p s = true → Reaches (.ldgRead p) s fun t =>
       ∃ r, t.ledger.readouts = s.ledger.readouts ++ [r] ∧ r.acc = s.host.nextAcc ∧ r.addr = tabAddr p ∧ r.width = p.fld 12 2 ∧ r.height = p.fld 14 2) ∧
     (startsNow ldgSnapshotLoadSpec p s = true → ∀ i, s.snapSlot (leNat (s.dramRead (tabAddr p + 8) 4)) = some i → i < s.ledger.slots.length →
       Reaches (.ldgSnapshotLoad p) s fun t =>
         (t.ledger.slots.getD i {}).state = .loading ∧ (t.ledger.slots.getD i {}).load = some (s.host.nextAcc, tabAddr p)))

/-- A readout whose instant has come is stored at its address and leaves the list; a snapshot that passes its checks is VALID; the sweeper
reaches the current tick (R243, R249, R253). -/
def Obligations.LedgerEventsAct : Prop :=
  ∀ (t : Nat) (s : State), s.up = true →
    (∀ i r d, s.ledger.readouts[i]? = some r → r.at_ = some d → r.fence = false → Reaches (.ldgReadoutCopy t i) s fun u =>
      u.ledger.readouts = s.ledger.readouts.eraseIdx i ∧ u.dram = s.dram.writeBytes dramDefault r.addr r.out) ∧
    (∀ i x acc a, (List.range 2).find? (fun i => (s.ledger.slots.getD i {}).load.isSome) = some i → s.ledger.slots[i]? = some x → x.load = some (acc, a) →
      s.snapFail (s.dramRead a snapLen) = none → s.poisoned a snapLen = false → Reaches (.ldgSnapshotLoaded t) s fun u =>
        (u.ledger.slots.getD i {}).state = .valid ∧ (u.ledger.slots.getD i {}).layer = field (s.dramRead a snapLen) 8 4) ∧
    (s.ldgAssisted = false → s.ledger.stopped = false → s.ledger.sweptU ≤ tickU t → s.dt ≤ t → Reaches (.sweeperTick t) s fun u => u.ledger.sweptU = tickU t)

/-! The interlock (04). -/

/-- A channel that opens is recorded with its instant, trips the device, and stops an armed one in HOLD with cause INTERLOCK; a channel
that closes is closed again, and neither clears the trip nor moves the device (R130 to R132). Channels that have differed for longer than
LAS.INTLK_DISCREPANCY set the discrepancy, with its event record (R134); the device stays in its state. LAS_HEAD_RESTORE (R138): outside
ARMED and HOLD the head's bit clears at once; in them the command waits for the fence. -/
def Obligations.InterlockActs : Prop :=
  (∀ (t : Nat) (s : State), s.up = true →
     (s.las.aClosed = true → Reaches (.interlockOpen t 0) s fun u =>
       u.las.aClosed = false ∧ u.las.bClosed = s.las.bClosed ∧ u.las.aOpen = max s.dt t ∧ u.las.trip = true ∧
         (s.cyc.state = .armed → u.cyc.state = .hold ∧ u.cyc.cause = 2) ∧ (s.cyc.state ≠ .armed → u.cyc = s.cyc)) ∧
     (s.las.bClosed = true → Reaches (.interlockOpen t 1) s fun u =>
       u.las.bClosed = false ∧ u.las.aClosed = s.las.aClosed ∧ u.las.bOpen = max s.dt t ∧ u.las.trip = true ∧
         (s.cyc.state = .armed → u.cyc.state = .hold ∧ u.cyc.cause = 2) ∧ (s.cyc.state ≠ .armed → u.cyc = s.cyc)) ∧
     (Reaches (.interlockClose t 0) s fun u =>
       u.las.aClosed = true ∧ u.las.bClosed = s.las.bClosed ∧ u.las.trip = s.las.trip ∧ u.cyc = s.cyc ∧ u.dram = s.dram) ∧
     (Reaches (.interlockClose t 1) s fun u =>
       u.las.bClosed = true ∧ u.las.aClosed = s.las.aClosed ∧ u.las.trip = s.las.trip ∧ u.cyc = s.cyc ∧ u.dram = s.dram)) ∧
  (∀ (t : Nat) (s : State), s.up = true → s.las.aClosed ≠ s.las.bClosed → s.las.discrepancy = false →
     s.las.differ + 16000000 * s.dparam 0x3004 < max s.dt t →
     Reaches (.intlkDiscrepancy t) s fun u => u.las = { s.las with discrepancy := true, bothOpen := false } ∧ u.cyc = s.cyc ∧
       ∃ e, u.recorder.arriving = s.recorder.arriving ++ [e] ∧ e.code = 0x3002) ∧
  (∀ (p : Packet) (s : State), startsNow lasHeadRestoreSpec p s = true →
     (s.cyc.state = .armed ∨ s.cyc.state = .hold → Reaches (.lasHeadRestore p) s (Served p s
       { s with las := { s.las with heads := updAt s.las.heads p.scope fun x => { x with restore := x.restore ++ [s.host.nextAcc] } } })) ∧
     (s.cyc.state ≠ .armed → s.cyc.state ≠ .hold → Reaches (.lasHeadRestore p) s fun t =>
       t.las.stopped = putBit s.las.stopped p.scope false ∧ t.cyc = s.cyc))

/-! The phases (01). -/

/-- EXPOSE begins on a device that is not paired, at a whole microsecond, once its conditions hold (R28); the kettle fence ends it and
KETTLE begins (R30, R165); a fence that is late by GUT.KETTLE_TIMEOUT brings HOLD with cause KETTLE_TIMEOUT (R166). -/
def Obligations.ExposeBeginsAndEnds : Prop :=
  ∀ (t : Nat) (s : State), s.up = true →
    ((s.at t).exposeReady = true → (s.at t).isPaired = false → max s.dt t % 16000 = 0 → Reaches (.exposeStart t) s fun u =>
      u.cyc.phase = .expose ∧ u.cyc.dtS = max s.dt t ∧ u.cyc.sample = 0 ∧ u.cyc.state = s.cyc.state) ∧
    ((s.at t).fenceDue = true → s.hostCycle = false → s.svc.modeReq = [] → s.cyc.holdAtFence = none → Reaches (.kettleFence t) s fun u =>
      u.cyc.phase = .kettle ∧ u.cyc.phaseDone = false ∧ u.cyc.state = .armed ∧ u.cyc.layersLeft = s.cyc.layersLeft) ∧
    (∀ d, s.gut.firstDone = some d → s.cyc.state = .armed → s.exposing = true → d + 16000000 * s.dparam 0x4004 ≤ max s.dt t →
      Reaches (.kettleTimeout t) s fun u => u.cyc.state = .hold ∧ u.cyc.cause = 4 ∧ u.cyc.phase = .expose)

/-- KETTLE, RECOAT and IMAGE end and the next phase begins, or the boundary between them is waited at (R29, R32, R33). -/
def Obligations.PhasesFollow : Prop :=
  ∀ (t : Nat) (s : State), s.up = true → s.cyc.state = .armed →
    (s.cyc.phase = .kettle → s.cyc.phaseDone = false → s.framesDone 1 false = true → Reaches (.kettleEnd t) s fun u =>
      u.cyc.phase = .kettle ∧ u.cyc.phaseDone = true ∧ (s.gate 1 = true → u.cyc.boundary = some .beforeRecoat)) ∧
    (s.cyc.phase = .kettle → s.cyc.phaseDone = true → s.cyc.boundary = none → s.mot.stream.running = false → s.fencesDone = true →
      s.pair.mode ≠ .split → s.hostCycle = false → Reaches (.recoatStart t) s fun u =>
        u.cyc.phase = .recoat ∧ u.cyc.phaseDone = false ∧ u.cyc.layer = s.cyc.layer) ∧
    (s.cyc.phase = .recoat → s.cyc.phaseDone = false → s.recoatOver = true → s.cyc.boundary = none → s.hostCycle = false →
      Reaches (.recoatEnd t) s fun u =>
        (s.gate 2 = true → u.cyc.phase = .recoat ∧ u.cyc.phaseDone = true ∧ u.cyc.boundary = some .beforeImage) ∧
        (s.gate 2 = false → u.cyc.phase = .image ∧ u.cyc.phaseDone = false ∧ u.cyc.boundary = none)) ∧
    (s.cyc.phase = .image → s.cyc.phaseDone = false → s.framesDone 2 true = true → s.cyc.disarm = none → s.hostCycle = false →
      Reaches (.imageEnd t) s fun u => u.cyc.layersLeft = s.cyc.layersLeft - 1 ∧
        (1 < s.cyc.layersLeft → u.cyc.phase = .load) ∧ (s.cyc.layersLeft ≤ 1 → u.cyc.phase = .idle)) ∧
    (s.cyc.phase = .image → s.cyc.phaseDone = false → s.framesDone 2 true = true → s.cyc.disarm.isSome →
      Reaches (.imageEnd t) s fun u => u.cyc.state = .ready ∧ u.cyc.phase = .idle)

/-! Samples, frames and streams (05 to 07, 13). -/

/-- A slot boundary moves an EXPOSE on to its next sample; outside EXPOSE it keeps the instant of the slot and nothing else of the cycle
(R351). An execution that would be late is abandoned and counted (R207). A frame from a head whose CRC fails is discarded and counted; a
whole one ends the run of missing frames; a slot whose pairs have not come is counted missing (R190, R350, R355, R363). A port that is not
UP hears nothing. -/
def Obligations.SamplesAct : Prop :=
  (∀ (t : Nat) (s : State), s.up = true →
     (s.exposing = true → s.layEnv.dtOf s.cyc.sample ≤ max s.dt t → ((s.at t).depositsTo (s.layEnv.dtOf s.cyc.sample)).fenceDue = false →
       Reaches (.slotBoundary t) s fun u => u.cyc.sample = s.cyc.sample + 1 ∧ u.cyc.lastSlot = s.layEnv.dtOf s.cyc.sample) ∧
     (s.exposing = false → s.cyc.lastSlot < max s.dt t / (16 * s.ts) * (16 * s.ts) → Reaches (.slotBoundary t) s fun u =>
       u.cyc = { s.cyc with lastSlot := max s.dt t / (16 * s.ts) * (16 * s.ts) }) ∧
     (∀ l n, n = max s.dt t / (16 * s.ts) + 1 → l < s.loop.loops.length → s.loopDelay l ≤ n →
       (s.at t).loopDue l (n - s.loopDelay l) = true → Reaches (.loopDeadlineMiss t l) s fun u =>
         (u.loopState l).missed = inc32 (s.loopState l).missed ∧ (u.loopState l).missRun = (s.loopState l).missRun + 1 ∧
           (u.loopState l).out = (s.loopState l).out)) ∧
  (∀ (t h : Nat) (s : State), s.up = true → h < s.head.hlk.length →
     (∀ frame, s.linkUp h = true → unframe frame = none → Reaches (.sampleUp t h frame) s fun u =>
       (u.hlk h).discarded = inc32 (s.hlk h).discarded ∧ (u.hlk h).missRun = (s.hlk h).missRun + 1 ∧ u.cyc = s.cyc ∧ u.mps = s.mps) ∧
     (∀ frame c, s.linkUp h = true → unframe frame = some c → field c 0 1 = 0x81 → upLength (s.hlk h).version c = true →
       Reaches (.sampleUp t h frame) s fun u => (u.hlk h).missRun = 0 ∧ (u.hlk h).discarded = (s.hlk h).discarded) ∧
     (∀ frame, s.linkUp h = false → Reaches (.sampleUp t h frame) s fun u => u = { s with dt := max s.dt t, tx := [] }) ∧
     (∀ i, s.arrival h i + 32 * s.ts ≤ max s.dt t → s.senseAt h i = none → (s.hlk h).arrived.contains i = false → s.linkUp h = true →
       Reaches (.sampleMissing t h i) s fun u => (u.hlk h).missing = inc32 (s.hlk h).missing ∧ (u.hlk h).missRun = (s.hlk h).missRun + 1))

/-- A frame that is whole, or whose delivery has ended without all its bytes, gives the next frame result of its head, marked TRUNCATED in
the second case (R180, R184). The melt-pool stream (R193, R194): a flush fills a half unit with one PAD marker; a burst moves from staging
into the DRAM ring; a copy moves bytes of any stream on to the host ring. -/
def Obligations.FramesAndStreamsAct : Prop :=
  (∀ (t h : Nat) (s : State), s.up = true → h < s.mps.heads.length →
     ((s.at t).frameOpen h (s.mpsHead h).frameNo = true → (s.mpsHead h).got = s.pixelBytes h → Reaches (.frameResult t h) s fun u =>
       ∃ r rest, (u.mpsHead h).results = r :: rest ∧ r.number = (s.mpsHead h).frameNo ∧ r.truncated = false ∧ r.done = max s.dt t) ∧
     (s.cyc.dtS + 16 * s.ts * s.param 0x5001 h * ((s.mpsHead h).next + 2) ≤ max s.dt t → (s.at t).frameOpen h (s.mpsHead h).next = true →
       ¬ ((s.mpsHead h).frameNo = (s.mpsHead h).next ∧ (s.mpsHead h).got = s.pixelBytes h) → Reaches (.frameTruncated t h) s fun u =>
         ∃ r rest, (u.mpsHead h).results = r :: rest ∧ r.number = (s.mpsHead h).next ∧ r.truncated = true)) ∧
  (∀ (t : Nat) (s : State), s.up = true →
     (s.mps.lastIn + 16000 * s.dparam 0x5014 ≤ max s.dt t → s.mps.staged.length % 2 = 1 → Reaches (.mpsFlushTimeout t) s fun u =>
       u = { s with dt := max s.dt t, tx := [], mps := { s.mps with staged := s.mps.staged ++ [padMarker] } }) ∧
     (s.ringSize 0 ≠ 0 → 0 < s.streams.length → ∀ n, n = min 64 (min (s.mps.staged.length / 2 * 2) (s.ringRoom 0 / 64 * 2)) → n ≠ 0 →
       Reaches (.mpsRingWrite t) s fun u => u.mps.staged = s.mps.staged.drop n ∧
         (u.stream 0).written = (s.stream 0).written + ((s.mps.staged.take n).flatten).length ∧ u.cyc = s.cyc) ∧
     (∀ i n, i < s.streams.length → s.streamOn i = true → s.copyPoisoned i = false →
       n = s.copyReach i (min (min 2048 ((s.stream i).written - (s.stream i).copied)) (min (s.hostRoom i) (s.hostSize i - (s.stream i).hostWrite))) →
       n ≠ 0 → Reaches (.hostRingCopy t i) s fun u => (u.stream i).copied = (s.stream i).copied + n ∧
         (u.stream i).hostWrite = ((s.stream i).hostWrite + n) % s.hostSize i))

/-! Head links (13). -/

/-- An UP port whose link is lost trains again and counts the loss, for each of its three causes; in ARMED and HOLD the device stays in
its state, in READY a head of the profile brings STANDBY (R353, R363, R365). Link commands (R368, R369): a retraining takes an UP port to
ACQUIRE, a loopback takes its port to LOOPBACK until its time has passed, and the port then trains again. -/
def Obligations.LinksRetrain : Prop :=
  (∀ (t h : Nat) (s : State) (i : Instr), s.up = true → h < s.head.hlk.length → s.linkUp h = true →
     (i = .linkLoss t h true ∨ (i = .linkLoss t h false ∧ 4 ≤ (s.hlk h).missRun) ∨
       (i = .cfgAckTimeout t h ∧ ∃ c, (s.hlk h).cfg = some c ∧ 64 ≤ c.slots)) →
     Reaches i s fun u => (u.hlk h).losses = inc32 (s.hlk h).losses ∧
       (s.cyc.state ≠ .ready → (u.hlk h).link = .acquire ∧ u.cyc = s.cyc) ∧
       (s.cyc.state = .ready → s.inProfile h = true → u.cyc.state = .standby ∧ u.cyc.cause = 9)) ∧
  (∀ (p : Packet) (s : State),
     (startsNow hlkRetrainSpec p s = true → s.cyc.state ≠ .ready → Reaches (.hlkRetrain p) s fun t => t.cyc = s.cyc ∧
       ∀ h, h = p.scope ∨ (p.scope = 0xFFFF ∧ h < s.heads) → h < s.head.hlk.length → s.linkUp h = true → (t.hlk h).link = .acquire) ∧
     (startsNow hlkLoopbackSpec p s = true → p.scope < s.head.hlk.length →
       (p.fld 0 1 ≠ 0 → Reaches (.hlkLoopback p) s fun t => (t.hlk p.scope).link = .loopback ∧
         ∃ l, (t.hlk p.scope).loop = some l ∧ l.acc = s.host.nextAcc ∧ l.endsAt = max s.dt p.t + 16000000 * p.fld 4 4) ∧
       (p.fld 0 1 = 0 → (s.hlk p.scope).loop.isSome → Reaches (.hlkLoopback p) s fun t =>
         (t.hlk p.scope).loop = none ∧ (t.hlk p.scope).link = .acquire)) ∧
     ∀ (t h bits errors : Nat) (l : LinkLoop), s.up = true → h < s.head.hlk.length → (s.hlk h).loop = some l → l.endsAt ≤ max s.dt t →
       Reaches (.loopbackEnd t h bits errors) s fun u => (u.hlk h).loop = none ∧ (u.hlk h).link = .acquire)

/-- Training (Table 13.10): lock held for 1 ms brings CAPABILITY, lock lost or 10 ms without progress bring ACQUIRE again; capability
blocks and echoes are sent in their states. A good capability block brings CALIBRATE with the chosen version, a bad one FAULT with the
first failing check (R356, R358); an echo of CALIBRATE is kept until 256 give the link's F (R359). -/
def Obligations.LinksTrain : Prop :=
  (∀ (t h : Nat) (s : State), s.up = true → h < s.head.hlk.length →
     ((s.hlk h).link = .acquire → (s.hlk h).since + 16000000 ≤ max s.dt t → Reaches (.blockLockHeld t h) s fun u =>
       (u.hlk h).link = .capability ∧ (u.hlk h).lock = true ∧ (u.hlk h).since = max s.dt t ∧ u.cyc = s.cyc) ∧
     ((s.hlk h).link = .capability ∨ (s.hlk h).link = .calibrate ∨ (s.hlk h).link = .fault → Reaches (.blockLockLost t h) s fun u =>
       (u.hlk h).link = .acquire ∧ (u.hlk h).lock = false ∧ (u.hlk h).trainings = inc32 (s.hlk h).trainings) ∧
     ((s.hlk h).link = .capability ∨ (s.hlk h).link = .calibrate → (s.hlk h).since + 160000000 ≤ max s.dt t →
       Reaches (.trainingTimeout t h) s fun u => (u.hlk h).link = .acquire ∧ (u.hlk h).trainings = inc32 (s.hlk h).trainings) ∧
     ((s.hlk h).link = .capability → Reaches (.capDownSend t h) s fun u =>
       u = { s with dt := max s.dt t, tx := [.headFrame h (framed (s.capDown h))] }) ∧
     ((s.hlk h).link = .calibrate → Reaches (.echoDownSend t h) s fun u =>
       u = { s with dt := max s.dt t, tx := [.headFrame h (framed ((s.at t).echoDown h))] })) ∧
  (∀ (t h : Nat) (s : State) (frame c : List Byte), s.up = true → h < s.head.hlk.length → unframe frame = some c →
     (field c 0 1 = 0x82 → allZero (slice c 1 7) = true → c.length = 72 ∨ c.length = 136 → (s.hlk h).link = .capability →
       (capFail (s.versionCap h) s.cyc.profile.ts (padTo 128 (c.drop 8)) = none → Reaches (.capUp t h frame) s fun u =>
         (u.hlk h).link = .calibrate ∧ (u.hlk h).version = (chooseVersion (s.versionCap h) (padTo 128 (c.drop 8))).getD 0) ∧
       (∀ cause, capFail (s.versionCap h) s.cyc.profile.ts (padTo 128 (c.drop 8)) = some cause → Reaches (.capUp t h frame) s fun u =>
         (u.hlk h).link = .fault ∧ (u.hlk h).cause = cause)) ∧
     (field c 0 1 = 0x84 → c.length = 32 → (s.hlk h).link = .calibrate → (s.hlk h).apply = false →
       ∀ r : Int, r = ((max s.dt t : Int) - field c 8 8) - ((field c 24 8 : Int) - field c 16 8) →
       ((s.hlk h).echoes.length < 255 → Reaches (.echoUp t h frame) s fun u => (u.hlk h).echoes = r :: (s.hlk h).echoes) ∧
       (255 ≤ (s.hlk h).echoes.length → ∀ f, calibration (r :: (s.hlk h).echoes) = some f → Reaches (.echoUp t h frame) s fun u =>
         (u.hlk h).apply = true ∧ (u.hlk h).f = f ∧ (u.hlk h).echoes = [])))

/-! Layer imaging (09). -/

/-- The imaging commands: a control command joins its port's queue; a snap's trigger joins the port's triggers; a tone table is taken from
DRAM; a port reset starts discovery again and drops the frame in progress (R260, R272, R281, Table 09.16). -/
def Obligations.ImagingCommandsAct : Prop :=
  ∀ (p : Packet) (s : State), p.scope < s.img.ports.length →
    (startsNow imgControlSpec p s = true → Reaches (.imgControl p) s fun t => ∃ c, (t.port p.scope).queue.getLast? = some c ∧
      c.acc = some s.host.nextAcc ∧ c.addr = p.fld 4 4 ∧ c.len = p.fld 8 2 ∧ c.dram = p.fld 16 8 ∧ (c.write = true ↔ p.fld 0 1 = 1)) ∧
    (startsNow imgSnapSpec p s = true → Reaches (.imgSnap p) s fun t =>
      (t.port p.scope).triggers.length = (s.port p.scope).triggers.length + 1 ∧ t.cyc = s.cyc) ∧
    (startsNow imgToneLoadSpec p s = true → Reaches (.imgToneLoad p) s fun t => t.dram = s.dram ∧
      (t.port p.scope).tones = (List.range 4096).map fun i => field (s.dramRead (p.fld 0 8) 8192) (2 * i) 2) ∧
    (startsNow imgPortResetSpec p s = true → Reaches (.imgPortReset p) s fun t =>
      (t.port p.scope).link = (if camEnable (s.port p.scope).cfg then .discovery else .disabled) ∧ (t.port p.scope).inFrame = false ∧
        (t.port p.scope).frames = (s.port p.scope).frames.filter (·.ended))

/-- Camera links (R257, R258, R260): discovery brings UP or DOWN, a lost link DOWN; event packets are recorded; a heartbeat goes to every
UP port; an acknowledged read stores its data; a control command without an answer is sent again. -/
def Obligations.CameraLinksAct : Prop :=
  ∀ (t p : Nat) (s : State), s.up = true → p < s.img.ports.length →
    (∀ speed, s.looped 3 p = false → (s.port p).link = .discovery →
      (Reaches (.cxpDiscovery t p true speed) s fun u => (u.port p).link = .up ∧ (u.port p).speed = min speed (camMaxSpeed (s.port p).cfg)) ∧
      (Reaches (.cxpDiscovery t p false speed) s fun u => (u.port p).link = .down ∧ (u.port p).tried = max s.dt t)) ∧
    ((s.port p).link = .up → Reaches (.cxpLinkLoss t p) s fun u => (u.port p).link = .down ∧ (u.port p).tried = max s.dt t) ∧
    (∀ bytes, (s.port p).link = .up → Reaches (.cxpEventPacket t p bytes) s fun u => (u.port p).events = inc32 (s.port p).events ∧
      ∃ e, u.recorder.arriving = s.recorder.arriving ++ [e] ∧ e.code = 0x8001 ∧ e.source = p) ∧
    (s.img.beat + 16000000 ≤ max s.dt t → p < 8 → Reaches (.cxpHeartbeat t) s fun u => u.img.beat = max s.dt t ∧
      ((s.port p).link = .up → Tx.heartbeat p (max s.dt t / 16) ∈ u.tx)) ∧
    (∀ c rest a data, (s.port p).queue = c :: rest → c.attempts ≠ 0 → c.write = false → c.acc = some a → Reaches (.cxpControlAck t p true 0 data) s fun u =>
      u.dram = s.dram.writeBytes dramDefault c.dram (padTo c.len (data.take c.len))) ∧
    (∀ c rest a data, (s.port p).queue = c :: rest → c.attempts ≠ 0 → c.write = true → c.acc = some a → Reaches (.cxpControlAck t p true 0 data) s fun u =>
      u.dram = s.dram) ∧
    (∀ c rest, (s.port p).queue = c :: rest → c.attempts ≠ 0 → c.attempts < 3 → c.since + 16000000 * s.dparam 0x8011 ≤ max s.dt t →
      Reaches (.cxpControlTimeout t p) s fun u => (u.port p).queue = { c with attempts := c.attempts + 1, since := max s.dt t } :: rest ∧
        u.tx = [.camControl p c.write c.addr c.data c.len])

/-- Frames (R261 to R268): a trigger that is due is sent; a header in the port's format begins frame N, one in another format discards it;
stripes arrive, are whole, return from the spill region and leave the pipeline; a trigger without a frame goes missing. -/
def Obligations.FramesMove : Prop :=
  ∀ (t p : Nat) (s : State), s.up = true → p < s.img.ports.length →
    (∀ i x, ((s.port p).triggers.findIdx? fun e => !e.sent && decide (e.due ≤ max s.dt t)) = some i → (s.port p).triggers[i]? = some x →
      (s.port p).link = .up → Reaches (.triggerDue t p) s fun u =>
        (u.port p).triggers = updAt (s.port p).triggers i (fun e => { e with sent := true }) ∧
          u.tx = [.camTrigger p ((x.due : Int) + toSigned 32 (s.param 0x8002 p)).toNat]) ∧
    (∀ fmt w h, (s.port p).link = .up → (s.port p).inFrame = false →
      (fmt = camPixel (s.port p).cfg ∧ w = camWidth (s.port p).cfg ∧ h = camHeight (s.port p).cfg → Reaches (.cxpSof t p fmt w h) s fun u =>
        (u.port p).inFrame = true ∧ (u.port p).nextFrame = (s.port p).nextFrame + 1 ∧
          ∃ f, (u.port p).frames = (s.port p).frames ++ [f] ∧ f.number = (s.port p).nextFrame ∧ f.sof = max s.dt t) ∧
      (fmt ≠ camPixel (s.port p).cfg ∨ w ≠ camWidth (s.port p).cfg ∨ h ≠ camHeight (s.port p).cfg → Reaches (.cxpSof t p fmt w h) s fun u =>
        (u.port p).inFrame = false ∧ (u.port p).discard = true ∧ (u.port p).nextFrame = (s.port p).nextFrame + 1)) ∧
    (∀ f, ((s.port p).frames.find? fun g => !g.ended) = some f → (s.port p).inFrame = true → (s.port p).discard = false →
      (f.arrived < camHeight (s.port p).cfg → ((s.port p).stripes.any fun st => !st.ready) = false → Reaches (.stripeArrival t p) s fun u =>
        ∃ st, (u.port p).stripes = (s.port p).stripes ++ [st] ∧ st.frame = f.number ∧ st.ready = false) ∧
      (∀ lines fails ends, Reaches (.stripeReady t p lines fails false ends) s fun u => (u.port p).checks = add32 (s.port p).checks fails) ∧
      (∀ lines fails ends, Reaches (.stripeReady t p lines fails true ends) s fun u => (u.port p).inFrame = false ∧ (u.port p).discard = true)) ∧
    (∀ i, (s.port p).inBuffer < bufferRoom (s.port p).cfg → ((s.port p).stripes.findIdx? fun st => st.spilled) = some i →
      ((s.port p).stripes.all fun st => !(st.lost && st.spilled)) = true → Reaches (.stripeReturn t p) s fun u =>
        ((u.port p).stripes.filter (·.spilled)).length + 1 = ((s.port p).stripes.filter (·.spilled)).length) ∧
    (s.img.busy = some p → (s.port p).stripes ≠ [] → Reaches (.pipelineStripeDone t) s fun u =>
      (u.port p).stripes.length < (s.port p).stripes.length) ∧
    (∀ i x, ((s.port p).triggers.findIdx? fun e => !e.received && !e.missing && decide (e.due + 16000000 * s.dparam 0x8009 ≤ max s.dt t)) = some i →
      (s.port p).triggers[i]? = some x → Reaches (.frameTimeout t p) s fun u =>
        (u.port p).triggers = updAt (s.port p).triggers i (fun e => { e with missing := true }) ∧
          (u.port p).missings = inc32 (s.port p).missings)

/-! Bed motion (10). -/

/-- The motion commands: a move begins or waits for its edge; a stop leaves its axis at rest; a position is set; a fault is cleared; a
stream starts 1 ms ahead (R286, R293, R296, R297, R303, R307). -/
def Obligations.MotionCommandsAct : Prop :=
  ∀ (p : Packet) (s : State),
    (startsNow motMoveSpec p s = true → p.scope < s.mot.axes.length →
      (p.fld 1 1 = 0 → Reaches (.motMove p) s fun t => (t.axis p.scope).move = some (packetMove s.host.nextAcc p s) ∧
        (t.axis p.scope).mode = .moving ∧ (t.axis p.scope).wait = none) ∧
      (p.fld 1 1 ≠ 0 → Reaches (.motMove p) s fun t => (t.axis p.scope).move = (s.axis p.scope).move ∧
        ∃ w, (t.axis p.scope).wait = some w ∧ w.input = p.fld 1 1 - 1 ∧ w.edge = none ∧ w.acc = s.host.nextAcc ∧ w.speed = p.fld 8 4)) ∧
    (startsNow motStopSpec p s = true → Reaches (.motStop p) s fun t =>
      ∀ a, (a = p.scope ∨ p.scope = 0xFFFF) → a < 8 → a < s.mot.axes.length → s.axisOn a = true →
        (t.axis a).v = 0 ∧ (t.axis a).move = none ∧ (t.axis a).wait = none ∧ (t.axis a).quickStops = inc32 (s.axis a).quickStops) ∧
    (startsNow motSetPositionSpec p s = true → p.scope < s.mot.axes.length → Reaches (.motSetPosition p) s fun t =>
      (t.axis p.scope).issued = toSigned 32 (p.fld 0 4) ∧ (t.axis p.scope).posValid = true ∧ (t.axis p.scope).source = 1 ∧ (t.axis p.scope).v = 0) ∧
    (startsNow motFaultClearSpec p s = true → p.scope < s.mot.axes.length →
      ((s.axis p.scope).mode = .fault → (s.axis p.scope).pinLow = false → Reaches (.motFaultClear p) s fun t =>
        (t.axis p.scope).mode = .idle ∧ (t.axis p.scope).cause = 0) ∧
      ((s.axis p.scope).mode ≠ .fault → Reaches (.motFaultClear p) s (Served p s s))) ∧
    (startsNow motStreamStartSpec p s = true → Reaches (.motStreamStart p) s fun t =>
      t.mot.stream.running = true ∧ t.mot.stream.acc = some s.host.nextAcc ∧
        t.mot.stream.due = (max s.dt p.t + 16000000 + 15999) / 16000 ∧ t.mot.axes = s.mot.axes)

/-- The events of motion: a tick is taken once; a move that has arrived ends IN_POSITION; a position is re-established from feedback; a
low fault pin faults its axis; an edge on SYNC_IN releases the moves that wait for it (R285, R292, R294, R296, R303). -/
def Obligations.MotionEventsAct : Prop :=
  ∀ (t a : Nat) (s : State), s.up = true → a < s.mot.axes.length →
    (s.mot.tick < max s.dt t / 16000 → Reaches (.axisTick t) s fun u => u.mot.tick = max s.dt t / 16000) ∧
    (∀ m, (s.at t).moveReached a = true → (s.axis a).move = some m → m.recoat = none →
      (m.speedMode = false → Reaches (.moveInPosition t a) s fun u => (u.axis a).inPosition = true ∧ (u.axis a).move = none) ∧
      (m.speedMode = true → (s.axis a).v ≠ 0 → Reaches (.moveInPosition t a) s fun u =>
        (u.axis a).inPosition = false ∧ (u.axis a).move = some { m with acc := none })) ∧
    (∀ d f, (s.axis a).waitZero = some d → 10000 ≤ d → s.feedback a = some f → Reaches (.positionReestablish t a) s fun u =>
      (u.axis a).issued = f ∧ (u.axis a).posValid = true ∧ (u.axis a).source = 2 ∧ (u.axis a).waitZero = none) ∧
    ((s.axis a).mode ≠ .fault → s.axisOn a = true → Reaches (.motFaultPin t a true) s fun u =>
      (u.axis a).mode = .fault ∧ (u.axis a).cause = 1 ∧ (u.axis a).pinLow = true ∧ (u.axis a).v = 0) ∧
    (Reaches (.motFaultPin t a false) s fun u => u = { s with
      dt := max s.dt t, tx := [], mot := { s.mot with axes := updAt s.mot.axes a fun x => { x with pinLow := false } } }) ∧
    (∀ i, i < s.mot.syncIn.length → Reaches (.syncInEdge t i) s fun u => u.mot.syncIn.getD i 0 = roundNat (max s.dt t) 20 * 20 ∧
      ∀ w, (s.axis a).wait = some w → w.input = i → w.edge = none →
        (u.axis a).wait = some { w with edge := some (roundNat (max s.dt t) 20 * 20) })

/-! Position and speed feedback (11). -/

/-- FBK_SET_COUNT gives the channel the count of the packet (R325); the events of a channel keep its codes, levels, latch and frame (R311,
R314, R315). -/
def Obligations.FeedbackActs : Prop :=
  (∀ (p : Packet) (s : State), startsNow fbkSetCountSpec p s = true → p.scope < s.fbk.channels.length → Reaches (.fbkSetCount p) s fun t =>
    (t.channel p.scope).track.r = toSigned 32 (p.fld 0 4) ∧ (t.channel p.scope).track.c = toSigned 32 (p.fld 0 4) ∧
      (t.channel p.scope).track.lost = false) ∧
  ∀ (t c : Nat) (s : State), s.up = true → c < s.fbk.channels.length →
    (∀ sc cc, s.fbkMode c = 1 → Reaches (.sincosConversion t c sc cc) s fun u => (u.channel c).lastDt = max s.dt t ∧
      (u.channel c).track.r = ((s.channel c).track.convert (({ s with svc := { s.svc with
        frontEnds := updAt s.svc.frontEnds (s.frontOf c) fun x => { x with slewDone := min 1024 (x.slewDone + 1) } } } : State).channelCal c) sc cc).1.r) ∧
    (∀ a b, s.fbkMode c = 2 → Reaches (.quadEdge t c a b) s fun u =>
      (u.channel c).a = a ∧ (u.channel c).b = b ∧ (u.channel c).lastDt = max s.dt t ∧
        (a ≠ (s.channel c).a → b ≠ (s.channel c).b → (u.channel c).track.lost = true ∧ (u.channel c).track.r = (s.channel c).track.r) ∧
        (a = (s.channel c).a ∨ b = (s.channel c).b → (byteField (s.param 0xA000 c) 1 1).testBit 0 = false →
          (u.channel c).track.r = (s.channel c).track.r + quadStep (s.channel c).a (s.channel c).b a b)) ∧
    (s.fbkMode c = 2 → byteField (s.param 0xA000 c) 4 1 ≠ 0 → Reaches (.quadIndex t c) s fun u =>
      (u.channel c).latchC = (s.channel c).track.c ∧ (u.channel c).latchDt = max s.dt t ∧
        (byteField (s.param 0xA000 c) 4 1 = 2 → (u.channel c).track.c = toSigned 32 (byteField (s.param 0xA000 c) 8 4))) ∧
    (∀ raw extra latch, s.fbkMode c = 3 →
      (Reaches (.ssiFrameEnd t c raw extra false latch) s fun u =>
        (u.channel c).ssiFails = (s.channel c).ssiFails + 1 ∧ (u.channel c).track.c = (s.channel c).track.c) ∧
      (Reaches (.ssiFrameEnd t c raw extra true latch) s fun u =>
        (u.channel c).ssiFails = 0 ∧ (u.channel c).lastDt = latch ∧ (u.channel c).ssiStarted = true))

/-! Tempering and lighting (12). -/

/-- The emitter commands: a frame's bytes join the page's buffer and the page is no longer LOADED; a latch waits for its due time; DARK
leaves a bus with no page active and no latch (R336, R342, R344). The events of a bus: a latch that is due makes its loaded page active; a
refresh latches the active page again; a verified transfer makes the page LOADED, a failed one FAULT; a poll keeps the driver's answer
(R334, R337, R339, R345). -/
def Obligations.EmittersAct : Prop :=
  (∀ (p : Packet) (s : State),
     (startsNow emdFrameLoadSpec p s = true → p.scope < s.emd.length → p.fld 8 1 < (s.bus p.scope).pages.length → Reaches (.emdFrameLoad p) s fun t =>
       ((t.bus p.scope).page (p.fld 8 1)).buffer =
           ((s.bus p.scope).page (p.fld 8 1)).buffer.writeBytes 0#8 (p.fld 12 4) (s.dramRead (p.fld 0 8) (p.fld 16 4)) ∧
         ((t.bus p.scope).page (p.fld 8 1)).content ≠ .loaded ∧
         ((t.bus p.scope).page (p.fld 8 1)).loads = ((s.bus p.scope).page (p.fld 8 1)).loads ++ [s.host.nextAcc] ∧ t.dram = s.dram) ∧
     (startsNow emdLatchSpec p s = true → Reaches (.emdLatch p) s (Served p s { s with emd := updAt s.emd p.scope fun x =>
       { x with latch := some { page := p.fld 0 1, when_ := packetWhen p (s.at p.t), acc := s.host.nextAcc } } })) ∧
     (startsNow emdDarkSpec p s = true → Reaches (.emdDark p) s fun t => ∀ b, (b = p.scope ∨ p.scope = 0xFFFF) → b < 4 → b < s.emd.length →
       (t.bus b).active = none ∧ (t.bus b).latch = none ∧ (t.bus b).seq = [])) ∧
  (∀ (t b : Nat) (s : State), s.up = true → b < s.emd.length → s.emdOn b = true →
     (∀ l d, (s.bus b).latch = some l → l.when_ = .at_ d → d ≤ max s.dt t → (s.bus b).seq = [] → ((s.bus b).page l.page).content = .loaded →
       ((s.bus b).active.isSome → (s.bus b).lastLatch + 16000 ≤ max s.dt t) → Reaches (.emdLatchDue t b) s fun u =>
         (u.bus b).active = some l.page ∧ (u.bus b).lastLatch = max s.dt t ∧ (u.bus b).latch = none) ∧
     (∀ k due, (s.bus b).active = some k → (s.bus b).seq = [] → (s.bus b).latch = none →
       due = (s.bus b).lastLatch + ceilDiv 48000000 (max 1 (s.matrixDt b)) * max 1 (s.matrixDt b) → due ≤ max s.dt t →
       Reaches (.emdRefreshLatch t b) s fun u => (u.bus b).active = some k ∧ (u.bus b).lastLatch = due) ∧
     (∀ k replies ok, ((List.range 2).find? fun k => ((s.bus b).page k).content == .transferring) = some k → k < (s.bus b).pages.length →
       ok = ((s.asked b k).all fun d => (verifyDriver (crc16 (((s.bus b).page k).buffer.readBytes 0#8 (2048 * d) 2048 ++ leBytes 32 (s.emdLevels b k)))
         (((replies.find? fun e => e.1 == d).map (·.2)).getD [])).2) → Reaches (.emdTransferEnd t b replies) s fun u =>
         ((u.bus b).page k).content = (if ok then .loaded else .fault) ∧ ((u.bus b).page k).loads = []) ∧
     (∀ d reply w c, (s.emdMask b).contains d = true → d < (s.bus b).drivers.length → emdReplyOf reply = some (w, c) →
       Reaches (.emdStatusPoll t b d reply) s fun u => ((u.bus b).drivers.getD d {}).word = w ∧ ((u.bus b).drivers.getD d {}).misses = 0))

/-! The host interface (14). -/

/-- Commands that only answer (R394, R403): identity, NOP and the key slots' counters; each leaves the device as it was and sends its
status packet with OK, unless NO_REPLY is set (R383, R384). A stream fence outside EXPOSE is given its number at once; in EXPOSE it waits
for the next sample boundary (R392). -/
def Obligations.HostQueriesAct : Prop :=
  (∀ (p : Packet) (s : State),
     (startsNow devIdentifySpec p s = true → Reaches (.devIdentify p) s fun t => Served p s s t ∧
       (p.flags.testBit 3 = false → Answered p (statusOf devIdentifySpec p s stOk (leBytes 4 s.idRegister ++ leBytes 4 s.heads ++
         leBytes 8 s.otp.serial ++ leBytes 4 s.fwVersion ++ leBytes 4 s.fwSetReg ++ versionBytes)) t)) ∧
     (startsNow nopSpec p s = true → Reaches (.nop p) s fun t => Served p s s t ∧
       (p.flags.testBit 3 = false → Answered p (statusOf nopSpec p s stOk []) t)) ∧
     (startsNow counterReadSpec p s = true → Reaches (.counterRead p) s fun t => Served p s s t ∧
       (p.flags.testBit 3 = false → Answered p (statusOf counterReadSpec p s stOk ((List.range 8).flatMap fun i =>
         leBytes 1 (s.key i).state.code ++ zeros 7 ++ leBytes 8 ((running counterReadSpec p s).key i).last)) t))) ∧
  (∀ (p : Packet) (s : State), startsNow streamFenceSpec p s = true →
     (s.exposing = false → Reaches (.streamFence p) s fun t => t.host.fenceNumber = s.host.fenceNumber + 1) ∧
     (s.exposing = true → Reaches (.streamFence p) s fun t => Served p s s t ∧ t.host.fenceNumber = s.host.fenceNumber ∧
       t.host.fences = s.host.fences ++ [(s.host.nextAcc, max s.dt p.t)]))

/-- Queue pairs (R381): a pair is created at indices 0; a pair whose QUEUE_DELETE finds commands in progress stays until they have ended,
and one without is disabled at once. Keys (R396, R397): KEY_LOAD makes its slot ACTIVE with the key it carries and never lowers the slot's
last accepted counter; KEY_RETIRE makes its slot RETIRED from its own acceptance onward. -/
def Obligations.QueuesAndKeysAct : Prop :=
  (∀ (p : Packet) (s : State), p.fld 0 1 < s.host.qps.length →
     (startsNow queueCreateSpec p s = true → Reaches (.queueCreate p) s fun t => t.qp (p.fld 0 1) =
       { enabled := true, sizeExp := p.fld 1 1, vector := p.fld 2 1, sqBase := p.fld 8 8, cqBase := p.fld 16 8 }) ∧
     (startsNow queueDeleteSpec p s = true →
       (Reaches (.queueDelete p) s fun t => (t.qp (p.fld 0 1)).deleting = some s.host.nextAcc ∨ (t.qp (p.fld 0 1)).enabled = false) ∧
       ((∀ q, (s.qp q).deleting = none) → s.outstanding (.qp (p.fld 0 1)) = 0 → Reaches (.queueDelete p) s fun t =>
         t.qp (p.fld 0 1) = {}) ∧
       ((∀ q, (s.qp q).deleting = none) → s.outstanding (.qp (p.fld 0 1)) ≠ 0 → Reaches (.queueDelete p) s fun t =>
         t.qp (p.fld 0 1) = { s.qp (p.fld 0 1) with deleting := some s.host.nextAcc }))) ∧
  (∀ (p : Packet) (s : State), p.fld 0 1 < s.host.keys.length →
     (startsNow keyLoadSpec p s = true → ∀ k, s.loadedKey p = some k → Reaches (.keyLoad p) s fun t =>
       (t.key (p.fld 0 1)).state = .active ∧ (t.key (p.fld 0 1)).key = k ∧ (s.key (p.fld 0 1)).last ≤ (t.key (p.fld 0 1)).last ∧
         (s.key (p.fld 0 1)).lease - 1 ≤ (t.key (p.fld 0 1)).last) ∧
     (startsNow keyRetireSpec p s = true → Reaches (.keyRetire p) s fun t =>
       (t.key (p.fld 0 1)).state = .retired ∧ (t.key (p.fld 0 1)).retiredAt = s.host.nextAcc))

/-- Doorbells (R374, R377, R380): a tail or head within the queue of an enabled pair is taken; any other, and a head that would release
entries not written, is ignored and counted. The other BAR0 writes (R8, R373, R401, Tables 14.5 and 14.7): bases of queue pair 0 while it
is disabled, ENABLE, moderation, PAUSE; an access of a wrong size or alignment is counted. A read offset written through BAR0 is taken
where it is a multiple of 64 within the host ring (R195). -/
def Obligations.Bar0Acts : Prop :=
  (∀ (t q v : Nat) (s : State), s.bar0 = true → q < 64 →
     ((s.qp q).enabled = true → v % 65536 < (s.qp q).slots → Reaches (.sqTailWrite t q v) s fun u => u = { s with
       dt := max s.dt t, tx := [], host := { s.host with qps := updAt s.host.qps q fun x => { x with sqTail := v % 65536 } } }) ∧
     ((s.qp q).enabled = false ∨ (s.qp q).slots ≤ v % 65536 →
       (Reaches (.sqTailWrite t q v) s fun u => u = { s with
         dt := max s.dt t, tx := [], host := { s.host with doorbellErrs := inc32 s.host.doorbellErrs } }) ∧
       (Reaches (.cqHeadWrite t q v) s fun u => u = { s with
         dt := max s.dt t, tx := [], host := { s.host with doorbellErrs := inc32 s.host.doorbellErrs } })) ∧
     (∀ n, (s.qp q).enabled = true → v % 65536 < (s.qp q).slots → n = (v % 65536 + (s.qp q).slots - (s.qp q).cqHead) % (s.qp q).slots →
       n ≤ (s.qp q).cqUsed → Reaches (.cqHeadWrite t q v) s fun u => u = { s with
         dt := max s.dt t, tx := [], host := { s.host with qps := updAt s.host.qps q fun x =>
           { x with cqHead := v % 65536, cqUsed := x.cqUsed - n } } }) ∧
     (∀ n, (s.qp q).enabled = true → v % 65536 < (s.qp q).slots → n = (v % 65536 + (s.qp q).slots - (s.qp q).cqHead) % (s.qp q).slots →
       (s.qp q).cqUsed < n → Reaches (.cqHeadWrite t q v) s fun u => u = { s with
         dt := max s.dt t, tx := [], host := { s.host with doorbellErrs := inc32 s.host.doorbellErrs } })) ∧
  (∀ (t v : Nat) (s : State), s.bar0 = true →
     (cfgEnable s.host.qp0Cfg = false → v % 64 = 0 →
       (Reaches (.qp0CfgWrite t .sqBase v) s fun u => u = { s with dt := max s.dt t, tx := [], host := { s.host with qp0SqBase := v } }) ∧
       (Reaches (.qp0CfgWrite t .cqBase v) s fun u => u = { s with dt := max s.dt t, tx := [], host := { s.host with qp0CqBase := v } })) ∧
     (cfgEnable s.host.qp0Cfg = true ∨ v % 64 ≠ 0 →
       (Reaches (.qp0CfgWrite t .sqBase v) s fun u => u = { s with dt := max s.dt t, tx := [], host := { s.host with rsvdWrites := inc32 s.host.rsvdWrites } }) ∧
       (Reaches (.qp0CfgWrite t .cqBase v) s fun u => u = { s with dt := max s.dt t, tx := [], host := { s.host with rsvdWrites := inc32 s.host.rsvdWrites } })) ∧
     (0 < s.host.qps.length → cfgEnable s.host.qp0Cfg = false → cfgEnable v = true → 4 ≤ cfgSizeExp v → cfgSizeExp v ≤ 16 →
       Reaches (.qp0CfgWrite t .cfg v) s fun u => u.qp 0 =
         { enabled := true, sizeExp := cfgSizeExp v, vector := cfgVector v, sqBase := s.host.qp0SqBase, cqBase := s.host.qp0CqBase }) ∧
     (cfgEnable s.host.qp0Cfg = true → cfgEnable v = false → Reaches (.qp0CfgWrite t .cfg v) s fun u => (u.qp 0).enabled = false) ∧
     (∀ n, n < 64 → n < s.host.vectors.length → Reaches (.qp0CfgWrite t (.mod n) v) s fun u =>
       (u.host.vectors.getD n {}).count = v / 65536 % 65536 ∧ (u.host.vectors.getD n {}).timer = v % 65536) ∧
     (Reaches (.pauseWrite t v) s fun u => u = { s with dt := max s.dt t, tx := [], host := { s.host with pauseRequest := v.testBit 0 } }) ∧
     (∀ off size, ((size == 4 || size == 8) && off % size == 0) = false → Reaches (.bar0BadAccess t off size true) s fun u =>
       u = { s with dt := max s.dt t, tx := [], host := { s.host with rsvdWrites := inc32 s.host.rsvdWrites } })) ∧
  (∀ (t i v : Nat) (s : State), s.bar0 = true → i < 5 → v % 64 = 0 → v < s.hostSize i →
     Reaches (.streamReadWrite (.bar0 t i v)) s fun u => u = { s with
       dt := max s.dt t, tx := [], streams := updAt s.streams i fun x => { x with hostRead := v } })

/-- A packet that arrives is served as its command's row serves it: a fetched slot moves its queue's head first, a datagram opens its
session first (R376, R386); a malformed slot is answered, a malformed datagram counted (R375, R385). Commands that waited (R376, R390,
R391, R394): one that nothing holds starts as it would have on arrival; one held too long by a fence ends with FENCE_TIMEOUT; a committed
lease is its slot's. -/
def Obligations.PacketsAct : Prop :=
  (∀ (t : Nat) (s : State), s.up = true →
     (∀ q slot packet v c, (s.at t).turn = some q → slot.length = 64 →
       v = ({ s with host := { s.host with lastQp := q, qps := updAt s.host.qps q fun x => { x with sqHead := (x.sqHead + 1) % x.slots } } } : State) →
       (slotFail slot (if field slot 0 1 = 0 then slot.drop 16 else packet) = none →
         c = packetOf t (.qp q) (field slot 4 4) (field slot 8 8) (if field slot 0 1 = 0 then slot.drop 16 else packet) →
         exec (.sqFetch t slot packet) s = serve (specFor c.1 c.2) c.2 v) ∧
       (∀ st, slotFail slot (if field slot 0 1 = 0 then slot.drop 16 else packet) = some st → Reaches (.sqFetch t slot packet) s fun u =>
         ∃ e, u.host.cqWait = s.host.cqWait ++ [e] ∧ e.qp = q ∧ e.marker = false ∧ field e.packet 10 2 = st)) ∧
     (∀ port src srcPort payload i c, (s.at t).ethUp port = true → port < 4 → s.accepts = true → 16 ≤ payload.length →
       payload.length = 8 * field payload 4 2 → (s.at t).sessionFor src srcPort = some i → c = packetOf t (.session i) 0 0 payload →
       exec (.udpDatagram t port src srcPort (s.dparam 0xE004) false payload) s = serve (specFor c.1 c.2) c.2 ((s.at t).openSession i src srcPort))) ∧
  (∀ (t acc : Nat) (s : State), s.up = true →
     (∀ w, (s.host.waiting.find? fun w => w.acc == acc && w.lease.isNone) = some w →
       (s.blocked acc w.packet = false → Reaches (.fenceRelease t acc) s fun u => ∃ g x, u = { start (specFor w.opcode w.packet) false w.acc w.packet
         { s with dt := max s.dt t, tx := [], host := { s.host with waiting := s.host.waiting.filter fun w => w.acc != acc } } with
           host := g, tx := x, dt := max s.dt t, pending := s.pending }) ∧
       (s.fenced acc w.packet = true → w.since + 16000000 * s.dparam 0x0017 < max s.dt t → Reaches (.fenceTimeout t acc) s fun u =>
         (∃ g x, u = { s with dt := max s.dt t, host := g, tx := x }) ∧ u.host.waiting = s.host.waiting.filter fun w => w.acc != acc)) ∧
     (∀ slot r rest v made, s.recorder.journal.queue = r :: rest → r.use = .lease slot → slot < s.host.keys.length →
       (s.host.waiting.all fun w => w.lease.isNone) = true → ∀ ok, ((s.at t).journalEnd ok) = (v, some (.lease slot, made)) →
       Reaches (.leaseCommit t slot ok) s fun u => (u.key slot).wanted = none ∧
         (u.key slot).lease = if made then field r.payload 8 8 else (s.key slot).lease))

/-- Completion entries and sessions (R377 to R379, R386): an entry is written once its queue has room, into the next place of the CQ; a
session without datagrams for DEV.SESSION_TIMEOUT ends. The PCI Express function (R371, R372, R398 to R400): moderation, masks, power
states, and its resets, which leave the layer cycle alone. -/
def Obligations.HostEventsAct : Prop :=
  (∀ (t : Nat) (s : State), s.up = true →
     (∀ q c, q < s.host.qps.length → (s.host.cqWait.find? fun c => c.qp == q) = some c → (s.qp q).enabled = true → (s.qp q).cqUsed < (s.qp q).slots →
       Reaches (.cqEntryWrite t q) s fun u => (u.qp q).cqUsed = (s.qp q).cqUsed + 1 ∧ (u.qp q).cqTail = ((s.qp q).cqTail + 1) % (s.qp q).slots ∧
         u.host.cqWait = s.host.cqWait.eraseP (fun c => c.qp == q) ∧
         (s.mayWrite = true → s.host.held = [] →
           Tx.hostWrite ((s.qp q).cqBase + 64 * (s.qp q).cqTail) (cqEntry q (s.qp q) c.packet) ∈ u.tx)) ∧
     (∀ i x, s.host.sessions.getD i none = some x → x.lastDt + 16000000000 * s.dparam 0x0018 ≤ max s.dt t → Reaches (.sessionTimeout t i) s fun u =>
       u.host.sessions.getD i none = none ∧ u.cyc = s.cyc)) ∧
  (∀ (t : Nat) (s : State), s.up = true →
     (∀ v x, v < 64 → v < s.host.vectors.length → x = s.host.vectors.getD v {} → 0 < x.entries → x.due = false → x.first + 16000 * x.timer ≤ max s.dt t →
       (s.maySend v = true → Reaches (.moderationTimerExpire t v) s fun u => u.tx = [.msix v x.addr x.data] ∧ (u.host.vectors.getD v {}).entries = 0) ∧
       (s.maySend v = false → Reaches (.moderationTimerExpire t v) s fun u =>
         (u.host.vectors.getD v {}).pba = true ∧ (u.host.vectors.getD v {}).due = true ∧ (u.host.vectors.getD v {}).entries = x.entries)) ∧
     (s.host.ready = true → s.host.d3hot = false →
       (∀ v addr data masked, v < s.host.vectors.length → Reaches (.msixUnmask t (.entry v addr data masked)) s fun u =>
         (u.host.vectors.getD v {}).addr = addr ∧ (u.host.vectors.getD v {}).data = data ∧ (u.host.vectors.getD v {}).masked = masked) ∧
       (∀ enable mask, Reaches (.msixUnmask t (.control enable mask)) s fun u => u.host.msixEnable = enable ∧ u.host.functionMask = mask)) ∧
     (∀ d3 pme, Reaches (.functionD3hotEntry t d3 pme) s fun u => u = { s with
       dt := max s.dt t, tx := [], host := { s.host with d3hot := d3, pmeEn := pme, linkL1 := d3 } }) ∧
     (Reaches (.functionD0Return t) s fun u => u.host.d3hot = false ∧ u.host.busMaster = true ∧ u.host.held = [] ∧ u.cyc = s.cyc) ∧
     (Reaches (.functionReset t) s fun u => u.host.qps = List.replicate 64 {} ∧ u.host.busMaster = false ∧ u.host.msixEnable = false ∧
       u.host.vectors = List.replicate 64 {} ∧ u.host.keys = s.host.keys ∧ u.cyc = s.cyc) ∧
     (Reaches (.clkreqNAsserted t) s fun u => u = { s with dt := max s.dt t, tx := [], host := { s.host with linkL1 := false } }))

/-! Parameters (15). -/

/-- A PARAM_SET that starts outside ARMED and HOLD puts its value in force for every scope it names (R407, R408); so does each row of the
parameter writes that has a row of its own. Left out are the IDs whose value is not stored: read offsets, stream tails, bits that a 1
clears, slot releases, and SPARE_MODE, for which ParameterEffectsAct stands. In ARMED and HOLD a write that its table defers is pending
and acts on nothing yet; the part that may act at once does: a lower POWER_MAX, a cleared bit of EMIT_MASK (R129, R408, R589). -/
def Obligations.ParameterValuesAct : Prop :=
  (∀ (i : Instr) (p : Packet) (s : State) (r : ParamRow),
     i ∈ [Instr.paramSet p, .sigLongWrite p, .lasPowerMaxWrite p, .lasEmitMaskWrite p, .ldgOriginWrite p, .ringParamWrite p, .motDecelWrite p,
       .motJerkWrite p, .motLimitsWrite p, .fbkChannelCfgWrite p, .fbkDividerWrite p, .imgPortCfgWrite p, .imgSettingsWrite p, .emdBusCfgWrite p,
       .emdLevelsWrite p, .hlkPortCfgWrite p, .netPortCfgWrite p, .pairRoleWrite p, .dmaChannelCfgWrite p] →
     startsNow paramSetSpec p s = true → rowOf p.paramId = some r → s.cyc.state ≠ .armed → s.cyc.state ≠ .hold →
     readStream p.paramId = none → p.paramId ∉ [0x2021, 0x800D, 0x9019, 0xA006, 0xA009, 0xA012] → ¬ (0x6C00 ≤ p.paramId ∧ p.paramId ≤ 0x6CFF) →
     Reaches i s fun t => ∀ sc ∈ s.scopesOf r p.scope, t.param p.paramId sc = p.fld 8 r.size) ∧
  (∀ (p : Packet) (s : State) (r : ParamRow), startsNow paramSetSpec p s = true → rowOf p.paramId = some r →
     s.cyc.state = .armed ∨ s.cyc.state = .hold →
     (r.timing = .fence → Reaches (.paramSet p) s fun t => t.par = s.par ∧
       ∀ sc ∈ s.scopesOf r p.scope, ∃ q ∈ t.parPending, q.id = p.paramId ∧ q.scope = sc ∧ q.value = p.fld 8 r.size ∧ q.acc = s.host.nextAcc) ∧
     (p.paramId = 0x3000 → Reaches (.lasPowerMaxWrite p) s fun t =>
       ∀ sc ∈ s.scopesOf r p.scope, t.param 0x3000 sc = min (s.param 0x3000 sc) (p.fld 8 r.size)) ∧
     (p.paramId = 0x3001 → Reaches (.lasEmitMaskWrite p) s fun t => t.dparam 0x3001 = s.dparam 0x3001 &&& p.fld 8 r.size))

/-- What the writes do beside being in force: another ledger origin clears the ledger with cause 3 (R244), a ring starts at offset 0
(R196), flags clear where a 1 is written (R220), a slot is released (R271), a port starts again (R281), a bus goes dark (R335), a DMA
channel is enabled or disabled (R441), a spare mode waits for a trim (R540), a read offset frees room (R195). PARAM_GET reads without
changing the value (R406): the device stays as it was, but for a peak that the read restarts and the free values that a temperature read
takes (log entry 56). -/
def Obligations.ParameterEffectsAct : Prop :=
  (∀ (p : Packet) (s : State) (r : ParamRow), startsNow paramSetSpec p s = true → rowOf p.paramId = some r →
     (p.paramId = 0x7000 → Reaches (.ldgOriginWrite p) s fun t => t.ledger.cells = [] ∧
       ∃ e, t.recorder.arriving = s.recorder.arriving ++ [e] ∧ e.code = 0x7001 ∧ e.key = 3) ∧
     (∀ i, ringStream p.paramId = some i → i < s.streams.length → Reaches (.ringParamWrite p) s fun t =>
       (t.stream i).written = 0 ∧ (t.stream i).copied = 0) ∧
     (∀ i, hostRingStream p.paramId = some i → i < s.streams.length → Reaches (.ringParamWrite p) s fun t =>
       (t.stream i).hostWrite = 0 ∧ (t.stream i).hostRead = 0) ∧
     (∀ i, readStream p.paramId = some i → i < s.streams.length → Reaches (.streamReadWrite (.param p)) s fun t =>
       (t.stream i).hostRead = p.fld 8 r.size ∧ (t.stream i).hostWrite = (s.stream i).hostWrite) ∧
     (∀ l, p.paramId = 0x6C00 + l → l < 256 → l < s.loop.loops.length → Reaches (.loopFlagsClear p) s fun t =>
       (t.loopState l).flags = clearBits (s.loopState l).flags (p.fld 8 r.size)) ∧
     (p.paramId = 0x800D → p.scope < s.img.ports.length → Reaches (.imgOutRelease p) s fun t =>
       (t.port p.scope).full = (s.port p.scope).full.filter fun k => k != p.fld 8 r.size) ∧
     (p.paramId = 0x8000 → p.scope < s.img.ports.length → Reaches (.imgPortCfgWrite p) s fun t =>
       (t.port p.scope).cfg = p.fld 8 r.size ∧ (t.port p.scope).inFrame = false) ∧
     (p.paramId = 0xB000 → p.scope < s.emd.length → s.param 0xB000 p.scope ≠ p.fld 8 r.size → Reaches (.emdBusCfgWrite p) s fun t =>
       (t.bus p.scope).active = none ∧ (t.bus p.scope).latch = none) ∧
     (∀ c, p.paramId = 0xD100 + c → c < 16 → c < s.dma.channels.length → Reaches (.dmaChannelCfgWrite p) s fun t =>
       (t.chan c).mode = if (byteField (p.fld 8 r.size) 0 1).testBit 0 then .parked else .disabled) ∧
     (p.paramId = 0xA006 →
       (s.svc.trim = none → Reaches (.fbkSpareModeWrite p) s fun t => t.dparam 0xA006 = p.fld 8 r.size) ∧
       (s.svc.trim.isSome → Reaches (.fbkSpareModeWrite p) s (Served p s { s with svc := { s.svc with
         spareWrite := s.svc.spareWrite ++ [(s.host.nextAcc, p.fld 8 r.size)] } })))) ∧
  (∀ (p : Packet) (s : State), startsNow paramGetSpec p s = true → Reaches (.paramGet p) s fun t =>
     t.par = s.par ∧ t.cyc = s.cyc ∧ t.dram = s.dram ∧ t.streams = s.streams ∧
       (p.flags.testBit 3 = false → Answered p (statusOf paramGetSpec p s stOk ((running paramGetSpec p s).getResult p)) t))

/-! The version-2 opcodes (15). -/

/-- A version-2 opcode of the layer cycle or of the quire does what its native command does (R416, Table 15.7): OP_STATUS answers and
changes nothing; the others move the state, the layer count, the fence number and the quire. -/
def Obligations.ForerunnerCommandsAct : Prop :=
  ∀ (p : Packet) (s : State),
    (startsNow opStatusSpec p s = true → Reaches (.opStatus p) s fun t => Served p s s t ∧
      (p.flags.testBit 3 = false → Answered p (statusOf opStatusSpec p s stOk (leBytes 1 s.cyc.state.code ++ leBytes 1 s.cyc.phase.code ++
        leBytes 1 s.waitCode ++ zeros 1 ++ leBytes 4 s.cyc.layersLeft ++ leBytes 8 (max s.dt p.t))) t)) ∧
    (startsNow opArmSpec p s = true → Reaches (.opArm p) s fun t =>
      t.cyc.state = .armed ∧ t.cyc.phase = .idle ∧ t.cyc.armedAt = max s.dt p.t ∧ t.las.trip = false) ∧
    (startsNow opDisarmSpec p s = true →
      (s.cyc.state = .hold ∨ s.cyc.phase = .idle → Reaches (.opDisarm p) s fun t => t.cyc.state = .ready) ∧
      (s.cyc.state = .armed → s.cyc.phase ≠ .idle → s.cyc.disarm = none →
        Reaches (.opDisarm p) s fun t => t.cyc = { s.cyc with disarm := some s.host.nextAcc })) ∧
    (startsNow opPauseSpec p s = true → Reaches (.opPause p) s fun t => t.cyc.state = .hold ∧ t.cyc.cause = 1) ∧
    (startsNow opContinueSpec p s = true → Reaches (.opContinue p) s fun t => t.cyc.state = .armed ∧ t.cyc.armedAt = max s.dt p.t) ∧
    (startsNow opAbortSpec p s = true → Reaches (.opAbort p) s fun t => t.cyc.state = .safe ∧ t.cyc.cause = 1 ∧ t.cyc.layersLeft = 0) ∧
    (startsNow opRunSpec p s = true → Reaches (.opRun p) s fun t =>
      t.cyc.layersLeft = p.fld 0 4 ∧ (s.cyc.phase = .idle → 0 < p.fld 0 4 → t.cyc.phase = .load)) ∧
    (startsNow opFenceSpec p s = true → s.exposing = false → Reaches (.opFence p) s fun t => t.host.fenceNumber = s.host.fenceNumber + 1) ∧
    (startsNow opLoadLayerSpec p s = true → Reaches (.opLoadLayer p) s (Served p s { s with sig := { s.sig with
      quire := s.sig.quire ++ [{ id := s.sig.nextQuire, acc := s.host.nextAcc, addr := p.fld 0 8, len := up64 (p.fld 8 4) }]
      nextQuire := s.sig.nextQuire + 1 } })) ∧
    (startsNow opFlushSpec p s = true → Reaches (.opFlush p) s fun t => t.sig.quire = [])

/-- The version-2 opcodes that write parameters of one or all heads (R417): outside ARMED and HOLD the converted values are in force, in
them they wait and nothing is in force yet; those of heads, axes and links act as LAS_HEAD_RESTORE, MOT_MOVE and HLK_RETRAIN. -/
def Obligations.ForerunnerSettingsAct : Prop :=
  ∀ (p : Packet) (s : State),
    (startsNow opSetJumpSpec p s = true →
      (s.inLayer = false → Reaches (.opSetJump p) s fun t =>
        ∀ h ∈ s.v2Heads p.scope, t.param 0x2002 h = 2 * p.fld 0 2 ∧ t.param 0x2000 h = p.fld 4 4) ∧
      (s.inLayer = true → Reaches (.opSetJump p) s fun t => t.par = s.par ∧
        ∀ h ∈ s.v2Heads p.scope, ∃ q ∈ t.parPending, q.id = 0x2000 ∧ q.scope = h ∧ q.value = p.fld 4 4)) ∧
    (startsNow opSetDelaysSpec p s = true →
      (s.inLayer = false → Reaches (.opSetDelays p) s fun t => ∀ h ∈ s.v2Heads p.scope,
        t.param 0x2005 h = 10 * p.fld 0 2 ∧ t.param 0x2006 h = 10 * p.fld 2 2 ∧ t.param 0x2007 h = 10 * p.fld 4 2) ∧
      (s.inLayer = true → Reaches (.opSetDelays p) s fun t => t.par = s.par ∧
        ∀ h ∈ s.v2Heads p.scope, ∃ q ∈ t.parPending, q.id = 0x2005 ∧ q.scope = h ∧ q.value = 10 * p.fld 0 2)) ∧
    (startsNow opSetPowerLimitSpec p s = true → s.inLayer = false → Reaches (.opSetPowerLimit p) s fun t =>
      ∀ h ∈ s.v2Heads p.scope, t.param 0x3000 h = roundNat (16 * p.fld 0 2) 5) ∧
    (startsNow opHeadResetSpec p s = true → s.inLayer = false → Reaches (.opHeadReset p) s fun t =>
      t.las.stopped = putBit s.las.stopped p.scope false ∧ t.cyc = s.cyc) ∧
    (startsNow opMoveAxisSpec p s = true → p.scope < s.mot.axes.length → Reaches (.opMoveAxis p) s fun t =>
      (t.axis p.scope).mode = .moving ∧ (t.axis p.scope).wait = none ∧ ∃ m, (t.axis p.scope).move = some m ∧ m.acc = some s.host.nextAcc) ∧
    (startsNow opRetrainSpec p s = true → s.cyc.state ≠ .ready → Reaches (.opRetrain p) s fun t => t.cyc = s.cyc ∧
      ∀ h ∈ s.v2Heads p.scope, h < s.head.hlk.length → s.linkUp h = true → (t.hlk h).link = .acquire)

/-! DMA and interrupts (16). -/

/-- DMA_CHANNEL_CTRL (R441 to R443): STOP waits for a burst in progress and halts a channel that has none; RETRY fetches the halted
descriptor again, or makes the anchor's end decision again; SKIP makes the end decision. -/
def Obligations.DmaCommandsAct : Prop :=
  ∀ (p : Packet) (s : State) (c : Nat), c = p.fld 0 1 → c < s.dma.channels.length →
    (startsNow dmaStopSpec p s = true →
      (s.inBurst c = true → Reaches (.dmaStop p) s fun t =>
        (t.chan c).mode = .running ∧ (t.chan c).stops = (s.chan c).stops ++ [s.host.nextAcc]) ∧
      (s.inBurst c = false → Reaches (.dmaStop p) s fun t => (t.chan c).mode = .halted ∧ (t.chan c).stops = [])) ∧
    (startsNow dmaRetrySpec p s = true →
      ((s.chan c).addr = s.chanChain c → Reaches (.dmaRetry p) s fun t =>
        (t.chan c).mode = .running ∧ (t.chan c).step = .decide ∧ (t.chan c).dbPending = false) ∧
      ((s.chan c).addr ≠ s.chanChain c → Reaches (.dmaRetry p) s fun t =>
        (t.chan c).mode = .running ∧ (t.chan c).step = .fetch ∧ (t.chan c).next = (s.chan c).addr)) ∧
    (startsNow dmaSkipSpec p s = true → Reaches (.dmaSkip p) s fun t =>
      (t.chan c).mode = .running ∧ (t.chan c).step = .decide ∧ (t.chan c).addr = (s.chan c).addr)

/-- Doorbells and entry releases of a channel (R428, R435, R442): a doorbell starts a PARKED channel and is kept by a RUNNING one; one
with bit 0 clear is a reserved encoding; one on a DISABLED channel, and a release beyond the entries in use, is ignored and counted.
Request lines of the endpoints (R437 to R439): a request is raised, a withdrawal lowers it. -/
def Obligations.DmaRequestsAct : Prop :=
  (∀ (t c w : Nat) (s : State), s.bar0 = true → c < 16 → c < s.dma.channels.length →
     (w.testBit 0 = true →
       ((s.chan c).mode = .parked → Reaches (.dmaDoorbell t c w) s fun u =>
         (u.chan c).mode = .running ∧ (u.chan c).step = .decide ∧ (u.chan c).belled = true) ∧
       ((s.chan c).mode = .running → Reaches (.dmaDoorbell t c w) s fun u =>
         (u.chan c).dbPending = true ∧ (u.chan c).doorbells = inc32 (s.chan c).doorbells ∧ (u.chan c).step = (s.chan c).step) ∧
       ((s.chan c).mode = .disabled → Reaches (.dmaDoorbell t c w) s fun u =>
         u = { s with dt := max s.dt t, tx := [], host := { s.host with doorbellErrs := inc32 s.host.doorbellErrs } })) ∧
     (w.testBit 0 = false → Reaches (.dmaDoorbell t c w) s fun u =>
       u = { s with dt := max s.dt t, tx := [], host := { s.host with rsvdWrites := inc32 s.host.rsvdWrites } }) ∧
     (∀ n, n = (w % 65536 + s.chanSlots c - (s.chan c).head % s.chanSlots c) % s.chanSlots c →
       ((s.chan c).mode ≠ .disabled → w % 65536 < s.chanSlots c → n ≤ (s.chan c).used → Reaches (.dmaRingHeadWrite t c w) s fun u =>
         (u.chan c).head = w % 65536 ∧ (u.chan c).used = (s.chan c).used - n) ∧
       ((s.chan c).mode = .disabled ∨ s.chanSlots c ≤ w % 65536 ∨ (s.chan c).used < n → Reaches (.dmaRingHeadWrite t c w) s fun u =>
         u = { s with dt := max s.dt t, tx := [], host := { s.host with doorbellErrs := inc32 s.host.doorbellErrs } }))) ∧
  (∀ (t e : Nat) (s : State), s.up = true → e < 4 → e < s.dma.requests.length →
     (Reaches (.periphRequest t e) s fun u => u.dma.requests = s.dma.requests.set e true) ∧
     (∀ c n bytes, Reaches (.periphWithdraw t e c n bytes) s fun u => u.dma.requests = s.dma.requests.set e false))

/-- The course of a chain (R422 to R427, R435): a fetched descriptor that passes its checks goes on to move or to end, one that fails
halts the channel; a burst of FILL or of COPY within DRAM stores its bytes; a descriptor that ends is counted; the LINK word decides. -/
def Obligations.DmaChannelsMove : Prop :=
  ∀ (t c : Nat) (s : State), s.up = true → c < 16 → c < s.dma.channels.length → (s.chan c).mode = .running →
    (∀ bytes ch, (s.chan c).step = .fetch → bytes.length = 64 → s.ringFree c = true → s.mayWrite = true →
      ch = { s.chan c with addr := (s.chan c).next, desc := bytes, moved := 0, held := [], splitUsed := false, short := false, mismatch := false } →
      (descCheck c ch s = none → Reaches (.dmaDescriptorFetch t c bytes) s fun u => (u.chan c).mode = .running ∧ (u.chan c).desc = bytes ∧
        (u.chan c).step = (if ch.op = 3 ∨ ch.length = 0 then DmaStep.ending else .move)) ∧
      (∀ st, descCheck c ch s = some st → Reaches (.dmaDescriptorFetch t c bytes) s fun u => (u.chan c).mode = .halted ∧ u.dram = s.dram)) ∧
    (∀ src dst n, n = (s.chan c).burst → s.inBurst c = true → (s.chan c).dstSpace = 0 →
      ((s.chan c).op = 1 → Reaches (.dmaBurstEnd t c src dst) s fun u =>
        u.dram = s.dram.writeBytes dramDefault ((s.chan c).dst + (s.chan c).moved) (fillBytes ((s.chan c).dField 32 8) n)) ∧
      ((s.chan c).op = 0 → (s.chan c).srcSpace = 0 → s.poisoned ((s.chan c).src + (s.chan c).moved) n = false →
        Reaches (.dmaBurstEnd t c src dst) s fun u => u.dram = s.dram.writeBytes dramDefault ((s.chan c).dst + (s.chan c).moved)
          (s.dramRead ((s.chan c).src + (s.chan c).moved) n))) ∧
    ((s.chan c).step = .ending → s.mayWrite = true → Reaches (.dmaDescriptorEnd t c) s fun u =>
      (u.chan c).completed = satNat (2 ^ 64 - 1) ((s.chan c).completed + 1) ∧ (u.chan c).mode = .running ∧ (u.chan c).step = .decide) ∧
    (∀ w, (s.chan c).step = .decide → s.mayWrite = true →
      (w.testBit 0 = false → Reaches (.dmaLinkReadReturn t c w) s fun u =>
        (u.chan c).step = .fetch ∧ (u.chan c).next = w / 64 * 64 % 2 ^ 64 ∧ (u.chan c).mode = .running) ∧
      (w.testBit 0 = true → (s.chan c).dbPending = true → Reaches (.dmaLinkReadReturn t c w) s fun u =>
        (u.chan c).mode = .running ∧ (u.chan c).step = .decide ∧ (u.chan c).dbPending = false) ∧
      (w.testBit 0 = true → (s.chan c).dbPending = false → Reaches (.dmaLinkReadReturn t c w) s fun u => (u.chan c).mode = .parked)) ∧
    ((s.chan c).step = .move → (s.chan c).readsHost = true → s.inBurst c = true → Reaches (.dmaReadFailed t c) s fun u =>
      (u.chan c).mode = .halted ∧ u.dma.readFails = inc32 s.dma.readFails ∧ u.dram = s.dram)

/-- The interrupt controller (R444 to R450): a level makes an IDLE source PENDING; a take makes the presented source ACTIVE on its core,
which enters the vector of that source; an EOI by the owner releases it, and the core's RUN_PRIORITY falls to its highest remaining ACTIVE
source; any other EOI is counted; routes, cores and software sources. -/
def Obligations.InterruptsAct : Prop :=
  ∀ (t n c : Nat) (s : State), s.up = true → n < s.int.sources.length → c < s.int.cores.length →
    (∀ b, n < 90 ∨ (121 < n ∧ n < 128) → Reaches (.sourceLevelChange t n b) s fun u => (u.source n).level = b ∧
      ((s.source n).state ≠ .idle → (s.source n).state ≠ .pending → (u.source n).state = (s.source n).state) ∧
      ((s.source n).state = .idle ∨ (s.source n).state = .pending → (u.source n).state = (if b then .pending else .idle))) ∧
    (∀ wake, c < 12 → s.presented c = some n → Reaches (.sourceTake t c wake) s fun u =>
      (u.source n).state = .active c ∧ (u.core c).taken = some n ∧ (u.core c).entered = (s.core c).vbar + 64 * n) ∧
    (∀ v, c < 12 → v % 256 = n →
      (n < 144 → (s.source n).state = .active c → Reaches (.eoiWrite t c v) s fun u =>
        (u.source n).state = (if (s.source n).level then .pending else .idle) ∧ u.int.spuriousEoi = s.int.spuriousEoi ∧
        u.runPriority c = (((s.owned c).filter fun m => m != n).map fun m => (s.source m).priority).foldl max 0) ∧
      ((s.source n).state ≠ .active c ∨ 144 ≤ n → Reaches (.eoiWrite t c v) s fun u =>
        u = { s with dt := max s.dt t, tx := [], int := { s.int with spuriousEoi := inc32 s.int.spuriousEoi } })) ∧
    (∀ v, n < 256 → Reaches (.routeWrite t n v) s fun u =>
      (u.source n).priority = v / 4096 % 16 ∧ (u.source n).enable = v.testBit 8 ∧ (u.source n).state = (s.source n).state ∧
        ((v % 16 < 12 ∨ v % 16 = 15) → (u.source n).target = v % 16) ∧
        (12 ≤ v % 16 → v % 16 ≤ 14 → (u.source n).target = (s.source n).target ∧ u.host.rsvdWrites = inc32 s.host.rsvdWrites)) ∧
    (∀ v, c < 12 → Reaches (.coreOnlineWrite t c v) s fun u =>
      (u.core c).online = v.testBit 0 ∧ (v / 4096 % 16 < 12 → (u.core c).fallback = v / 4096 % 16)) ∧
    (∀ v, 128 + v % 16 = n → Reaches (.swiWrite t v) s fun u => (u.source n).level = v.testBit 31)

/-! Stores and DDR5 (17). -/

/-- Store errors (R456 to R458): a correctable one is counted, an uncorrectable one is counted and its row is due for repair; a scrub read
moves the pass on; a repair whose turn has come uses a spare row, or shows that there is none. -/
def Obligations.StoresAct : Prop :=
  ∀ (t n : Nat) (s : State), s.up = true → n < 4 → n < s.mem.stores.length →
    (∀ offset, n = 3 ∨ offset < storeBytes → Reaches (.storeCorrectable t n offset) s fun u =>
      u.mem.corrected = inc64 s.mem.corrected ∧ u.mem.uncorrectable = s.mem.uncorrectable ∧
        alGet (storeRow offset) (u.store n).passErrors = some ((alGet (storeRow offset) (s.store n).passErrors).getD 0 + 1)) ∧
    (∀ offset reader, n = 3 → Reaches (.storeUncorrectable t n offset reader .other) s fun u =>
      u.mem.uncorrectable = inc64 s.mem.uncorrectable ∧ storeRow offset ∈ (u.store n).due ∧
        ∃ e, u.recorder.arriving = s.recorder.arriving ++ [e] ∧ e.code = 0xD001 ∧ e.source = n) ∧
    (n < 3 → (s.store n).scrubRow + 1 < storeRows → Reaches (.scrubRead t n) s fun u =>
      (u.store n).scrubRow = (s.store n).scrubRow + 1 ∧ (u.store n).passErrors = (s.store n).passErrors) ∧
    (n < 3 → storeRows ≤ (s.store n).scrubRow + 1 → Reaches (.scrubRead t n) s fun u =>
      (u.store n).scrubRow = 0 ∧ (u.store n).passErrors = [] ∧ (u.store n).passSince = max s.dt t ∧ (u.store n).threshold = s.dparam 0xD003) ∧
    (∀ row, row ∈ (s.store n).due → Reaches (.rowRepair t n row) s fun u => row ∉ (u.store n).due ∧
      ((s.store n).usedIn (tileOf n row) < sparesOf n → (u.store n).usedIn (tileOf n row) = (s.store n).usedIn (tileOf n row) + 1) ∧
      (sparesOf n ≤ (s.store n).usedIn (tileOf n row) → (u.store n).sparesOut = true))

/-- DDR5 channels (R464, R467 to R473): a corrected line is counted, a poisoned address poisons its pair of lines; refreshes are owed and
paid; a pause pays all and keeps the margin; row-hammer tables count and clear; a map-out migrates block by block and ends. -/
def Obligations.DramChannelsAct : Prop :=
  ∀ (t c : Nat) (s : State), s.up = true → c < 4 → c < s.mem.channels.length →
    (∀ rank sub dev, rank < 2 → sub < 2 → dev < 10 → (s.dchan c).inService = true → Reaches (.dramCorrected t c rank sub dev) s fun u =>
      alGet (20 * rank + 10 * sub + dev) (u.dchan c).corrected = some (inc32 ((alGet (20 * rank + 10 * sub + dev) (s.dchan c).corrected).getD 0)) ∧
        u.dram = s.dram) ∧
    (∀ a, dramBase ≤ a → a < dramBase + s.installed → a < s.reservedBase → Reaches (.dramPoison t a) s fun u =>
      a / 128 * 128 ∈ u.mem.poison ∧ a / 128 * 128 + 64 ∈ u.mem.poison ∧ u.dram = s.dram ∧
        ∃ e, u.recorder.arriving = s.recorder.arriving ++ [e] ∧ e.code = 0xD002) ∧
    (∀ rank stall, rank < 2 → (s.dchan c).inService = true → rank < (s.dchan c).owed.length →
      (Reaches (.refreshDue t c rank false stall) s fun u => (u.dchan c).owed = (s.dchan c).owed.set rank 0) ∧
      ((s.dchan c).owed.getD rank 0 < 3 → Reaches (.refreshDue t c rank true stall) s fun u =>
        (u.dchan c).owed = (s.dchan c).owed.set rank ((s.dchan c).owed.getD rank 0 + 1)) ∧
      (3 ≤ (s.dchan c).owed.getD rank 0 → Reaches (.refreshDue t c rank true stall) s fun u =>
        (u.dchan c).owed = (s.dchan c).owed ∧ (u.dchan c).preemptive = inc64 (s.dchan c).preemptive)) ∧
    (∀ margin stall, (s.dchan c).inService = true → Reaches (.retrainPause t c margin stall) s fun u =>
      (u.dchan c).owed = [0, 0] ∧ (u.dchan c).margin = margin % 256 ∧ (u.dchan c).pauses = inc32 (s.dchan c).pauses ∧
        (margin % 256 < s.dparam 0xD006 → (u.dchan c).degraded = true)) ∧
    (∀ rank bank acts, rank < 2 → bank < 32 → (s.dchan c).inService = true → Reaches (.neighbourRefresh t c rank bank acts) s fun u =>
      (u.dchan c).table rank bank = (((s.dchan c).table rank bank).activates (s.dparam 0xD005) acts).1) ∧
    (∀ rank bank raaimt forced stall, rank < 2 → bank < 32 → (s.dchan c).inService = true → raaimt ≠ 0 →
      raaimt ≤ ((s.dchan c).table rank bank).rolling → Reaches (.rfmIssue t c rank bank raaimt forced stall) s fun u =>
        ((u.dchan c).table rank bank).rolling = ((s.dchan c).table rank bank).rolling - raaimt) ∧
    (Reaches (.refreshWindowClear t c) s fun u => ∀ b ∈ (u.dchan c).banks, b.rows = []) ∧
    (∀ p, startsNow memChannelMapoutSpec p s = true → p.fld 0 1 = c → Reaches (.memChannelMapout p) s fun u =>
      u.mem.mapout = some c ∧ u.mem.pointer = 0 ∧ (u.dchan c).migrating = true ∧ u.mem.acc = some s.host.nextAcc) ∧
    (s.mem.mapout = some c → (s.dchan c).migrating = true →
      (s.mem.pointer < s.blocks → Reaches (.migrationBlock t true) s fun u => u.mem = { s.mem with pointer := s.mem.pointer + 1 }) ∧
      (s.blocks ≤ s.mem.pointer → Reaches (.migrationEnd t) s fun u =>
        (u.dchan c).mappedOut = true ∧ (u.dchan c).inService = false ∧ (u.dchan c).migrating = false ∧ u.mem.acc = none))

/-! Ethernet and time (18). -/

/-- Frames, messages and reference inputs (R475, R476, R481, R483 to R485): a frame with a bad check sequence is counted and goes no
further; a lost lock takes the port down; a grandmaster is followed; the relation holds over; a good input replaces a bad one. -/
def Obligations.NetworkEventsAct : Prop :=
  ∀ (t p : Nat) (s : State), s.up = true → p < 4 → p < s.net.ports.length →
    (∀ frame, s.ethUp p = true → 14 ≤ frame.length → (s.ethPort p).counts.length = 6 → Reaches (.ethFrame t p false frame) s fun u =>
      u.tx = [] ∧ u.net.fdb = s.net.fdb ∧
        (u.ethPort p).counts.getD 2 0 = satNat (2 ^ 64 - 1) ((s.ethPort p).counts.getD 2 0 + 1) ∧
        (u.ethPort p).counts.getD 0 0 = satNat (2 ^ 64 - 1) ((s.ethPort p).counts.getD 0 0 + 1)) ∧
    (∀ lock, Reaches (.ethPortLinkChange t p lock) s fun u => u.net.fdb = s.net.fdb ∧
      (lock = false → (u.ethPort p).lock = false ∧ (u.ethPort p).fec = false) ∧
      (lock = true → s.ethEnabled p = true → s.looped 2 p = false → s.islandIn islandNetwork = true → s.cyc.state ≠ .boot →
        (u.ethPort p).lock = true)) ∧
    (∀ master utc, (s.ethPort p).lock = true → byteField (s.dparam 0xE010) 0 1 ≠ 0 → s.net.rel.state ≠ .peer →
      (Reaches (.ptpMessage t p master utc none) s fun u =>
        u.net.master = master % 2 ^ 64 ∧ u.net.portInUse = p ∧ u.net.rel = { s.net.rel with utc := satSigned 16 utc }) ∧
      (∀ o, Reaches (.ptpMessage t p master utc (some o)) s fun u => u.net.lastOffset = o ∧ u.net.rel.dt0 = max s.dt t ∧
        u.net.rel.generation = (s.net.rel.generation + 1) % 4294967296)) ∧
    (s.net.rel.state = .locked ∨ s.net.rel.state = .acquiring → Reaches (.timeHoldover t) s fun u =>
      u.net.rel = { s.net.rel with state := .holdover } ∧ u.net.offsets = []) ∧
    (∀ i, i < 2 → i < s.net.good.length →
      (s.net.good.getD i false = true → Reaches (.refclkBad t i) s fun u => u.net.good = s.net.good.set i false ∧
        (s.net.selected = i → s.net.good.getD (1 - i) false = true → u.net.selected = 1 - i)) ∧
      (s.net.good.getD i false = false → Reaches (.refclkGood t i) s fun u => u.net.good = s.net.good.set i true ∧
        (s.net.bothLost = true → u.net.selected = i ∧ u.net.bothLost = false)))

/-! Paired operation (18). -/

/-- Messages of the peer (R489 to R494, R491): capabilities, echoes, cycle events, claims and releases ahead of the exposure, the time
relation; a frame with a bad check value is discarded and counted. -/
def Obligations.PeerMessagesAct : Prop :=
  ∀ (t : Nat) (s : State) (frame c : List Byte),
    (goodMessage 1 s frame c → (c.drop 16).length = 32 → s.pair.mode = .linking →
      (field (c.drop 16) 3 1 / 16 ≠ 1 → Reaches (.peerCap t frame) s fun u => u.pair.cause = 2 ∧ u.pair.capOk = false ∧ u.pair.mode = .linking) ∧
      (field (c.drop 16) 3 1 / 16 = 1 → s.capAgrees (c.drop 16) = false → Reaches (.peerCap t frame) s fun u =>
        u.pair.cause = 1 ∧ u.pair.capOk = false ∧ u.pair.mode = .linking) ∧
      (field (c.drop 16) 3 1 / 16 = 1 → s.capAgrees (c.drop 16) = true → Reaches (.peerCap t frame) s fun u =>
        u.pair.capOk = true ∧ u.pair.peerCap = c.drop 16 ∧ (s.pair.offsetOk = true → u.pair.mode = .paired))) ∧
    (goodMessage 2 s frame c → (c.drop 16).length = 24 →
      (s.role = 1 → field (c.drop 16) 16 8 = 0 → Reaches (.peerEcho t frame) s fun u => u.tx = [.peer (framed (peerMessage 2 s.pair.seq (max s.dt t)
        (leBytes 8 (field (c.drop 16) 0 8) ++ leBytes 8 (max s.dt t) ++ leBytes 8 (max s.dt t))))]) ∧
      (s.role = 2 → field (c.drop 16) 16 8 ≠ 0 → s.pair.mode = .paired → Reaches (.peerEcho t frame) s fun u =>
        u.pair.running = (roundDiv (((field (c.drop 16) 8 8 : Int) - field (c.drop 16) 0 8) + ((field (c.drop 16) 16 8 : Int) - (max s.dt t : Nat))) 2 ::
          s.pair.running).take 1024)) ∧
    (goodMessage 3 s frame c → (c.drop 16).length = 1048 → s.pair.mode = .paired →
      (field (c.drop 16) 4 1 = evHold → s.cyc.state = .armed → Reaches (.peerCycle t frame) s fun u =>
        u.cyc.state = .hold ∧ u.cyc.cause = field (c.drop 16) 5 1) ∧
      (field (c.drop 16) 4 1 = evImage → Reaches (.peerCycle t frame) s fun u => u.pair.imageGot = true) ∧
      (field (c.drop 16) 4 1 = evStart → s.role = 2 → Reaches (.peerCycle t frame) s fun u =>
        u.pair.start = some (ceilDiv ((field (c.drop 16) 8 8 : Int) - s.pair.delta).toNat 16000 * 16000))) ∧
    (goodMessage 4 s frame c → (c.drop 16).length = 24 → s.exposing = false → s.pair.mode = .paired →
      Reaches (.peerClaim t frame) s fun u => u.pair.early = s.pair.early ++ [(4, c.drop 16)]) ∧
    (goodMessage 5 s frame c → (c.drop 16).length = 8 + 12 * field (c.drop 16) 2 2 → s.exposing = false → s.pair.mode = .paired →
      Reaches (.peerRelease t frame) s fun u => u.pair.early = s.pair.early ++ [(5, c.drop 16)]) ∧
    (goodMessage 6 s frame c → (c.drop 16).length = 32 → s.pair.mode = .paired → s.role = 2 →
      Reaches (.peerRelation t frame) s fun u => u.net.rel.state = .peer ∧ u.net.rel.tai0 = toSigned 64 (field (c.drop 16) 8 8) ∧
        u.net.rel.dt0 = ((field (c.drop 16) 0 8 : Int) - s.pair.delta).toNat) ∧
    (s.up = true → s.pair.link = true → s.role ≠ 0 → unframe frame = none →
      Reaches (.peerCap t frame) s fun u => u.pair = { s.pair with discarded := inc32 s.pair.discarded } ∧ u.cyc = s.cyc)

/-- PEER_SLOT frames and what the link sends of itself (R487, R489, R490, R496): a good slot frame is taken and ends the run of lost ones,
a bad one is counted; CAP and ECHO go out at their intervals, an unacknowledged message again. The pair as its link comes and goes (R487,
R498, R499, Table 18.7): a lost link in a layer splits the pair, which goes on to its fence; a split device may go on alone by the pin or
by the command, until the timeout has run out. -/
def Obligations.PairLinkActs : Prop :=
  (∀ (t : Nat) (s : State), s.up = true → s.pair.link = true → s.role ≠ 0 →
     (∀ frame c n m, unframe frame = some c → n = field c 12 1 → m = field c 13 1 → field c 0 1 = 0x11 → n ≤ 32 → m ≤ 32 →
       c.length = 16 + 8 * n + 16 * m → Reaches (.peerSlot t frame) s fun u =>
         u.pair.slotSeq = some (field c 2 2) ∧ u.pair.lostRun = 0 ∧ u.pair.points.length = n) ∧
     (∀ frame, unframe frame = none → s.pair.lostRun < 3 → Reaches (.peerSlot t frame) s fun u =>
       u.pair = { s.pair with discarded := inc32 s.pair.discarded, lostRun := s.pair.lostRun + 1 }) ∧
     (s.pair.mode = .linking → s.pair.capOk = false → s.pair.lastCap + 1600000000 ≤ max s.dt t → Reaches (.pairCapRetry t) s fun u =>
       u.pair.lastCap = max s.dt t ∧ u.tx = [.peer (framed (peerMessage 1 s.pair.seq (max s.dt t) s.capPayload))]) ∧
     (s.pair.mode = .paired → s.role = 2 → s.pair.lastEcho + 16000000 ≤ max s.dt t → Reaches (.peerOffsetEchoTimer t) s fun u =>
       u.pair.lastEcho = max s.dt t ∧ u.tx = [.peer (framed (peerMessage 2 s.pair.seq (max s.dt t) (leBytes 8 (max s.dt t) ++ zeros 16)))]) ∧
     (∀ m, (s.pair.unacked.find? fun m => m.sent + 320000 ≤ max s.dt t) = some m → (∀ n ∈ s.pair.unacked, n.seq = m.seq → n = m) →
       Reaches (.messageResend t m.seq) s fun u => u.tx = [.peer m.bytes] ∧ u.pair.resent = inc32 s.pair.resent)) ∧
  (∀ (t : Nat) (s : State), s.up = true →
     (s.pair.link = true → Reaches (.peerLinkDown t) s fun u => u.pair.link = false ∧ u.pair.downs = inc32 s.pair.downs ∧
       (s.pair.mode = .paired → s.cyc.state = .armed ∨ s.cyc.state = .hold →
         u.pair.mode = .split ∧ u.pair.splitAt = max s.dt t ∧ u.cyc = { s.cyc with holdAtFence := some causePeer }) ∧
       (s.pair.mode = .paired → s.cyc.state = .ready → u.cyc.state = .standby ∧ u.cyc.cause = causePeer) ∧
       (s.pair.mode ≠ .paired → u.cyc = s.cyc ∧ u.pair.mode = s.pair.mode)) ∧
     (s.pair.link = false → s.role ≠ 0 → s.looped 1 0 = false → Reaches (.peerLinkUp t) s fun u => u.pair.link = true ∧ u.cyc = s.cyc ∧
       (s.pair.mode = .linking → u.pair.lastCap = max s.dt t)) ∧
     (s.pair.mode = .split → s.pair.expired = false → max s.dt t ≤ s.witnessEnds → Reaches (.witnessPin t) s fun u =>
       u = { s with dt := max s.dt t, tx := [], pair := { s.pair with mode := .granted } }) ∧
     (s.pair.mode = .split → s.witnessEnds ≤ max s.dt t → Reaches (.witnessTimeout t) s fun u =>
       u = { s with dt := max s.dt t, tx := [], pair := { s.pair with expired := true } }) ∧
     (∀ p, startsNow pairWitnessGrantSpec p s = true → Reaches (.pairWitnessGrant p) s
       (Served p s { s with pair := { s.pair with mode := .granted } })))

/-! The recorder, the build record and the journal (19). -/

/-- The recorder's commands (R509 to R512, R520, R521): a read stores the records it returns and leaves the log; a freeze and its end; a
clear leaves the record CLEARED alone; a build is opened, and closed at once or after the layer. -/
def Obligations.RecorderCommandsAct : Prop :=
  ∀ (p : Packet) (s : State),
    (startsNow recReadSpec p s = true → Reaches (.recRead p) s fun t =>
      t.recorder.log = s.recorder.log ∧ t.recorder.nextSeq = s.recorder.nextSeq ∧ (recAddr p = 0 → t.dram = s.dram) ∧
        (recAddr p ≠ 0 → t.dram = s.dram.writeBytes dramDefault (recAddr p)
          ((s.readLog (p.fld 8 8) (recMax p)).2 ++ (s.readLog (p.fld 8 8) (recMax p)).1.flatMap LogRec.bytes))) ∧
    (startsNow recFreezeSpec p s = true → Reaches (.recFreeze p) s
      (Served p s { s with recorder := { s.recorder with frozen := some (max s.dt p.t) } })) ∧
    (startsNow recUnfreezeSpec p s = true → s.recorder.frozen.isSome → Reaches (.recUnfreeze p) s fun t =>
      t.recorder.frozen = none ∧ t.recorder.held = [] ∧ t.cyc = s.cyc) ∧
    (startsNow recClearSpec p s = true → Reaches (.recClear p) s fun t => t.recorder.nextSeq = 1 ∧ t.recorder.lost = 0 ∧
      t.recorder.clears = s.recorder.clears + 1 ∧ ∃ e, t.recorder.log = [e] ∧ e.code = 1 ∧ e.seq = 0 ∧ e.key = s.recorder.nextSeq) ∧
    (startsNow recBuildBeginSpec p s = true → Reaches (.recBuildBegin p) s fun t =>
      ∃ b, t.recorder.build = some b ∧ b.id = p.fld 0 8 ∧ b.begun = max s.dt p.t ∧ b.entries = 0) ∧
    (startsNow recBuildEndSpec p s = true →
      (s.cyc.phase = .idle → Reaches (.recBuildEnd p) s fun t => t.recorder.build = none) ∧
      (s.cyc.phase ≠ .idle → Reaches (.recBuildEnd p) s fun t =>
        t.recorder.build = s.recorder.build ∧ ∃ slot counter, t.recorder.buildEnd = some (s.host.nextAcc, slot, counter)))

/-- Events that arrive, freezes that end, journal entries and compactions (R502, R511, R523, R526). -/
def Obligations.RecorderEventsAct : Prop :=
  ∀ (t : Nat) (s : State), s.up = true →
    (∀ i e, s.recorder.arriving[i]? = some e → Reaches (.eventArrival t i) s fun u =>
      u.recorder.arriving = s.recorder.arriving.eraseIdx i ∧ u.recorder.nextSeq = s.recorder.nextSeq + 1 ∧
        (s.recorder.frozen = none → s.recorder.log.length + 1 < s.otp.grade.slots → (∀ n ∈ s.recorder.log.head?, foldsInto s.otp.grade e n = false) →
          u.recorder.log = { e with seq := s.recorder.nextSeq } :: s.recorder.log)) ∧
    (∀ d, s.recorder.frozen = some d → d + 16000000000 * s.dparam 0xE109 ≤ max s.dt t → Reaches (.freezeTimeout t) s fun u =>
      u.recorder.frozen = none ∧ u.recorder.held = []) ∧
    (∀ r rest, s.recorder.journal.queue = r :: rest → (∀ slot, r.use ≠ .lease slot) → s.recorder.journal.compacting = false →
      s.recorder.journal.bad = false →
      (Reaches (.journalWriteEnd t true) s fun u => u.recorder.journal.queue = rest ∧ u.recorder.journal.nextSeq = s.recorder.journal.nextSeq + 1 ∧
        u.flash = s.flash.writeBytes flashErased (s.jBase s.recorder.journal.bank + s.recorder.journal.pos)
          (journalEntry r.type s.recorder.journal.nextSeq r.payload)) ∧
      (r.attempts < 2 → Reaches (.journalWriteEnd t false) s fun u => u.recorder.journal.queue = { r with attempts := r.attempts + 1 } :: rest ∧
        u.recorder.journal.failed = inc32 s.recorder.journal.failed)) ∧
    (s.recorder.journal.compacting = true → Reaches (.compactionEnd t) s fun u =>
      u.recorder.journal.compacting = false ∧ u.recorder.journal.bank = 1 - s.recorder.journal.bank ∧
        u.recorder.journal.generation = s.recorder.journal.generation + 1)

/-! Uninterrupted service (20). -/

/-- The service commands (R531 to R535, R539, R545 to R547): a load, a switch, a commit begin; modes change at once outside a layer; a
trim starts or waits for the one that runs; host-computed deltas are in use; a loopback and a self-test begin. -/
def Obligations.ServiceCommandsAct : Prop :=
  ∀ (p : Packet) (s : State),
    (startsNow svcFwLoadSpec p s = true → Reaches (.svcFwLoad p) s fun t => t.fw.standby = .loading ∧
      t.fw.loading = some (s.host.nextAcc, fwImageOf (s.dramRead (p.fld 0 8) (p.fld 8 4))) ∧ t.fw.active = s.fw.active) ∧
    (startsNow svcFwSwitchSpec p s = true → Reaches (.svcFwSwitch p) s fun t => t.fw = { s.fw with switching := some s.host.nextAcc }) ∧
    (startsNow svcFwCommitSpec p s = true → Reaches (.svcFwCommit p) s fun t => t.fw.standby = .loading ∧
      t.fw.committing = some (s.host.nextAcc, p.fld 0 1 == 1) ∧ t.fw.active = s.fw.active) ∧
    (startsNow svcModeSetSpec p s = true →
      (s.modesNow = true → Reaches (.svcModeSet p) s fun t => t.svc.modes = s.modesWith p) ∧
      (s.modesNow = false → Reaches (.svcModeSet p) s (Served p s { s with svc := { s.svc with
        modeReq := joinModes s.svc.modes s.host.nextAcc (modeBits (p.fld 0 4) (p.fld 4 4)) s.svc.modeReq } }))) ∧
    (startsNow svcTrimRunSpec p s = true →
      (s.svc.trim = none → s.svc.trimQueue = [] → s.trimInPlace (p.fld 0 1) = true ∨ s.fbkValid (p.fld 0 1) = true →
        Reaches (.svcTrimRun p) s fun t => ∃ x, t.svc.trim = some x ∧ x.fe = p.fld 0 1 ∧ x.kind = .run s.host.nextAcc) ∧
      (s.svc.trim.isSome → Reaches (.svcTrimRun p) s fun t => t.svc.trim = s.svc.trim ∧
        t.svc.trimQueue = s.svc.trimQueue ++ [(p.fld 0 1, .run s.host.nextAcc)])) ∧
    (startsNow svcTrimCaptureSpec p s = true →
      (s.svc.trim = none → s.svc.trimQueue = [] → s.trimInPlace (p.fld 8 1) = true ∨ s.fbkValid (p.fld 8 1) = true →
        Reaches (.svcTrimCapture p) s fun t => ∃ x, t.svc.trim = some x ∧ x.fe = p.fld 8 1 ∧ x.kind = .capture s.host.nextAcc (p.fld 0 8)) ∧
      (s.svc.trim.isSome → Reaches (.svcTrimCapture p) s fun t => t.svc.trim = s.svc.trim)) ∧
    (startsNow svcTrimSetSpec p s = true → p.fld 0 1 < s.svc.frontEnds.length → Reaches (.svcTrimSet p) s fun t =>
      (t.frontEnd (p.fld 0 1)).delta = deltaOf (slice p.params 8 10) ∧ (t.frontEnd (p.fld 0 1)).slewDone = 0) ∧
    (startsNow svcLoopbackSpec p s = true → Reaches (.svcLoopback p) s fun t => ∃ l, t.svc.loopback = s.svc.loopback ++ [l] ∧
      l.acc = s.host.nextAcc ∧ l.iface = p.fld 0 1 ∧ l.index = p.fld 1 1 ∧ l.endsAt = max s.dt p.t + 16000000 * p.fld 4 4) ∧
    (startsNow svcSelfTestSpec p s = true → Reaches (.svcSelfTest p) s
      (Served p s { s with svc := { s.svc with selfTest := some (s.host.nextAcc, p.fld 0 1) } }))

/-- Firmware and islands (R528 to R534): a load ends; at the quiescent point the sets change places, unless the incoming one faults; a
commit ends; an island that faults is isolated and counted, its self-test returns or retires it. -/
def Obligations.ServiceEventsAct : Prop :=
  ∀ (t : Nat) (s : State), s.up = true →
    (s.fw.standby = .loading → s.fw.setRetired = false → s.fw.committing = none → (s.svc.islands.getD 44 {}).status ≠ .testing →
      (∀ acc im, s.fw.loading = some (acc, im) → Reaches (.fwStandbyReady t) s fun u =>
        u.fw = { s.fw with standby := .staged, loading := none, other := im }) ∧
      (s.fw.loading = none → s.fw.takeoverWait = false → Reaches (.fwStandbyReady t) s fun u =>
        u.fw = { s.fw with standby := .mirror, other := s.fw.active })) ∧
    (s.fw.switching.isSome →
      (Reaches (.fwQuiescentPoint t false) s fun u => u.fw.activeSet = 1 - s.fw.activeSet ∧ u.fw.active = s.fw.other ∧
        u.fw.other = s.fw.active ∧ u.fw.standby = .trial ∧ u.fw.switching = none) ∧
      (Reaches (.fwQuiescentPoint t true) s fun u => u.fw.activeSet = s.fw.activeSet ∧ u.fw.active = s.fw.active ∧
        u.fw.standby = .loading ∧ u.fw.switching = none)) ∧
    (∀ acc, s.fw.committing = some (acc, false) → (s.svc.islands.getD 44 {}).status ≠ .testing → Reaches (.fwCommitDone t true) s fun u =>
      u.fw = { s.fw with standby := .mirror, other := s.fw.active, committing := none } ∧ u.flash = s.flash) ∧
    (∀ i set, s.mayFault i set = true → i < s.svc.islands.length → Reaches (.islandFault t i set) s fun u =>
      (u.island i).faults = inc32 (s.island i).faults ∧ (u.island i).status ≠ .inService) ∧
    (∀ i, (s.island i).status = .testing → i < s.svc.islands.length →
      (Reaches (.islandSelfTestEnd t i false) s fun u => (u.island i).status = .retired) ∧
      ((i = islandGuard ∨ i = islandMotion ∨ i = islandMemory) → s.cyc.state ≠ .recovery → Reaches (.islandSelfTestEnd t i true) s fun u =>
        (u.island i).status = .faulted ∧ (u.island i).passed = true) ∧
      (i ≠ islandGuard → i ≠ islandMotion → i ≠ islandMemory → Reaches (.islandSelfTestEnd t i true) s fun u =>
        (u.island i).status = .inService))

/-- Trims and tests (R539 to R547): a period that is over asks for the next front end's trim; the comparisons hand the channel over and
back, or end the trim with MISMATCH; the fit is made of 8,192 codes; an accepted delta is in use; a loopback and a self-test end. -/
def Obligations.TrimsAct : Prop :=
  ∀ (t : Nat) (s : State), s.up = true →
    (s.svc.lastPeriod + 16000000000 * byteField (s.dparam 0xF018) 0 4 ≤ max s.dt t → Reaches (.trimPeriod t) s fun u =>
      u.svc.lastPeriod = max s.dt t ∧ (s.assisted fnTrim = false → s.dparam 0xA006 ≠ 1 → u.svc.nextTrim = afterTrim s.svc.nextTrim)) ∧
    (∀ x d e, s.svc.trim = some x → x.step = 1 → x.since + compareTime ≤ max s.dt t →
      (x.mismatch d e = false → Reaches (.trimHandover t d e) s fun u =>
        u.svc.trim = some { x with step := 3, since := max s.dt t, conv0 := conversionAt (max s.dt t + settleTime) }) ∧
      (x.mismatch d e = true → s.svc.trimQueue = [] → s.svc.spareWrite = [] → x.fe < s.svc.frontEnds.length → Reaches (.trimHandover t d e) s fun u =>
        u.svc.trim = none ∧ (u.frontEnd x.fe).result = 2)) ∧
    (∀ x codes, s.svc.trim = some x → x.step = 3 → x.conv0 + 8191 * 3200 ≤ max s.dt t → codes.length = 8192 → x.inPlace = false →
      Reaches (.trimFit t codes) s fun u => ∃ y, u.svc.trim = some y ∧ y.step = 5 ∧ y.codes = codes ∧ y.fe = x.fe ∧ y.since = max s.dt t) ∧
    (∀ x d e acc, s.svc.trim = some x → x.step = 5 → x.since + compareTime ≤ max s.dt t → x.mismatch d e = false → x.kind = .run acc → x.result = 1 →
      s.svc.trimQueue = [] → s.svc.spareWrite = [] → x.fe < s.svc.frontEnds.length → Reaches (.trimHandback t d e) s fun u =>
        u.svc.trim = none ∧ (u.frontEnd x.fe).delta = x.candidate ∧ (u.frontEnd x.fe).slewDone = 0) ∧
    (∀ iface index l bits errors, (s.svc.loopback.find? fun l => l.iface == iface && l.index == index) = some l → l.endsAt ≤ max s.dt t →
      Reaches (.svcLoopbackEnd t iface index bits errors) s fun u => u.svc.loopback = s.svc.loopback.filter fun x => x.acc != l.acc) ∧
    (∀ rows failed margins, s.svc.selfTest.isSome → Reaches (.selfTestEnd t rows failed margins) s fun u => u.svc.selfTest = none)

/-! Power and resets (21). -/

/-- The reset sources bring a device that is up into RESET with their cause (R15, R554, R556, R557, Table 21.3): device time restarts at
zero, parameters, queues and DRAM restart, OTP stays, and so do the flash and the log where nothing was being written or held. -/
def Obligations.ResetsRestart : Prop :=
  ∀ (t : Nat) (s : State) (i : Instr) (cause : Nat), s.up = true →
    ((∃ n, i = .resetPin t n ∧ 1000 ≤ n ∧ cause = 1) ∨ ((∃ r, s.host.resetAt = some r ∧ r ≤ max s.dt t) ∧ i = .deviceResetDelayEnd t ∧ cause = 2) ∨
      (i = .watchdogReset t ∧ cause = 3) ∨ (∃ die temp, i = .junctionOver125 t die temp ∧ die < 3 ∧ 1000 < temp ∧ cause = 4)) →
    Reaches i s fun u => u.cyc.state = .reset ∧ u.dt = 0 ∧ u.power.resetCause = cause ∧ u.otp = s.otp ∧ u.par = [] ∧ u.host = {} ∧ u.dram = [] ∧
      u.pending = s.pending ∧ (s.recorder.journal.queue = [] → u.flash = s.flash) ∧ (s.recorder.frozen = none → u.recorder.log = s.recorder.log)

/-- Supplies, warnings and the release from reset (R550, R551, R554, R561, Table 01.10): OFF is left for RESET with an empty log, any
state for OFF; a supply warning or an over-temperature brings SAFE with its cause; a released device runs BOOT to its end. -/
def Obligations.PowerEventsAct : Prop :=
  ∀ (t : Nat) (s : State),
    (s.cyc.state = .off → Reaches (.railsInWindow t) s fun u =>
      u.cyc.state = .reset ∧ u.dt = 0 ∧ u.power.resetCause = 0 ∧ u.recorder.log = [] ∧ u.flash = s.flash ∧ u.otp = s.otp) ∧
    (s.cyc.state ≠ .off → ∀ rail, rail < 8 → Reaches (.railOutOfWindow t rail) s fun u => u.cyc.state = .off ∧ u.dram = [] ∧ u.otp = s.otp) ∧
    (s.cyc.state ∈ safeStates →
      (∀ rail, rail < 8 → Reaches (.supplyWarning t rail) s fun u =>
        u.cyc.state = .safe ∧ u.cyc.cause = causeSupply ∧ u.power.warn = putBit s.power.warn rail true) ∧
      (∀ n, 1000 ≤ n → Reaches (.pwrfailAssert t n) s fun u => u.cyc.state = .safe ∧ u.cyc.cause = causeSupply) ∧
      (∀ die temp, die < 3 → 920 < temp → Reaches (.junctionOver115 t die temp) s fun u =>
        u.cyc.state = .safe ∧ u.cyc.cause = causeThermal)) ∧
    (s.cyc.state ≠ .off → ∀ n, n < 1000 → Reaches (.pwrfailAssert t n) s fun u => u.cyc = s.cyc) ∧
    (∀ b, (s.at t).mayRelease b = true →
      (Reaches (.resetRelease t b) s fun u => u.dt = max (max s.dt t) b.tEnd ∧ (u.cyc.state = .boot ∨ u.cyc.state = .standby ∨ u.cyc.state = .safe)) ∧
      (b.programmed = [] → s.boardRecord = none → Reaches (.resetRelease t b) s fun u =>
        u.cyc.state = .boot ∧ u.power.boot.result = 2))

/-! What commands leave alone, and what no command changes. -/

/-- The commands of `keepsCycle` leave the device's state, its cause, its phase, its counts and its profile as they are, and those of
`keepsEmitters` the emission stage and the interlock (the frames of the commands that 01, 04 and 05 do not name). -/
def Obligations.CycleStands : Prop :=
  ∀ (i : Instr) (s t : State), exec i s = .next t →
    (keepsCycle i = true → t.cyc = s.cyc) ∧ (keepsEmitters i = true → t.las = s.las)

/-- The commands of `keepsMotion` leave every axis, its loop and its faults as they are, and those of `keepsImaging` every imaging port,
its frames and its settings. -/
def Obligations.AxesAndCamerasStand : Prop :=
  ∀ (i : Instr) (s t : State), exec i s = .next t →
    (keepsMotion i = true → t.mot = s.mot) ∧ (keepsImaging i = true → t.img = s.img)

/-- The commands of `keepsDram` leave every byte of DRAM as it reads, and those of `keepsFlash` every byte of flash. -/
def Obligations.MemoryStands : Prop :=
  ∀ (i : Instr) (s t : State), exec i s = .next t →
    (keepsDram i = true → ∀ a, Mem.read dramDefault t.dram a = Mem.read dramDefault s.dram a) ∧
    (keepsFlash i = true → ∀ a, Mem.read flashErased t.flash a = Mem.read flashErased s.flash a)

/-- Every step keeps the canonical form of both memories: addresses rise strictly, and no listed byte reads as an unlisted one would. What
an unlisted byte reads as is the model's choice (log entry 3). -/
def Obligations.MemoryStaysCanonical : Prop :=
  ∀ s t : State, step s = .next t → s.dram.wf dramDefault = true → s.flash.wf flashErased = true →
    t.dram.wf dramDefault = true ∧ t.flash.wf flashErased = true

/-- No step changes what OTP holds: the grade, the steppings, the serial number and the factory calibration, which is never written in the
field (R538). -/
def Obligations.OtpNeverChanges : Prop :=
  ∀ s t : State, step s = .next t → t.otp = s.otp
end

