-- ==== Sys2Proof/Laws/Mem.lean ====
section
/-! SUPPORT. Byte memories: a read after a write, the canonical form, parts of a range; bytes and check values. -/

namespace Sys2Proof.Machine

/-! Bytes. -/

@[simp] theorem leBytes_length (n v : Nat) : (leBytes n v).length = n := by
  induction n generalizing v with
  | zero => rfl
  | succ n ih => simp [leBytes, ih]

/-- The number that the bytes of a number spell. -/
theorem leNat_leBytes (n v : Nat) (h : v < 256 ^ n) : leNat (leBytes n v) = v := by
  induction n generalizing v with
  | zero => simp [leBytes, leNat] at *; omega
  | succ n ih =>
    have : v / 256 < 256 ^ n := by rw [Nat.div_lt_iff_lt_mul (by decide)]; rwa [Nat.pow_succ] at h
    simp only [leBytes, leNat, ih _ this, BitVec.toNat_ofNat]
    omega

/-! One byte. -/

/-- The lowest address of a canonical memory bounds the others. -/
theorem Mem.wfFrom_weaken {d : Byte} {m : Mem} {a b : Option Nat} (h : Mem.wfFrom d b m = true)
    (hab : ∀ x, a = some x → ∃ y, b = some y ∧ x ≤ y) : Mem.wfFrom d a m = true := by
  cases m with
  | nil => rfl
  | cons c m =>
    obtain ⟨k, v⟩ := c
    simp only [Mem.wfFrom, Bool.and_eq_true] at h ⊢
    refine ⟨⟨?_, h.1.2⟩, h.2⟩
    cases a with
    | none => rfl
    | some x =>
      obtain ⟨y, rfl, hxy⟩ := hab x rfl
      simp only [decide_eq_true_eq] at h ⊢
      omega

/-- Addresses below the first cell are unlisted. -/
theorem Mem.read_below {d : Byte} {m : Mem} {lo a : Nat} (h : Mem.wfFrom d (some lo) m = true) (ha : a ≤ lo) : Mem.read d m a = d := by
  induction m generalizing lo with
  | nil => rfl
  | cons c m ih =>
    obtain ⟨k, v⟩ := c
    simp only [Mem.wfFrom, Bool.and_eq_true, decide_eq_true_eq] at h
    simp only [Mem.read]
    rw [if_neg (by omega), if_pos (by omega)]

theorem Mem.write_wfFrom (d : Byte) (m : Mem) (a : Nat) (v : Byte) (lo : Option Nat) (h : Mem.wfFrom d lo m = true) (ha : ∀ l, lo = some l → l < a) :
    Mem.wfFrom d lo (Mem.write d m a v) = true := by
  induction m generalizing lo with
  | nil =>
    simp only [Mem.write]
    split
    · rfl
    · next hv => cases lo <;> simp_all [Mem.wfFrom]
  | cons c m ih =>
    obtain ⟨k, w⟩ := c
    have hh := h
    simp only [Mem.wfFrom, Bool.and_eq_true, decide_eq_true_eq] at h
    simp only [Mem.write]
    split
    · next hak =>
      split
      · exact hh
      · next hv =>
        simp only [Mem.wfFrom, Bool.and_eq_true, decide_eq_true_eq]
        refine ⟨⟨?_, hv⟩, ⟨hak, h.1.2⟩, h.2⟩
        cases lo with
        | none => rfl
        | some l => simpa using ha l rfl
    · split
      · next hne hak =>
        subst hak
        split
        · refine Mem.wfFrom_weaken h.2 ?_
          intro x hx
          exact ⟨_, rfl, Nat.le_of_lt (ha x hx)⟩
        · next hv =>
          simp only [Mem.wfFrom, Bool.and_eq_true, decide_eq_true_eq]
          exact ⟨⟨h.1.1, hv⟩, h.2⟩
      · next h1 h2 =>
        simp only [Mem.wfFrom, Bool.and_eq_true, decide_eq_true_eq]
        refine ⟨h.1, ih (some k) h.2 ?_⟩
        intro l hl
        cases hl
        omega

/-- A write keeps the canonical form. -/
theorem Mem.write_wf {d : Byte} {m : Mem} (h : Mem.wf d m = true) (a : Nat) (v : Byte) : Mem.wf d (Mem.write d m a v) = true :=
  Mem.write_wfFrom d m a v none h (by intro l hl; cases hl)

theorem Mem.writeBytes_wf {d : Byte} {m : Mem} (h : Mem.wf d m = true) (a : Nat) (bs : List Byte) : Mem.wf d (Mem.writeBytes d m a bs) = true := by
  induction bs generalizing m a with
  | nil => exact h
  | cons b bs ih => exact ih (Mem.write_wf h a b) _

/-- A region taken out keeps the canonical form. -/
theorem Mem.filter_wfFrom (d : Byte) (f : Host.Cell → Bool) (m : Mem) (lo : Option Nat) (h : Mem.wfFrom d lo m = true) :
    Mem.wfFrom d lo (m.filter f) = true := by
  induction m generalizing lo with
  | nil => rfl
  | cons c m ih =>
    obtain ⟨k, w⟩ := c
    have hh := h
    simp only [Mem.wfFrom, Bool.and_eq_true, decide_eq_true_eq] at h
    rw [List.filter_cons]
    split
    · simp only [Mem.wfFrom, Bool.and_eq_true, decide_eq_true_eq]
      exact ⟨h.1, ih _ h.2⟩
    · refine ih lo (Mem.wfFrom_weaken h.2 ?_)
      intro x hx
      subst hx
      exact ⟨k, rfl, Nat.le_of_lt (by simpa using h.1.1)⟩

theorem Mem.filter_wf {d : Byte} {m : Mem} (h : Mem.wf d m = true) (f : Host.Cell → Bool) : Mem.wf d (m.filter f) = true :=
  Mem.filter_wfFrom d f m none h

theorem Mem.read_write_from (d : Byte) (m : Mem) (a : Nat) (v : Byte) (b : Nat) (lo : Option Nat) (h : Mem.wfFrom d lo m = true) :
    Mem.read d (Mem.write d m a v) b = if b = a then v else Mem.read d m b := by
  induction m generalizing lo with
  | nil =>
    simp only [Mem.write]
    split
    · simp_all [Mem.read]
    · simp only [Mem.read]; split <;> simp_all
  | cons c m ih =>
    obtain ⟨k, w⟩ := c
    have hh := h
    simp only [Mem.wfFrom, Bool.and_eq_true, decide_eq_true_eq] at h
    simp only [Mem.write]
    split
    · next hak =>
      split
      · next hv =>
        split
        · next hb => subst hb; simp only [Mem.read]; rw [if_neg (by omega), if_pos (by omega), hv]
        · rfl
      · simp only [Mem.read]
        split
        · rfl
        · split
          · rw [if_neg (by omega), if_pos (by omega)]
          · rfl
    · split
      · next hne hak =>
        subst hak
        split
        · next hv =>
          split
          · next hb => subst hb; rw [Mem.read_below h.2 (Nat.le_refl _), hv]
          · next hb =>
            simp only [Mem.read]
            rw [if_neg hb]
            split
            · exact Mem.read_below h.2 (by omega)
            · rfl
        · simp only [Mem.read]
          split <;> rfl
      · next h1 h2 =>
        simp only [Mem.read]
        split
        · next hb => rw [if_neg (by omega)]
        · split
          · next hb => rw [if_neg (by omega)]
          · exact ih (some k) h.2

/-- A read after a write gives the byte written there, and elsewhere what it gave before. -/
theorem Mem.read_write {d : Byte} {m : Mem} (h : Mem.wf d m = true) (a : Nat) (v : Byte) (b : Nat) :
    Mem.read d (Mem.write d m a v) b = if b = a then v else Mem.read d m b :=
  Mem.read_write_from d m a v b none h

/-! Ranges. -/

/-- Bytes written leave every other address alone. -/
theorem Mem.read_writeBytes_of_outside {d : Byte} {m : Mem} (h : Mem.wf d m = true) (a : Nat) (bs : List Byte) (b : Nat)
    (hb : b < a ∨ a + bs.length ≤ b) : Mem.read d (Mem.writeBytes d m a bs) b = Mem.read d m b := by
  induction bs generalizing m a with
  | nil => rfl
  | cons x xs ih =>
    simp only [List.length_cons] at hb
    simp only [Mem.writeBytes]
    rw [ih (Mem.write_wf h a x) (a + 1) (by omega), Mem.read_write h, if_neg (by omega)]

/-- The bytes read back are those written. -/
theorem Mem.readBytes_writeBytes {d : Byte} {m : Mem} (h : Mem.wf d m = true) (a : Nat) (bs : List Byte) :
    Mem.readBytes d (Mem.writeBytes d m a bs) a bs.length = bs := by
  induction bs generalizing m a with
  | nil => rfl
  | cons x xs ih =>
    simp only [List.length_cons, Mem.readBytes, Mem.writeBytes]
    rw [ih (Mem.write_wf h a x), Mem.read_writeBytes_of_outside (Mem.write_wf h a x) (a + 1) xs a (by omega), Mem.read_write h, if_pos rfl]

@[simp] theorem Mem.readBytes_length (d : Byte) (m : Mem) (a n : Nat) : (Mem.readBytes d m a n).length = n := by
  induction n generalizing a with
  | zero => rfl
  | succ n ih => simp [Mem.readBytes, ih]

theorem Mem.readBytes_drop (d : Byte) (m : Mem) (a n k : Nat) : (Mem.readBytes d m a n).drop k = Mem.readBytes d m (a + k) (n - k) := by
  induction k generalizing a n with
  | zero => simp
  | succ k ih =>
    cases n with
    | zero => simp [Mem.readBytes]
    | succ n =>
      simp only [Mem.readBytes, List.drop_succ_cons, ih, Nat.add_sub_add_right]
      congr 1
      omega

theorem Mem.readBytes_take (d : Byte) (m : Mem) (a n k : Nat) (h : k ≤ n) : (Mem.readBytes d m a n).take k = Mem.readBytes d m a k := by
  induction k generalizing a n with
  | zero => simp [Mem.readBytes]
  | succ k ih =>
    cases n with
    | zero => omega
    | succ n => simp only [Mem.readBytes, List.take_succ_cons, ih (a + 1) n (by omega)]

/-- A part of a range that is read. -/
theorem Mem.slice_readBytes (d : Byte) (m : Mem) (a n off len : Nat) (h : off + len ≤ n) :
    slice (Mem.readBytes d m a n) off len = Mem.readBytes d m (a + off) len := by
  unfold slice
  rw [Mem.readBytes_drop, Mem.readBytes_take _ _ _ _ _ (by omega)]

theorem Mem.field_readBytes (d : Byte) (m : Mem) (a n off len : Nat) (h : off + len ≤ n) :
    field (Mem.readBytes d m a n) off len = leNat (Mem.readBytes d m (a + off) len) := by
  unfold field
  rw [Mem.slice_readBytes _ _ _ _ _ _ h]

/-- A range in which nothing is listed. -/
theorem Mem.readBytes_above {d : Byte} {m : Mem} (a n : Nat) (h : ∀ c ∈ m, c.1 < a) : Mem.readBytes d m a n = List.replicate n d := by
  have one : ∀ b, a ≤ b → Mem.read d m b = d := by
    intro b hb
    induction m with
    | nil => rfl
    | cons c m ih =>
      obtain ⟨k, w⟩ := c
      have hk : k < a := h (k, w) (List.mem_cons_self ..)
      simp only [Mem.read]
      rw [if_neg (by omega), if_neg (by omega)]
      exact ih fun c hc => h c (List.mem_cons_of_mem _ hc)
  induction n generalizing a with
  | zero => rfl
  | succ n ih =>
    simp only [Mem.readBytes, List.replicate_succ]
    rw [one a (Nat.le_refl a), ih (a + 1) (fun c hc => Nat.lt_succ_of_lt (h c hc)) (fun b hb => one b (by omega))]

theorem allZero_replicate (n : Nat) : allZero (List.replicate n 0#8) = true := by simp [allZero]

/-! Check values. -/

theorem crcShift_lt (p n c : Nat) (hp : p < 2 ^ 32) (hc : c < 2 ^ 32) : crcShift p n c < 2 ^ 32 := by
  induction n generalizing c with
  | zero => exact hc
  | succ n ih =>
    unfold crcShift
    refine ih _ ?_
    split
    · exact Nat.xor_lt_two_pow (by omega) hp
    · omega

theorem crcFold_lt (p c : Nat) (bs : List Byte) (hp : p < 2 ^ 32) (hc : c < 2 ^ 32) : crcFold p c bs < 2 ^ 32 := by
  induction bs generalizing c with
  | nil => exact hc
  | cons b bs ih =>
    refine ih _ (crcShift_lt p 8 _ hp (Nat.xor_lt_two_pow hc ?_))
    have := b.isLt
    omega

/-- A check value takes four bytes. -/
theorem crc32c_lt (bs : List Byte) : crc32c bs < 256 ^ 4 :=
  Nat.xor_lt_two_pow (n := 32) (crcFold_lt _ _ bs (by decide) (by decide)) (by decide)

end Sys2Proof.Machine
end

