-- ==== Sys2Proof/Laws/Frames.lean ====
section
/-! SUPPORT. Frames: what is framed is what the other side takes out. -/

namespace Sys2Proof.Machine

/-- A frame's content comes out of it whole (R350). -/
theorem unframe_framed {c : List Byte} (h : 0 < c.length) : unframe (framed c) = some c := by
  have l : (leBytes 4 (crc32c c)).length = 4 := rfl
  have n : (framed c).length - 4 = c.length := by simp [framed, l]
  have t : (framed c).take c.length = c := by simp [framed]
  have f : field (framed c) c.length 4 = crc32c c := by
    have : slice (framed c) c.length 4 = leBytes 4 (crc32c c) := by
      unfold slice framed
      rw [List.drop_left]
      exact List.take_of_length_le (Nat.le_of_eq l)
    unfold field
    rw [this]
    exact leNat_leBytes 4 _ (crc32c_lt c)
  have g : 4 < (framed c).length := by simp [framed, l]; omega
  simp only [unframe, n, t, f, decide_eq_true g, beq_self_eq_true, Bool.and_self, if_true]

end Sys2Proof.Machine
end

