-- ==== Sys2Proof/Laws/Ops.lean ====
section
/-! SUPPORT. What the shared operations on the state can do: each changes the parts its lemma names and nothing else. -/

namespace Sys2Proof.Machine

/-! Replies: the CQ entries that wait, the stored replies of sessions, what is sent. -/

/-- `t` is `s` but for CQ entries that wait, stored replies, commands in progress, queue pairs and what is sent. -/
def Replied (s t : State) : Prop :=
  ∃ cq se ip qp x, t = { s with host := { s.host with cqWait := cq, sessions := se, inProg := ip, qps := qp }, tx := x }

theorem Replied.refl (s : State) : Replied s s := ⟨_, _, _, _, _, rfl⟩

theorem Replied.trans {s t u : State} (h : Replied s t) (g : Replied t u) : Replied s u := by
  obtain ⟨a, b, c, d, e, rfl⟩ := h
  obtain ⟨a', b', c', d', e', rfl⟩ := g
  exact ⟨a', b', c', d', e', rfl⟩

theorem State.reply_replied (o : Origin) (addr : Nat) (m : Bool) (bs : List Byte) (s : State) : Replied s (s.reply o addr m bs) := by
  unfold State.reply
  split
  · exact ⟨_, _, _, _, _, rfl⟩
  · split
    · exact ⟨_, _, _, _, _, rfl⟩
    · exact Replied.refl s

theorem State.answer_replied (p : Packet) (op : Nat) (final : Bool) (st : Nat) (r : List Byte) (s : State) :
    Replied s (s.answer p op final st r) := by
  have key : Replied s (if final && st == stOk && p.flags.testBit 3 then s
      else s.reply p.origin p.resultAddr false (statusPacket op (s.versionOf p.origin) 0 p.tag p.scope st r)) := by
    split
    · exact Replied.refl s
    · exact State.reply_replied _ _ _ _ _
  unfold State.answer
  dsimp only
  generalize (if (final && st == stOk && p.flags.testBit 3) = true then s
      else s.reply p.origin p.resultAddr false (statusPacket op (s.versionOf p.origin) 0 p.tag p.scope st r)) = u at key ⊢
  split
  · exact key
  · split
    · exact key.trans ⟨_, _, _, _, _, rfl⟩
    · exact key

theorem State.finish_replied (acc st : Nat) (r : List Byte) (s : State) : Replied s (s.finish acc st r) := by
  unfold State.finish
  split
  · exact Replied.refl s
  · dsimp only
    split
    · exact ⟨_, _, _, _, _, rfl⟩
    · exact Replied.trans ⟨_, _, _, _, _, rfl⟩ (State.answer_replied _ _ _ _ _ _)

theorem State.settleDeletes_replied (n : Nat) (s : State) : Replied s (State.settleDeletes n s) := by
  induction n generalizing s with
  | zero => exact Replied.refl s
  | succ n ih =>
    unfold State.settleDeletes
    split
    · exact Replied.refl s
    · exact (Replied.trans ⟨_, _, _, _, _, rfl⟩ (State.finish_replied _ _ _ _)).trans (ih _)

/-- A completion changes replies and nothing else. -/
theorem State.complete_replied (acc st : Nat) (r : List Byte) (s : State) : Replied s (s.complete acc st r) :=
  (State.finish_replied acc st r s).trans (State.settleDeletes_replied 64 _)

theorem State.completeAll_replied (accs : List Nat) (st : Nat) (s : State) : Replied s (s.completeAll accs st) := by
  unfold State.completeAll
  induction accs generalizing s with
  | nil => exact Replied.refl s
  | cons a as ih => exact (State.complete_replied a st [] s).trans (ih _)

/-! Acceptance of a counter: the key slots and the journal's queue. -/

/-- `t` is `s` but for key slots and the journal's queue. -/
def Counted (s t : State) : Prop :=
  ∃ ks q, t = { s with host := { s.host with keys := ks }, recorder := { s.recorder with journal := { s.recorder.journal with queue := q } } }

theorem State.askLease_counted (slot l : Nat) (s : State) : Counted s (s.askLease slot l) := by
  unfold State.askLease
  dsimp only
  split
  · exact ⟨_, _, rfl⟩
  · unfold State.journalAsk
    exact ⟨_, _, rfl⟩

theorem State.acceptCounter_counted (p : Packet) (s : State) : Counted s (s.acceptCounter p) := by
  unfold State.acceptCounter
  split
  · exact ⟨_, _, rfl⟩
  · dsimp only
    split
    · unfold State.askLease
      dsimp only
      split
      · exact ⟨_, _, rfl⟩
      · unfold State.journalAsk
        exact ⟨_, _, rfl⟩
    · exact ⟨_, _, rfl⟩

/-- A packet that is taken changes the host interface, `dt` and `tx` alone. -/
theorem taken_eq (p : Packet) (s : State) : ∃ h, taken p s = { s with dt := max s.dt p.t, tx := [], host := h } := by
  unfold taken State.setVersion State.at
  dsimp only
  split <;> exact ⟨_, rfl⟩

/-- The state in which a command runs: the host interface, the journal's queue, `dt` and `tx` differ from what they were. -/
theorem running_eq (c : CmdSpec) (p : Packet) (s : State) :
    ∃ h q, running c p s = { s with
      dt := max s.dt p.t, tx := [], host := h, recorder := { s.recorder with journal := { s.recorder.journal with queue := q } } } := by
  obtain ⟨h, e⟩ := taken_eq p s
  obtain ⟨ks, q, e'⟩ := State.acceptCounter_counted p (taken p s)
  unfold running
  dsimp only
  rw [e', e]
  exact ⟨_, _, rfl⟩

/-- What a run leaves behind once its answer has been given: the run's state but for replies. -/
theorem runCmd_replied (c : CmdSpec) (p : Packet) (s : State) :
    ∃ h x, runCmd c s.host.nextAcc p (taken p s) = { (c.run s.host.nextAcc p (running c p s)).1 with host := h, tx := x } := by
  have key : runCmd c s.host.nextAcc p (taken p s) =
      (match c.run s.host.nextAcc p (running c p s) with
      | (s2, .done st res) => s2.complete s.host.nextAcc st res
      | (s2, .sent) => s2
      | (s2, .accepted) => s2.answer p c.opcode false stAccepted []
      | (s2, .later) => { s2 with host := { s2.host with inProg := s2.host.inProg.map fun i => if i.acc = s.host.nextAcc then { i with silent := true } else i } }) := rfl
  rw [key]
  rcases c.run s.host.nextAcc p (running c p s) with ⟨u, a⟩
  cases a with
  | done st res => obtain ⟨_, _, _, _, _, e⟩ := State.complete_replied s.host.nextAcc st res u; exact ⟨_, _, e⟩
  | accepted => obtain ⟨_, _, _, _, _, e⟩ := State.answer_replied p c.opcode false stAccepted [] u; exact ⟨_, _, e⟩
  | later => exact ⟨_, _, rfl⟩
  | sent => exact ⟨_, _, rfl⟩

/-- A packet that starts at once is served by its command's run. -/
theorem serve_startsNow {c : CmdSpec} {p : Packet} {s : State} (h : startsNow c p s = true) :
    serve c p s = .next { runCmd c s.host.nextAcc p (taken p s) with dt := max s.dt p.t, pending := s.pending } := by
  simp only [startsNow, Bool.and_eq_true, Bool.not_eq_true', Option.isNone_iff_eq_none] at h
  obtain ⟨⟨⟨⟨⟨⟨⟨ha, ho⟩, ht⟩, hb⟩, -⟩, hv⟩, hc⟩, hl⟩ := h
  have hup : s.up = true := by
    have : (s.at p.t).up = true := by simp only [State.accepts, Bool.and_eq_true] at ha; exact ha.1.1
    simpa [State.up, State.at] using this
  obtain ⟨v, hv'⟩ := Option.isSome_iff_exists.mp hv
  have hver : versionFor p s = v := by simp [versionFor, hv']
  have hacc : (s.at p.t).host.nextAcc = s.host.nextAcc := rfl
  obtain ⟨u, hu⟩ : ∃ u : State, u = { s.at p.t with host := { (s.at p.t).host with nextAcc := (s.at p.t).host.nextAcc + 1 } } := ⟨_, rfl⟩
  have hset : u.setVersion p.origin v = taken p s := by rw [hu]; simp [taken, hver]
  have hfix : u.fixedVersion p.origin = (s.at p.t).fixedVersion p.origin := by rw [hu]; unfold State.fixedVersion; split <;> rfl
  have hst : start c false s.host.nextAcc p u = runCmd c s.host.nextAcc p (taken p s) := by
    unfold start
    rw [hfix, hv']
    dsimp only
    rw [hset]
    rw [hver] at hc
    rw [hc]
    dsimp only
    unfold leased at hl
    split at hl
    · next hn => simp only [hn]
    · next t hs =>
      simp only [hs, hl, Bool.or_true, if_true]
  have e : accept c p (s.at p.t) = runCmd c s.host.nextAcc p (taken p s) := by
    rw [← hst]
    unfold accept
    simp only [ha, ho, Bool.not_true, Bool.or_self, Bool.false_eq_true, if_false, ht]
    subst hu
    exact if_neg fun hx => Bool.false_ne_true (hb.symm.trans hx)
  unfold serve State.event
  simp [hup, e]

/-- Every part but the host interface and what is sent comes from the run. -/
theorem serve_run {c : CmdSpec} {p : Packet} {s : State} (h : startsNow c p s = true) :
    ∃ g x, serve c p s = .next { (c.run s.host.nextAcc p (running c p s)).1 with
      host := g, tx := x, dt := max s.dt p.t, pending := s.pending } := by
  obtain ⟨g, x, e⟩ := runCmd_replied c p s
  exact ⟨g, x, by rw [serve_startsNow h, e]⟩

/-! Commands that start at once, and events (for the provers). -/

/-- A command that starts at once and whose run is a fixed change leaves that change and what serving touches. -/
theorem served_of {c : CmdSpec} {p : Packet} {s : State} {i : Instr} (hx : exec i s = serve c p s) (h : startsNow c p s = true) (u : State)
   (hr : ∀ g q, (c.run s.host.nextAcc p { s with dt := max s.dt p.t, tx := [], host := g, recorder := { s.recorder with journal := { s.recorder.journal with queue := q } } }).1 =
      { u with dt := max s.dt p.t, tx := [], host := g, recorder := { u.recorder with journal := { u.recorder.journal with queue := q } } }) :
   Reaches i s (Served p s u) := by
  obtain ⟨g, x, e⟩ := serve_run h
  obtain ⟨hh, q, er⟩ := running_eq c p s
  rw [er, hr] at e
  exact ⟨_, hx.trans e, _, _, _, rfl⟩

/-- What holds after the run, whatever serving touches, holds after a command that starts at once. -/
theorem served_reach {c : CmdSpec} {p : Packet} {s : State} {i : Instr} {P : State → Prop} (hx : exec i s = serve c p s) (h : startsNow c p s = true)
   (hP : ∀ g x hh q, P { (c.run s.host.nextAcc p { s with dt := max s.dt p.t, tx := [], host := hh, recorder := { s.recorder with journal := { s.recorder.journal with queue := q } } }).1 with
      host := g, tx := x, dt := max s.dt p.t, pending := s.pending }) : Reaches i s P := by
  obtain ⟨g, x, e⟩ := serve_run h
  obtain ⟨hh, q, er⟩ := running_eq c p s
  rw [er] at e
  exact ⟨_, hx.trans e, hP _ _ _ _⟩

/-- The same with the state in which the command runs named. -/
theorem served_reach2 {c : CmdSpec} {p : Packet} {s : State} {i : Instr} {P : State → Prop} (hx : exec i s = serve c p s) (h : startsNow c p s = true)
   (hP : ∀ g x, P { (c.run s.host.nextAcc p (running c p s)).1 with
      host := g, tx := x, dt := max s.dt p.t, pending := s.pending }) : Reaches i s P := by
  obtain ⟨g, x, e⟩ := serve_run h
  exact ⟨_, hx.trans e, hP _ _⟩

/-- An event of a device that is up acts on the state at its DT. -/
theorem event_of {i : Instr} {s : State} {t : Nat} {f : State → State} {P : State → Prop} (hx : exec i s = State.event t f s) (hup : s.up = true)
   (h : P { f (s.at t) with dt := max s.dt t, pending := s.pending }) : Reaches i s P := by
  refine ⟨_, hx.trans ?_, h⟩
  simp [State.event, hup]

/-- A list of checks that all pass: so do its parts. -/
theorem firstFail_append_left : ∀ (a b : List (Bool × Nat)), firstFail (a ++ b) = none → firstFail a = none := by
  intro a b; induction a with
  | nil => intro _; rfl
  | cons x xs ih => obtain ⟨u, v⟩ := x; simp only [List.cons_append, firstFail]; split <;> simp_all
theorem firstFail_tail (a : Bool × Nat) (b : List (Bool × Nat)) (h : firstFail (a :: b) = none) : firstFail b = none := by
  obtain ⟨u, v⟩ := a; simp only [firstFail] at h; split at h <;> simp_all
/-- A packet that starts at once has passed its state check, its checks and its length check. -/
theorem checks_of {c : CmdSpec} {p : Packet} {s : State} (h : startsNow c p s = true) :
    c.stateFail p (taken p s) = none ∧ firstFail (c.checks p (taken p s)) = none ∧ lengthOk c p = true := by
  simp only [startsNow, Bool.and_eq_true, Bool.not_eq_true', Option.isNone_iff_eq_none] at h
  obtain ⟨⟨-, hc⟩, hl⟩ := h
  unfold checkFail at hc
  dsimp only at hc
  repeat' (split at hc <;> try contradiction)
  all_goals (refine ⟨by assumption, firstFail_append_left _ _ (firstFail_tail _ _ hc), by simp_all⟩)

@[simp] theorem updAt_length {α} (l : List α) (n : Nat) (f : α → α) : (updAt l n f).length = l.length := by
  induction l generalizing n with
  | nil => cases n <;> rfl
  | cons a l ih => cases n <;> simp [updAt, ih]
/-- What a list changed at one place holds. -/
theorem updAt_get? {α} (l : List α) (n : Nat) (f : α → α) (m : Nat) : (updAt l n f)[m]? = if m = n then (l[m]?).map f else l[m]? := by
  induction l generalizing n m with
  | nil => cases n <;> simp [updAt]
  | cons a l ih => cases n <;> cases m <;> simp [updAt, ih]
@[simp] theorem updAt_getD {α} (l : List α) (n : Nat) (f : α → α) (m : Nat) (d : α) : (updAt l n f).getD m d = if m = n ∧ n < l.length then f (l.getD n d) else l.getD m d := by
  simp only [List.getD_eq_getElem?_getD, updAt_get?]
  by_cases h : m = n <;> by_cases h2 : n < l.length <;> simp [h, h2]

end Sys2Proof.Machine
end

