-- ==== Sys2Proof/Laws/State.lean ====
section
/-! SUPPORT. What each update of the state leaves and what it writes: one lemma per field. -/

namespace Sys2Proof.Machine

@[simp] theorem State.setBank_pending (k : Nat) (f : Bank → Bank) (s : State) : (State.setBank k f s).pending = s.pending := rfl
@[simp] theorem State.setBank_dt (k : Nat) (f : Bank → Bank) (s : State) : (State.setBank k f s).dt = s.dt := rfl
@[simp] theorem State.setBank_fresh (k : Nat) (f : Bank → Bank) (s : State) : (State.setBank k f s).fresh = s.fresh := rfl
@[simp] theorem State.setBank_tx (k : Nat) (f : Bank → Bank) (s : State) : (State.setBank k f s).tx = s.tx := rfl
@[simp] theorem State.setBank_par (k : Nat) (f : Bank → Bank) (s : State) : (State.setBank k f s).par = s.par := rfl
@[simp] theorem State.setBank_parPending (k : Nat) (f : Bank → Bank) (s : State) : (State.setBank k f s).parPending = s.parPending := rfl
@[simp] theorem State.setBank_deferred (k : Nat) (f : Bank → Bank) (s : State) : (State.setBank k f s).deferred = s.deferred := rfl
@[simp] theorem State.setBank_otp (k : Nat) (f : Bank → Bank) (s : State) : (State.setBank k f s).otp = s.otp := rfl
@[simp] theorem State.setBank_cyc (k : Nat) (f : Bank → Bank) (s : State) : (State.setBank k f s).cyc = s.cyc := rfl
@[simp] theorem State.setBank_host (k : Nat) (f : Bank → Bank) (s : State) : (State.setBank k f s).host = s.host := rfl
@[simp] theorem State.setBank_power (k : Nat) (f : Bank → Bank) (s : State) : (State.setBank k f s).power = s.power := rfl
@[simp] theorem State.setBank_svc (k : Nat) (f : Bank → Bank) (s : State) : (State.setBank k f s).svc = s.svc := rfl
@[simp] theorem State.setBank_recorder (k : Nat) (f : Bank → Bank) (s : State) : (State.setBank k f s).recorder = s.recorder := rfl
@[simp] theorem State.setBank_streams (k : Nat) (f : Bank → Bank) (s : State) : (State.setBank k f s).streams = s.streams := rfl
@[simp] theorem State.setBank_lay (k : Nat) (f : Bank → Bank) (s : State) : (State.setBank k f s).lay = s.lay := rfl
@[simp] theorem State.setBank_mps (k : Nat) (f : Bank → Bank) (s : State) : (State.setBank k f s).mps = s.mps := rfl
@[simp] theorem State.setBank_loop (k : Nat) (f : Bank → Bank) (s : State) : (State.setBank k f s).loop = s.loop := rfl
@[simp] theorem State.setBank_ledger (k : Nat) (f : Bank → Bank) (s : State) : (State.setBank k f s).ledger = s.ledger := rfl
@[simp] theorem State.setBank_img (k : Nat) (f : Bank → Bank) (s : State) : (State.setBank k f s).img = s.img := rfl
@[simp] theorem State.setBank_mot (k : Nat) (f : Bank → Bank) (s : State) : (State.setBank k f s).mot = s.mot := rfl
@[simp] theorem State.setBank_fbk (k : Nat) (f : Bank → Bank) (s : State) : (State.setBank k f s).fbk = s.fbk := rfl
@[simp] theorem State.setBank_emd (k : Nat) (f : Bank → Bank) (s : State) : (State.setBank k f s).emd = s.emd := rfl
@[simp] theorem State.setBank_dma (k : Nat) (f : Bank → Bank) (s : State) : (State.setBank k f s).dma = s.dma := rfl
@[simp] theorem State.setBank_int (k : Nat) (f : Bank → Bank) (s : State) : (State.setBank k f s).int = s.int := rfl
@[simp] theorem State.setBank_mem (k : Nat) (f : Bank → Bank) (s : State) : (State.setBank k f s).mem = s.mem := rfl
@[simp] theorem State.setBank_head (k : Nat) (f : Bank → Bank) (s : State) : (State.setBank k f s).head = s.head := rfl
@[simp] theorem State.setBank_las (k : Nat) (f : Bank → Bank) (s : State) : (State.setBank k f s).las = s.las := rfl
@[simp] theorem State.setBank_gut (k : Nat) (f : Bank → Bank) (s : State) : (State.setBank k f s).gut = s.gut := rfl
@[simp] theorem State.setBank_net (k : Nat) (f : Bank → Bank) (s : State) : (State.setBank k f s).net = s.net := rfl
@[simp] theorem State.setBank_pair (k : Nat) (f : Bank → Bank) (s : State) : (State.setBank k f s).pair = s.pair := rfl
@[simp] theorem State.setBank_dram (k : Nat) (f : Bank → Bank) (s : State) : (State.setBank k f s).dram = s.dram := rfl
@[simp] theorem State.setBank_flash (k : Nat) (f : Bank → Bank) (s : State) : (State.setBank k f s).flash = s.flash := rfl

@[simp] theorem State.setCyc_pending (f : Cycle → Cycle) (s : State) : (State.setCyc f s).pending = s.pending := rfl
@[simp] theorem State.setCyc_dt (f : Cycle → Cycle) (s : State) : (State.setCyc f s).dt = s.dt := rfl
@[simp] theorem State.setCyc_fresh (f : Cycle → Cycle) (s : State) : (State.setCyc f s).fresh = s.fresh := rfl
@[simp] theorem State.setCyc_tx (f : Cycle → Cycle) (s : State) : (State.setCyc f s).tx = s.tx := rfl
@[simp] theorem State.setCyc_par (f : Cycle → Cycle) (s : State) : (State.setCyc f s).par = s.par := rfl
@[simp] theorem State.setCyc_parPending (f : Cycle → Cycle) (s : State) : (State.setCyc f s).parPending = s.parPending := rfl
@[simp] theorem State.setCyc_deferred (f : Cycle → Cycle) (s : State) : (State.setCyc f s).deferred = s.deferred := rfl
@[simp] theorem State.setCyc_otp (f : Cycle → Cycle) (s : State) : (State.setCyc f s).otp = s.otp := rfl
@[simp] theorem State.setCyc_host (f : Cycle → Cycle) (s : State) : (State.setCyc f s).host = s.host := rfl
@[simp] theorem State.setCyc_power (f : Cycle → Cycle) (s : State) : (State.setCyc f s).power = s.power := rfl
@[simp] theorem State.setCyc_svc (f : Cycle → Cycle) (s : State) : (State.setCyc f s).svc = s.svc := rfl
@[simp] theorem State.setCyc_recorder (f : Cycle → Cycle) (s : State) : (State.setCyc f s).recorder = s.recorder := rfl
@[simp] theorem State.setCyc_streams (f : Cycle → Cycle) (s : State) : (State.setCyc f s).streams = s.streams := rfl
@[simp] theorem State.setCyc_sig (f : Cycle → Cycle) (s : State) : (State.setCyc f s).sig = s.sig := rfl
@[simp] theorem State.setCyc_lay (f : Cycle → Cycle) (s : State) : (State.setCyc f s).lay = s.lay := rfl
@[simp] theorem State.setCyc_mps (f : Cycle → Cycle) (s : State) : (State.setCyc f s).mps = s.mps := rfl
@[simp] theorem State.setCyc_loop (f : Cycle → Cycle) (s : State) : (State.setCyc f s).loop = s.loop := rfl
@[simp] theorem State.setCyc_ledger (f : Cycle → Cycle) (s : State) : (State.setCyc f s).ledger = s.ledger := rfl
@[simp] theorem State.setCyc_img (f : Cycle → Cycle) (s : State) : (State.setCyc f s).img = s.img := rfl
@[simp] theorem State.setCyc_mot (f : Cycle → Cycle) (s : State) : (State.setCyc f s).mot = s.mot := rfl
@[simp] theorem State.setCyc_fbk (f : Cycle → Cycle) (s : State) : (State.setCyc f s).fbk = s.fbk := rfl
@[simp] theorem State.setCyc_emd (f : Cycle → Cycle) (s : State) : (State.setCyc f s).emd = s.emd := rfl
@[simp] theorem State.setCyc_dma (f : Cycle → Cycle) (s : State) : (State.setCyc f s).dma = s.dma := rfl
@[simp] theorem State.setCyc_int (f : Cycle → Cycle) (s : State) : (State.setCyc f s).int = s.int := rfl
@[simp] theorem State.setCyc_mem (f : Cycle → Cycle) (s : State) : (State.setCyc f s).mem = s.mem := rfl
@[simp] theorem State.setCyc_head (f : Cycle → Cycle) (s : State) : (State.setCyc f s).head = s.head := rfl
@[simp] theorem State.setCyc_las (f : Cycle → Cycle) (s : State) : (State.setCyc f s).las = s.las := rfl
@[simp] theorem State.setCyc_gut (f : Cycle → Cycle) (s : State) : (State.setCyc f s).gut = s.gut := rfl
@[simp] theorem State.setCyc_net (f : Cycle → Cycle) (s : State) : (State.setCyc f s).net = s.net := rfl
@[simp] theorem State.setCyc_pair (f : Cycle → Cycle) (s : State) : (State.setCyc f s).pair = s.pair := rfl
@[simp] theorem State.setCyc_dram (f : Cycle → Cycle) (s : State) : (State.setCyc f s).dram = s.dram := rfl
@[simp] theorem State.setCyc_flash (f : Cycle → Cycle) (s : State) : (State.setCyc f s).flash = s.flash := rfl

@[simp] theorem State.setChan_pending (c : Nat) (f : DmaChannel → DmaChannel) (s : State) : (State.setChan c f s).pending = s.pending := rfl
@[simp] theorem State.setChan_dt (c : Nat) (f : DmaChannel → DmaChannel) (s : State) : (State.setChan c f s).dt = s.dt := rfl
@[simp] theorem State.setChan_fresh (c : Nat) (f : DmaChannel → DmaChannel) (s : State) : (State.setChan c f s).fresh = s.fresh := rfl
@[simp] theorem State.setChan_tx (c : Nat) (f : DmaChannel → DmaChannel) (s : State) : (State.setChan c f s).tx = s.tx := rfl
@[simp] theorem State.setChan_par (c : Nat) (f : DmaChannel → DmaChannel) (s : State) : (State.setChan c f s).par = s.par := rfl
@[simp] theorem State.setChan_parPending (c : Nat) (f : DmaChannel → DmaChannel) (s : State) : (State.setChan c f s).parPending = s.parPending := rfl
@[simp] theorem State.setChan_deferred (c : Nat) (f : DmaChannel → DmaChannel) (s : State) : (State.setChan c f s).deferred = s.deferred := rfl
@[simp] theorem State.setChan_otp (c : Nat) (f : DmaChannel → DmaChannel) (s : State) : (State.setChan c f s).otp = s.otp := rfl
@[simp] theorem State.setChan_cyc (c : Nat) (f : DmaChannel → DmaChannel) (s : State) : (State.setChan c f s).cyc = s.cyc := rfl
@[simp] theorem State.setChan_host (c : Nat) (f : DmaChannel → DmaChannel) (s : State) : (State.setChan c f s).host = s.host := rfl
@[simp] theorem State.setChan_power (c : Nat) (f : DmaChannel → DmaChannel) (s : State) : (State.setChan c f s).power = s.power := rfl
@[simp] theorem State.setChan_svc (c : Nat) (f : DmaChannel → DmaChannel) (s : State) : (State.setChan c f s).svc = s.svc := rfl
@[simp] theorem State.setChan_recorder (c : Nat) (f : DmaChannel → DmaChannel) (s : State) : (State.setChan c f s).recorder = s.recorder := rfl
@[simp] theorem State.setChan_streams (c : Nat) (f : DmaChannel → DmaChannel) (s : State) : (State.setChan c f s).streams = s.streams := rfl
@[simp] theorem State.setChan_sig (c : Nat) (f : DmaChannel → DmaChannel) (s : State) : (State.setChan c f s).sig = s.sig := rfl
@[simp] theorem State.setChan_lay (c : Nat) (f : DmaChannel → DmaChannel) (s : State) : (State.setChan c f s).lay = s.lay := rfl
@[simp] theorem State.setChan_mps (c : Nat) (f : DmaChannel → DmaChannel) (s : State) : (State.setChan c f s).mps = s.mps := rfl
@[simp] theorem State.setChan_loop (c : Nat) (f : DmaChannel → DmaChannel) (s : State) : (State.setChan c f s).loop = s.loop := rfl
@[simp] theorem State.setChan_ledger (c : Nat) (f : DmaChannel → DmaChannel) (s : State) : (State.setChan c f s).ledger = s.ledger := rfl
@[simp] theorem State.setChan_img (c : Nat) (f : DmaChannel → DmaChannel) (s : State) : (State.setChan c f s).img = s.img := rfl
@[simp] theorem State.setChan_mot (c : Nat) (f : DmaChannel → DmaChannel) (s : State) : (State.setChan c f s).mot = s.mot := rfl
@[simp] theorem State.setChan_fbk (c : Nat) (f : DmaChannel → DmaChannel) (s : State) : (State.setChan c f s).fbk = s.fbk := rfl
@[simp] theorem State.setChan_emd (c : Nat) (f : DmaChannel → DmaChannel) (s : State) : (State.setChan c f s).emd = s.emd := rfl
@[simp] theorem State.setChan_int (c : Nat) (f : DmaChannel → DmaChannel) (s : State) : (State.setChan c f s).int = s.int := rfl
@[simp] theorem State.setChan_mem (c : Nat) (f : DmaChannel → DmaChannel) (s : State) : (State.setChan c f s).mem = s.mem := rfl
@[simp] theorem State.setChan_head (c : Nat) (f : DmaChannel → DmaChannel) (s : State) : (State.setChan c f s).head = s.head := rfl
@[simp] theorem State.setChan_las (c : Nat) (f : DmaChannel → DmaChannel) (s : State) : (State.setChan c f s).las = s.las := rfl
@[simp] theorem State.setChan_gut (c : Nat) (f : DmaChannel → DmaChannel) (s : State) : (State.setChan c f s).gut = s.gut := rfl
@[simp] theorem State.setChan_net (c : Nat) (f : DmaChannel → DmaChannel) (s : State) : (State.setChan c f s).net = s.net := rfl
@[simp] theorem State.setChan_pair (c : Nat) (f : DmaChannel → DmaChannel) (s : State) : (State.setChan c f s).pair = s.pair := rfl
@[simp] theorem State.setChan_dram (c : Nat) (f : DmaChannel → DmaChannel) (s : State) : (State.setChan c f s).dram = s.dram := rfl
@[simp] theorem State.setChan_flash (c : Nat) (f : DmaChannel → DmaChannel) (s : State) : (State.setChan c f s).flash = s.flash := rfl

@[simp] theorem State.setBus_pending (b : Nat) (f : EmdBus → EmdBus) (s : State) : (State.setBus b f s).pending = s.pending := rfl
@[simp] theorem State.setBus_dt (b : Nat) (f : EmdBus → EmdBus) (s : State) : (State.setBus b f s).dt = s.dt := rfl
@[simp] theorem State.setBus_fresh (b : Nat) (f : EmdBus → EmdBus) (s : State) : (State.setBus b f s).fresh = s.fresh := rfl
@[simp] theorem State.setBus_tx (b : Nat) (f : EmdBus → EmdBus) (s : State) : (State.setBus b f s).tx = s.tx := rfl
@[simp] theorem State.setBus_par (b : Nat) (f : EmdBus → EmdBus) (s : State) : (State.setBus b f s).par = s.par := rfl
@[simp] theorem State.setBus_parPending (b : Nat) (f : EmdBus → EmdBus) (s : State) : (State.setBus b f s).parPending = s.parPending := rfl
@[simp] theorem State.setBus_deferred (b : Nat) (f : EmdBus → EmdBus) (s : State) : (State.setBus b f s).deferred = s.deferred := rfl
@[simp] theorem State.setBus_otp (b : Nat) (f : EmdBus → EmdBus) (s : State) : (State.setBus b f s).otp = s.otp := rfl
@[simp] theorem State.setBus_cyc (b : Nat) (f : EmdBus → EmdBus) (s : State) : (State.setBus b f s).cyc = s.cyc := rfl
@[simp] theorem State.setBus_host (b : Nat) (f : EmdBus → EmdBus) (s : State) : (State.setBus b f s).host = s.host := rfl
@[simp] theorem State.setBus_power (b : Nat) (f : EmdBus → EmdBus) (s : State) : (State.setBus b f s).power = s.power := rfl
@[simp] theorem State.setBus_svc (b : Nat) (f : EmdBus → EmdBus) (s : State) : (State.setBus b f s).svc = s.svc := rfl
@[simp] theorem State.setBus_recorder (b : Nat) (f : EmdBus → EmdBus) (s : State) : (State.setBus b f s).recorder = s.recorder := rfl
@[simp] theorem State.setBus_streams (b : Nat) (f : EmdBus → EmdBus) (s : State) : (State.setBus b f s).streams = s.streams := rfl
@[simp] theorem State.setBus_sig (b : Nat) (f : EmdBus → EmdBus) (s : State) : (State.setBus b f s).sig = s.sig := rfl
@[simp] theorem State.setBus_lay (b : Nat) (f : EmdBus → EmdBus) (s : State) : (State.setBus b f s).lay = s.lay := rfl
@[simp] theorem State.setBus_mps (b : Nat) (f : EmdBus → EmdBus) (s : State) : (State.setBus b f s).mps = s.mps := rfl
@[simp] theorem State.setBus_loop (b : Nat) (f : EmdBus → EmdBus) (s : State) : (State.setBus b f s).loop = s.loop := rfl
@[simp] theorem State.setBus_ledger (b : Nat) (f : EmdBus → EmdBus) (s : State) : (State.setBus b f s).ledger = s.ledger := rfl
@[simp] theorem State.setBus_img (b : Nat) (f : EmdBus → EmdBus) (s : State) : (State.setBus b f s).img = s.img := rfl
@[simp] theorem State.setBus_mot (b : Nat) (f : EmdBus → EmdBus) (s : State) : (State.setBus b f s).mot = s.mot := rfl
@[simp] theorem State.setBus_fbk (b : Nat) (f : EmdBus → EmdBus) (s : State) : (State.setBus b f s).fbk = s.fbk := rfl
@[simp] theorem State.setBus_dma (b : Nat) (f : EmdBus → EmdBus) (s : State) : (State.setBus b f s).dma = s.dma := rfl
@[simp] theorem State.setBus_int (b : Nat) (f : EmdBus → EmdBus) (s : State) : (State.setBus b f s).int = s.int := rfl
@[simp] theorem State.setBus_mem (b : Nat) (f : EmdBus → EmdBus) (s : State) : (State.setBus b f s).mem = s.mem := rfl
@[simp] theorem State.setBus_head (b : Nat) (f : EmdBus → EmdBus) (s : State) : (State.setBus b f s).head = s.head := rfl
@[simp] theorem State.setBus_las (b : Nat) (f : EmdBus → EmdBus) (s : State) : (State.setBus b f s).las = s.las := rfl
@[simp] theorem State.setBus_gut (b : Nat) (f : EmdBus → EmdBus) (s : State) : (State.setBus b f s).gut = s.gut := rfl
@[simp] theorem State.setBus_net (b : Nat) (f : EmdBus → EmdBus) (s : State) : (State.setBus b f s).net = s.net := rfl
@[simp] theorem State.setBus_pair (b : Nat) (f : EmdBus → EmdBus) (s : State) : (State.setBus b f s).pair = s.pair := rfl
@[simp] theorem State.setBus_dram (b : Nat) (f : EmdBus → EmdBus) (s : State) : (State.setBus b f s).dram = s.dram := rfl
@[simp] theorem State.setBus_flash (b : Nat) (f : EmdBus → EmdBus) (s : State) : (State.setBus b f s).flash = s.flash := rfl

@[simp] theorem State.setAxisTrack_pending (h a : Nat) (f : AxisTrack → AxisTrack) (s : State) : (State.setAxisTrack h a f s).pending = s.pending := rfl
@[simp] theorem State.setAxisTrack_dt (h a : Nat) (f : AxisTrack → AxisTrack) (s : State) : (State.setAxisTrack h a f s).dt = s.dt := rfl
@[simp] theorem State.setAxisTrack_fresh (h a : Nat) (f : AxisTrack → AxisTrack) (s : State) : (State.setAxisTrack h a f s).fresh = s.fresh := rfl
@[simp] theorem State.setAxisTrack_tx (h a : Nat) (f : AxisTrack → AxisTrack) (s : State) : (State.setAxisTrack h a f s).tx = s.tx := rfl
@[simp] theorem State.setAxisTrack_par (h a : Nat) (f : AxisTrack → AxisTrack) (s : State) : (State.setAxisTrack h a f s).par = s.par := rfl
@[simp] theorem State.setAxisTrack_parPending (h a : Nat) (f : AxisTrack → AxisTrack) (s : State) : (State.setAxisTrack h a f s).parPending = s.parPending := rfl
@[simp] theorem State.setAxisTrack_deferred (h a : Nat) (f : AxisTrack → AxisTrack) (s : State) : (State.setAxisTrack h a f s).deferred = s.deferred := rfl
@[simp] theorem State.setAxisTrack_otp (h a : Nat) (f : AxisTrack → AxisTrack) (s : State) : (State.setAxisTrack h a f s).otp = s.otp := rfl
@[simp] theorem State.setAxisTrack_cyc (h a : Nat) (f : AxisTrack → AxisTrack) (s : State) : (State.setAxisTrack h a f s).cyc = s.cyc := rfl
@[simp] theorem State.setAxisTrack_host (h a : Nat) (f : AxisTrack → AxisTrack) (s : State) : (State.setAxisTrack h a f s).host = s.host := rfl
@[simp] theorem State.setAxisTrack_power (h a : Nat) (f : AxisTrack → AxisTrack) (s : State) : (State.setAxisTrack h a f s).power = s.power := rfl
@[simp] theorem State.setAxisTrack_svc (h a : Nat) (f : AxisTrack → AxisTrack) (s : State) : (State.setAxisTrack h a f s).svc = s.svc := rfl
@[simp] theorem State.setAxisTrack_recorder (h a : Nat) (f : AxisTrack → AxisTrack) (s : State) : (State.setAxisTrack h a f s).recorder = s.recorder := rfl
@[simp] theorem State.setAxisTrack_streams (h a : Nat) (f : AxisTrack → AxisTrack) (s : State) : (State.setAxisTrack h a f s).streams = s.streams := rfl
@[simp] theorem State.setAxisTrack_sig (h a : Nat) (f : AxisTrack → AxisTrack) (s : State) : (State.setAxisTrack h a f s).sig = s.sig := rfl
@[simp] theorem State.setAxisTrack_lay (h a : Nat) (f : AxisTrack → AxisTrack) (s : State) : (State.setAxisTrack h a f s).lay = s.lay := rfl
@[simp] theorem State.setAxisTrack_mps (h a : Nat) (f : AxisTrack → AxisTrack) (s : State) : (State.setAxisTrack h a f s).mps = s.mps := rfl
@[simp] theorem State.setAxisTrack_loop (h a : Nat) (f : AxisTrack → AxisTrack) (s : State) : (State.setAxisTrack h a f s).loop = s.loop := rfl
@[simp] theorem State.setAxisTrack_ledger (h a : Nat) (f : AxisTrack → AxisTrack) (s : State) : (State.setAxisTrack h a f s).ledger = s.ledger := rfl
@[simp] theorem State.setAxisTrack_img (h a : Nat) (f : AxisTrack → AxisTrack) (s : State) : (State.setAxisTrack h a f s).img = s.img := rfl
@[simp] theorem State.setAxisTrack_mot (h a : Nat) (f : AxisTrack → AxisTrack) (s : State) : (State.setAxisTrack h a f s).mot = s.mot := rfl
@[simp] theorem State.setAxisTrack_emd (h a : Nat) (f : AxisTrack → AxisTrack) (s : State) : (State.setAxisTrack h a f s).emd = s.emd := rfl
@[simp] theorem State.setAxisTrack_dma (h a : Nat) (f : AxisTrack → AxisTrack) (s : State) : (State.setAxisTrack h a f s).dma = s.dma := rfl
@[simp] theorem State.setAxisTrack_int (h a : Nat) (f : AxisTrack → AxisTrack) (s : State) : (State.setAxisTrack h a f s).int = s.int := rfl
@[simp] theorem State.setAxisTrack_mem (h a : Nat) (f : AxisTrack → AxisTrack) (s : State) : (State.setAxisTrack h a f s).mem = s.mem := rfl
@[simp] theorem State.setAxisTrack_head (h a : Nat) (f : AxisTrack → AxisTrack) (s : State) : (State.setAxisTrack h a f s).head = s.head := rfl
@[simp] theorem State.setAxisTrack_las (h a : Nat) (f : AxisTrack → AxisTrack) (s : State) : (State.setAxisTrack h a f s).las = s.las := rfl
@[simp] theorem State.setAxisTrack_gut (h a : Nat) (f : AxisTrack → AxisTrack) (s : State) : (State.setAxisTrack h a f s).gut = s.gut := rfl
@[simp] theorem State.setAxisTrack_net (h a : Nat) (f : AxisTrack → AxisTrack) (s : State) : (State.setAxisTrack h a f s).net = s.net := rfl
@[simp] theorem State.setAxisTrack_pair (h a : Nat) (f : AxisTrack → AxisTrack) (s : State) : (State.setAxisTrack h a f s).pair = s.pair := rfl
@[simp] theorem State.setAxisTrack_dram (h a : Nat) (f : AxisTrack → AxisTrack) (s : State) : (State.setAxisTrack h a f s).dram = s.dram := rfl
@[simp] theorem State.setAxisTrack_flash (h a : Nat) (f : AxisTrack → AxisTrack) (s : State) : (State.setAxisTrack h a f s).flash = s.flash := rfl

@[simp] theorem State.setFw_pending (f : Firmware → Firmware) (s : State) : (State.setFw f s).pending = s.pending := rfl
@[simp] theorem State.setFw_dt (f : Firmware → Firmware) (s : State) : (State.setFw f s).dt = s.dt := rfl
@[simp] theorem State.setFw_fresh (f : Firmware → Firmware) (s : State) : (State.setFw f s).fresh = s.fresh := rfl
@[simp] theorem State.setFw_tx (f : Firmware → Firmware) (s : State) : (State.setFw f s).tx = s.tx := rfl
@[simp] theorem State.setFw_par (f : Firmware → Firmware) (s : State) : (State.setFw f s).par = s.par := rfl
@[simp] theorem State.setFw_parPending (f : Firmware → Firmware) (s : State) : (State.setFw f s).parPending = s.parPending := rfl
@[simp] theorem State.setFw_deferred (f : Firmware → Firmware) (s : State) : (State.setFw f s).deferred = s.deferred := rfl
@[simp] theorem State.setFw_otp (f : Firmware → Firmware) (s : State) : (State.setFw f s).otp = s.otp := rfl
@[simp] theorem State.setFw_cyc (f : Firmware → Firmware) (s : State) : (State.setFw f s).cyc = s.cyc := rfl
@[simp] theorem State.setFw_host (f : Firmware → Firmware) (s : State) : (State.setFw f s).host = s.host := rfl
@[simp] theorem State.setFw_power (f : Firmware → Firmware) (s : State) : (State.setFw f s).power = s.power := rfl
@[simp] theorem State.setFw_recorder (f : Firmware → Firmware) (s : State) : (State.setFw f s).recorder = s.recorder := rfl
@[simp] theorem State.setFw_streams (f : Firmware → Firmware) (s : State) : (State.setFw f s).streams = s.streams := rfl
@[simp] theorem State.setFw_sig (f : Firmware → Firmware) (s : State) : (State.setFw f s).sig = s.sig := rfl
@[simp] theorem State.setFw_lay (f : Firmware → Firmware) (s : State) : (State.setFw f s).lay = s.lay := rfl
@[simp] theorem State.setFw_mps (f : Firmware → Firmware) (s : State) : (State.setFw f s).mps = s.mps := rfl
@[simp] theorem State.setFw_loop (f : Firmware → Firmware) (s : State) : (State.setFw f s).loop = s.loop := rfl
@[simp] theorem State.setFw_ledger (f : Firmware → Firmware) (s : State) : (State.setFw f s).ledger = s.ledger := rfl
@[simp] theorem State.setFw_img (f : Firmware → Firmware) (s : State) : (State.setFw f s).img = s.img := rfl
@[simp] theorem State.setFw_mot (f : Firmware → Firmware) (s : State) : (State.setFw f s).mot = s.mot := rfl
@[simp] theorem State.setFw_fbk (f : Firmware → Firmware) (s : State) : (State.setFw f s).fbk = s.fbk := rfl
@[simp] theorem State.setFw_emd (f : Firmware → Firmware) (s : State) : (State.setFw f s).emd = s.emd := rfl
@[simp] theorem State.setFw_dma (f : Firmware → Firmware) (s : State) : (State.setFw f s).dma = s.dma := rfl
@[simp] theorem State.setFw_int (f : Firmware → Firmware) (s : State) : (State.setFw f s).int = s.int := rfl
@[simp] theorem State.setFw_mem (f : Firmware → Firmware) (s : State) : (State.setFw f s).mem = s.mem := rfl
@[simp] theorem State.setFw_head (f : Firmware → Firmware) (s : State) : (State.setFw f s).head = s.head := rfl
@[simp] theorem State.setFw_las (f : Firmware → Firmware) (s : State) : (State.setFw f s).las = s.las := rfl
@[simp] theorem State.setFw_gut (f : Firmware → Firmware) (s : State) : (State.setFw f s).gut = s.gut := rfl
@[simp] theorem State.setFw_net (f : Firmware → Firmware) (s : State) : (State.setFw f s).net = s.net := rfl
@[simp] theorem State.setFw_pair (f : Firmware → Firmware) (s : State) : (State.setFw f s).pair = s.pair := rfl
@[simp] theorem State.setFw_dram (f : Firmware → Firmware) (s : State) : (State.setFw f s).dram = s.dram := rfl
@[simp] theorem State.setFw_flash (f : Firmware → Firmware) (s : State) : (State.setFw f s).flash = s.flash := rfl

@[simp] theorem State.setHlk_pending (h : Nat) (f : HlkPort → HlkPort) (s : State) : (State.setHlk h f s).pending = s.pending := rfl
@[simp] theorem State.setHlk_dt (h : Nat) (f : HlkPort → HlkPort) (s : State) : (State.setHlk h f s).dt = s.dt := rfl
@[simp] theorem State.setHlk_fresh (h : Nat) (f : HlkPort → HlkPort) (s : State) : (State.setHlk h f s).fresh = s.fresh := rfl
@[simp] theorem State.setHlk_tx (h : Nat) (f : HlkPort → HlkPort) (s : State) : (State.setHlk h f s).tx = s.tx := rfl
@[simp] theorem State.setHlk_par (h : Nat) (f : HlkPort → HlkPort) (s : State) : (State.setHlk h f s).par = s.par := rfl
@[simp] theorem State.setHlk_parPending (h : Nat) (f : HlkPort → HlkPort) (s : State) : (State.setHlk h f s).parPending = s.parPending := rfl
@[simp] theorem State.setHlk_deferred (h : Nat) (f : HlkPort → HlkPort) (s : State) : (State.setHlk h f s).deferred = s.deferred := rfl
@[simp] theorem State.setHlk_otp (h : Nat) (f : HlkPort → HlkPort) (s : State) : (State.setHlk h f s).otp = s.otp := rfl
@[simp] theorem State.setHlk_cyc (h : Nat) (f : HlkPort → HlkPort) (s : State) : (State.setHlk h f s).cyc = s.cyc := rfl
@[simp] theorem State.setHlk_host (h : Nat) (f : HlkPort → HlkPort) (s : State) : (State.setHlk h f s).host = s.host := rfl
@[simp] theorem State.setHlk_power (h : Nat) (f : HlkPort → HlkPort) (s : State) : (State.setHlk h f s).power = s.power := rfl
@[simp] theorem State.setHlk_svc (h : Nat) (f : HlkPort → HlkPort) (s : State) : (State.setHlk h f s).svc = s.svc := rfl
@[simp] theorem State.setHlk_recorder (h : Nat) (f : HlkPort → HlkPort) (s : State) : (State.setHlk h f s).recorder = s.recorder := rfl
@[simp] theorem State.setHlk_streams (h : Nat) (f : HlkPort → HlkPort) (s : State) : (State.setHlk h f s).streams = s.streams := rfl
@[simp] theorem State.setHlk_sig (h : Nat) (f : HlkPort → HlkPort) (s : State) : (State.setHlk h f s).sig = s.sig := rfl
@[simp] theorem State.setHlk_lay (h : Nat) (f : HlkPort → HlkPort) (s : State) : (State.setHlk h f s).lay = s.lay := rfl
@[simp] theorem State.setHlk_mps (h : Nat) (f : HlkPort → HlkPort) (s : State) : (State.setHlk h f s).mps = s.mps := rfl
@[simp] theorem State.setHlk_loop (h : Nat) (f : HlkPort → HlkPort) (s : State) : (State.setHlk h f s).loop = s.loop := rfl
@[simp] theorem State.setHlk_ledger (h : Nat) (f : HlkPort → HlkPort) (s : State) : (State.setHlk h f s).ledger = s.ledger := rfl
@[simp] theorem State.setHlk_img (h : Nat) (f : HlkPort → HlkPort) (s : State) : (State.setHlk h f s).img = s.img := rfl
@[simp] theorem State.setHlk_mot (h : Nat) (f : HlkPort → HlkPort) (s : State) : (State.setHlk h f s).mot = s.mot := rfl
@[simp] theorem State.setHlk_fbk (h : Nat) (f : HlkPort → HlkPort) (s : State) : (State.setHlk h f s).fbk = s.fbk := rfl
@[simp] theorem State.setHlk_emd (h : Nat) (f : HlkPort → HlkPort) (s : State) : (State.setHlk h f s).emd = s.emd := rfl
@[simp] theorem State.setHlk_dma (h : Nat) (f : HlkPort → HlkPort) (s : State) : (State.setHlk h f s).dma = s.dma := rfl
@[simp] theorem State.setHlk_int (h : Nat) (f : HlkPort → HlkPort) (s : State) : (State.setHlk h f s).int = s.int := rfl
@[simp] theorem State.setHlk_mem (h : Nat) (f : HlkPort → HlkPort) (s : State) : (State.setHlk h f s).mem = s.mem := rfl
@[simp] theorem State.setHlk_las (h : Nat) (f : HlkPort → HlkPort) (s : State) : (State.setHlk h f s).las = s.las := rfl
@[simp] theorem State.setHlk_gut (h : Nat) (f : HlkPort → HlkPort) (s : State) : (State.setHlk h f s).gut = s.gut := rfl
@[simp] theorem State.setHlk_net (h : Nat) (f : HlkPort → HlkPort) (s : State) : (State.setHlk h f s).net = s.net := rfl
@[simp] theorem State.setHlk_pair (h : Nat) (f : HlkPort → HlkPort) (s : State) : (State.setHlk h f s).pair = s.pair := rfl
@[simp] theorem State.setHlk_dram (h : Nat) (f : HlkPort → HlkPort) (s : State) : (State.setHlk h f s).dram = s.dram := rfl
@[simp] theorem State.setHlk_flash (h : Nat) (f : HlkPort → HlkPort) (s : State) : (State.setHlk h f s).flash = s.flash := rfl

@[simp] theorem State.setTrj_pending (h : Nat) (f : TrjHead → TrjHead) (s : State) : (State.setTrj h f s).pending = s.pending := rfl
@[simp] theorem State.setTrj_dt (h : Nat) (f : TrjHead → TrjHead) (s : State) : (State.setTrj h f s).dt = s.dt := rfl
@[simp] theorem State.setTrj_fresh (h : Nat) (f : TrjHead → TrjHead) (s : State) : (State.setTrj h f s).fresh = s.fresh := rfl
@[simp] theorem State.setTrj_tx (h : Nat) (f : TrjHead → TrjHead) (s : State) : (State.setTrj h f s).tx = s.tx := rfl
@[simp] theorem State.setTrj_par (h : Nat) (f : TrjHead → TrjHead) (s : State) : (State.setTrj h f s).par = s.par := rfl
@[simp] theorem State.setTrj_parPending (h : Nat) (f : TrjHead → TrjHead) (s : State) : (State.setTrj h f s).parPending = s.parPending := rfl
@[simp] theorem State.setTrj_deferred (h : Nat) (f : TrjHead → TrjHead) (s : State) : (State.setTrj h f s).deferred = s.deferred := rfl
@[simp] theorem State.setTrj_otp (h : Nat) (f : TrjHead → TrjHead) (s : State) : (State.setTrj h f s).otp = s.otp := rfl
@[simp] theorem State.setTrj_cyc (h : Nat) (f : TrjHead → TrjHead) (s : State) : (State.setTrj h f s).cyc = s.cyc := rfl
@[simp] theorem State.setTrj_host (h : Nat) (f : TrjHead → TrjHead) (s : State) : (State.setTrj h f s).host = s.host := rfl
@[simp] theorem State.setTrj_power (h : Nat) (f : TrjHead → TrjHead) (s : State) : (State.setTrj h f s).power = s.power := rfl
@[simp] theorem State.setTrj_svc (h : Nat) (f : TrjHead → TrjHead) (s : State) : (State.setTrj h f s).svc = s.svc := rfl
@[simp] theorem State.setTrj_recorder (h : Nat) (f : TrjHead → TrjHead) (s : State) : (State.setTrj h f s).recorder = s.recorder := rfl
@[simp] theorem State.setTrj_streams (h : Nat) (f : TrjHead → TrjHead) (s : State) : (State.setTrj h f s).streams = s.streams := rfl
@[simp] theorem State.setTrj_sig (h : Nat) (f : TrjHead → TrjHead) (s : State) : (State.setTrj h f s).sig = s.sig := rfl
@[simp] theorem State.setTrj_lay (h : Nat) (f : TrjHead → TrjHead) (s : State) : (State.setTrj h f s).lay = s.lay := rfl
@[simp] theorem State.setTrj_mps (h : Nat) (f : TrjHead → TrjHead) (s : State) : (State.setTrj h f s).mps = s.mps := rfl
@[simp] theorem State.setTrj_loop (h : Nat) (f : TrjHead → TrjHead) (s : State) : (State.setTrj h f s).loop = s.loop := rfl
@[simp] theorem State.setTrj_ledger (h : Nat) (f : TrjHead → TrjHead) (s : State) : (State.setTrj h f s).ledger = s.ledger := rfl
@[simp] theorem State.setTrj_img (h : Nat) (f : TrjHead → TrjHead) (s : State) : (State.setTrj h f s).img = s.img := rfl
@[simp] theorem State.setTrj_mot (h : Nat) (f : TrjHead → TrjHead) (s : State) : (State.setTrj h f s).mot = s.mot := rfl
@[simp] theorem State.setTrj_fbk (h : Nat) (f : TrjHead → TrjHead) (s : State) : (State.setTrj h f s).fbk = s.fbk := rfl
@[simp] theorem State.setTrj_emd (h : Nat) (f : TrjHead → TrjHead) (s : State) : (State.setTrj h f s).emd = s.emd := rfl
@[simp] theorem State.setTrj_dma (h : Nat) (f : TrjHead → TrjHead) (s : State) : (State.setTrj h f s).dma = s.dma := rfl
@[simp] theorem State.setTrj_int (h : Nat) (f : TrjHead → TrjHead) (s : State) : (State.setTrj h f s).int = s.int := rfl
@[simp] theorem State.setTrj_mem (h : Nat) (f : TrjHead → TrjHead) (s : State) : (State.setTrj h f s).mem = s.mem := rfl
@[simp] theorem State.setTrj_las (h : Nat) (f : TrjHead → TrjHead) (s : State) : (State.setTrj h f s).las = s.las := rfl
@[simp] theorem State.setTrj_gut (h : Nat) (f : TrjHead → TrjHead) (s : State) : (State.setTrj h f s).gut = s.gut := rfl
@[simp] theorem State.setTrj_net (h : Nat) (f : TrjHead → TrjHead) (s : State) : (State.setTrj h f s).net = s.net := rfl
@[simp] theorem State.setTrj_pair (h : Nat) (f : TrjHead → TrjHead) (s : State) : (State.setTrj h f s).pair = s.pair := rfl
@[simp] theorem State.setTrj_dram (h : Nat) (f : TrjHead → TrjHead) (s : State) : (State.setTrj h f s).dram = s.dram := rfl
@[simp] theorem State.setTrj_flash (h : Nat) (f : TrjHead → TrjHead) (s : State) : (State.setTrj h f s).flash = s.flash := rfl

@[simp] theorem State.setLas_pending (h : Nat) (f : LasHead → LasHead) (s : State) : (State.setLas h f s).pending = s.pending := rfl
@[simp] theorem State.setLas_dt (h : Nat) (f : LasHead → LasHead) (s : State) : (State.setLas h f s).dt = s.dt := rfl
@[simp] theorem State.setLas_fresh (h : Nat) (f : LasHead → LasHead) (s : State) : (State.setLas h f s).fresh = s.fresh := rfl
@[simp] theorem State.setLas_tx (h : Nat) (f : LasHead → LasHead) (s : State) : (State.setLas h f s).tx = s.tx := rfl
@[simp] theorem State.setLas_par (h : Nat) (f : LasHead → LasHead) (s : State) : (State.setLas h f s).par = s.par := rfl
@[simp] theorem State.setLas_parPending (h : Nat) (f : LasHead → LasHead) (s : State) : (State.setLas h f s).parPending = s.parPending := rfl
@[simp] theorem State.setLas_deferred (h : Nat) (f : LasHead → LasHead) (s : State) : (State.setLas h f s).deferred = s.deferred := rfl
@[simp] theorem State.setLas_otp (h : Nat) (f : LasHead → LasHead) (s : State) : (State.setLas h f s).otp = s.otp := rfl
@[simp] theorem State.setLas_cyc (h : Nat) (f : LasHead → LasHead) (s : State) : (State.setLas h f s).cyc = s.cyc := rfl
@[simp] theorem State.setLas_host (h : Nat) (f : LasHead → LasHead) (s : State) : (State.setLas h f s).host = s.host := rfl
@[simp] theorem State.setLas_power (h : Nat) (f : LasHead → LasHead) (s : State) : (State.setLas h f s).power = s.power := rfl
@[simp] theorem State.setLas_svc (h : Nat) (f : LasHead → LasHead) (s : State) : (State.setLas h f s).svc = s.svc := rfl
@[simp] theorem State.setLas_recorder (h : Nat) (f : LasHead → LasHead) (s : State) : (State.setLas h f s).recorder = s.recorder := rfl
@[simp] theorem State.setLas_streams (h : Nat) (f : LasHead → LasHead) (s : State) : (State.setLas h f s).streams = s.streams := rfl
@[simp] theorem State.setLas_sig (h : Nat) (f : LasHead → LasHead) (s : State) : (State.setLas h f s).sig = s.sig := rfl
@[simp] theorem State.setLas_lay (h : Nat) (f : LasHead → LasHead) (s : State) : (State.setLas h f s).lay = s.lay := rfl
@[simp] theorem State.setLas_mps (h : Nat) (f : LasHead → LasHead) (s : State) : (State.setLas h f s).mps = s.mps := rfl
@[simp] theorem State.setLas_loop (h : Nat) (f : LasHead → LasHead) (s : State) : (State.setLas h f s).loop = s.loop := rfl
@[simp] theorem State.setLas_ledger (h : Nat) (f : LasHead → LasHead) (s : State) : (State.setLas h f s).ledger = s.ledger := rfl
@[simp] theorem State.setLas_img (h : Nat) (f : LasHead → LasHead) (s : State) : (State.setLas h f s).img = s.img := rfl
@[simp] theorem State.setLas_mot (h : Nat) (f : LasHead → LasHead) (s : State) : (State.setLas h f s).mot = s.mot := rfl
@[simp] theorem State.setLas_fbk (h : Nat) (f : LasHead → LasHead) (s : State) : (State.setLas h f s).fbk = s.fbk := rfl
@[simp] theorem State.setLas_emd (h : Nat) (f : LasHead → LasHead) (s : State) : (State.setLas h f s).emd = s.emd := rfl
@[simp] theorem State.setLas_dma (h : Nat) (f : LasHead → LasHead) (s : State) : (State.setLas h f s).dma = s.dma := rfl
@[simp] theorem State.setLas_int (h : Nat) (f : LasHead → LasHead) (s : State) : (State.setLas h f s).int = s.int := rfl
@[simp] theorem State.setLas_mem (h : Nat) (f : LasHead → LasHead) (s : State) : (State.setLas h f s).mem = s.mem := rfl
@[simp] theorem State.setLas_head (h : Nat) (f : LasHead → LasHead) (s : State) : (State.setLas h f s).head = s.head := rfl
@[simp] theorem State.setLas_gut (h : Nat) (f : LasHead → LasHead) (s : State) : (State.setLas h f s).gut = s.gut := rfl
@[simp] theorem State.setLas_net (h : Nat) (f : LasHead → LasHead) (s : State) : (State.setLas h f s).net = s.net := rfl
@[simp] theorem State.setLas_pair (h : Nat) (f : LasHead → LasHead) (s : State) : (State.setLas h f s).pair = s.pair := rfl
@[simp] theorem State.setLas_dram (h : Nat) (f : LasHead → LasHead) (s : State) : (State.setLas h f s).dram = s.dram := rfl
@[simp] theorem State.setLas_flash (h : Nat) (f : LasHead → LasHead) (s : State) : (State.setLas h f s).flash = s.flash := rfl

@[simp] theorem State.setGut_pending (h : Nat) (f : GutHead → GutHead) (s : State) : (State.setGut h f s).pending = s.pending := rfl
@[simp] theorem State.setGut_dt (h : Nat) (f : GutHead → GutHead) (s : State) : (State.setGut h f s).dt = s.dt := rfl
@[simp] theorem State.setGut_fresh (h : Nat) (f : GutHead → GutHead) (s : State) : (State.setGut h f s).fresh = s.fresh := rfl
@[simp] theorem State.setGut_tx (h : Nat) (f : GutHead → GutHead) (s : State) : (State.setGut h f s).tx = s.tx := rfl
@[simp] theorem State.setGut_par (h : Nat) (f : GutHead → GutHead) (s : State) : (State.setGut h f s).par = s.par := rfl
@[simp] theorem State.setGut_parPending (h : Nat) (f : GutHead → GutHead) (s : State) : (State.setGut h f s).parPending = s.parPending := rfl
@[simp] theorem State.setGut_deferred (h : Nat) (f : GutHead → GutHead) (s : State) : (State.setGut h f s).deferred = s.deferred := rfl
@[simp] theorem State.setGut_otp (h : Nat) (f : GutHead → GutHead) (s : State) : (State.setGut h f s).otp = s.otp := rfl
@[simp] theorem State.setGut_cyc (h : Nat) (f : GutHead → GutHead) (s : State) : (State.setGut h f s).cyc = s.cyc := rfl
@[simp] theorem State.setGut_host (h : Nat) (f : GutHead → GutHead) (s : State) : (State.setGut h f s).host = s.host := rfl
@[simp] theorem State.setGut_power (h : Nat) (f : GutHead → GutHead) (s : State) : (State.setGut h f s).power = s.power := rfl
@[simp] theorem State.setGut_svc (h : Nat) (f : GutHead → GutHead) (s : State) : (State.setGut h f s).svc = s.svc := rfl
@[simp] theorem State.setGut_recorder (h : Nat) (f : GutHead → GutHead) (s : State) : (State.setGut h f s).recorder = s.recorder := rfl
@[simp] theorem State.setGut_streams (h : Nat) (f : GutHead → GutHead) (s : State) : (State.setGut h f s).streams = s.streams := rfl
@[simp] theorem State.setGut_sig (h : Nat) (f : GutHead → GutHead) (s : State) : (State.setGut h f s).sig = s.sig := rfl
@[simp] theorem State.setGut_lay (h : Nat) (f : GutHead → GutHead) (s : State) : (State.setGut h f s).lay = s.lay := rfl
@[simp] theorem State.setGut_mps (h : Nat) (f : GutHead → GutHead) (s : State) : (State.setGut h f s).mps = s.mps := rfl
@[simp] theorem State.setGut_loop (h : Nat) (f : GutHead → GutHead) (s : State) : (State.setGut h f s).loop = s.loop := rfl
@[simp] theorem State.setGut_ledger (h : Nat) (f : GutHead → GutHead) (s : State) : (State.setGut h f s).ledger = s.ledger := rfl
@[simp] theorem State.setGut_img (h : Nat) (f : GutHead → GutHead) (s : State) : (State.setGut h f s).img = s.img := rfl
@[simp] theorem State.setGut_mot (h : Nat) (f : GutHead → GutHead) (s : State) : (State.setGut h f s).mot = s.mot := rfl
@[simp] theorem State.setGut_fbk (h : Nat) (f : GutHead → GutHead) (s : State) : (State.setGut h f s).fbk = s.fbk := rfl
@[simp] theorem State.setGut_emd (h : Nat) (f : GutHead → GutHead) (s : State) : (State.setGut h f s).emd = s.emd := rfl
@[simp] theorem State.setGut_dma (h : Nat) (f : GutHead → GutHead) (s : State) : (State.setGut h f s).dma = s.dma := rfl
@[simp] theorem State.setGut_int (h : Nat) (f : GutHead → GutHead) (s : State) : (State.setGut h f s).int = s.int := rfl
@[simp] theorem State.setGut_mem (h : Nat) (f : GutHead → GutHead) (s : State) : (State.setGut h f s).mem = s.mem := rfl
@[simp] theorem State.setGut_head (h : Nat) (f : GutHead → GutHead) (s : State) : (State.setGut h f s).head = s.head := rfl
@[simp] theorem State.setGut_las (h : Nat) (f : GutHead → GutHead) (s : State) : (State.setGut h f s).las = s.las := rfl
@[simp] theorem State.setGut_net (h : Nat) (f : GutHead → GutHead) (s : State) : (State.setGut h f s).net = s.net := rfl
@[simp] theorem State.setGut_pair (h : Nat) (f : GutHead → GutHead) (s : State) : (State.setGut h f s).pair = s.pair := rfl
@[simp] theorem State.setGut_dram (h : Nat) (f : GutHead → GutHead) (s : State) : (State.setGut h f s).dram = s.dram := rfl
@[simp] theorem State.setGut_flash (h : Nat) (f : GutHead → GutHead) (s : State) : (State.setGut h f s).flash = s.flash := rfl

@[simp] theorem State.setMps_pending (h : Nat) (f : MpsHead → MpsHead) (s : State) : (State.setMps h f s).pending = s.pending := rfl
@[simp] theorem State.setMps_dt (h : Nat) (f : MpsHead → MpsHead) (s : State) : (State.setMps h f s).dt = s.dt := rfl
@[simp] theorem State.setMps_fresh (h : Nat) (f : MpsHead → MpsHead) (s : State) : (State.setMps h f s).fresh = s.fresh := rfl
@[simp] theorem State.setMps_tx (h : Nat) (f : MpsHead → MpsHead) (s : State) : (State.setMps h f s).tx = s.tx := rfl
@[simp] theorem State.setMps_par (h : Nat) (f : MpsHead → MpsHead) (s : State) : (State.setMps h f s).par = s.par := rfl
@[simp] theorem State.setMps_parPending (h : Nat) (f : MpsHead → MpsHead) (s : State) : (State.setMps h f s).parPending = s.parPending := rfl
@[simp] theorem State.setMps_deferred (h : Nat) (f : MpsHead → MpsHead) (s : State) : (State.setMps h f s).deferred = s.deferred := rfl
@[simp] theorem State.setMps_otp (h : Nat) (f : MpsHead → MpsHead) (s : State) : (State.setMps h f s).otp = s.otp := rfl
@[simp] theorem State.setMps_cyc (h : Nat) (f : MpsHead → MpsHead) (s : State) : (State.setMps h f s).cyc = s.cyc := rfl
@[simp] theorem State.setMps_host (h : Nat) (f : MpsHead → MpsHead) (s : State) : (State.setMps h f s).host = s.host := rfl
@[simp] theorem State.setMps_power (h : Nat) (f : MpsHead → MpsHead) (s : State) : (State.setMps h f s).power = s.power := rfl
@[simp] theorem State.setMps_svc (h : Nat) (f : MpsHead → MpsHead) (s : State) : (State.setMps h f s).svc = s.svc := rfl
@[simp] theorem State.setMps_recorder (h : Nat) (f : MpsHead → MpsHead) (s : State) : (State.setMps h f s).recorder = s.recorder := rfl
@[simp] theorem State.setMps_streams (h : Nat) (f : MpsHead → MpsHead) (s : State) : (State.setMps h f s).streams = s.streams := rfl
@[simp] theorem State.setMps_sig (h : Nat) (f : MpsHead → MpsHead) (s : State) : (State.setMps h f s).sig = s.sig := rfl
@[simp] theorem State.setMps_lay (h : Nat) (f : MpsHead → MpsHead) (s : State) : (State.setMps h f s).lay = s.lay := rfl
@[simp] theorem State.setMps_loop (h : Nat) (f : MpsHead → MpsHead) (s : State) : (State.setMps h f s).loop = s.loop := rfl
@[simp] theorem State.setMps_ledger (h : Nat) (f : MpsHead → MpsHead) (s : State) : (State.setMps h f s).ledger = s.ledger := rfl
@[simp] theorem State.setMps_img (h : Nat) (f : MpsHead → MpsHead) (s : State) : (State.setMps h f s).img = s.img := rfl
@[simp] theorem State.setMps_mot (h : Nat) (f : MpsHead → MpsHead) (s : State) : (State.setMps h f s).mot = s.mot := rfl
@[simp] theorem State.setMps_fbk (h : Nat) (f : MpsHead → MpsHead) (s : State) : (State.setMps h f s).fbk = s.fbk := rfl
@[simp] theorem State.setMps_emd (h : Nat) (f : MpsHead → MpsHead) (s : State) : (State.setMps h f s).emd = s.emd := rfl
@[simp] theorem State.setMps_dma (h : Nat) (f : MpsHead → MpsHead) (s : State) : (State.setMps h f s).dma = s.dma := rfl
@[simp] theorem State.setMps_int (h : Nat) (f : MpsHead → MpsHead) (s : State) : (State.setMps h f s).int = s.int := rfl
@[simp] theorem State.setMps_mem (h : Nat) (f : MpsHead → MpsHead) (s : State) : (State.setMps h f s).mem = s.mem := rfl
@[simp] theorem State.setMps_head (h : Nat) (f : MpsHead → MpsHead) (s : State) : (State.setMps h f s).head = s.head := rfl
@[simp] theorem State.setMps_las (h : Nat) (f : MpsHead → MpsHead) (s : State) : (State.setMps h f s).las = s.las := rfl
@[simp] theorem State.setMps_gut (h : Nat) (f : MpsHead → MpsHead) (s : State) : (State.setMps h f s).gut = s.gut := rfl
@[simp] theorem State.setMps_net (h : Nat) (f : MpsHead → MpsHead) (s : State) : (State.setMps h f s).net = s.net := rfl
@[simp] theorem State.setMps_pair (h : Nat) (f : MpsHead → MpsHead) (s : State) : (State.setMps h f s).pair = s.pair := rfl
@[simp] theorem State.setMps_dram (h : Nat) (f : MpsHead → MpsHead) (s : State) : (State.setMps h f s).dram = s.dram := rfl
@[simp] theorem State.setMps_flash (h : Nat) (f : MpsHead → MpsHead) (s : State) : (State.setMps h f s).flash = s.flash := rfl

@[simp] theorem State.setPort_pending (p : Nat) (f : ImgPort → ImgPort) (s : State) : (State.setPort p f s).pending = s.pending := rfl
@[simp] theorem State.setPort_dt (p : Nat) (f : ImgPort → ImgPort) (s : State) : (State.setPort p f s).dt = s.dt := rfl
@[simp] theorem State.setPort_fresh (p : Nat) (f : ImgPort → ImgPort) (s : State) : (State.setPort p f s).fresh = s.fresh := rfl
@[simp] theorem State.setPort_tx (p : Nat) (f : ImgPort → ImgPort) (s : State) : (State.setPort p f s).tx = s.tx := rfl
@[simp] theorem State.setPort_par (p : Nat) (f : ImgPort → ImgPort) (s : State) : (State.setPort p f s).par = s.par := rfl
@[simp] theorem State.setPort_parPending (p : Nat) (f : ImgPort → ImgPort) (s : State) : (State.setPort p f s).parPending = s.parPending := rfl
@[simp] theorem State.setPort_deferred (p : Nat) (f : ImgPort → ImgPort) (s : State) : (State.setPort p f s).deferred = s.deferred := rfl
@[simp] theorem State.setPort_otp (p : Nat) (f : ImgPort → ImgPort) (s : State) : (State.setPort p f s).otp = s.otp := rfl
@[simp] theorem State.setPort_cyc (p : Nat) (f : ImgPort → ImgPort) (s : State) : (State.setPort p f s).cyc = s.cyc := rfl
@[simp] theorem State.setPort_host (p : Nat) (f : ImgPort → ImgPort) (s : State) : (State.setPort p f s).host = s.host := rfl
@[simp] theorem State.setPort_power (p : Nat) (f : ImgPort → ImgPort) (s : State) : (State.setPort p f s).power = s.power := rfl
@[simp] theorem State.setPort_svc (p : Nat) (f : ImgPort → ImgPort) (s : State) : (State.setPort p f s).svc = s.svc := rfl
@[simp] theorem State.setPort_recorder (p : Nat) (f : ImgPort → ImgPort) (s : State) : (State.setPort p f s).recorder = s.recorder := rfl
@[simp] theorem State.setPort_streams (p : Nat) (f : ImgPort → ImgPort) (s : State) : (State.setPort p f s).streams = s.streams := rfl
@[simp] theorem State.setPort_sig (p : Nat) (f : ImgPort → ImgPort) (s : State) : (State.setPort p f s).sig = s.sig := rfl
@[simp] theorem State.setPort_lay (p : Nat) (f : ImgPort → ImgPort) (s : State) : (State.setPort p f s).lay = s.lay := rfl
@[simp] theorem State.setPort_mps (p : Nat) (f : ImgPort → ImgPort) (s : State) : (State.setPort p f s).mps = s.mps := rfl
@[simp] theorem State.setPort_loop (p : Nat) (f : ImgPort → ImgPort) (s : State) : (State.setPort p f s).loop = s.loop := rfl
@[simp] theorem State.setPort_ledger (p : Nat) (f : ImgPort → ImgPort) (s : State) : (State.setPort p f s).ledger = s.ledger := rfl
@[simp] theorem State.setPort_mot (p : Nat) (f : ImgPort → ImgPort) (s : State) : (State.setPort p f s).mot = s.mot := rfl
@[simp] theorem State.setPort_fbk (p : Nat) (f : ImgPort → ImgPort) (s : State) : (State.setPort p f s).fbk = s.fbk := rfl
@[simp] theorem State.setPort_emd (p : Nat) (f : ImgPort → ImgPort) (s : State) : (State.setPort p f s).emd = s.emd := rfl
@[simp] theorem State.setPort_dma (p : Nat) (f : ImgPort → ImgPort) (s : State) : (State.setPort p f s).dma = s.dma := rfl
@[simp] theorem State.setPort_int (p : Nat) (f : ImgPort → ImgPort) (s : State) : (State.setPort p f s).int = s.int := rfl
@[simp] theorem State.setPort_mem (p : Nat) (f : ImgPort → ImgPort) (s : State) : (State.setPort p f s).mem = s.mem := rfl
@[simp] theorem State.setPort_head (p : Nat) (f : ImgPort → ImgPort) (s : State) : (State.setPort p f s).head = s.head := rfl
@[simp] theorem State.setPort_las (p : Nat) (f : ImgPort → ImgPort) (s : State) : (State.setPort p f s).las = s.las := rfl
@[simp] theorem State.setPort_gut (p : Nat) (f : ImgPort → ImgPort) (s : State) : (State.setPort p f s).gut = s.gut := rfl
@[simp] theorem State.setPort_net (p : Nat) (f : ImgPort → ImgPort) (s : State) : (State.setPort p f s).net = s.net := rfl
@[simp] theorem State.setPort_pair (p : Nat) (f : ImgPort → ImgPort) (s : State) : (State.setPort p f s).pair = s.pair := rfl
@[simp] theorem State.setPort_dram (p : Nat) (f : ImgPort → ImgPort) (s : State) : (State.setPort p f s).dram = s.dram := rfl
@[simp] theorem State.setPort_flash (p : Nat) (f : ImgPort → ImgPort) (s : State) : (State.setPort p f s).flash = s.flash := rfl

@[simp] theorem State.setSource_pending (n : Nat) (f : IntSource → IntSource) (s : State) : (State.setSource n f s).pending = s.pending := rfl
@[simp] theorem State.setSource_dt (n : Nat) (f : IntSource → IntSource) (s : State) : (State.setSource n f s).dt = s.dt := rfl
@[simp] theorem State.setSource_fresh (n : Nat) (f : IntSource → IntSource) (s : State) : (State.setSource n f s).fresh = s.fresh := rfl
@[simp] theorem State.setSource_tx (n : Nat) (f : IntSource → IntSource) (s : State) : (State.setSource n f s).tx = s.tx := rfl
@[simp] theorem State.setSource_par (n : Nat) (f : IntSource → IntSource) (s : State) : (State.setSource n f s).par = s.par := rfl
@[simp] theorem State.setSource_parPending (n : Nat) (f : IntSource → IntSource) (s : State) : (State.setSource n f s).parPending = s.parPending := rfl
@[simp] theorem State.setSource_deferred (n : Nat) (f : IntSource → IntSource) (s : State) : (State.setSource n f s).deferred = s.deferred := rfl
@[simp] theorem State.setSource_otp (n : Nat) (f : IntSource → IntSource) (s : State) : (State.setSource n f s).otp = s.otp := rfl
@[simp] theorem State.setSource_cyc (n : Nat) (f : IntSource → IntSource) (s : State) : (State.setSource n f s).cyc = s.cyc := rfl
@[simp] theorem State.setSource_host (n : Nat) (f : IntSource → IntSource) (s : State) : (State.setSource n f s).host = s.host := rfl
@[simp] theorem State.setSource_power (n : Nat) (f : IntSource → IntSource) (s : State) : (State.setSource n f s).power = s.power := rfl
@[simp] theorem State.setSource_svc (n : Nat) (f : IntSource → IntSource) (s : State) : (State.setSource n f s).svc = s.svc := rfl
@[simp] theorem State.setSource_recorder (n : Nat) (f : IntSource → IntSource) (s : State) : (State.setSource n f s).recorder = s.recorder := rfl
@[simp] theorem State.setSource_streams (n : Nat) (f : IntSource → IntSource) (s : State) : (State.setSource n f s).streams = s.streams := rfl
@[simp] theorem State.setSource_sig (n : Nat) (f : IntSource → IntSource) (s : State) : (State.setSource n f s).sig = s.sig := rfl
@[simp] theorem State.setSource_lay (n : Nat) (f : IntSource → IntSource) (s : State) : (State.setSource n f s).lay = s.lay := rfl
@[simp] theorem State.setSource_mps (n : Nat) (f : IntSource → IntSource) (s : State) : (State.setSource n f s).mps = s.mps := rfl
@[simp] theorem State.setSource_loop (n : Nat) (f : IntSource → IntSource) (s : State) : (State.setSource n f s).loop = s.loop := rfl
@[simp] theorem State.setSource_ledger (n : Nat) (f : IntSource → IntSource) (s : State) : (State.setSource n f s).ledger = s.ledger := rfl
@[simp] theorem State.setSource_img (n : Nat) (f : IntSource → IntSource) (s : State) : (State.setSource n f s).img = s.img := rfl
@[simp] theorem State.setSource_mot (n : Nat) (f : IntSource → IntSource) (s : State) : (State.setSource n f s).mot = s.mot := rfl
@[simp] theorem State.setSource_fbk (n : Nat) (f : IntSource → IntSource) (s : State) : (State.setSource n f s).fbk = s.fbk := rfl
@[simp] theorem State.setSource_emd (n : Nat) (f : IntSource → IntSource) (s : State) : (State.setSource n f s).emd = s.emd := rfl
@[simp] theorem State.setSource_dma (n : Nat) (f : IntSource → IntSource) (s : State) : (State.setSource n f s).dma = s.dma := rfl
@[simp] theorem State.setSource_mem (n : Nat) (f : IntSource → IntSource) (s : State) : (State.setSource n f s).mem = s.mem := rfl
@[simp] theorem State.setSource_head (n : Nat) (f : IntSource → IntSource) (s : State) : (State.setSource n f s).head = s.head := rfl
@[simp] theorem State.setSource_las (n : Nat) (f : IntSource → IntSource) (s : State) : (State.setSource n f s).las = s.las := rfl
@[simp] theorem State.setSource_gut (n : Nat) (f : IntSource → IntSource) (s : State) : (State.setSource n f s).gut = s.gut := rfl
@[simp] theorem State.setSource_net (n : Nat) (f : IntSource → IntSource) (s : State) : (State.setSource n f s).net = s.net := rfl
@[simp] theorem State.setSource_pair (n : Nat) (f : IntSource → IntSource) (s : State) : (State.setSource n f s).pair = s.pair := rfl
@[simp] theorem State.setSource_dram (n : Nat) (f : IntSource → IntSource) (s : State) : (State.setSource n f s).dram = s.dram := rfl
@[simp] theorem State.setSource_flash (n : Nat) (f : IntSource → IntSource) (s : State) : (State.setSource n f s).flash = s.flash := rfl

@[simp] theorem State.setCore_pending (c : Nat) (f : IntCore → IntCore) (s : State) : (State.setCore c f s).pending = s.pending := rfl
@[simp] theorem State.setCore_dt (c : Nat) (f : IntCore → IntCore) (s : State) : (State.setCore c f s).dt = s.dt := rfl
@[simp] theorem State.setCore_fresh (c : Nat) (f : IntCore → IntCore) (s : State) : (State.setCore c f s).fresh = s.fresh := rfl
@[simp] theorem State.setCore_tx (c : Nat) (f : IntCore → IntCore) (s : State) : (State.setCore c f s).tx = s.tx := rfl
@[simp] theorem State.setCore_par (c : Nat) (f : IntCore → IntCore) (s : State) : (State.setCore c f s).par = s.par := rfl
@[simp] theorem State.setCore_parPending (c : Nat) (f : IntCore → IntCore) (s : State) : (State.setCore c f s).parPending = s.parPending := rfl
@[simp] theorem State.setCore_deferred (c : Nat) (f : IntCore → IntCore) (s : State) : (State.setCore c f s).deferred = s.deferred := rfl
@[simp] theorem State.setCore_otp (c : Nat) (f : IntCore → IntCore) (s : State) : (State.setCore c f s).otp = s.otp := rfl
@[simp] theorem State.setCore_cyc (c : Nat) (f : IntCore → IntCore) (s : State) : (State.setCore c f s).cyc = s.cyc := rfl
@[simp] theorem State.setCore_host (c : Nat) (f : IntCore → IntCore) (s : State) : (State.setCore c f s).host = s.host := rfl
@[simp] theorem State.setCore_power (c : Nat) (f : IntCore → IntCore) (s : State) : (State.setCore c f s).power = s.power := rfl
@[simp] theorem State.setCore_svc (c : Nat) (f : IntCore → IntCore) (s : State) : (State.setCore c f s).svc = s.svc := rfl
@[simp] theorem State.setCore_recorder (c : Nat) (f : IntCore → IntCore) (s : State) : (State.setCore c f s).recorder = s.recorder := rfl
@[simp] theorem State.setCore_streams (c : Nat) (f : IntCore → IntCore) (s : State) : (State.setCore c f s).streams = s.streams := rfl
@[simp] theorem State.setCore_sig (c : Nat) (f : IntCore → IntCore) (s : State) : (State.setCore c f s).sig = s.sig := rfl
@[simp] theorem State.setCore_lay (c : Nat) (f : IntCore → IntCore) (s : State) : (State.setCore c f s).lay = s.lay := rfl
@[simp] theorem State.setCore_mps (c : Nat) (f : IntCore → IntCore) (s : State) : (State.setCore c f s).mps = s.mps := rfl
@[simp] theorem State.setCore_loop (c : Nat) (f : IntCore → IntCore) (s : State) : (State.setCore c f s).loop = s.loop := rfl
@[simp] theorem State.setCore_ledger (c : Nat) (f : IntCore → IntCore) (s : State) : (State.setCore c f s).ledger = s.ledger := rfl
@[simp] theorem State.setCore_img (c : Nat) (f : IntCore → IntCore) (s : State) : (State.setCore c f s).img = s.img := rfl
@[simp] theorem State.setCore_mot (c : Nat) (f : IntCore → IntCore) (s : State) : (State.setCore c f s).mot = s.mot := rfl
@[simp] theorem State.setCore_fbk (c : Nat) (f : IntCore → IntCore) (s : State) : (State.setCore c f s).fbk = s.fbk := rfl
@[simp] theorem State.setCore_emd (c : Nat) (f : IntCore → IntCore) (s : State) : (State.setCore c f s).emd = s.emd := rfl
@[simp] theorem State.setCore_dma (c : Nat) (f : IntCore → IntCore) (s : State) : (State.setCore c f s).dma = s.dma := rfl
@[simp] theorem State.setCore_mem (c : Nat) (f : IntCore → IntCore) (s : State) : (State.setCore c f s).mem = s.mem := rfl
@[simp] theorem State.setCore_head (c : Nat) (f : IntCore → IntCore) (s : State) : (State.setCore c f s).head = s.head := rfl
@[simp] theorem State.setCore_las (c : Nat) (f : IntCore → IntCore) (s : State) : (State.setCore c f s).las = s.las := rfl
@[simp] theorem State.setCore_gut (c : Nat) (f : IntCore → IntCore) (s : State) : (State.setCore c f s).gut = s.gut := rfl
@[simp] theorem State.setCore_net (c : Nat) (f : IntCore → IntCore) (s : State) : (State.setCore c f s).net = s.net := rfl
@[simp] theorem State.setCore_pair (c : Nat) (f : IntCore → IntCore) (s : State) : (State.setCore c f s).pair = s.pair := rfl
@[simp] theorem State.setCore_dram (c : Nat) (f : IntCore → IntCore) (s : State) : (State.setCore c f s).dram = s.dram := rfl
@[simp] theorem State.setCore_flash (c : Nat) (f : IntCore → IntCore) (s : State) : (State.setCore c f s).flash = s.flash := rfl

@[simp] theorem State.setIsland_pending (i : Nat) (f : Island → Island) (s : State) : (State.setIsland i f s).pending = s.pending := rfl
@[simp] theorem State.setIsland_dt (i : Nat) (f : Island → Island) (s : State) : (State.setIsland i f s).dt = s.dt := rfl
@[simp] theorem State.setIsland_fresh (i : Nat) (f : Island → Island) (s : State) : (State.setIsland i f s).fresh = s.fresh := rfl
@[simp] theorem State.setIsland_tx (i : Nat) (f : Island → Island) (s : State) : (State.setIsland i f s).tx = s.tx := rfl
@[simp] theorem State.setIsland_par (i : Nat) (f : Island → Island) (s : State) : (State.setIsland i f s).par = s.par := rfl
@[simp] theorem State.setIsland_parPending (i : Nat) (f : Island → Island) (s : State) : (State.setIsland i f s).parPending = s.parPending := rfl
@[simp] theorem State.setIsland_deferred (i : Nat) (f : Island → Island) (s : State) : (State.setIsland i f s).deferred = s.deferred := rfl
@[simp] theorem State.setIsland_otp (i : Nat) (f : Island → Island) (s : State) : (State.setIsland i f s).otp = s.otp := rfl
@[simp] theorem State.setIsland_cyc (i : Nat) (f : Island → Island) (s : State) : (State.setIsland i f s).cyc = s.cyc := rfl
@[simp] theorem State.setIsland_host (i : Nat) (f : Island → Island) (s : State) : (State.setIsland i f s).host = s.host := rfl
@[simp] theorem State.setIsland_power (i : Nat) (f : Island → Island) (s : State) : (State.setIsland i f s).power = s.power := rfl
@[simp] theorem State.setIsland_recorder (i : Nat) (f : Island → Island) (s : State) : (State.setIsland i f s).recorder = s.recorder := rfl
@[simp] theorem State.setIsland_streams (i : Nat) (f : Island → Island) (s : State) : (State.setIsland i f s).streams = s.streams := rfl
@[simp] theorem State.setIsland_sig (i : Nat) (f : Island → Island) (s : State) : (State.setIsland i f s).sig = s.sig := rfl
@[simp] theorem State.setIsland_lay (i : Nat) (f : Island → Island) (s : State) : (State.setIsland i f s).lay = s.lay := rfl
@[simp] theorem State.setIsland_mps (i : Nat) (f : Island → Island) (s : State) : (State.setIsland i f s).mps = s.mps := rfl
@[simp] theorem State.setIsland_loop (i : Nat) (f : Island → Island) (s : State) : (State.setIsland i f s).loop = s.loop := rfl
@[simp] theorem State.setIsland_ledger (i : Nat) (f : Island → Island) (s : State) : (State.setIsland i f s).ledger = s.ledger := rfl
@[simp] theorem State.setIsland_img (i : Nat) (f : Island → Island) (s : State) : (State.setIsland i f s).img = s.img := rfl
@[simp] theorem State.setIsland_mot (i : Nat) (f : Island → Island) (s : State) : (State.setIsland i f s).mot = s.mot := rfl
@[simp] theorem State.setIsland_fbk (i : Nat) (f : Island → Island) (s : State) : (State.setIsland i f s).fbk = s.fbk := rfl
@[simp] theorem State.setIsland_emd (i : Nat) (f : Island → Island) (s : State) : (State.setIsland i f s).emd = s.emd := rfl
@[simp] theorem State.setIsland_dma (i : Nat) (f : Island → Island) (s : State) : (State.setIsland i f s).dma = s.dma := rfl
@[simp] theorem State.setIsland_int (i : Nat) (f : Island → Island) (s : State) : (State.setIsland i f s).int = s.int := rfl
@[simp] theorem State.setIsland_mem (i : Nat) (f : Island → Island) (s : State) : (State.setIsland i f s).mem = s.mem := rfl
@[simp] theorem State.setIsland_head (i : Nat) (f : Island → Island) (s : State) : (State.setIsland i f s).head = s.head := rfl
@[simp] theorem State.setIsland_las (i : Nat) (f : Island → Island) (s : State) : (State.setIsland i f s).las = s.las := rfl
@[simp] theorem State.setIsland_gut (i : Nat) (f : Island → Island) (s : State) : (State.setIsland i f s).gut = s.gut := rfl
@[simp] theorem State.setIsland_net (i : Nat) (f : Island → Island) (s : State) : (State.setIsland i f s).net = s.net := rfl
@[simp] theorem State.setIsland_pair (i : Nat) (f : Island → Island) (s : State) : (State.setIsland i f s).pair = s.pair := rfl
@[simp] theorem State.setIsland_dram (i : Nat) (f : Island → Island) (s : State) : (State.setIsland i f s).dram = s.dram := rfl
@[simp] theorem State.setIsland_flash (i : Nat) (f : Island → Island) (s : State) : (State.setIsland i f s).flash = s.flash := rfl

@[simp] theorem State.setLoop_pending (l : Nat) (f : LoopState → LoopState) (s : State) : (State.setLoop l f s).pending = s.pending := rfl
@[simp] theorem State.setLoop_dt (l : Nat) (f : LoopState → LoopState) (s : State) : (State.setLoop l f s).dt = s.dt := rfl
@[simp] theorem State.setLoop_fresh (l : Nat) (f : LoopState → LoopState) (s : State) : (State.setLoop l f s).fresh = s.fresh := rfl
@[simp] theorem State.setLoop_tx (l : Nat) (f : LoopState → LoopState) (s : State) : (State.setLoop l f s).tx = s.tx := rfl
@[simp] theorem State.setLoop_par (l : Nat) (f : LoopState → LoopState) (s : State) : (State.setLoop l f s).par = s.par := rfl
@[simp] theorem State.setLoop_parPending (l : Nat) (f : LoopState → LoopState) (s : State) : (State.setLoop l f s).parPending = s.parPending := rfl
@[simp] theorem State.setLoop_deferred (l : Nat) (f : LoopState → LoopState) (s : State) : (State.setLoop l f s).deferred = s.deferred := rfl
@[simp] theorem State.setLoop_otp (l : Nat) (f : LoopState → LoopState) (s : State) : (State.setLoop l f s).otp = s.otp := rfl
@[simp] theorem State.setLoop_cyc (l : Nat) (f : LoopState → LoopState) (s : State) : (State.setLoop l f s).cyc = s.cyc := rfl
@[simp] theorem State.setLoop_host (l : Nat) (f : LoopState → LoopState) (s : State) : (State.setLoop l f s).host = s.host := rfl
@[simp] theorem State.setLoop_power (l : Nat) (f : LoopState → LoopState) (s : State) : (State.setLoop l f s).power = s.power := rfl
@[simp] theorem State.setLoop_svc (l : Nat) (f : LoopState → LoopState) (s : State) : (State.setLoop l f s).svc = s.svc := rfl
@[simp] theorem State.setLoop_recorder (l : Nat) (f : LoopState → LoopState) (s : State) : (State.setLoop l f s).recorder = s.recorder := rfl
@[simp] theorem State.setLoop_streams (l : Nat) (f : LoopState → LoopState) (s : State) : (State.setLoop l f s).streams = s.streams := rfl
@[simp] theorem State.setLoop_sig (l : Nat) (f : LoopState → LoopState) (s : State) : (State.setLoop l f s).sig = s.sig := rfl
@[simp] theorem State.setLoop_lay (l : Nat) (f : LoopState → LoopState) (s : State) : (State.setLoop l f s).lay = s.lay := rfl
@[simp] theorem State.setLoop_mps (l : Nat) (f : LoopState → LoopState) (s : State) : (State.setLoop l f s).mps = s.mps := rfl
@[simp] theorem State.setLoop_ledger (l : Nat) (f : LoopState → LoopState) (s : State) : (State.setLoop l f s).ledger = s.ledger := rfl
@[simp] theorem State.setLoop_img (l : Nat) (f : LoopState → LoopState) (s : State) : (State.setLoop l f s).img = s.img := rfl
@[simp] theorem State.setLoop_mot (l : Nat) (f : LoopState → LoopState) (s : State) : (State.setLoop l f s).mot = s.mot := rfl
@[simp] theorem State.setLoop_fbk (l : Nat) (f : LoopState → LoopState) (s : State) : (State.setLoop l f s).fbk = s.fbk := rfl
@[simp] theorem State.setLoop_emd (l : Nat) (f : LoopState → LoopState) (s : State) : (State.setLoop l f s).emd = s.emd := rfl
@[simp] theorem State.setLoop_dma (l : Nat) (f : LoopState → LoopState) (s : State) : (State.setLoop l f s).dma = s.dma := rfl
@[simp] theorem State.setLoop_int (l : Nat) (f : LoopState → LoopState) (s : State) : (State.setLoop l f s).int = s.int := rfl
@[simp] theorem State.setLoop_mem (l : Nat) (f : LoopState → LoopState) (s : State) : (State.setLoop l f s).mem = s.mem := rfl
@[simp] theorem State.setLoop_head (l : Nat) (f : LoopState → LoopState) (s : State) : (State.setLoop l f s).head = s.head := rfl
@[simp] theorem State.setLoop_las (l : Nat) (f : LoopState → LoopState) (s : State) : (State.setLoop l f s).las = s.las := rfl
@[simp] theorem State.setLoop_gut (l : Nat) (f : LoopState → LoopState) (s : State) : (State.setLoop l f s).gut = s.gut := rfl
@[simp] theorem State.setLoop_net (l : Nat) (f : LoopState → LoopState) (s : State) : (State.setLoop l f s).net = s.net := rfl
@[simp] theorem State.setLoop_pair (l : Nat) (f : LoopState → LoopState) (s : State) : (State.setLoop l f s).pair = s.pair := rfl
@[simp] theorem State.setLoop_dram (l : Nat) (f : LoopState → LoopState) (s : State) : (State.setLoop l f s).dram = s.dram := rfl
@[simp] theorem State.setLoop_flash (l : Nat) (f : LoopState → LoopState) (s : State) : (State.setLoop l f s).flash = s.flash := rfl

@[simp] theorem State.setMem_pending (f : MemState → MemState) (s : State) : (State.setMem f s).pending = s.pending := rfl
@[simp] theorem State.setMem_dt (f : MemState → MemState) (s : State) : (State.setMem f s).dt = s.dt := rfl
@[simp] theorem State.setMem_fresh (f : MemState → MemState) (s : State) : (State.setMem f s).fresh = s.fresh := rfl
@[simp] theorem State.setMem_tx (f : MemState → MemState) (s : State) : (State.setMem f s).tx = s.tx := rfl
@[simp] theorem State.setMem_par (f : MemState → MemState) (s : State) : (State.setMem f s).par = s.par := rfl
@[simp] theorem State.setMem_parPending (f : MemState → MemState) (s : State) : (State.setMem f s).parPending = s.parPending := rfl
@[simp] theorem State.setMem_deferred (f : MemState → MemState) (s : State) : (State.setMem f s).deferred = s.deferred := rfl
@[simp] theorem State.setMem_otp (f : MemState → MemState) (s : State) : (State.setMem f s).otp = s.otp := rfl
@[simp] theorem State.setMem_cyc (f : MemState → MemState) (s : State) : (State.setMem f s).cyc = s.cyc := rfl
@[simp] theorem State.setMem_host (f : MemState → MemState) (s : State) : (State.setMem f s).host = s.host := rfl
@[simp] theorem State.setMem_power (f : MemState → MemState) (s : State) : (State.setMem f s).power = s.power := rfl
@[simp] theorem State.setMem_svc (f : MemState → MemState) (s : State) : (State.setMem f s).svc = s.svc := rfl
@[simp] theorem State.setMem_recorder (f : MemState → MemState) (s : State) : (State.setMem f s).recorder = s.recorder := rfl
@[simp] theorem State.setMem_streams (f : MemState → MemState) (s : State) : (State.setMem f s).streams = s.streams := rfl
@[simp] theorem State.setMem_sig (f : MemState → MemState) (s : State) : (State.setMem f s).sig = s.sig := rfl
@[simp] theorem State.setMem_lay (f : MemState → MemState) (s : State) : (State.setMem f s).lay = s.lay := rfl
@[simp] theorem State.setMem_mps (f : MemState → MemState) (s : State) : (State.setMem f s).mps = s.mps := rfl
@[simp] theorem State.setMem_loop (f : MemState → MemState) (s : State) : (State.setMem f s).loop = s.loop := rfl
@[simp] theorem State.setMem_ledger (f : MemState → MemState) (s : State) : (State.setMem f s).ledger = s.ledger := rfl
@[simp] theorem State.setMem_img (f : MemState → MemState) (s : State) : (State.setMem f s).img = s.img := rfl
@[simp] theorem State.setMem_mot (f : MemState → MemState) (s : State) : (State.setMem f s).mot = s.mot := rfl
@[simp] theorem State.setMem_fbk (f : MemState → MemState) (s : State) : (State.setMem f s).fbk = s.fbk := rfl
@[simp] theorem State.setMem_emd (f : MemState → MemState) (s : State) : (State.setMem f s).emd = s.emd := rfl
@[simp] theorem State.setMem_dma (f : MemState → MemState) (s : State) : (State.setMem f s).dma = s.dma := rfl
@[simp] theorem State.setMem_int (f : MemState → MemState) (s : State) : (State.setMem f s).int = s.int := rfl
@[simp] theorem State.setMem_head (f : MemState → MemState) (s : State) : (State.setMem f s).head = s.head := rfl
@[simp] theorem State.setMem_las (f : MemState → MemState) (s : State) : (State.setMem f s).las = s.las := rfl
@[simp] theorem State.setMem_gut (f : MemState → MemState) (s : State) : (State.setMem f s).gut = s.gut := rfl
@[simp] theorem State.setMem_net (f : MemState → MemState) (s : State) : (State.setMem f s).net = s.net := rfl
@[simp] theorem State.setMem_pair (f : MemState → MemState) (s : State) : (State.setMem f s).pair = s.pair := rfl
@[simp] theorem State.setMem_dram (f : MemState → MemState) (s : State) : (State.setMem f s).dram = s.dram := rfl
@[simp] theorem State.setMem_flash (f : MemState → MemState) (s : State) : (State.setMem f s).flash = s.flash := rfl

@[simp] theorem State.setAxis_pending (a : Nat) (f : Axis → Axis) (s : State) : (State.setAxis a f s).pending = s.pending := rfl
@[simp] theorem State.setAxis_dt (a : Nat) (f : Axis → Axis) (s : State) : (State.setAxis a f s).dt = s.dt := rfl
@[simp] theorem State.setAxis_fresh (a : Nat) (f : Axis → Axis) (s : State) : (State.setAxis a f s).fresh = s.fresh := rfl
@[simp] theorem State.setAxis_tx (a : Nat) (f : Axis → Axis) (s : State) : (State.setAxis a f s).tx = s.tx := rfl
@[simp] theorem State.setAxis_par (a : Nat) (f : Axis → Axis) (s : State) : (State.setAxis a f s).par = s.par := rfl
@[simp] theorem State.setAxis_parPending (a : Nat) (f : Axis → Axis) (s : State) : (State.setAxis a f s).parPending = s.parPending := rfl
@[simp] theorem State.setAxis_deferred (a : Nat) (f : Axis → Axis) (s : State) : (State.setAxis a f s).deferred = s.deferred := rfl
@[simp] theorem State.setAxis_otp (a : Nat) (f : Axis → Axis) (s : State) : (State.setAxis a f s).otp = s.otp := rfl
@[simp] theorem State.setAxis_cyc (a : Nat) (f : Axis → Axis) (s : State) : (State.setAxis a f s).cyc = s.cyc := rfl
@[simp] theorem State.setAxis_host (a : Nat) (f : Axis → Axis) (s : State) : (State.setAxis a f s).host = s.host := rfl
@[simp] theorem State.setAxis_power (a : Nat) (f : Axis → Axis) (s : State) : (State.setAxis a f s).power = s.power := rfl
@[simp] theorem State.setAxis_svc (a : Nat) (f : Axis → Axis) (s : State) : (State.setAxis a f s).svc = s.svc := rfl
@[simp] theorem State.setAxis_recorder (a : Nat) (f : Axis → Axis) (s : State) : (State.setAxis a f s).recorder = s.recorder := rfl
@[simp] theorem State.setAxis_streams (a : Nat) (f : Axis → Axis) (s : State) : (State.setAxis a f s).streams = s.streams := rfl
@[simp] theorem State.setAxis_sig (a : Nat) (f : Axis → Axis) (s : State) : (State.setAxis a f s).sig = s.sig := rfl
@[simp] theorem State.setAxis_lay (a : Nat) (f : Axis → Axis) (s : State) : (State.setAxis a f s).lay = s.lay := rfl
@[simp] theorem State.setAxis_mps (a : Nat) (f : Axis → Axis) (s : State) : (State.setAxis a f s).mps = s.mps := rfl
@[simp] theorem State.setAxis_loop (a : Nat) (f : Axis → Axis) (s : State) : (State.setAxis a f s).loop = s.loop := rfl
@[simp] theorem State.setAxis_ledger (a : Nat) (f : Axis → Axis) (s : State) : (State.setAxis a f s).ledger = s.ledger := rfl
@[simp] theorem State.setAxis_img (a : Nat) (f : Axis → Axis) (s : State) : (State.setAxis a f s).img = s.img := rfl
@[simp] theorem State.setAxis_fbk (a : Nat) (f : Axis → Axis) (s : State) : (State.setAxis a f s).fbk = s.fbk := rfl
@[simp] theorem State.setAxis_emd (a : Nat) (f : Axis → Axis) (s : State) : (State.setAxis a f s).emd = s.emd := rfl
@[simp] theorem State.setAxis_dma (a : Nat) (f : Axis → Axis) (s : State) : (State.setAxis a f s).dma = s.dma := rfl
@[simp] theorem State.setAxis_int (a : Nat) (f : Axis → Axis) (s : State) : (State.setAxis a f s).int = s.int := rfl
@[simp] theorem State.setAxis_mem (a : Nat) (f : Axis → Axis) (s : State) : (State.setAxis a f s).mem = s.mem := rfl
@[simp] theorem State.setAxis_head (a : Nat) (f : Axis → Axis) (s : State) : (State.setAxis a f s).head = s.head := rfl
@[simp] theorem State.setAxis_las (a : Nat) (f : Axis → Axis) (s : State) : (State.setAxis a f s).las = s.las := rfl
@[simp] theorem State.setAxis_gut (a : Nat) (f : Axis → Axis) (s : State) : (State.setAxis a f s).gut = s.gut := rfl
@[simp] theorem State.setAxis_net (a : Nat) (f : Axis → Axis) (s : State) : (State.setAxis a f s).net = s.net := rfl
@[simp] theorem State.setAxis_pair (a : Nat) (f : Axis → Axis) (s : State) : (State.setAxis a f s).pair = s.pair := rfl
@[simp] theorem State.setAxis_dram (a : Nat) (f : Axis → Axis) (s : State) : (State.setAxis a f s).dram = s.dram := rfl
@[simp] theorem State.setAxis_flash (a : Nat) (f : Axis → Axis) (s : State) : (State.setAxis a f s).flash = s.flash := rfl

@[simp] theorem State.setChannel_pending (c : Nat) (f : FbkChannel → FbkChannel) (s : State) : (State.setChannel c f s).pending = s.pending := rfl
@[simp] theorem State.setChannel_dt (c : Nat) (f : FbkChannel → FbkChannel) (s : State) : (State.setChannel c f s).dt = s.dt := rfl
@[simp] theorem State.setChannel_fresh (c : Nat) (f : FbkChannel → FbkChannel) (s : State) : (State.setChannel c f s).fresh = s.fresh := rfl
@[simp] theorem State.setChannel_tx (c : Nat) (f : FbkChannel → FbkChannel) (s : State) : (State.setChannel c f s).tx = s.tx := rfl
@[simp] theorem State.setChannel_par (c : Nat) (f : FbkChannel → FbkChannel) (s : State) : (State.setChannel c f s).par = s.par := rfl
@[simp] theorem State.setChannel_parPending (c : Nat) (f : FbkChannel → FbkChannel) (s : State) : (State.setChannel c f s).parPending = s.parPending := rfl
@[simp] theorem State.setChannel_deferred (c : Nat) (f : FbkChannel → FbkChannel) (s : State) : (State.setChannel c f s).deferred = s.deferred := rfl
@[simp] theorem State.setChannel_otp (c : Nat) (f : FbkChannel → FbkChannel) (s : State) : (State.setChannel c f s).otp = s.otp := rfl
@[simp] theorem State.setChannel_cyc (c : Nat) (f : FbkChannel → FbkChannel) (s : State) : (State.setChannel c f s).cyc = s.cyc := rfl
@[simp] theorem State.setChannel_host (c : Nat) (f : FbkChannel → FbkChannel) (s : State) : (State.setChannel c f s).host = s.host := rfl
@[simp] theorem State.setChannel_power (c : Nat) (f : FbkChannel → FbkChannel) (s : State) : (State.setChannel c f s).power = s.power := rfl
@[simp] theorem State.setChannel_svc (c : Nat) (f : FbkChannel → FbkChannel) (s : State) : (State.setChannel c f s).svc = s.svc := rfl
@[simp] theorem State.setChannel_recorder (c : Nat) (f : FbkChannel → FbkChannel) (s : State) : (State.setChannel c f s).recorder = s.recorder := rfl
@[simp] theorem State.setChannel_streams (c : Nat) (f : FbkChannel → FbkChannel) (s : State) : (State.setChannel c f s).streams = s.streams := rfl
@[simp] theorem State.setChannel_sig (c : Nat) (f : FbkChannel → FbkChannel) (s : State) : (State.setChannel c f s).sig = s.sig := rfl
@[simp] theorem State.setChannel_lay (c : Nat) (f : FbkChannel → FbkChannel) (s : State) : (State.setChannel c f s).lay = s.lay := rfl
@[simp] theorem State.setChannel_mps (c : Nat) (f : FbkChannel → FbkChannel) (s : State) : (State.setChannel c f s).mps = s.mps := rfl
@[simp] theorem State.setChannel_loop (c : Nat) (f : FbkChannel → FbkChannel) (s : State) : (State.setChannel c f s).loop = s.loop := rfl
@[simp] theorem State.setChannel_ledger (c : Nat) (f : FbkChannel → FbkChannel) (s : State) : (State.setChannel c f s).ledger = s.ledger := rfl
@[simp] theorem State.setChannel_img (c : Nat) (f : FbkChannel → FbkChannel) (s : State) : (State.setChannel c f s).img = s.img := rfl
@[simp] theorem State.setChannel_mot (c : Nat) (f : FbkChannel → FbkChannel) (s : State) : (State.setChannel c f s).mot = s.mot := rfl
@[simp] theorem State.setChannel_emd (c : Nat) (f : FbkChannel → FbkChannel) (s : State) : (State.setChannel c f s).emd = s.emd := rfl
@[simp] theorem State.setChannel_dma (c : Nat) (f : FbkChannel → FbkChannel) (s : State) : (State.setChannel c f s).dma = s.dma := rfl
@[simp] theorem State.setChannel_int (c : Nat) (f : FbkChannel → FbkChannel) (s : State) : (State.setChannel c f s).int = s.int := rfl
@[simp] theorem State.setChannel_mem (c : Nat) (f : FbkChannel → FbkChannel) (s : State) : (State.setChannel c f s).mem = s.mem := rfl
@[simp] theorem State.setChannel_head (c : Nat) (f : FbkChannel → FbkChannel) (s : State) : (State.setChannel c f s).head = s.head := rfl
@[simp] theorem State.setChannel_las (c : Nat) (f : FbkChannel → FbkChannel) (s : State) : (State.setChannel c f s).las = s.las := rfl
@[simp] theorem State.setChannel_gut (c : Nat) (f : FbkChannel → FbkChannel) (s : State) : (State.setChannel c f s).gut = s.gut := rfl
@[simp] theorem State.setChannel_net (c : Nat) (f : FbkChannel → FbkChannel) (s : State) : (State.setChannel c f s).net = s.net := rfl
@[simp] theorem State.setChannel_pair (c : Nat) (f : FbkChannel → FbkChannel) (s : State) : (State.setChannel c f s).pair = s.pair := rfl
@[simp] theorem State.setChannel_dram (c : Nat) (f : FbkChannel → FbkChannel) (s : State) : (State.setChannel c f s).dram = s.dram := rfl
@[simp] theorem State.setChannel_flash (c : Nat) (f : FbkChannel → FbkChannel) (s : State) : (State.setChannel c f s).flash = s.flash := rfl

@[simp] theorem State.at_pending (t : Nat) (s : State) : (State.at t s).pending = s.pending := rfl
@[simp] theorem State.at_fresh (t : Nat) (s : State) : (State.at t s).fresh = s.fresh := rfl
@[simp] theorem State.at_par (t : Nat) (s : State) : (State.at t s).par = s.par := rfl
@[simp] theorem State.at_parPending (t : Nat) (s : State) : (State.at t s).parPending = s.parPending := rfl
@[simp] theorem State.at_deferred (t : Nat) (s : State) : (State.at t s).deferred = s.deferred := rfl
@[simp] theorem State.at_otp (t : Nat) (s : State) : (State.at t s).otp = s.otp := rfl
@[simp] theorem State.at_cyc (t : Nat) (s : State) : (State.at t s).cyc = s.cyc := rfl
@[simp] theorem State.at_host (t : Nat) (s : State) : (State.at t s).host = s.host := rfl
@[simp] theorem State.at_power (t : Nat) (s : State) : (State.at t s).power = s.power := rfl
@[simp] theorem State.at_svc (t : Nat) (s : State) : (State.at t s).svc = s.svc := rfl
@[simp] theorem State.at_recorder (t : Nat) (s : State) : (State.at t s).recorder = s.recorder := rfl
@[simp] theorem State.at_streams (t : Nat) (s : State) : (State.at t s).streams = s.streams := rfl
@[simp] theorem State.at_sig (t : Nat) (s : State) : (State.at t s).sig = s.sig := rfl
@[simp] theorem State.at_lay (t : Nat) (s : State) : (State.at t s).lay = s.lay := rfl
@[simp] theorem State.at_mps (t : Nat) (s : State) : (State.at t s).mps = s.mps := rfl
@[simp] theorem State.at_loop (t : Nat) (s : State) : (State.at t s).loop = s.loop := rfl
@[simp] theorem State.at_ledger (t : Nat) (s : State) : (State.at t s).ledger = s.ledger := rfl
@[simp] theorem State.at_img (t : Nat) (s : State) : (State.at t s).img = s.img := rfl
@[simp] theorem State.at_mot (t : Nat) (s : State) : (State.at t s).mot = s.mot := rfl
@[simp] theorem State.at_fbk (t : Nat) (s : State) : (State.at t s).fbk = s.fbk := rfl
@[simp] theorem State.at_emd (t : Nat) (s : State) : (State.at t s).emd = s.emd := rfl
@[simp] theorem State.at_dma (t : Nat) (s : State) : (State.at t s).dma = s.dma := rfl
@[simp] theorem State.at_int (t : Nat) (s : State) : (State.at t s).int = s.int := rfl
@[simp] theorem State.at_mem (t : Nat) (s : State) : (State.at t s).mem = s.mem := rfl
@[simp] theorem State.at_head (t : Nat) (s : State) : (State.at t s).head = s.head := rfl
@[simp] theorem State.at_las (t : Nat) (s : State) : (State.at t s).las = s.las := rfl
@[simp] theorem State.at_gut (t : Nat) (s : State) : (State.at t s).gut = s.gut := rfl
@[simp] theorem State.at_net (t : Nat) (s : State) : (State.at t s).net = s.net := rfl
@[simp] theorem State.at_pair (t : Nat) (s : State) : (State.at t s).pair = s.pair := rfl
@[simp] theorem State.at_dram (t : Nat) (s : State) : (State.at t s).dram = s.dram := rfl
@[simp] theorem State.at_flash (t : Nat) (s : State) : (State.at t s).flash = s.flash := rfl

@[simp] theorem State.setParam_pending (id scope v : Nat) (s : State) : (State.setParam id scope v s).pending = s.pending := rfl
@[simp] theorem State.setParam_dt (id scope v : Nat) (s : State) : (State.setParam id scope v s).dt = s.dt := rfl
@[simp] theorem State.setParam_fresh (id scope v : Nat) (s : State) : (State.setParam id scope v s).fresh = s.fresh := rfl
@[simp] theorem State.setParam_tx (id scope v : Nat) (s : State) : (State.setParam id scope v s).tx = s.tx := rfl
@[simp] theorem State.setParam_parPending (id scope v : Nat) (s : State) : (State.setParam id scope v s).parPending = s.parPending := rfl
@[simp] theorem State.setParam_deferred (id scope v : Nat) (s : State) : (State.setParam id scope v s).deferred = s.deferred := rfl
@[simp] theorem State.setParam_otp (id scope v : Nat) (s : State) : (State.setParam id scope v s).otp = s.otp := rfl
@[simp] theorem State.setParam_cyc (id scope v : Nat) (s : State) : (State.setParam id scope v s).cyc = s.cyc := rfl
@[simp] theorem State.setParam_host (id scope v : Nat) (s : State) : (State.setParam id scope v s).host = s.host := rfl
@[simp] theorem State.setParam_power (id scope v : Nat) (s : State) : (State.setParam id scope v s).power = s.power := rfl
@[simp] theorem State.setParam_svc (id scope v : Nat) (s : State) : (State.setParam id scope v s).svc = s.svc := rfl
@[simp] theorem State.setParam_recorder (id scope v : Nat) (s : State) : (State.setParam id scope v s).recorder = s.recorder := rfl
@[simp] theorem State.setParam_streams (id scope v : Nat) (s : State) : (State.setParam id scope v s).streams = s.streams := rfl
@[simp] theorem State.setParam_sig (id scope v : Nat) (s : State) : (State.setParam id scope v s).sig = s.sig := rfl
@[simp] theorem State.setParam_lay (id scope v : Nat) (s : State) : (State.setParam id scope v s).lay = s.lay := rfl
@[simp] theorem State.setParam_mps (id scope v : Nat) (s : State) : (State.setParam id scope v s).mps = s.mps := rfl
@[simp] theorem State.setParam_loop (id scope v : Nat) (s : State) : (State.setParam id scope v s).loop = s.loop := rfl
@[simp] theorem State.setParam_ledger (id scope v : Nat) (s : State) : (State.setParam id scope v s).ledger = s.ledger := rfl
@[simp] theorem State.setParam_img (id scope v : Nat) (s : State) : (State.setParam id scope v s).img = s.img := rfl
@[simp] theorem State.setParam_mot (id scope v : Nat) (s : State) : (State.setParam id scope v s).mot = s.mot := rfl
@[simp] theorem State.setParam_fbk (id scope v : Nat) (s : State) : (State.setParam id scope v s).fbk = s.fbk := rfl
@[simp] theorem State.setParam_emd (id scope v : Nat) (s : State) : (State.setParam id scope v s).emd = s.emd := rfl
@[simp] theorem State.setParam_dma (id scope v : Nat) (s : State) : (State.setParam id scope v s).dma = s.dma := rfl
@[simp] theorem State.setParam_int (id scope v : Nat) (s : State) : (State.setParam id scope v s).int = s.int := rfl
@[simp] theorem State.setParam_mem (id scope v : Nat) (s : State) : (State.setParam id scope v s).mem = s.mem := rfl
@[simp] theorem State.setParam_head (id scope v : Nat) (s : State) : (State.setParam id scope v s).head = s.head := rfl
@[simp] theorem State.setParam_las (id scope v : Nat) (s : State) : (State.setParam id scope v s).las = s.las := rfl
@[simp] theorem State.setParam_gut (id scope v : Nat) (s : State) : (State.setParam id scope v s).gut = s.gut := rfl
@[simp] theorem State.setParam_net (id scope v : Nat) (s : State) : (State.setParam id scope v s).net = s.net := rfl
@[simp] theorem State.setParam_pair (id scope v : Nat) (s : State) : (State.setParam id scope v s).pair = s.pair := rfl
@[simp] theorem State.setParam_dram (id scope v : Nat) (s : State) : (State.setParam id scope v s).dram = s.dram := rfl
@[simp] theorem State.setParam_flash (id scope v : Nat) (s : State) : (State.setParam id scope v s).flash = s.flash := rfl

@[simp] theorem State.send_pending (x : Tx) (s : State) : (State.send x s).pending = s.pending := rfl
@[simp] theorem State.send_dt (x : Tx) (s : State) : (State.send x s).dt = s.dt := rfl
@[simp] theorem State.send_fresh (x : Tx) (s : State) : (State.send x s).fresh = s.fresh := rfl
@[simp] theorem State.send_par (x : Tx) (s : State) : (State.send x s).par = s.par := rfl
@[simp] theorem State.send_parPending (x : Tx) (s : State) : (State.send x s).parPending = s.parPending := rfl
@[simp] theorem State.send_deferred (x : Tx) (s : State) : (State.send x s).deferred = s.deferred := rfl
@[simp] theorem State.send_otp (x : Tx) (s : State) : (State.send x s).otp = s.otp := rfl
@[simp] theorem State.send_cyc (x : Tx) (s : State) : (State.send x s).cyc = s.cyc := rfl
@[simp] theorem State.send_host (x : Tx) (s : State) : (State.send x s).host = s.host := rfl
@[simp] theorem State.send_power (x : Tx) (s : State) : (State.send x s).power = s.power := rfl
@[simp] theorem State.send_svc (x : Tx) (s : State) : (State.send x s).svc = s.svc := rfl
@[simp] theorem State.send_recorder (x : Tx) (s : State) : (State.send x s).recorder = s.recorder := rfl
@[simp] theorem State.send_streams (x : Tx) (s : State) : (State.send x s).streams = s.streams := rfl
@[simp] theorem State.send_sig (x : Tx) (s : State) : (State.send x s).sig = s.sig := rfl
@[simp] theorem State.send_lay (x : Tx) (s : State) : (State.send x s).lay = s.lay := rfl
@[simp] theorem State.send_mps (x : Tx) (s : State) : (State.send x s).mps = s.mps := rfl
@[simp] theorem State.send_loop (x : Tx) (s : State) : (State.send x s).loop = s.loop := rfl
@[simp] theorem State.send_ledger (x : Tx) (s : State) : (State.send x s).ledger = s.ledger := rfl
@[simp] theorem State.send_img (x : Tx) (s : State) : (State.send x s).img = s.img := rfl
@[simp] theorem State.send_mot (x : Tx) (s : State) : (State.send x s).mot = s.mot := rfl
@[simp] theorem State.send_fbk (x : Tx) (s : State) : (State.send x s).fbk = s.fbk := rfl
@[simp] theorem State.send_emd (x : Tx) (s : State) : (State.send x s).emd = s.emd := rfl
@[simp] theorem State.send_dma (x : Tx) (s : State) : (State.send x s).dma = s.dma := rfl
@[simp] theorem State.send_int (x : Tx) (s : State) : (State.send x s).int = s.int := rfl
@[simp] theorem State.send_mem (x : Tx) (s : State) : (State.send x s).mem = s.mem := rfl
@[simp] theorem State.send_head (x : Tx) (s : State) : (State.send x s).head = s.head := rfl
@[simp] theorem State.send_las (x : Tx) (s : State) : (State.send x s).las = s.las := rfl
@[simp] theorem State.send_gut (x : Tx) (s : State) : (State.send x s).gut = s.gut := rfl
@[simp] theorem State.send_net (x : Tx) (s : State) : (State.send x s).net = s.net := rfl
@[simp] theorem State.send_pair (x : Tx) (s : State) : (State.send x s).pair = s.pair := rfl
@[simp] theorem State.send_dram (x : Tx) (s : State) : (State.send x s).dram = s.dram := rfl
@[simp] theorem State.send_flash (x : Tx) (s : State) : (State.send x s).flash = s.flash := rfl

@[simp] theorem State.dramWrite_pending (a : Nat) (bs : List Byte) (s : State) : (State.dramWrite a bs s).pending = s.pending := rfl
@[simp] theorem State.dramWrite_dt (a : Nat) (bs : List Byte) (s : State) : (State.dramWrite a bs s).dt = s.dt := rfl
@[simp] theorem State.dramWrite_fresh (a : Nat) (bs : List Byte) (s : State) : (State.dramWrite a bs s).fresh = s.fresh := rfl
@[simp] theorem State.dramWrite_tx (a : Nat) (bs : List Byte) (s : State) : (State.dramWrite a bs s).tx = s.tx := rfl
@[simp] theorem State.dramWrite_par (a : Nat) (bs : List Byte) (s : State) : (State.dramWrite a bs s).par = s.par := rfl
@[simp] theorem State.dramWrite_parPending (a : Nat) (bs : List Byte) (s : State) : (State.dramWrite a bs s).parPending = s.parPending := rfl
@[simp] theorem State.dramWrite_deferred (a : Nat) (bs : List Byte) (s : State) : (State.dramWrite a bs s).deferred = s.deferred := rfl
@[simp] theorem State.dramWrite_otp (a : Nat) (bs : List Byte) (s : State) : (State.dramWrite a bs s).otp = s.otp := rfl
@[simp] theorem State.dramWrite_cyc (a : Nat) (bs : List Byte) (s : State) : (State.dramWrite a bs s).cyc = s.cyc := rfl
@[simp] theorem State.dramWrite_host (a : Nat) (bs : List Byte) (s : State) : (State.dramWrite a bs s).host = s.host := rfl
@[simp] theorem State.dramWrite_power (a : Nat) (bs : List Byte) (s : State) : (State.dramWrite a bs s).power = s.power := rfl
@[simp] theorem State.dramWrite_svc (a : Nat) (bs : List Byte) (s : State) : (State.dramWrite a bs s).svc = s.svc := rfl
@[simp] theorem State.dramWrite_recorder (a : Nat) (bs : List Byte) (s : State) : (State.dramWrite a bs s).recorder = s.recorder := rfl
@[simp] theorem State.dramWrite_streams (a : Nat) (bs : List Byte) (s : State) : (State.dramWrite a bs s).streams = s.streams := rfl
@[simp] theorem State.dramWrite_sig (a : Nat) (bs : List Byte) (s : State) : (State.dramWrite a bs s).sig = s.sig := rfl
@[simp] theorem State.dramWrite_lay (a : Nat) (bs : List Byte) (s : State) : (State.dramWrite a bs s).lay = s.lay := rfl
@[simp] theorem State.dramWrite_mps (a : Nat) (bs : List Byte) (s : State) : (State.dramWrite a bs s).mps = s.mps := rfl
@[simp] theorem State.dramWrite_loop (a : Nat) (bs : List Byte) (s : State) : (State.dramWrite a bs s).loop = s.loop := rfl
@[simp] theorem State.dramWrite_ledger (a : Nat) (bs : List Byte) (s : State) : (State.dramWrite a bs s).ledger = s.ledger := rfl
@[simp] theorem State.dramWrite_img (a : Nat) (bs : List Byte) (s : State) : (State.dramWrite a bs s).img = s.img := rfl
@[simp] theorem State.dramWrite_mot (a : Nat) (bs : List Byte) (s : State) : (State.dramWrite a bs s).mot = s.mot := rfl
@[simp] theorem State.dramWrite_fbk (a : Nat) (bs : List Byte) (s : State) : (State.dramWrite a bs s).fbk = s.fbk := rfl
@[simp] theorem State.dramWrite_emd (a : Nat) (bs : List Byte) (s : State) : (State.dramWrite a bs s).emd = s.emd := rfl
@[simp] theorem State.dramWrite_dma (a : Nat) (bs : List Byte) (s : State) : (State.dramWrite a bs s).dma = s.dma := rfl
@[simp] theorem State.dramWrite_int (a : Nat) (bs : List Byte) (s : State) : (State.dramWrite a bs s).int = s.int := rfl
@[simp] theorem State.dramWrite_head (a : Nat) (bs : List Byte) (s : State) : (State.dramWrite a bs s).head = s.head := rfl
@[simp] theorem State.dramWrite_las (a : Nat) (bs : List Byte) (s : State) : (State.dramWrite a bs s).las = s.las := rfl
@[simp] theorem State.dramWrite_gut (a : Nat) (bs : List Byte) (s : State) : (State.dramWrite a bs s).gut = s.gut := rfl
@[simp] theorem State.dramWrite_net (a : Nat) (bs : List Byte) (s : State) : (State.dramWrite a bs s).net = s.net := rfl
@[simp] theorem State.dramWrite_pair (a : Nat) (bs : List Byte) (s : State) : (State.dramWrite a bs s).pair = s.pair := rfl
@[simp] theorem State.dramWrite_flash (a : Nat) (bs : List Byte) (s : State) : (State.dramWrite a bs s).flash = s.flash := rfl

@[simp] theorem State.logEvent_pending (code source key detail : Nat) (s : State) : (State.logEvent code source key detail s).pending = s.pending := rfl
@[simp] theorem State.logEvent_dt (code source key detail : Nat) (s : State) : (State.logEvent code source key detail s).dt = s.dt := rfl
@[simp] theorem State.logEvent_fresh (code source key detail : Nat) (s : State) : (State.logEvent code source key detail s).fresh = s.fresh := rfl
@[simp] theorem State.logEvent_tx (code source key detail : Nat) (s : State) : (State.logEvent code source key detail s).tx = s.tx := rfl
@[simp] theorem State.logEvent_par (code source key detail : Nat) (s : State) : (State.logEvent code source key detail s).par = s.par := rfl
@[simp] theorem State.logEvent_parPending (code source key detail : Nat) (s : State) : (State.logEvent code source key detail s).parPending = s.parPending := rfl
@[simp] theorem State.logEvent_deferred (code source key detail : Nat) (s : State) : (State.logEvent code source key detail s).deferred = s.deferred := rfl
@[simp] theorem State.logEvent_otp (code source key detail : Nat) (s : State) : (State.logEvent code source key detail s).otp = s.otp := rfl
@[simp] theorem State.logEvent_cyc (code source key detail : Nat) (s : State) : (State.logEvent code source key detail s).cyc = s.cyc := rfl
@[simp] theorem State.logEvent_host (code source key detail : Nat) (s : State) : (State.logEvent code source key detail s).host = s.host := rfl
@[simp] theorem State.logEvent_power (code source key detail : Nat) (s : State) : (State.logEvent code source key detail s).power = s.power := rfl
@[simp] theorem State.logEvent_svc (code source key detail : Nat) (s : State) : (State.logEvent code source key detail s).svc = s.svc := rfl
@[simp] theorem State.logEvent_streams (code source key detail : Nat) (s : State) : (State.logEvent code source key detail s).streams = s.streams := rfl
@[simp] theorem State.logEvent_sig (code source key detail : Nat) (s : State) : (State.logEvent code source key detail s).sig = s.sig := rfl
@[simp] theorem State.logEvent_lay (code source key detail : Nat) (s : State) : (State.logEvent code source key detail s).lay = s.lay := rfl
@[simp] theorem State.logEvent_mps (code source key detail : Nat) (s : State) : (State.logEvent code source key detail s).mps = s.mps := rfl
@[simp] theorem State.logEvent_loop (code source key detail : Nat) (s : State) : (State.logEvent code source key detail s).loop = s.loop := rfl
@[simp] theorem State.logEvent_ledger (code source key detail : Nat) (s : State) : (State.logEvent code source key detail s).ledger = s.ledger := rfl
@[simp] theorem State.logEvent_img (code source key detail : Nat) (s : State) : (State.logEvent code source key detail s).img = s.img := rfl
@[simp] theorem State.logEvent_mot (code source key detail : Nat) (s : State) : (State.logEvent code source key detail s).mot = s.mot := rfl
@[simp] theorem State.logEvent_fbk (code source key detail : Nat) (s : State) : (State.logEvent code source key detail s).fbk = s.fbk := rfl
@[simp] theorem State.logEvent_emd (code source key detail : Nat) (s : State) : (State.logEvent code source key detail s).emd = s.emd := rfl
@[simp] theorem State.logEvent_dma (code source key detail : Nat) (s : State) : (State.logEvent code source key detail s).dma = s.dma := rfl
@[simp] theorem State.logEvent_int (code source key detail : Nat) (s : State) : (State.logEvent code source key detail s).int = s.int := rfl
@[simp] theorem State.logEvent_mem (code source key detail : Nat) (s : State) : (State.logEvent code source key detail s).mem = s.mem := rfl
@[simp] theorem State.logEvent_head (code source key detail : Nat) (s : State) : (State.logEvent code source key detail s).head = s.head := rfl
@[simp] theorem State.logEvent_las (code source key detail : Nat) (s : State) : (State.logEvent code source key detail s).las = s.las := rfl
@[simp] theorem State.logEvent_gut (code source key detail : Nat) (s : State) : (State.logEvent code source key detail s).gut = s.gut := rfl
@[simp] theorem State.logEvent_net (code source key detail : Nat) (s : State) : (State.logEvent code source key detail s).net = s.net := rfl
@[simp] theorem State.logEvent_pair (code source key detail : Nat) (s : State) : (State.logEvent code source key detail s).pair = s.pair := rfl
@[simp] theorem State.logEvent_dram (code source key detail : Nat) (s : State) : (State.logEvent code source key detail s).dram = s.dram := rfl
@[simp] theorem State.logEvent_flash (code source key detail : Nat) (s : State) : (State.logEvent code source key detail s).flash = s.flash := rfl

@[simp] theorem State.setStream_pending (i : Nat) (f : Stream → Stream) (s : State) : (State.setStream i f s).pending = s.pending := rfl
@[simp] theorem State.setStream_dt (i : Nat) (f : Stream → Stream) (s : State) : (State.setStream i f s).dt = s.dt := rfl
@[simp] theorem State.setStream_fresh (i : Nat) (f : Stream → Stream) (s : State) : (State.setStream i f s).fresh = s.fresh := rfl
@[simp] theorem State.setStream_tx (i : Nat) (f : Stream → Stream) (s : State) : (State.setStream i f s).tx = s.tx := rfl
@[simp] theorem State.setStream_par (i : Nat) (f : Stream → Stream) (s : State) : (State.setStream i f s).par = s.par := rfl
@[simp] theorem State.setStream_parPending (i : Nat) (f : Stream → Stream) (s : State) : (State.setStream i f s).parPending = s.parPending := rfl
@[simp] theorem State.setStream_deferred (i : Nat) (f : Stream → Stream) (s : State) : (State.setStream i f s).deferred = s.deferred := rfl
@[simp] theorem State.setStream_otp (i : Nat) (f : Stream → Stream) (s : State) : (State.setStream i f s).otp = s.otp := rfl
@[simp] theorem State.setStream_cyc (i : Nat) (f : Stream → Stream) (s : State) : (State.setStream i f s).cyc = s.cyc := rfl
@[simp] theorem State.setStream_host (i : Nat) (f : Stream → Stream) (s : State) : (State.setStream i f s).host = s.host := rfl
@[simp] theorem State.setStream_power (i : Nat) (f : Stream → Stream) (s : State) : (State.setStream i f s).power = s.power := rfl
@[simp] theorem State.setStream_svc (i : Nat) (f : Stream → Stream) (s : State) : (State.setStream i f s).svc = s.svc := rfl
@[simp] theorem State.setStream_recorder (i : Nat) (f : Stream → Stream) (s : State) : (State.setStream i f s).recorder = s.recorder := rfl
@[simp] theorem State.setStream_sig (i : Nat) (f : Stream → Stream) (s : State) : (State.setStream i f s).sig = s.sig := rfl
@[simp] theorem State.setStream_lay (i : Nat) (f : Stream → Stream) (s : State) : (State.setStream i f s).lay = s.lay := rfl
@[simp] theorem State.setStream_mps (i : Nat) (f : Stream → Stream) (s : State) : (State.setStream i f s).mps = s.mps := rfl
@[simp] theorem State.setStream_loop (i : Nat) (f : Stream → Stream) (s : State) : (State.setStream i f s).loop = s.loop := rfl
@[simp] theorem State.setStream_ledger (i : Nat) (f : Stream → Stream) (s : State) : (State.setStream i f s).ledger = s.ledger := rfl
@[simp] theorem State.setStream_img (i : Nat) (f : Stream → Stream) (s : State) : (State.setStream i f s).img = s.img := rfl
@[simp] theorem State.setStream_mot (i : Nat) (f : Stream → Stream) (s : State) : (State.setStream i f s).mot = s.mot := rfl
@[simp] theorem State.setStream_fbk (i : Nat) (f : Stream → Stream) (s : State) : (State.setStream i f s).fbk = s.fbk := rfl
@[simp] theorem State.setStream_emd (i : Nat) (f : Stream → Stream) (s : State) : (State.setStream i f s).emd = s.emd := rfl
@[simp] theorem State.setStream_dma (i : Nat) (f : Stream → Stream) (s : State) : (State.setStream i f s).dma = s.dma := rfl
@[simp] theorem State.setStream_int (i : Nat) (f : Stream → Stream) (s : State) : (State.setStream i f s).int = s.int := rfl
@[simp] theorem State.setStream_mem (i : Nat) (f : Stream → Stream) (s : State) : (State.setStream i f s).mem = s.mem := rfl
@[simp] theorem State.setStream_head (i : Nat) (f : Stream → Stream) (s : State) : (State.setStream i f s).head = s.head := rfl
@[simp] theorem State.setStream_las (i : Nat) (f : Stream → Stream) (s : State) : (State.setStream i f s).las = s.las := rfl
@[simp] theorem State.setStream_gut (i : Nat) (f : Stream → Stream) (s : State) : (State.setStream i f s).gut = s.gut := rfl
@[simp] theorem State.setStream_net (i : Nat) (f : Stream → Stream) (s : State) : (State.setStream i f s).net = s.net := rfl
@[simp] theorem State.setStream_pair (i : Nat) (f : Stream → Stream) (s : State) : (State.setStream i f s).pair = s.pair := rfl
@[simp] theorem State.setStream_dram (i : Nat) (f : Stream → Stream) (s : State) : (State.setStream i f s).dram = s.dram := rfl
@[simp] theorem State.setStream_flash (i : Nat) (f : Stream → Stream) (s : State) : (State.setStream i f s).flash = s.flash := rfl

@[simp] theorem State.setPair_pending (f : PairState → PairState) (s : State) : (State.setPair f s).pending = s.pending := rfl
@[simp] theorem State.setPair_dt (f : PairState → PairState) (s : State) : (State.setPair f s).dt = s.dt := rfl
@[simp] theorem State.setPair_fresh (f : PairState → PairState) (s : State) : (State.setPair f s).fresh = s.fresh := rfl
@[simp] theorem State.setPair_tx (f : PairState → PairState) (s : State) : (State.setPair f s).tx = s.tx := rfl
@[simp] theorem State.setPair_par (f : PairState → PairState) (s : State) : (State.setPair f s).par = s.par := rfl
@[simp] theorem State.setPair_parPending (f : PairState → PairState) (s : State) : (State.setPair f s).parPending = s.parPending := rfl
@[simp] theorem State.setPair_deferred (f : PairState → PairState) (s : State) : (State.setPair f s).deferred = s.deferred := rfl
@[simp] theorem State.setPair_otp (f : PairState → PairState) (s : State) : (State.setPair f s).otp = s.otp := rfl
@[simp] theorem State.setPair_cyc (f : PairState → PairState) (s : State) : (State.setPair f s).cyc = s.cyc := rfl
@[simp] theorem State.setPair_host (f : PairState → PairState) (s : State) : (State.setPair f s).host = s.host := rfl
@[simp] theorem State.setPair_power (f : PairState → PairState) (s : State) : (State.setPair f s).power = s.power := rfl
@[simp] theorem State.setPair_svc (f : PairState → PairState) (s : State) : (State.setPair f s).svc = s.svc := rfl
@[simp] theorem State.setPair_recorder (f : PairState → PairState) (s : State) : (State.setPair f s).recorder = s.recorder := rfl
@[simp] theorem State.setPair_streams (f : PairState → PairState) (s : State) : (State.setPair f s).streams = s.streams := rfl
@[simp] theorem State.setPair_sig (f : PairState → PairState) (s : State) : (State.setPair f s).sig = s.sig := rfl
@[simp] theorem State.setPair_lay (f : PairState → PairState) (s : State) : (State.setPair f s).lay = s.lay := rfl
@[simp] theorem State.setPair_mps (f : PairState → PairState) (s : State) : (State.setPair f s).mps = s.mps := rfl
@[simp] theorem State.setPair_loop (f : PairState → PairState) (s : State) : (State.setPair f s).loop = s.loop := rfl
@[simp] theorem State.setPair_ledger (f : PairState → PairState) (s : State) : (State.setPair f s).ledger = s.ledger := rfl
@[simp] theorem State.setPair_img (f : PairState → PairState) (s : State) : (State.setPair f s).img = s.img := rfl
@[simp] theorem State.setPair_mot (f : PairState → PairState) (s : State) : (State.setPair f s).mot = s.mot := rfl
@[simp] theorem State.setPair_fbk (f : PairState → PairState) (s : State) : (State.setPair f s).fbk = s.fbk := rfl
@[simp] theorem State.setPair_emd (f : PairState → PairState) (s : State) : (State.setPair f s).emd = s.emd := rfl
@[simp] theorem State.setPair_dma (f : PairState → PairState) (s : State) : (State.setPair f s).dma = s.dma := rfl
@[simp] theorem State.setPair_int (f : PairState → PairState) (s : State) : (State.setPair f s).int = s.int := rfl
@[simp] theorem State.setPair_mem (f : PairState → PairState) (s : State) : (State.setPair f s).mem = s.mem := rfl
@[simp] theorem State.setPair_head (f : PairState → PairState) (s : State) : (State.setPair f s).head = s.head := rfl
@[simp] theorem State.setPair_las (f : PairState → PairState) (s : State) : (State.setPair f s).las = s.las := rfl
@[simp] theorem State.setPair_gut (f : PairState → PairState) (s : State) : (State.setPair f s).gut = s.gut := rfl
@[simp] theorem State.setPair_net (f : PairState → PairState) (s : State) : (State.setPair f s).net = s.net := rfl
@[simp] theorem State.setPair_dram (f : PairState → PairState) (s : State) : (State.setPair f s).dram = s.dram := rfl
@[simp] theorem State.setPair_flash (f : PairState → PairState) (s : State) : (State.setPair f s).flash = s.flash := rfl

@[simp] theorem State.setBoot_pending (f : BootStatus → BootStatus) (s : State) : (State.setBoot f s).pending = s.pending := rfl
@[simp] theorem State.setBoot_dt (f : BootStatus → BootStatus) (s : State) : (State.setBoot f s).dt = s.dt := rfl
@[simp] theorem State.setBoot_fresh (f : BootStatus → BootStatus) (s : State) : (State.setBoot f s).fresh = s.fresh := rfl
@[simp] theorem State.setBoot_tx (f : BootStatus → BootStatus) (s : State) : (State.setBoot f s).tx = s.tx := rfl
@[simp] theorem State.setBoot_par (f : BootStatus → BootStatus) (s : State) : (State.setBoot f s).par = s.par := rfl
@[simp] theorem State.setBoot_parPending (f : BootStatus → BootStatus) (s : State) : (State.setBoot f s).parPending = s.parPending := rfl
@[simp] theorem State.setBoot_deferred (f : BootStatus → BootStatus) (s : State) : (State.setBoot f s).deferred = s.deferred := rfl
@[simp] theorem State.setBoot_otp (f : BootStatus → BootStatus) (s : State) : (State.setBoot f s).otp = s.otp := rfl
@[simp] theorem State.setBoot_cyc (f : BootStatus → BootStatus) (s : State) : (State.setBoot f s).cyc = s.cyc := rfl
@[simp] theorem State.setBoot_host (f : BootStatus → BootStatus) (s : State) : (State.setBoot f s).host = s.host := rfl
@[simp] theorem State.setBoot_svc (f : BootStatus → BootStatus) (s : State) : (State.setBoot f s).svc = s.svc := rfl
@[simp] theorem State.setBoot_recorder (f : BootStatus → BootStatus) (s : State) : (State.setBoot f s).recorder = s.recorder := rfl
@[simp] theorem State.setBoot_streams (f : BootStatus → BootStatus) (s : State) : (State.setBoot f s).streams = s.streams := rfl
@[simp] theorem State.setBoot_sig (f : BootStatus → BootStatus) (s : State) : (State.setBoot f s).sig = s.sig := rfl
@[simp] theorem State.setBoot_lay (f : BootStatus → BootStatus) (s : State) : (State.setBoot f s).lay = s.lay := rfl
@[simp] theorem State.setBoot_mps (f : BootStatus → BootStatus) (s : State) : (State.setBoot f s).mps = s.mps := rfl
@[simp] theorem State.setBoot_loop (f : BootStatus → BootStatus) (s : State) : (State.setBoot f s).loop = s.loop := rfl
@[simp] theorem State.setBoot_ledger (f : BootStatus → BootStatus) (s : State) : (State.setBoot f s).ledger = s.ledger := rfl
@[simp] theorem State.setBoot_img (f : BootStatus → BootStatus) (s : State) : (State.setBoot f s).img = s.img := rfl
@[simp] theorem State.setBoot_mot (f : BootStatus → BootStatus) (s : State) : (State.setBoot f s).mot = s.mot := rfl
@[simp] theorem State.setBoot_fbk (f : BootStatus → BootStatus) (s : State) : (State.setBoot f s).fbk = s.fbk := rfl
@[simp] theorem State.setBoot_emd (f : BootStatus → BootStatus) (s : State) : (State.setBoot f s).emd = s.emd := rfl
@[simp] theorem State.setBoot_dma (f : BootStatus → BootStatus) (s : State) : (State.setBoot f s).dma = s.dma := rfl
@[simp] theorem State.setBoot_int (f : BootStatus → BootStatus) (s : State) : (State.setBoot f s).int = s.int := rfl
@[simp] theorem State.setBoot_mem (f : BootStatus → BootStatus) (s : State) : (State.setBoot f s).mem = s.mem := rfl
@[simp] theorem State.setBoot_head (f : BootStatus → BootStatus) (s : State) : (State.setBoot f s).head = s.head := rfl
@[simp] theorem State.setBoot_las (f : BootStatus → BootStatus) (s : State) : (State.setBoot f s).las = s.las := rfl
@[simp] theorem State.setBoot_gut (f : BootStatus → BootStatus) (s : State) : (State.setBoot f s).gut = s.gut := rfl
@[simp] theorem State.setBoot_net (f : BootStatus → BootStatus) (s : State) : (State.setBoot f s).net = s.net := rfl
@[simp] theorem State.setBoot_pair (f : BootStatus → BootStatus) (s : State) : (State.setBoot f s).pair = s.pair := rfl
@[simp] theorem State.setBoot_dram (f : BootStatus → BootStatus) (s : State) : (State.setBoot f s).dram = s.dram := rfl
@[simp] theorem State.setBoot_flash (f : BootStatus → BootStatus) (s : State) : (State.setBoot f s).flash = s.flash := rfl

@[simp] theorem State.setQp_pending (q : Nat) (f : QueuePair → QueuePair) (s : State) : (State.setQp q f s).pending = s.pending := rfl
@[simp] theorem State.setQp_dt (q : Nat) (f : QueuePair → QueuePair) (s : State) : (State.setQp q f s).dt = s.dt := rfl
@[simp] theorem State.setQp_fresh (q : Nat) (f : QueuePair → QueuePair) (s : State) : (State.setQp q f s).fresh = s.fresh := rfl
@[simp] theorem State.setQp_tx (q : Nat) (f : QueuePair → QueuePair) (s : State) : (State.setQp q f s).tx = s.tx := rfl
@[simp] theorem State.setQp_par (q : Nat) (f : QueuePair → QueuePair) (s : State) : (State.setQp q f s).par = s.par := rfl
@[simp] theorem State.setQp_parPending (q : Nat) (f : QueuePair → QueuePair) (s : State) : (State.setQp q f s).parPending = s.parPending := rfl
@[simp] theorem State.setQp_deferred (q : Nat) (f : QueuePair → QueuePair) (s : State) : (State.setQp q f s).deferred = s.deferred := rfl
@[simp] theorem State.setQp_otp (q : Nat) (f : QueuePair → QueuePair) (s : State) : (State.setQp q f s).otp = s.otp := rfl
@[simp] theorem State.setQp_cyc (q : Nat) (f : QueuePair → QueuePair) (s : State) : (State.setQp q f s).cyc = s.cyc := rfl
@[simp] theorem State.setQp_power (q : Nat) (f : QueuePair → QueuePair) (s : State) : (State.setQp q f s).power = s.power := rfl
@[simp] theorem State.setQp_svc (q : Nat) (f : QueuePair → QueuePair) (s : State) : (State.setQp q f s).svc = s.svc := rfl
@[simp] theorem State.setQp_recorder (q : Nat) (f : QueuePair → QueuePair) (s : State) : (State.setQp q f s).recorder = s.recorder := rfl
@[simp] theorem State.setQp_streams (q : Nat) (f : QueuePair → QueuePair) (s : State) : (State.setQp q f s).streams = s.streams := rfl
@[simp] theorem State.setQp_sig (q : Nat) (f : QueuePair → QueuePair) (s : State) : (State.setQp q f s).sig = s.sig := rfl
@[simp] theorem State.setQp_lay (q : Nat) (f : QueuePair → QueuePair) (s : State) : (State.setQp q f s).lay = s.lay := rfl
@[simp] theorem State.setQp_mps (q : Nat) (f : QueuePair → QueuePair) (s : State) : (State.setQp q f s).mps = s.mps := rfl
@[simp] theorem State.setQp_loop (q : Nat) (f : QueuePair → QueuePair) (s : State) : (State.setQp q f s).loop = s.loop := rfl
@[simp] theorem State.setQp_ledger (q : Nat) (f : QueuePair → QueuePair) (s : State) : (State.setQp q f s).ledger = s.ledger := rfl
@[simp] theorem State.setQp_img (q : Nat) (f : QueuePair → QueuePair) (s : State) : (State.setQp q f s).img = s.img := rfl
@[simp] theorem State.setQp_mot (q : Nat) (f : QueuePair → QueuePair) (s : State) : (State.setQp q f s).mot = s.mot := rfl
@[simp] theorem State.setQp_fbk (q : Nat) (f : QueuePair → QueuePair) (s : State) : (State.setQp q f s).fbk = s.fbk := rfl
@[simp] theorem State.setQp_emd (q : Nat) (f : QueuePair → QueuePair) (s : State) : (State.setQp q f s).emd = s.emd := rfl
@[simp] theorem State.setQp_dma (q : Nat) (f : QueuePair → QueuePair) (s : State) : (State.setQp q f s).dma = s.dma := rfl
@[simp] theorem State.setQp_int (q : Nat) (f : QueuePair → QueuePair) (s : State) : (State.setQp q f s).int = s.int := rfl
@[simp] theorem State.setQp_mem (q : Nat) (f : QueuePair → QueuePair) (s : State) : (State.setQp q f s).mem = s.mem := rfl
@[simp] theorem State.setQp_head (q : Nat) (f : QueuePair → QueuePair) (s : State) : (State.setQp q f s).head = s.head := rfl
@[simp] theorem State.setQp_las (q : Nat) (f : QueuePair → QueuePair) (s : State) : (State.setQp q f s).las = s.las := rfl
@[simp] theorem State.setQp_gut (q : Nat) (f : QueuePair → QueuePair) (s : State) : (State.setQp q f s).gut = s.gut := rfl
@[simp] theorem State.setQp_net (q : Nat) (f : QueuePair → QueuePair) (s : State) : (State.setQp q f s).net = s.net := rfl
@[simp] theorem State.setQp_pair (q : Nat) (f : QueuePair → QueuePair) (s : State) : (State.setQp q f s).pair = s.pair := rfl
@[simp] theorem State.setQp_dram (q : Nat) (f : QueuePair → QueuePair) (s : State) : (State.setQp q f s).dram = s.dram := rfl
@[simp] theorem State.setQp_flash (q : Nat) (f : QueuePair → QueuePair) (s : State) : (State.setQp q f s).flash = s.flash := rfl

@[simp] theorem State.setKey_pending (k : Nat) (f : KeySlot → KeySlot) (s : State) : (State.setKey k f s).pending = s.pending := rfl
@[simp] theorem State.setKey_dt (k : Nat) (f : KeySlot → KeySlot) (s : State) : (State.setKey k f s).dt = s.dt := rfl
@[simp] theorem State.setKey_fresh (k : Nat) (f : KeySlot → KeySlot) (s : State) : (State.setKey k f s).fresh = s.fresh := rfl
@[simp] theorem State.setKey_tx (k : Nat) (f : KeySlot → KeySlot) (s : State) : (State.setKey k f s).tx = s.tx := rfl
@[simp] theorem State.setKey_par (k : Nat) (f : KeySlot → KeySlot) (s : State) : (State.setKey k f s).par = s.par := rfl
@[simp] theorem State.setKey_parPending (k : Nat) (f : KeySlot → KeySlot) (s : State) : (State.setKey k f s).parPending = s.parPending := rfl
@[simp] theorem State.setKey_deferred (k : Nat) (f : KeySlot → KeySlot) (s : State) : (State.setKey k f s).deferred = s.deferred := rfl
@[simp] theorem State.setKey_otp (k : Nat) (f : KeySlot → KeySlot) (s : State) : (State.setKey k f s).otp = s.otp := rfl
@[simp] theorem State.setKey_cyc (k : Nat) (f : KeySlot → KeySlot) (s : State) : (State.setKey k f s).cyc = s.cyc := rfl
@[simp] theorem State.setKey_power (k : Nat) (f : KeySlot → KeySlot) (s : State) : (State.setKey k f s).power = s.power := rfl
@[simp] theorem State.setKey_svc (k : Nat) (f : KeySlot → KeySlot) (s : State) : (State.setKey k f s).svc = s.svc := rfl
@[simp] theorem State.setKey_recorder (k : Nat) (f : KeySlot → KeySlot) (s : State) : (State.setKey k f s).recorder = s.recorder := rfl
@[simp] theorem State.setKey_streams (k : Nat) (f : KeySlot → KeySlot) (s : State) : (State.setKey k f s).streams = s.streams := rfl
@[simp] theorem State.setKey_sig (k : Nat) (f : KeySlot → KeySlot) (s : State) : (State.setKey k f s).sig = s.sig := rfl
@[simp] theorem State.setKey_lay (k : Nat) (f : KeySlot → KeySlot) (s : State) : (State.setKey k f s).lay = s.lay := rfl
@[simp] theorem State.setKey_mps (k : Nat) (f : KeySlot → KeySlot) (s : State) : (State.setKey k f s).mps = s.mps := rfl
@[simp] theorem State.setKey_loop (k : Nat) (f : KeySlot → KeySlot) (s : State) : (State.setKey k f s).loop = s.loop := rfl
@[simp] theorem State.setKey_ledger (k : Nat) (f : KeySlot → KeySlot) (s : State) : (State.setKey k f s).ledger = s.ledger := rfl
@[simp] theorem State.setKey_img (k : Nat) (f : KeySlot → KeySlot) (s : State) : (State.setKey k f s).img = s.img := rfl
@[simp] theorem State.setKey_mot (k : Nat) (f : KeySlot → KeySlot) (s : State) : (State.setKey k f s).mot = s.mot := rfl
@[simp] theorem State.setKey_fbk (k : Nat) (f : KeySlot → KeySlot) (s : State) : (State.setKey k f s).fbk = s.fbk := rfl
@[simp] theorem State.setKey_emd (k : Nat) (f : KeySlot → KeySlot) (s : State) : (State.setKey k f s).emd = s.emd := rfl
@[simp] theorem State.setKey_dma (k : Nat) (f : KeySlot → KeySlot) (s : State) : (State.setKey k f s).dma = s.dma := rfl
@[simp] theorem State.setKey_int (k : Nat) (f : KeySlot → KeySlot) (s : State) : (State.setKey k f s).int = s.int := rfl
@[simp] theorem State.setKey_mem (k : Nat) (f : KeySlot → KeySlot) (s : State) : (State.setKey k f s).mem = s.mem := rfl
@[simp] theorem State.setKey_head (k : Nat) (f : KeySlot → KeySlot) (s : State) : (State.setKey k f s).head = s.head := rfl
@[simp] theorem State.setKey_las (k : Nat) (f : KeySlot → KeySlot) (s : State) : (State.setKey k f s).las = s.las := rfl
@[simp] theorem State.setKey_gut (k : Nat) (f : KeySlot → KeySlot) (s : State) : (State.setKey k f s).gut = s.gut := rfl
@[simp] theorem State.setKey_net (k : Nat) (f : KeySlot → KeySlot) (s : State) : (State.setKey k f s).net = s.net := rfl
@[simp] theorem State.setKey_pair (k : Nat) (f : KeySlot → KeySlot) (s : State) : (State.setKey k f s).pair = s.pair := rfl
@[simp] theorem State.setKey_dram (k : Nat) (f : KeySlot → KeySlot) (s : State) : (State.setKey k f s).dram = s.dram := rfl
@[simp] theorem State.setKey_flash (k : Nat) (f : KeySlot → KeySlot) (s : State) : (State.setKey k f s).flash = s.flash := rfl

@[simp] theorem State.flashWrite_pending (a : Nat) (bs : List Byte) (s : State) : (State.flashWrite a bs s).pending = s.pending := rfl
@[simp] theorem State.flashWrite_dt (a : Nat) (bs : List Byte) (s : State) : (State.flashWrite a bs s).dt = s.dt := rfl
@[simp] theorem State.flashWrite_fresh (a : Nat) (bs : List Byte) (s : State) : (State.flashWrite a bs s).fresh = s.fresh := rfl
@[simp] theorem State.flashWrite_tx (a : Nat) (bs : List Byte) (s : State) : (State.flashWrite a bs s).tx = s.tx := rfl
@[simp] theorem State.flashWrite_par (a : Nat) (bs : List Byte) (s : State) : (State.flashWrite a bs s).par = s.par := rfl
@[simp] theorem State.flashWrite_parPending (a : Nat) (bs : List Byte) (s : State) : (State.flashWrite a bs s).parPending = s.parPending := rfl
@[simp] theorem State.flashWrite_deferred (a : Nat) (bs : List Byte) (s : State) : (State.flashWrite a bs s).deferred = s.deferred := rfl
@[simp] theorem State.flashWrite_otp (a : Nat) (bs : List Byte) (s : State) : (State.flashWrite a bs s).otp = s.otp := rfl
@[simp] theorem State.flashWrite_cyc (a : Nat) (bs : List Byte) (s : State) : (State.flashWrite a bs s).cyc = s.cyc := rfl
@[simp] theorem State.flashWrite_host (a : Nat) (bs : List Byte) (s : State) : (State.flashWrite a bs s).host = s.host := rfl
@[simp] theorem State.flashWrite_power (a : Nat) (bs : List Byte) (s : State) : (State.flashWrite a bs s).power = s.power := rfl
@[simp] theorem State.flashWrite_svc (a : Nat) (bs : List Byte) (s : State) : (State.flashWrite a bs s).svc = s.svc := rfl
@[simp] theorem State.flashWrite_recorder (a : Nat) (bs : List Byte) (s : State) : (State.flashWrite a bs s).recorder = s.recorder := rfl
@[simp] theorem State.flashWrite_streams (a : Nat) (bs : List Byte) (s : State) : (State.flashWrite a bs s).streams = s.streams := rfl
@[simp] theorem State.flashWrite_sig (a : Nat) (bs : List Byte) (s : State) : (State.flashWrite a bs s).sig = s.sig := rfl
@[simp] theorem State.flashWrite_lay (a : Nat) (bs : List Byte) (s : State) : (State.flashWrite a bs s).lay = s.lay := rfl
@[simp] theorem State.flashWrite_mps (a : Nat) (bs : List Byte) (s : State) : (State.flashWrite a bs s).mps = s.mps := rfl
@[simp] theorem State.flashWrite_loop (a : Nat) (bs : List Byte) (s : State) : (State.flashWrite a bs s).loop = s.loop := rfl
@[simp] theorem State.flashWrite_ledger (a : Nat) (bs : List Byte) (s : State) : (State.flashWrite a bs s).ledger = s.ledger := rfl
@[simp] theorem State.flashWrite_img (a : Nat) (bs : List Byte) (s : State) : (State.flashWrite a bs s).img = s.img := rfl
@[simp] theorem State.flashWrite_mot (a : Nat) (bs : List Byte) (s : State) : (State.flashWrite a bs s).mot = s.mot := rfl
@[simp] theorem State.flashWrite_fbk (a : Nat) (bs : List Byte) (s : State) : (State.flashWrite a bs s).fbk = s.fbk := rfl
@[simp] theorem State.flashWrite_emd (a : Nat) (bs : List Byte) (s : State) : (State.flashWrite a bs s).emd = s.emd := rfl
@[simp] theorem State.flashWrite_dma (a : Nat) (bs : List Byte) (s : State) : (State.flashWrite a bs s).dma = s.dma := rfl
@[simp] theorem State.flashWrite_int (a : Nat) (bs : List Byte) (s : State) : (State.flashWrite a bs s).int = s.int := rfl
@[simp] theorem State.flashWrite_mem (a : Nat) (bs : List Byte) (s : State) : (State.flashWrite a bs s).mem = s.mem := rfl
@[simp] theorem State.flashWrite_head (a : Nat) (bs : List Byte) (s : State) : (State.flashWrite a bs s).head = s.head := rfl
@[simp] theorem State.flashWrite_las (a : Nat) (bs : List Byte) (s : State) : (State.flashWrite a bs s).las = s.las := rfl
@[simp] theorem State.flashWrite_gut (a : Nat) (bs : List Byte) (s : State) : (State.flashWrite a bs s).gut = s.gut := rfl
@[simp] theorem State.flashWrite_net (a : Nat) (bs : List Byte) (s : State) : (State.flashWrite a bs s).net = s.net := rfl
@[simp] theorem State.flashWrite_pair (a : Nat) (bs : List Byte) (s : State) : (State.flashWrite a bs s).pair = s.pair := rfl
@[simp] theorem State.flashWrite_dram (a : Nat) (bs : List Byte) (s : State) : (State.flashWrite a bs s).dram = s.dram := rfl

@[simp] theorem State.flashErase_pending (a n : Nat) (s : State) : (State.flashErase a n s).pending = s.pending := rfl
@[simp] theorem State.flashErase_dt (a n : Nat) (s : State) : (State.flashErase a n s).dt = s.dt := rfl
@[simp] theorem State.flashErase_fresh (a n : Nat) (s : State) : (State.flashErase a n s).fresh = s.fresh := rfl
@[simp] theorem State.flashErase_tx (a n : Nat) (s : State) : (State.flashErase a n s).tx = s.tx := rfl
@[simp] theorem State.flashErase_par (a n : Nat) (s : State) : (State.flashErase a n s).par = s.par := rfl
@[simp] theorem State.flashErase_parPending (a n : Nat) (s : State) : (State.flashErase a n s).parPending = s.parPending := rfl
@[simp] theorem State.flashErase_deferred (a n : Nat) (s : State) : (State.flashErase a n s).deferred = s.deferred := rfl
@[simp] theorem State.flashErase_otp (a n : Nat) (s : State) : (State.flashErase a n s).otp = s.otp := rfl
@[simp] theorem State.flashErase_cyc (a n : Nat) (s : State) : (State.flashErase a n s).cyc = s.cyc := rfl
@[simp] theorem State.flashErase_host (a n : Nat) (s : State) : (State.flashErase a n s).host = s.host := rfl
@[simp] theorem State.flashErase_power (a n : Nat) (s : State) : (State.flashErase a n s).power = s.power := rfl
@[simp] theorem State.flashErase_svc (a n : Nat) (s : State) : (State.flashErase a n s).svc = s.svc := rfl
@[simp] theorem State.flashErase_recorder (a n : Nat) (s : State) : (State.flashErase a n s).recorder = s.recorder := rfl
@[simp] theorem State.flashErase_streams (a n : Nat) (s : State) : (State.flashErase a n s).streams = s.streams := rfl
@[simp] theorem State.flashErase_sig (a n : Nat) (s : State) : (State.flashErase a n s).sig = s.sig := rfl
@[simp] theorem State.flashErase_lay (a n : Nat) (s : State) : (State.flashErase a n s).lay = s.lay := rfl
@[simp] theorem State.flashErase_mps (a n : Nat) (s : State) : (State.flashErase a n s).mps = s.mps := rfl
@[simp] theorem State.flashErase_loop (a n : Nat) (s : State) : (State.flashErase a n s).loop = s.loop := rfl
@[simp] theorem State.flashErase_ledger (a n : Nat) (s : State) : (State.flashErase a n s).ledger = s.ledger := rfl
@[simp] theorem State.flashErase_img (a n : Nat) (s : State) : (State.flashErase a n s).img = s.img := rfl
@[simp] theorem State.flashErase_mot (a n : Nat) (s : State) : (State.flashErase a n s).mot = s.mot := rfl
@[simp] theorem State.flashErase_fbk (a n : Nat) (s : State) : (State.flashErase a n s).fbk = s.fbk := rfl
@[simp] theorem State.flashErase_emd (a n : Nat) (s : State) : (State.flashErase a n s).emd = s.emd := rfl
@[simp] theorem State.flashErase_dma (a n : Nat) (s : State) : (State.flashErase a n s).dma = s.dma := rfl
@[simp] theorem State.flashErase_int (a n : Nat) (s : State) : (State.flashErase a n s).int = s.int := rfl
@[simp] theorem State.flashErase_mem (a n : Nat) (s : State) : (State.flashErase a n s).mem = s.mem := rfl
@[simp] theorem State.flashErase_head (a n : Nat) (s : State) : (State.flashErase a n s).head = s.head := rfl
@[simp] theorem State.flashErase_las (a n : Nat) (s : State) : (State.flashErase a n s).las = s.las := rfl
@[simp] theorem State.flashErase_gut (a n : Nat) (s : State) : (State.flashErase a n s).gut = s.gut := rfl
@[simp] theorem State.flashErase_net (a n : Nat) (s : State) : (State.flashErase a n s).net = s.net := rfl
@[simp] theorem State.flashErase_pair (a n : Nat) (s : State) : (State.flashErase a n s).pair = s.pair := rfl
@[simp] theorem State.flashErase_dram (a n : Nat) (s : State) : (State.flashErase a n s).dram = s.dram := rfl

@[simp] theorem State.setJournal_pending (f : Journal → Journal) (s : State) : (State.setJournal f s).pending = s.pending := rfl
@[simp] theorem State.setJournal_dt (f : Journal → Journal) (s : State) : (State.setJournal f s).dt = s.dt := rfl
@[simp] theorem State.setJournal_fresh (f : Journal → Journal) (s : State) : (State.setJournal f s).fresh = s.fresh := rfl
@[simp] theorem State.setJournal_tx (f : Journal → Journal) (s : State) : (State.setJournal f s).tx = s.tx := rfl
@[simp] theorem State.setJournal_par (f : Journal → Journal) (s : State) : (State.setJournal f s).par = s.par := rfl
@[simp] theorem State.setJournal_parPending (f : Journal → Journal) (s : State) : (State.setJournal f s).parPending = s.parPending := rfl
@[simp] theorem State.setJournal_deferred (f : Journal → Journal) (s : State) : (State.setJournal f s).deferred = s.deferred := rfl
@[simp] theorem State.setJournal_otp (f : Journal → Journal) (s : State) : (State.setJournal f s).otp = s.otp := rfl
@[simp] theorem State.setJournal_cyc (f : Journal → Journal) (s : State) : (State.setJournal f s).cyc = s.cyc := rfl
@[simp] theorem State.setJournal_host (f : Journal → Journal) (s : State) : (State.setJournal f s).host = s.host := rfl
@[simp] theorem State.setJournal_power (f : Journal → Journal) (s : State) : (State.setJournal f s).power = s.power := rfl
@[simp] theorem State.setJournal_svc (f : Journal → Journal) (s : State) : (State.setJournal f s).svc = s.svc := rfl
@[simp] theorem State.setJournal_streams (f : Journal → Journal) (s : State) : (State.setJournal f s).streams = s.streams := rfl
@[simp] theorem State.setJournal_sig (f : Journal → Journal) (s : State) : (State.setJournal f s).sig = s.sig := rfl
@[simp] theorem State.setJournal_lay (f : Journal → Journal) (s : State) : (State.setJournal f s).lay = s.lay := rfl
@[simp] theorem State.setJournal_mps (f : Journal → Journal) (s : State) : (State.setJournal f s).mps = s.mps := rfl
@[simp] theorem State.setJournal_loop (f : Journal → Journal) (s : State) : (State.setJournal f s).loop = s.loop := rfl
@[simp] theorem State.setJournal_ledger (f : Journal → Journal) (s : State) : (State.setJournal f s).ledger = s.ledger := rfl
@[simp] theorem State.setJournal_img (f : Journal → Journal) (s : State) : (State.setJournal f s).img = s.img := rfl
@[simp] theorem State.setJournal_mot (f : Journal → Journal) (s : State) : (State.setJournal f s).mot = s.mot := rfl
@[simp] theorem State.setJournal_fbk (f : Journal → Journal) (s : State) : (State.setJournal f s).fbk = s.fbk := rfl
@[simp] theorem State.setJournal_emd (f : Journal → Journal) (s : State) : (State.setJournal f s).emd = s.emd := rfl
@[simp] theorem State.setJournal_dma (f : Journal → Journal) (s : State) : (State.setJournal f s).dma = s.dma := rfl
@[simp] theorem State.setJournal_int (f : Journal → Journal) (s : State) : (State.setJournal f s).int = s.int := rfl
@[simp] theorem State.setJournal_mem (f : Journal → Journal) (s : State) : (State.setJournal f s).mem = s.mem := rfl
@[simp] theorem State.setJournal_head (f : Journal → Journal) (s : State) : (State.setJournal f s).head = s.head := rfl
@[simp] theorem State.setJournal_las (f : Journal → Journal) (s : State) : (State.setJournal f s).las = s.las := rfl
@[simp] theorem State.setJournal_gut (f : Journal → Journal) (s : State) : (State.setJournal f s).gut = s.gut := rfl
@[simp] theorem State.setJournal_net (f : Journal → Journal) (s : State) : (State.setJournal f s).net = s.net := rfl
@[simp] theorem State.setJournal_pair (f : Journal → Journal) (s : State) : (State.setJournal f s).pair = s.pair := rfl
@[simp] theorem State.setJournal_dram (f : Journal → Journal) (s : State) : (State.setJournal f s).dram = s.dram := rfl
@[simp] theorem State.setJournal_flash (f : Journal → Journal) (s : State) : (State.setJournal f s).flash = s.flash := rfl

@[simp] theorem State.setRules_pending (h : Nat) (f : HeadRules → HeadRules) (s : State) : (State.setRules h f s).pending = s.pending := rfl
@[simp] theorem State.setRules_dt (h : Nat) (f : HeadRules → HeadRules) (s : State) : (State.setRules h f s).dt = s.dt := rfl
@[simp] theorem State.setRules_fresh (h : Nat) (f : HeadRules → HeadRules) (s : State) : (State.setRules h f s).fresh = s.fresh := rfl
@[simp] theorem State.setRules_tx (h : Nat) (f : HeadRules → HeadRules) (s : State) : (State.setRules h f s).tx = s.tx := rfl
@[simp] theorem State.setRules_par (h : Nat) (f : HeadRules → HeadRules) (s : State) : (State.setRules h f s).par = s.par := rfl
@[simp] theorem State.setRules_parPending (h : Nat) (f : HeadRules → HeadRules) (s : State) : (State.setRules h f s).parPending = s.parPending := rfl
@[simp] theorem State.setRules_deferred (h : Nat) (f : HeadRules → HeadRules) (s : State) : (State.setRules h f s).deferred = s.deferred := rfl
@[simp] theorem State.setRules_otp (h : Nat) (f : HeadRules → HeadRules) (s : State) : (State.setRules h f s).otp = s.otp := rfl
@[simp] theorem State.setRules_cyc (h : Nat) (f : HeadRules → HeadRules) (s : State) : (State.setRules h f s).cyc = s.cyc := rfl
@[simp] theorem State.setRules_host (h : Nat) (f : HeadRules → HeadRules) (s : State) : (State.setRules h f s).host = s.host := rfl
@[simp] theorem State.setRules_power (h : Nat) (f : HeadRules → HeadRules) (s : State) : (State.setRules h f s).power = s.power := rfl
@[simp] theorem State.setRules_svc (h : Nat) (f : HeadRules → HeadRules) (s : State) : (State.setRules h f s).svc = s.svc := rfl
@[simp] theorem State.setRules_recorder (h : Nat) (f : HeadRules → HeadRules) (s : State) : (State.setRules h f s).recorder = s.recorder := rfl
@[simp] theorem State.setRules_streams (h : Nat) (f : HeadRules → HeadRules) (s : State) : (State.setRules h f s).streams = s.streams := rfl
@[simp] theorem State.setRules_sig (h : Nat) (f : HeadRules → HeadRules) (s : State) : (State.setRules h f s).sig = s.sig := rfl
@[simp] theorem State.setRules_lay (h : Nat) (f : HeadRules → HeadRules) (s : State) : (State.setRules h f s).lay = s.lay := rfl
@[simp] theorem State.setRules_mps (h : Nat) (f : HeadRules → HeadRules) (s : State) : (State.setRules h f s).mps = s.mps := rfl
@[simp] theorem State.setRules_ledger (h : Nat) (f : HeadRules → HeadRules) (s : State) : (State.setRules h f s).ledger = s.ledger := rfl
@[simp] theorem State.setRules_img (h : Nat) (f : HeadRules → HeadRules) (s : State) : (State.setRules h f s).img = s.img := rfl
@[simp] theorem State.setRules_mot (h : Nat) (f : HeadRules → HeadRules) (s : State) : (State.setRules h f s).mot = s.mot := rfl
@[simp] theorem State.setRules_fbk (h : Nat) (f : HeadRules → HeadRules) (s : State) : (State.setRules h f s).fbk = s.fbk := rfl
@[simp] theorem State.setRules_emd (h : Nat) (f : HeadRules → HeadRules) (s : State) : (State.setRules h f s).emd = s.emd := rfl
@[simp] theorem State.setRules_dma (h : Nat) (f : HeadRules → HeadRules) (s : State) : (State.setRules h f s).dma = s.dma := rfl
@[simp] theorem State.setRules_int (h : Nat) (f : HeadRules → HeadRules) (s : State) : (State.setRules h f s).int = s.int := rfl
@[simp] theorem State.setRules_mem (h : Nat) (f : HeadRules → HeadRules) (s : State) : (State.setRules h f s).mem = s.mem := rfl
@[simp] theorem State.setRules_head (h : Nat) (f : HeadRules → HeadRules) (s : State) : (State.setRules h f s).head = s.head := rfl
@[simp] theorem State.setRules_las (h : Nat) (f : HeadRules → HeadRules) (s : State) : (State.setRules h f s).las = s.las := rfl
@[simp] theorem State.setRules_gut (h : Nat) (f : HeadRules → HeadRules) (s : State) : (State.setRules h f s).gut = s.gut := rfl
@[simp] theorem State.setRules_net (h : Nat) (f : HeadRules → HeadRules) (s : State) : (State.setRules h f s).net = s.net := rfl
@[simp] theorem State.setRules_pair (h : Nat) (f : HeadRules → HeadRules) (s : State) : (State.setRules h f s).pair = s.pair := rfl
@[simp] theorem State.setRules_dram (h : Nat) (f : HeadRules → HeadRules) (s : State) : (State.setRules h f s).dram = s.dram := rfl
@[simp] theorem State.setRules_flash (h : Nat) (f : HeadRules → HeadRules) (s : State) : (State.setRules h f s).flash = s.flash := rfl

@[simp] theorem State.setNet_pending (f : NetState → NetState) (s : State) : (State.setNet f s).pending = s.pending := rfl
@[simp] theorem State.setNet_dt (f : NetState → NetState) (s : State) : (State.setNet f s).dt = s.dt := rfl
@[simp] theorem State.setNet_fresh (f : NetState → NetState) (s : State) : (State.setNet f s).fresh = s.fresh := rfl
@[simp] theorem State.setNet_tx (f : NetState → NetState) (s : State) : (State.setNet f s).tx = s.tx := rfl
@[simp] theorem State.setNet_par (f : NetState → NetState) (s : State) : (State.setNet f s).par = s.par := rfl
@[simp] theorem State.setNet_parPending (f : NetState → NetState) (s : State) : (State.setNet f s).parPending = s.parPending := rfl
@[simp] theorem State.setNet_deferred (f : NetState → NetState) (s : State) : (State.setNet f s).deferred = s.deferred := rfl
@[simp] theorem State.setNet_otp (f : NetState → NetState) (s : State) : (State.setNet f s).otp = s.otp := rfl
@[simp] theorem State.setNet_cyc (f : NetState → NetState) (s : State) : (State.setNet f s).cyc = s.cyc := rfl
@[simp] theorem State.setNet_host (f : NetState → NetState) (s : State) : (State.setNet f s).host = s.host := rfl
@[simp] theorem State.setNet_power (f : NetState → NetState) (s : State) : (State.setNet f s).power = s.power := rfl
@[simp] theorem State.setNet_svc (f : NetState → NetState) (s : State) : (State.setNet f s).svc = s.svc := rfl
@[simp] theorem State.setNet_recorder (f : NetState → NetState) (s : State) : (State.setNet f s).recorder = s.recorder := rfl
@[simp] theorem State.setNet_streams (f : NetState → NetState) (s : State) : (State.setNet f s).streams = s.streams := rfl
@[simp] theorem State.setNet_sig (f : NetState → NetState) (s : State) : (State.setNet f s).sig = s.sig := rfl
@[simp] theorem State.setNet_lay (f : NetState → NetState) (s : State) : (State.setNet f s).lay = s.lay := rfl
@[simp] theorem State.setNet_mps (f : NetState → NetState) (s : State) : (State.setNet f s).mps = s.mps := rfl
@[simp] theorem State.setNet_loop (f : NetState → NetState) (s : State) : (State.setNet f s).loop = s.loop := rfl
@[simp] theorem State.setNet_ledger (f : NetState → NetState) (s : State) : (State.setNet f s).ledger = s.ledger := rfl
@[simp] theorem State.setNet_img (f : NetState → NetState) (s : State) : (State.setNet f s).img = s.img := rfl
@[simp] theorem State.setNet_mot (f : NetState → NetState) (s : State) : (State.setNet f s).mot = s.mot := rfl
@[simp] theorem State.setNet_fbk (f : NetState → NetState) (s : State) : (State.setNet f s).fbk = s.fbk := rfl
@[simp] theorem State.setNet_emd (f : NetState → NetState) (s : State) : (State.setNet f s).emd = s.emd := rfl
@[simp] theorem State.setNet_dma (f : NetState → NetState) (s : State) : (State.setNet f s).dma = s.dma := rfl
@[simp] theorem State.setNet_int (f : NetState → NetState) (s : State) : (State.setNet f s).int = s.int := rfl
@[simp] theorem State.setNet_mem (f : NetState → NetState) (s : State) : (State.setNet f s).mem = s.mem := rfl
@[simp] theorem State.setNet_head (f : NetState → NetState) (s : State) : (State.setNet f s).head = s.head := rfl
@[simp] theorem State.setNet_las (f : NetState → NetState) (s : State) : (State.setNet f s).las = s.las := rfl
@[simp] theorem State.setNet_gut (f : NetState → NetState) (s : State) : (State.setNet f s).gut = s.gut := rfl
@[simp] theorem State.setNet_pair (f : NetState → NetState) (s : State) : (State.setNet f s).pair = s.pair := rfl
@[simp] theorem State.setNet_dram (f : NetState → NetState) (s : State) : (State.setNet f s).dram = s.dram := rfl
@[simp] theorem State.setNet_flash (f : NetState → NetState) (s : State) : (State.setNet f s).flash = s.flash := rfl

@[simp] theorem State.setFront_pending (fe : Nat) (f : FrontEnd → FrontEnd) (s : State) : (State.setFront fe f s).pending = s.pending := rfl
@[simp] theorem State.setFront_dt (fe : Nat) (f : FrontEnd → FrontEnd) (s : State) : (State.setFront fe f s).dt = s.dt := rfl
@[simp] theorem State.setFront_fresh (fe : Nat) (f : FrontEnd → FrontEnd) (s : State) : (State.setFront fe f s).fresh = s.fresh := rfl
@[simp] theorem State.setFront_tx (fe : Nat) (f : FrontEnd → FrontEnd) (s : State) : (State.setFront fe f s).tx = s.tx := rfl
@[simp] theorem State.setFront_par (fe : Nat) (f : FrontEnd → FrontEnd) (s : State) : (State.setFront fe f s).par = s.par := rfl
@[simp] theorem State.setFront_parPending (fe : Nat) (f : FrontEnd → FrontEnd) (s : State) : (State.setFront fe f s).parPending = s.parPending := rfl
@[simp] theorem State.setFront_deferred (fe : Nat) (f : FrontEnd → FrontEnd) (s : State) : (State.setFront fe f s).deferred = s.deferred := rfl
@[simp] theorem State.setFront_otp (fe : Nat) (f : FrontEnd → FrontEnd) (s : State) : (State.setFront fe f s).otp = s.otp := rfl
@[simp] theorem State.setFront_cyc (fe : Nat) (f : FrontEnd → FrontEnd) (s : State) : (State.setFront fe f s).cyc = s.cyc := rfl
@[simp] theorem State.setFront_host (fe : Nat) (f : FrontEnd → FrontEnd) (s : State) : (State.setFront fe f s).host = s.host := rfl
@[simp] theorem State.setFront_power (fe : Nat) (f : FrontEnd → FrontEnd) (s : State) : (State.setFront fe f s).power = s.power := rfl
@[simp] theorem State.setFront_recorder (fe : Nat) (f : FrontEnd → FrontEnd) (s : State) : (State.setFront fe f s).recorder = s.recorder := rfl
@[simp] theorem State.setFront_streams (fe : Nat) (f : FrontEnd → FrontEnd) (s : State) : (State.setFront fe f s).streams = s.streams := rfl
@[simp] theorem State.setFront_sig (fe : Nat) (f : FrontEnd → FrontEnd) (s : State) : (State.setFront fe f s).sig = s.sig := rfl
@[simp] theorem State.setFront_lay (fe : Nat) (f : FrontEnd → FrontEnd) (s : State) : (State.setFront fe f s).lay = s.lay := rfl
@[simp] theorem State.setFront_mps (fe : Nat) (f : FrontEnd → FrontEnd) (s : State) : (State.setFront fe f s).mps = s.mps := rfl
@[simp] theorem State.setFront_loop (fe : Nat) (f : FrontEnd → FrontEnd) (s : State) : (State.setFront fe f s).loop = s.loop := rfl
@[simp] theorem State.setFront_ledger (fe : Nat) (f : FrontEnd → FrontEnd) (s : State) : (State.setFront fe f s).ledger = s.ledger := rfl
@[simp] theorem State.setFront_img (fe : Nat) (f : FrontEnd → FrontEnd) (s : State) : (State.setFront fe f s).img = s.img := rfl
@[simp] theorem State.setFront_mot (fe : Nat) (f : FrontEnd → FrontEnd) (s : State) : (State.setFront fe f s).mot = s.mot := rfl
@[simp] theorem State.setFront_fbk (fe : Nat) (f : FrontEnd → FrontEnd) (s : State) : (State.setFront fe f s).fbk = s.fbk := rfl
@[simp] theorem State.setFront_emd (fe : Nat) (f : FrontEnd → FrontEnd) (s : State) : (State.setFront fe f s).emd = s.emd := rfl
@[simp] theorem State.setFront_dma (fe : Nat) (f : FrontEnd → FrontEnd) (s : State) : (State.setFront fe f s).dma = s.dma := rfl
@[simp] theorem State.setFront_int (fe : Nat) (f : FrontEnd → FrontEnd) (s : State) : (State.setFront fe f s).int = s.int := rfl
@[simp] theorem State.setFront_mem (fe : Nat) (f : FrontEnd → FrontEnd) (s : State) : (State.setFront fe f s).mem = s.mem := rfl
@[simp] theorem State.setFront_head (fe : Nat) (f : FrontEnd → FrontEnd) (s : State) : (State.setFront fe f s).head = s.head := rfl
@[simp] theorem State.setFront_las (fe : Nat) (f : FrontEnd → FrontEnd) (s : State) : (State.setFront fe f s).las = s.las := rfl
@[simp] theorem State.setFront_gut (fe : Nat) (f : FrontEnd → FrontEnd) (s : State) : (State.setFront fe f s).gut = s.gut := rfl
@[simp] theorem State.setFront_net (fe : Nat) (f : FrontEnd → FrontEnd) (s : State) : (State.setFront fe f s).net = s.net := rfl
@[simp] theorem State.setFront_pair (fe : Nat) (f : FrontEnd → FrontEnd) (s : State) : (State.setFront fe f s).pair = s.pair := rfl
@[simp] theorem State.setFront_dram (fe : Nat) (f : FrontEnd → FrontEnd) (s : State) : (State.setFront fe f s).dram = s.dram := rfl
@[simp] theorem State.setFront_flash (fe : Nat) (f : FrontEnd → FrontEnd) (s : State) : (State.setFront fe f s).flash = s.flash := rfl

@[simp] theorem State.setTrim_pending (f : Trim → Trim) (s : State) : (State.setTrim f s).pending = s.pending := rfl
@[simp] theorem State.setTrim_dt (f : Trim → Trim) (s : State) : (State.setTrim f s).dt = s.dt := rfl
@[simp] theorem State.setTrim_fresh (f : Trim → Trim) (s : State) : (State.setTrim f s).fresh = s.fresh := rfl
@[simp] theorem State.setTrim_tx (f : Trim → Trim) (s : State) : (State.setTrim f s).tx = s.tx := rfl
@[simp] theorem State.setTrim_par (f : Trim → Trim) (s : State) : (State.setTrim f s).par = s.par := rfl
@[simp] theorem State.setTrim_parPending (f : Trim → Trim) (s : State) : (State.setTrim f s).parPending = s.parPending := rfl
@[simp] theorem State.setTrim_deferred (f : Trim → Trim) (s : State) : (State.setTrim f s).deferred = s.deferred := rfl
@[simp] theorem State.setTrim_otp (f : Trim → Trim) (s : State) : (State.setTrim f s).otp = s.otp := rfl
@[simp] theorem State.setTrim_cyc (f : Trim → Trim) (s : State) : (State.setTrim f s).cyc = s.cyc := rfl
@[simp] theorem State.setTrim_host (f : Trim → Trim) (s : State) : (State.setTrim f s).host = s.host := rfl
@[simp] theorem State.setTrim_power (f : Trim → Trim) (s : State) : (State.setTrim f s).power = s.power := rfl
@[simp] theorem State.setTrim_recorder (f : Trim → Trim) (s : State) : (State.setTrim f s).recorder = s.recorder := rfl
@[simp] theorem State.setTrim_streams (f : Trim → Trim) (s : State) : (State.setTrim f s).streams = s.streams := rfl
@[simp] theorem State.setTrim_sig (f : Trim → Trim) (s : State) : (State.setTrim f s).sig = s.sig := rfl
@[simp] theorem State.setTrim_lay (f : Trim → Trim) (s : State) : (State.setTrim f s).lay = s.lay := rfl
@[simp] theorem State.setTrim_mps (f : Trim → Trim) (s : State) : (State.setTrim f s).mps = s.mps := rfl
@[simp] theorem State.setTrim_loop (f : Trim → Trim) (s : State) : (State.setTrim f s).loop = s.loop := rfl
@[simp] theorem State.setTrim_ledger (f : Trim → Trim) (s : State) : (State.setTrim f s).ledger = s.ledger := rfl
@[simp] theorem State.setTrim_img (f : Trim → Trim) (s : State) : (State.setTrim f s).img = s.img := rfl
@[simp] theorem State.setTrim_mot (f : Trim → Trim) (s : State) : (State.setTrim f s).mot = s.mot := rfl
@[simp] theorem State.setTrim_fbk (f : Trim → Trim) (s : State) : (State.setTrim f s).fbk = s.fbk := rfl
@[simp] theorem State.setTrim_emd (f : Trim → Trim) (s : State) : (State.setTrim f s).emd = s.emd := rfl
@[simp] theorem State.setTrim_dma (f : Trim → Trim) (s : State) : (State.setTrim f s).dma = s.dma := rfl
@[simp] theorem State.setTrim_int (f : Trim → Trim) (s : State) : (State.setTrim f s).int = s.int := rfl
@[simp] theorem State.setTrim_mem (f : Trim → Trim) (s : State) : (State.setTrim f s).mem = s.mem := rfl
@[simp] theorem State.setTrim_head (f : Trim → Trim) (s : State) : (State.setTrim f s).head = s.head := rfl
@[simp] theorem State.setTrim_las (f : Trim → Trim) (s : State) : (State.setTrim f s).las = s.las := rfl
@[simp] theorem State.setTrim_gut (f : Trim → Trim) (s : State) : (State.setTrim f s).gut = s.gut := rfl
@[simp] theorem State.setTrim_net (f : Trim → Trim) (s : State) : (State.setTrim f s).net = s.net := rfl
@[simp] theorem State.setTrim_pair (f : Trim → Trim) (s : State) : (State.setTrim f s).pair = s.pair := rfl
@[simp] theorem State.setTrim_dram (f : Trim → Trim) (s : State) : (State.setTrim f s).dram = s.dram := rfl
@[simp] theorem State.setTrim_flash (f : Trim → Trim) (s : State) : (State.setTrim f s).flash = s.flash := rfl

end Sys2Proof.Machine
end

