-- ==== Sys2Proof/Tests/Slice0.lean ====
section
/-! SUPPORT. Tests: ill-formed terms that the checks refuse, a state and operands for every statement with hypotheses, and single steps
whose results the spec gives. -/

set_option Elab.async false

namespace Sys2Proof.Tests

open Sys2Proof Sys2Proof.Machine

/-! States and packets. -/

/-- A key of sixteen bytes. -/
def key0 : List Byte := (List.range 16).map fun (i : Nat) => BitVec.ofNat 8 i

/-- The host interface with queue pair 0 running and key slot 0 active. -/
def host0 : HostIf :=
  { qps := { enabled := true, sizeExp := 8 } :: List.replicate 63 {}
    busMaster := true
    ready := true
    keys := { state := .active, key := key0, last := 4, lease := 65536 } :: List.replicate 7 {} }

/-- Four channels of 16 GiB in service. -/
def mem0 : MemState := { width := 8, ranks := 1, density := 16, capacity := 16, channels := List.replicate 4 { inService := true } }
/-- A powered device in state `d`. -/
def base (d : DevState) : State := { dt := 100, cyc := { state := d }, host := host0, mem := mem0 }
/-- A device in a layer, in phase `ph`. -/
def inPhase (ph : Phase) (d : DevState) : State := { base d with cyc := { state := d, phase := ph } }
/-- The state with some parameters set, by 65,536 × ID + scope. -/
def withPar (par : List (Nat × Nat)) (s : State) : State := { s with par := par }
def devPar (id : Nat) : Nat := 65536 * id + 65535

/-- A packet of queue pair 0, without a trailer. -/
def pk (scope : Nat) (params : List Byte) : Packet :=
  { t := 200, origin := .qp 0, resultSize := 4096, resultAddr := 0x10000, version := 0x30, flags := 0, length := (16 + params.length) / 8, tag := 7
    scope := scope, zero := 0, params := params, trailer := none }
/-- The same with version 2 of the protocol. -/
def pk2 (v scope : Nat) (params : List Byte) : Packet := { pk scope params with version := v }
/-- A `PARAM_SET` of one value of `n` bytes. -/
def setPk (id scope n v : Nat) : Packet := pk scope (leBytes 2 id ++ zeros 2 ++ leBytes 4 n ++ padTo ((n + 7) / 8 * 8) (leBytes n v))
/-- A packet under key slot 0, its MAC over the bytes it carries. -/
def sealedAs (op : Nat) (p : Packet) : Packet :=
  let q := { p with flags := 1, length := p.length + 4, trailer := some { slot := 0, zero := 0, counter := 9, mac := [] } }
  { q with trailer := some { slot := 0, zero := 0, counter := 9, mac := cmac key0 (q.signed op) } }

/-- `startsNow` of a packet under a key, without the check of its MAC. -/
def startsBut (c : CmdSpec) (p : Packet) (s : State) : Bool :=
  let u := s.at p.t
  let v := taken p s
  let ver := versionFor p s
  let crit := c.critical p v
  u.accepts && u.originOk p.origin && (u.tagMatch p).isNone &&
    !(({ u with host := { u.host with nextAcc := u.host.nextAcc + 1 } } : State).blocked u.host.nextAcc p) &&
    (s.host.inProg.all fun i => i.acc != s.host.nextAcc) &&
    (fixVersion (u.fixedVersion p.origin) p.version).isSome && leased p v &&
    (match p.trailer with
      | none => false
      | some t => decide (t.slot ≤ 7) && (v.host.keys.getD t.slot {}).activeFor s.host.nextAcc && decide ((v.host.keys.getD t.slot {}).last < t.counter)) &&
    lengthOk c p && ver / 16 == c.major && decide (c.fromMinor ≤ ver % 16) && (c.stateFail p v).isNone &&
    (firstFail (headerRange crit p :: c.checks p v ++ [(noSpace (c.resultLen p v) p, stResultSpace)])).isNone

/-- A packet whose MAC is right starts as soon as it comes. -/
theorem startsNow_of_startsBut {c : CmdSpec} {p : Packet} {s : State} {t : Trailer} (ht : p.trailer = some t)
    (hm : t.mac = cmac ((taken p s).host.keys.getD t.slot {}).key (p.signed c.opcode)) (h : startsBut c p s = true) : startsNow c p s = true := by
  simp only [startsBut, ht, Bool.and_eq_true, Bool.not_eq_true', Option.isNone_iff_eq_none, decide_eq_true_eq, beq_iff_eq] at h
  obtain ⟨⟨⟨⟨⟨⟨⟨⟨⟨⟨⟨⟨a1, a2⟩, a3⟩, a4⟩, a5⟩, a6⟩, a7⟩, ⟨⟨a8, a9⟩, a10⟩⟩, a11⟩, a12⟩, a13⟩, a14⟩, a15⟩ := h
  have e : checkFail c s.host.nextAcc (versionFor p s) p (taken p s) = none := by
    unfold checkFail authFail
    simp only [a11, a12, a14, ht]
    have h7 : ¬ 7 < t.slot := by omega
    have hl : ¬ t.counter ≤ ((taken p s).host.keys.getD t.slot {}).last := by omega
    have hv : ¬ versionFor p s % 16 < c.fromMinor := by omega
    simp only [firstFail, h7, a9, hm, hl, hv]
    simpa using a15
  simp only [startsNow, Bool.and_eq_true, Bool.not_eq_true', Option.isNone_iff_eq_none]
  exact ⟨⟨⟨⟨⟨⟨⟨a1, a2⟩, a3⟩, a4⟩, a5⟩, a6⟩, e⟩, a7⟩

/-- A sealed packet starts where everything but its MAC lets it. -/
theorem sealed_starts {c : CmdSpec} {p : Packet} {s : State} (hk : ((s.host.keys.getD 0 {}).key = key0 ∧ p.origin = .qp 0))
    (h : startsBut c (sealedAs c.opcode p) s = true) : startsNow c (sealedAs c.opcode p) s = true := by
  refine startsNow_of_startsBut rfl ?_ h
  have : (taken (sealedAs c.opcode p) s).host.keys = s.host.keys := by
    unfold taken State.setVersion
    dsimp only
    split <;> rfl
  rw [this, hk.1]
  rfl

/-! Witnesses. -/

/-- A device of one head that READY_ENTER and ARM would take. -/
def armable (d : DevState) : State :=
  { base d with
    cyc := { state := d, profile := { profile := 15, heads := 1, cam := 0 } }
    head := { hlk := { link := .up, version := 0x10 } :: List.replicate 31 {}, trj := { fc := some (fcOf []) } :: List.replicate 31 {} }
    las := { aClosed := true, bClosed := true, heads := { source := 1 } :: List.replicate 31 {} }
    par := [(parKey 0x2000 0, 1000), (parKey 0x2002 0, 1000), (parKey 0x2004 0, 1000), (devPar 0x5010, 2 ^ 70), (devPar 0x5011, 2 ^ 70)] }
/-- A bank of signatures: bank `k` in state `b`. -/
def withBank (k : Nat) (b : Bank) (s : State) : State := { s with sig := { s.sig with banks := updAt s.sig.banks k fun _ => b } }
/-- The device in HOLD with both channels closed. -/
def closedIn (d : DevState) (ph : Phase) : State := { inPhase ph d with las := { aClosed := true, bClosed := true } }
/-- A load in progress into bank 0. -/
def loadingAt (d : DevState) (q : Option Nat) : State :=
  { base d with sig := { banks := [{ state := .loading }, {}], loading := some { bank := 0, start := 100, addr := dramBase, len := 4096, quire := q, acc := 0 } } }
/-- A long signature in exposure, all of its records consumed. -/
def longBank : State :=
  withPar [(devPar 0x1000, 1)] (withBank 0 { state := .active, segments := [(7, false)] } (inPhase .expose .armed))

/-- Bytes as cells from `a` upward. -/
def cellsAt : Nat → List Byte → Mem
  | _, [] => []
  | a, b :: bs => (a, b) :: cellsAt (a + 1) bs
/-- The head of a field-correction image whose values are zero, up to its check value. -/
def fcHead : List Byte := leBytes 4 0x43465853 ++ leBytes 1 0x10 ++ leBytes 1 6 ++ zeros 10 ++ leBytes 4 5
/-- DRAM with a field-correction image of zeros at its base. -/
def fcMem : Mem := cellsAt dramBase (fcHead ++ leBytes 4 (crc32c (zeros 594441)))
/-- The head of a snapshot of layer 5, up to its check value. -/
def snapHead : List Byte := leBytes 4 0x534C5853 ++ leBytes 1 0x10 ++ leBytes 1 1 ++ zeros 2 ++ leBytes 4 5 ++ zeros 8
/-- DRAM with a snapshot of zeros at its base. -/
def snapMem : Mem := cellsAt dramBase (snapHead ++ leBytes 4 (crc32c (zeros 33554432)))
/-- The head of a ratio table, up to its check value. -/
def ratioHead : List Byte := leBytes 4 0x52545853 ++ leBytes 1 0x10 ++ zeros 3 ++ leBytes 4 9
/-- DRAM with a ratio table of zeros at its base. -/
def ratioMem : Mem := cellsAt dramBase (ratioHead ++ leBytes 4 (crc32c (zeros 2050)))
/-- A correction map without entries. -/
def mapImage : List Byte := leBytes 4 0x4D435853 ++ leBytes 1 0x10 ++ zeros 7 ++ leBytes 4 0 ++ leBytes 4 (crc32c []) ++ zeros 44
/-- Parameters of a table command: address, length, third word. -/
def tabPk (scope len w : Nat) : Packet := pk scope (leBytes 8 dramBase ++ leBytes 4 len ++ leBytes 4 w)
def withDram (bs : List Byte) (s : State) : State := { s with dram := Mem.writeBytes 0#8 [] dramBase bs }
/-- The state with no exposure profile of more than one head. -/
def oneHead (s : State) : State := { s with cyc := { s.cyc with profile := { profile := 15, heads := 1, cam := 0 } } }

theorem cellsAt_below (a : Nat) (bs : List Byte) : ∀ c ∈ cellsAt a bs, c.1 < a + bs.length := by
  induction bs generalizing a with
  | nil => intro c h; simp [cellsAt] at h
  | cons b bs ih =>
    intro c h
    simp only [cellsAt, List.mem_cons] at h
    simp only [List.length_cons]
    rcases h with rfl | h
    · exact Nat.lt_add_of_pos_right (Nat.succ_pos _)
    · have := ih (a + 1) c h; omega

theorem readBytes_skip (d b : Byte) (m : Mem) (a n x : Nat) (h : a < x) : Mem.readBytes d ((a, b) :: m) x n = Mem.readBytes d m x n := by
  induction n generalizing x with
  | zero => rfl
  | succ n ih =>
    simp only [Mem.readBytes, Mem.read]
    rw [if_neg (by omega), if_neg (by omega), ih (x + 1) (by omega)]

theorem readBytes_cellsAt (a : Nat) (bs : List Byte) : Mem.readBytes 0#8 (cellsAt a bs) a bs.length = bs := by
  induction bs generalizing a with
  | nil => rfl
  | cons b bs ih =>
    simp only [cellsAt, List.length_cons, Mem.readBytes, Mem.read, if_true]
    rw [readBytes_skip _ _ _ _ _ _ (Nat.lt_succ_self a), ih]

/-- A field of a range that begins with known bytes. -/
theorem slice_cellsAt (a : Nat) (bs : List Byte) (n off len : Nat) (h : off + len ≤ bs.length) (hn : off + len ≤ n) :
    slice (Mem.readBytes 0#8 (cellsAt a bs) a n) off len = slice bs off len := by
  rw [Mem.slice_readBytes _ _ _ _ _ _ hn, ← Mem.slice_readBytes _ _ _ bs.length _ _ h, readBytes_cellsAt]
/-- A part of it behind them. -/
theorem slice_behind (a : Nat) (bs : List Byte) (n off len : Nat) (h : bs.length ≤ off) (hn : off + len ≤ n) :
    slice (Mem.readBytes 0#8 (cellsAt a bs) a n) off len = zeros len := by
  rw [Mem.slice_readBytes _ _ _ _ _ _ hn]
  exact Mem.readBytes_above _ _ fun c hc => Nat.lt_of_lt_of_le (cellsAt_below a bs c hc) (by omega)

/-- The bytes of a good image head, whatever its check value. -/
theorem fc_fields (v : Nat) :
    let b := fcHead ++ leBytes 4 v
    leNat (slice b 4 1) = 0x10 ∧ leNat (slice b 0 4) = 0x43465853 ∧ leNat (slice b 5 1) = 6 ∧ slice b 6 2 = zeros 2 ∧ slice b 14 2 = zeros 2 ∧
      leNat (slice b 8 3) = 0 ∧ leNat (slice b 11 3) = 0 ∧ slice b 20 4 = leBytes 4 v ∧ b.length = 24 :=
  by simp [fcHead, slice, leBytes, leNat, zeros, List.replicate]
theorem snap_fields (v : Nat) :
    let b := snapHead ++ leBytes 4 v
    leNat (slice b 4 1) = 0x10 ∧ leNat (slice b 0 4) = 0x534C5853 ∧ leNat (slice b 5 1) = 1 ∧ slice b 6 2 = zeros 2 ∧ slice b 18 2 = zeros 2 ∧
      leNat (slice b 12 3) = 0 ∧ leNat (slice b 15 3) = 0 ∧ slice b 20 4 = leBytes 4 v ∧ b.length = 24 :=
  by simp [snapHead, slice, leBytes, leNat, zeros, List.replicate]

/-- The field-correction image passes its checks (R105). -/
theorem fc_passes : fcFail (Mem.readBytes 0#8 fcMem dramBase fcImageLen) = none := by
  have az (n : Nat) : allZero (zeros n) = true := allZero_replicate n
  have bound : crc32c (zeros 594441) < 256 ^ 4 := crc32c_lt _
  unfold fcMem
  generalize hv : crc32c (zeros 594441) = v at *
  obtain ⟨h1, h2, h3, h4, h5, h6, h7, h8, h9⟩ := fc_fields v
  unfold fcFail fcImageLen field
  generalize fcHead ++ leBytes 4 v = b at *
  rw [slice_cellsAt _ _ _ 4 1 (by omega) (by decide), slice_cellsAt _ _ _ 0 4 (by omega) (by decide), slice_cellsAt _ _ _ 5 1 (by omega) (by decide),
    slice_cellsAt _ _ _ 6 2 (by omega) (by decide), slice_cellsAt _ _ _ 14 2 (by omega) (by decide), slice_cellsAt _ _ _ 8 3 (by omega) (by decide),
    slice_cellsAt _ _ _ 11 3 (by omega) (by decide), slice_cellsAt _ _ _ 20 4 (by omega) (by decide), slice_behind _ _ _ 24 40 (by omega) (by decide),
    slice_behind _ _ _ 594505 55 (by omega) (by decide), slice_behind _ _ _ 64 594441 (by omega) (by decide), h1, h2, h3, h4, h5, h6, h7, h8, hv,
    leNat_leBytes 4 v bound]
  simp only [firstFail, az]
  simp

/-- The snapshot passes its checks (R253) on a device with the default pitch and origin. -/
theorem snap_passes (s : State) (hp : s.pitchCode = 1) (hx : s.originX = 0) (hy : s.originY = 0) :
    s.snapFail (Mem.readBytes 0#8 snapMem dramBase snapLen) = none := by
  have az (n : Nat) : allZero (zeros n) = true := allZero_replicate n
  have bound : crc32c (zeros 33554432) < 256 ^ 4 := crc32c_lt _
  unfold snapMem
  generalize hv : crc32c (zeros 33554432) = v at *
  obtain ⟨h1, h2, h3, h4, h5, h6, h7, h8, h9⟩ := snap_fields v
  unfold State.snapFail snapLen field
  generalize snapHead ++ leBytes 4 v = b at *
  rw [slice_cellsAt _ _ _ 4 1 (by omega) (by decide), slice_cellsAt _ _ _ 0 4 (by omega) (by decide), slice_cellsAt _ _ _ 5 1 (by omega) (by decide),
    slice_cellsAt _ _ _ 6 2 (by omega) (by decide), slice_cellsAt _ _ _ 18 2 (by omega) (by decide), slice_cellsAt _ _ _ 12 3 (by omega) (by decide),
    slice_cellsAt _ _ _ 15 3 (by omega) (by decide), slice_cellsAt _ _ _ 20 4 (by omega) (by decide), slice_behind _ _ _ 24 40 (by omega) (by decide),
    slice_behind _ _ _ 64 33554432 (by omega) (by decide), h1, h2, h3, h4, h5, h6, h7, h8, hv, leNat_leBytes 4 v bound, hp, hx, hy]
  simp only [firstFail, az]
  simp

theorem ratio_fields (v : Nat) :
    let b := ratioHead ++ leBytes 4 v
    leNat (slice b 4 1) = 0x10 ∧ leNat (slice b 0 4) = 0x52545853 ∧ slice b 5 3 = zeros 3 ∧ slice b 12 4 = leBytes 4 v ∧ b.length = 16 :=
  by simp [ratioHead, slice, leBytes, leNat, zeros, List.replicate]
/-- The ratio table passes its checks (R178). -/
theorem ratio_passes : ratioFail (Mem.readBytes 0#8 ratioMem dramBase 2176) = none := by
  have az (n : Nat) : allZero (zeros n) = true := allZero_replicate n
  have bound : crc32c (zeros 2050) < 256 ^ 4 := crc32c_lt _
  unfold ratioMem
  generalize hv : crc32c (zeros 2050) = v at *
  obtain ⟨h1, h2, h3, h4, h5⟩ := ratio_fields v
  unfold ratioFail field
  generalize ratioHead ++ leBytes 4 v = b at *
  rw [slice_cellsAt _ _ _ 4 1 (by omega) (by decide), slice_cellsAt _ _ _ 0 4 (by omega) (by decide), slice_cellsAt _ _ _ 5 3 (by omega) (by decide),
    slice_cellsAt _ _ _ 12 4 (by omega) (by decide), slice_behind _ _ _ 16 48 (by omega) (by decide), slice_behind _ _ _ 2114 62 (by omega) (by decide),
    slice_behind _ _ _ 64 2050 (by omega) (by decide), h1, h2, h3, h4, hv, leNat_leBytes 4 v bound]
  simp only [firstFail, az]
  simp

/-- A packet that loads the ratio table of zeros into head 31, and the device it comes to. -/
def ratioPk : Packet := sealedAs 0x5000 (tabPk 31 2176 0)
def ratioState (d : DevState) (ph : Phase) : State := { inPhase ph d with dram := ratioMem }
theorem ratio_starts (d : DevState) (ph : Phase) (h : tableStates.contains d = true) : startsNow mpsRatioLoadSpec ratioPk (ratioState d ph) = true := by
  refine sealed_starts ⟨rfl, rfl⟩ ?_
  have e : firstFail (headerRange (mpsRatioLoadSpec.critical ratioPk (taken ratioPk (ratioState d ph))) ratioPk ::
      mpsRatioLoadSpec.checks ratioPk (taken ratioPk (ratioState d ph)) ++
        [(noSpace (mpsRatioLoadSpec.resultLen ratioPk (taken ratioPk (ratioState d ph))) ratioPk, stResultSpace)]) = none := by
    obtain ⟨h, e⟩ := taken_eq ratioPk (ratioState d ph)
    rw [e]
    have f1 : headerRange true ratioPk = (false, stRange) := by decide +kernel
    have f2 : tabAddr ratioPk = dramBase ∧ alignAddr ratioPk = (false, stAlign) ∧ noSpace 0 ratioPk = false := by decide +kernel
    generalize hv : ({ ratioState d ph with dt := max (ratioState d ph).dt ratioPk.t, tx := [], host := h } : State) = v
    have r : v.dram = ratioMem := by rw [← hv]; rfl
    have hr : headTableRange 2176 ratioPk v = false := by
      have f3 : headTableRange 2176 ratioPk { mem := mem0 } = false := by decide +kernel
      rw [← hv]
      exact f3
    have po : v.poisoned dramBase 2176 = false := by rw [← hv]; rfl
    have rl : (v.mpsHead ratioPk.scope).ratioLoad.isSome = false := by rw [← hv]; rfl
    simp only [mpsRatioLoadSpec, State.dramRead, dramDefault, r, f2, ratio_passes, hr, po, rl, f1, List.cons_append, List.nil_append, firstFail,
      Option.isSome_none]
    decide
  unfold startsBut
  simp only [Bool.and_eq_true, Option.isNone_iff_eq_none]
  refine ⟨⟨⟨⟨⟨⟨⟨⟨⟨⟨⟨⟨?_, ?_⟩, ?_⟩, ?_⟩, ?_⟩, ?_⟩, ?_⟩, ?_⟩, ?_⟩, ?_⟩, ?_⟩, ?_⟩, e⟩
  all_goals cases d <;> cases ph <;> first | decide +kernel | (revert h; decide +kernel)

/-- A packet that loads the image of zeros, and the device it comes to. -/
def fcPk : Packet := sealedAs 0x2000 (tabPk 0 fcImageLen 0)
def fcState (d : DevState) (ph : Phase) : State := { inPhase ph d with dram := fcMem }
theorem fc_starts (d : DevState) (ph : Phase) (h : tableStates.contains d = true) : startsNow trjFcLoadSpec fcPk (fcState d ph) = true := by
  refine sealed_starts ⟨rfl, rfl⟩ ?_
  have e : firstFail (headerRange (trjFcLoadSpec.critical fcPk (taken fcPk (fcState d ph))) fcPk ::
      trjFcLoadSpec.checks fcPk (taken fcPk (fcState d ph)) ++ [(noSpace (trjFcLoadSpec.resultLen fcPk (taken fcPk (fcState d ph))) fcPk, stResultSpace)]) = none := by
    obtain ⟨h, e⟩ := taken_eq fcPk (fcState d ph)
    rw [e]
    have ha : tabAddr fcPk = dramBase := by decide +kernel
    have f1 : headerRange true fcPk = (false, stRange) := by decide +kernel
    have f2 : fcPk.scope = 0 ∧ fcPk.zeroAt 12 4 = true ∧ tabLen fcPk = fcImageLen := by decide +kernel
    have f4 : alignAddr fcPk = (false, stAlign) := by decide +kernel
    have f7 : noSpace 0 fcPk = false := by decide +kernel
    have f3 : decide (dramBase ≤ dramBase ∧ dramBase + fcImageLen ≤ State.reservedBase { mem := mem0 }) = true := by decide +kernel
    have r : (fcState d ph).dram = fcMem := rfl
    have r2 : (fcState d ph).mem = mem0 := rfl
    have r3 : (fcState d ph).otp = {} := rfl
    have r4 : (fcState d ph).head = {} := rfl
    have g3 : State.dramOk { mem := mem0 } dramBase fcImageLen = true := f3
    simp only [trjFcLoadSpec, State.dramRead, dramDefault, ha, r, fc_passes, headTableRange, f1, f4, f7, List.cons_append, List.nil_append, firstFail,
      Option.isSome_none, State.dramOk, State.reservedBase, State.installed, State.heads, State.poisoned, State.trj, r2, r3, r4, f2, mem0]
    decide
  unfold startsBut
  simp only [Bool.and_eq_true, Option.isNone_iff_eq_none]
  refine ⟨⟨⟨⟨⟨⟨⟨⟨⟨⟨⟨⟨?_, ?_⟩, ?_⟩, ?_⟩, ?_⟩, ?_⟩, ?_⟩, ?_⟩, ?_⟩, ?_⟩, ?_⟩, ?_⟩, e⟩
  all_goals cases d <;> cases ph <;> first | decide +kernel | (revert h; decide +kernel)
/-- A finished capture of loop 5, and a readout that is due. -/
def cap0 : Capture := { loop := 5, raw := [0, 255, 255, 255], nodes := [0], trigger := 0, length := 1, pre := 0, mask := 0, state := .done, rows := [(7, [9])] }
def capState : State := { base .ready with loop := { captures := [cap0] } }
def rd0 : Readout := { acc := 0, addr := dramBase, col := 0, row := 0, width := 1, height := 1, kind := 0, fence := false, at_ := some 90, out := [1#8, 2#8] }
/-- A good CAP_UP content, and an ECHO_UP content whose value R is 150 at device time 300. -/
def capGood : List Byte :=
  leBytes 1 0x82 ++ zeros 7 ++ leBytes 4 0x43485853 ++ leBytes 1 2 ++ zeros 3 ++ leBytes 1 7 ++ leBytes 1 3 ++ leBytes 1 1 ++ zeros 1 ++ leBytes 4 1000 ++
    leBytes 4 1000 ++ zeros 44
def echoBytes : List Byte := leBytes 1 0x84 ++ zeros 7 ++ leBytes 8 50 ++ leBytes 8 100 ++ leBytes 8 200
/-- The device in EXPOSE, no head with work. -/
def exposing0 : State := { inPhase .expose .armed with lay := { heads := List.replicate 32 {} } }
/-- A device whose sensor port 0 is `x`. -/
def camPort (d : DevState) (x : ImgPort) : State := { base d with img := { ports := x :: List.replicate 7 {} } }
/-- A port configuration: enabled, 64 by 64 pixels of code 0. -/
def cam0 : Nat := 1 + 256 * 4 + 65536 * 64 + 2 ^ 32 * 64
def trig0 : ImgTrigger := { due := 200, role := 1, index := 0, layer := 5 }
def frame0 : ImgFrame := { number := 3, sof := 200, role := 1, index := 0, layer := 5, genPipe := 0, genCamera := 0, set := {} }
def ctl0 (w : Bool) : CamCtl := { write := w, addr := 64, data := [], len := 4, dram := dramBase, acc := some 4, gen := 0, attempts := 1 }
/-- A device whose axis 0 is enabled and stands as `x`, with a feedback channel or none (255). -/
def axis0 (fbk : Nat) (x : Axis) : State :=
  withPar [(parKey 0x9000 0, 256 * fbk + 1), (parKey 0x9002 0, 100000), (parKey 0x9006 0, 1000000 * 2 ^ 32), (parKey 0x9009 0, 65536)]
    { base .ready with mot := { axes := x :: List.replicate 7 {} } }
/-- A device whose feedback channel 0 is configured by `cfg` and stands as `x`. -/
def chan0 (cfg : Nat) (x : FbkChannel) : State :=
  withPar [(parKey 0xA000 0, cfg)] { base .ready with fbk := { channels := x :: List.replicate 8 {} } }
/-- A device whose emitter bus 0 is on with driver 0 and stands as `x`. -/
def emit0 (x : EmdBus) : State := withPar [(parKey 0xB000 0, 1 + 256 * 4 + 2 ^ 64)] { base .ready with emd := x :: List.replicate 3 {} }
/-- A driver's reply: status word 5 and the CRC `c`. -/
def reply0 (c : Nat) : List Byte := leBytes 4 5 ++ leBytes 2 c ++ leBytes 1 (crc8 (leBytes 4 5 ++ leBytes 2 c))
/-- The device with host interface `f host0`. -/
def withHost (f : HostIf → HostIf) (s : State) : State := { s with host := f s.host }
/-- The slot of an inline NOP. -/
def nopBytes : List Byte := leBytes 2 0 ++ leBytes 1 0x30 ++ zeros 1 ++ leBytes 2 2 ++ leBytes 2 7 ++ leBytes 2 0xFFFF ++ zeros 6
def nopSlot (pad : Nat) : List Byte := leBytes 1 0 ++ zeros 1 ++ leBytes 2 7 ++ zeros 12 ++ nopBytes ++ zeros 24 ++ leBytes 8 pad
/-- A NOP that waits since DT 100, with acceptance number 1. -/
def wait0 (lease : Option Nat) : WaitingCmd := { acc := 1, opcode := 0, packet := pk 0xFFFF [], since := 100, lease := lease }
/-- The running command ahead of it. -/
def ahead0 : InProg := { acc := 0, opcode := 0x0012, packet := pk 0xFFFF [] }
/-- A lease entry in the journal. -/
def lease0 : JournalReq := { type := 1, payload := leBytes 1 0 ++ zeros 7 ++ leBytes 8 70000, use := .lease 0 }
/-- A device whose DMA channel 0 is enabled with anchor 4096 and 16 entries, and stands as `x`. -/
def dma0 (x : DmaChannel) : State :=
  withPar [(devPar 0xD100, 1 + 65536 * 4 + 2 ^ 64 * 4096)] { base .ready with dma := { channels := x :: List.replicate 31 {} } }
/-- A descriptor: operation, spaces, length, source, destination, operand. -/
def desc0 (op spaces len src dst v : Nat) : List Byte :=
  zeros 8 ++ leBytes 1 op ++ leBytes 1 spaces ++ zeros 2 ++ leBytes 4 len ++ leBytes 8 src ++ leBytes 8 dst ++ leBytes 8 v ++ leBytes 8 7 ++ zeros 16
/-- Source 5 as `x`. -/
def src5 (x : IntSource) : State := { base .ready with int := { sources := updAt (List.replicate 256 {}) 5 fun _ => x } }
/-- Store `n` as `x`. -/
def store0 (n : Nat) (x : Store) : State := { base .ready with mem := { mem0 with stores := updAt (List.replicate 4 {}) n fun _ => x } }
/-- DDR5 channel 0 as `x`. -/
def dram0 (x : Channel) : State := { base .ready with mem := { mem0 with channels := x :: List.replicate 3 { inService := true } } }
/-- A device with port 0 of Ethernet enabled and locked, on a network that follows a grandmaster. -/
def eth0 (f : NetState → NetState) : State :=
  withPar [(parKey 0xE000 0, 1), (devPar 0xE010, 1)] { base .ready with net := f { ports := { lock := true } :: List.replicate 3 {} } }
/-- A device of pair role `r` whose peer link is up. -/
def pair0 (r : Nat) (f : PairState → PairState) (s : State) : State := withPar [(devPar 0xC100, r)] { s with pair := f { link := true, mode := .paired } }
/-- A MESSAGE of a type. -/
def msg0 (type : Nat) (payload : List Byte) : List Byte := peerMessage type 9 50 payload
/-- Good payloads of the peer's messages: CAP of a secondary, an ECHO, a CYCLE event. -/
def cap1 (s : State) : List Byte := leBytes 1 (3 - s.role) ++ s.capPayload.drop 1
def echo1 (a b c : Nat) : List Byte := leBytes 8 a ++ leBytes 8 b ++ leBytes 8 c
def cycle1 (event cause dt : Nat) : List Byte := zeros 4 ++ leBytes 1 event ++ leBytes 1 cause ++ zeros 2 ++ leBytes 8 dt ++ zeros 1032
/-- A journal entry that is no lease. -/
def jreq0 (n : Nat) : JournalReq := { type := 0x12, payload := zeros 16, use := .capture, attempts := n }
/-- A device whose recorder is `r`. -/
def rec0 (d : DevState) (r : Recorder) : State := { base d with recorder := r }
/-- A device whose service block is `x`. -/
def svc0 (d : DevState) (x : Service) : State := { base d with svc := x }
/-- A trim of front end 0 of channel mode 1 at step `n` since DT 0. -/
def trim0 (n : Nat) (k : TrimKind) : Trim := { fe := 0, step := n, inPlace := false, kind := k, since := 0, cfg := 2 ^ 40, candidate := [1, 2, 3, 4, 5], result := 1 }
/-- A boot on which every test passes, without flash to boot from. -/
def boot0 : BootInputs := { dramFail := 0, setAPass := true, setBPass := true, selfTestPass := true, tEnd := 900000000, temp := [400, 400, 400], programmed := [] }

/-- What `Obligations.DeviceIdles`, `Obligations.RejectionHasNoEffect` and `Obligations.DeviceTimeNeverDecreases` assume is met. -/
theorem test_meets_deviceIdles : State.reset.pending = [] ∧ State.reset.up = false := by decide
theorem test_meets_deviceTimeNeverDecreases : step State.reset = .next State.reset := rfl
theorem test_meets_rejectionHasNoEffect :
    let p := pk 0xFFFF (zeros 8)
    let s := base .ready
    s.up = true ∧ (∀ st s, nopSpec.onReject p st s = s) ∧ checkFail nopSpec s.host.nextAcc (versionFor p s) p (taken p s) = some stLength ∧
      (fixVersion ((s.at p.t).fixedVersion p.origin) p.version).isSome :=
  ⟨by decide +kernel, fun _ _ => rfl, by decide +kernel, by decide +kernel⟩
/-- Each clause of `Obligations.FirstStatusWins`, at a NOP, an ARM without a trailer, one in the wrong state, and a PROFILE_CHECK out of range. -/
theorem test_meets_firstStatusWins :
    lengthOk nopSpec (pk 0xFFFF (zeros 8)) = false ∧ (lengthOk nopSpec (pk 0xFFFF []) = true ∧ 0x20 / 16 ≠ nopSpec.major) ∧
      (lengthOk armSpec (pk 0xFFFF []) = true ∧ 0x30 / 16 = armSpec.major ∧ armSpec.fromMinor ≤ 0x30 % 16 ∧
        authFail armSpec.opcode 1 (armSpec.critical (pk 0xFFFF []) (base .ready)) (pk 0xFFFF []) (base .ready) = some stAuth) ∧
      (authFail readyEnterSpec.opcode 1 (readyEnterSpec.critical (pk 0xFFFF []) (base .hold)) (pk 0xFFFF []) (base .hold) = none ∧
        readyEnterSpec.stateFail (pk 0xFFFF []) (base .hold) = some stState) ∧
      (nopSpec.stateFail { pk 0xFFFF [] with zero := 1 } (base .ready) = none ∧
        (headerRange (nopSpec.critical { pk 0xFFFF [] with zero := 1 } (base .ready)) { pk 0xFFFF [] with zero := 1 }).1 = true) ∧
      (nopSpec.stateFail (pk 0xFFFF []) (base .ready) = none ∧ (headerRange (nopSpec.critical (pk 0xFFFF []) (base .ready)) (pk 0xFFFF [])).1 = false ∧
        firstFail (nopSpec.checks (pk 0xFFFF []) (base .ready)) = none) := by decide +kernel
/-- Each clause of `Obligations.AuthenticationOrder`: slot 8, an EMPTY slot, a wrong MAC, an old counter, a new one. -/
theorem test_meets_authenticationOrder :
    (pk 0xFFFF []).trailer = none ∧ 7 < 8 ∧ ((base .ready).host.keys.getD 7 {}).activeFor 1 = false ∧
      (((base .ready).host.keys.getD 0 {}).activeFor 1 = true ∧ ((base .ready).host.keys.getD 0 {}).last < 9 ∧ (9 ≤ ({ last := 9 } : KeySlot).last)) ∧
      (∀ t, (sealedAs 0x0021 (pk 0xFFFF [])).trailer = some t → t.mac = cmac ((base .ready).host.keys.getD t.slot {}).key ((sealedAs 0x0021 (pk 0xFFFF [])).signed 0x0021)) ∧
      (∀ k m, cmac k m ++ [0#8] ≠ cmac k m) := by
  refine ⟨rfl, by decide, by decide +kernel, ⟨by decide +kernel, by decide +kernel, by decide⟩, ?_, ?_⟩
  · intro t ht
    have e := Option.some.inj ht
    rw [← e]
    rfl
  · intro k m h
    simpa using congrArg List.length h

/-- `startsNow` of a packet without a trailer, but for the checks of its row. -/
def startsOpen (c : CmdSpec) (p : Packet) (s : State) : Bool :=
  let u := s.at p.t
  let v := taken p s
  u.accepts && u.originOk p.origin && (u.tagMatch p).isNone &&
    !(({ u with host := { u.host with nextAcc := u.host.nextAcc + 1 } } : State).blocked u.host.nextAcc p) &&
    (s.host.inProg.all fun i => i.acc != s.host.nextAcc) && (fixVersion (u.fixedVersion p.origin) p.version).isSome && leased p v &&
    lengthOk c p && versionFor p s / 16 == c.major && decide (c.fromMinor ≤ versionFor p s % 16) &&
    (authFail c.opcode s.host.nextAcc (c.critical p v) p v).isNone && (c.stateFail p v).isNone
theorem startsNow_of_open {c : CmdSpec} {p : Packet} {s : State} (h : startsOpen c p s = true)
    (hf : firstFail (headerRange (c.critical p (taken p s)) p :: c.checks p (taken p s) ++ [(noSpace (c.resultLen p (taken p s)) p, stResultSpace)]) = none) :
    startsNow c p s = true := by
  simp only [startsOpen, Bool.and_eq_true, Bool.not_eq_true', Option.isNone_iff_eq_none, decide_eq_true_eq, beq_iff_eq] at h
  obtain ⟨⟨⟨⟨⟨⟨⟨⟨⟨⟨⟨a1, a2⟩, a3⟩, a4⟩, a5⟩, a6⟩, a7⟩, a8⟩, a9⟩, a10⟩, a11⟩, a12⟩ := h
  have e : checkFail c s.host.nextAcc (versionFor p s) p (taken p s) = none := by
    have hv : ¬ versionFor p s % 16 < c.fromMinor := by omega
    unfold checkFail
    simpa [a8, a9, hv, a11, a12] using hf
  simp only [startsNow, Bool.and_eq_true, Bool.not_eq_true', Option.isNone_iff_eq_none]
  exact ⟨⟨⟨⟨⟨⟨⟨a1, a2⟩, a3⟩, a4⟩, a5⟩, a6⟩, e⟩, a7⟩

/-- Tone curves of zeros pass (R272). -/
theorem test_meets_imagingCommandsAct_tones : startsNow imgToneLoadSpec (pk 0 (leBytes 8 dramBase ++ leBytes 8 8192)) (camPort .ready {}) = true := by
  have e : Mem.readBytes dramDefault [] dramBase 8192 = zeros 8192 := Mem.readBytes_above _ _ fun c hc => by simp at hc
  have z (i : Nat) : field (zeros 8192) (2 * i) 2 = 0 := by
    unfold field slice zeros
    rw [List.drop_replicate, List.take_replicate]
    generalize min 2 (8192 - 2 * i) = n
    induction n with
    | zero => rfl
    | succ n ih => simp [List.replicate_succ, leNat, ih]
  have any : ((List.range 4096).any fun i => decide (1023 < field (zeros 8192) (2 * i) 2)) = false := by simp only [z]; decide +kernel
  generalize hp : pk 0 (leBytes 8 dramBase ++ leBytes 8 8192) = p
  have a0 : p.fld 0 8 = dramBase := by rw [← hp]; decide +kernel
  have a1 : (portScope p || decide (p.fld 8 4 ≠ 8192) || !p.zeroAt 12 4) = false := by rw [← hp]; decide +kernel
  have r : (taken p (camPort .ready {})).dram = [] ∧ State.dramOk (taken p (camPort .ready {})) dramBase 8192 = true ∧
      State.poisoned (taken p (camPort .ready {})) dramBase 8192 = false := by rw [← hp]; decide +kernel
  have c : firstFail (headerRange (imgToneLoadSpec.critical p (taken p (camPort .ready {}))) p ::
      imgToneLoadSpec.checks p (taken p (camPort .ready {})) ++ [(noSpace (imgToneLoadSpec.resultLen p (taken p (camPort .ready {}))) p, stResultSpace)]) = none := by
    have h1 : headerRange (imgToneLoadSpec.critical p (taken p (camPort .ready {}))) p = (false, stRange) := by rw [← hp]; decide +kernel
    have h2 : noSpace (imgToneLoadSpec.resultLen p (taken p (camPort .ready {}))) p = false := by rw [← hp]; decide +kernel
    rw [h1, h2]
    simp only [imgToneLoadSpec, State.dramRead, a0, a1, r, e, any, List.cons_append, List.nil_append, firstFail]
    decide
  refine startsNow_of_open ?_ c
  rw [← hp]
  decide +kernel

/-- An image of FORMAT 0x10 for every part, its payload of 65,536 zeros, and the signature that the key's holder makes of it. -/
def fwHead : List Byte := leBytes 4 0x57465853 ++ leBytes 1 0x10 ++ zeros 3 ++ leBytes 4 9 ++ leBytes 2 0x10 ++ zeros 2 ++ leBytes 4 65536 ++ leBytes 1 7 ++ zeros 43
def fwBody : List Byte := fwHead ++ zeros 65536
def fwSig : List Byte := (padTo 96 (Config.signatureOf fwBody)).take 96
def fwImage0 : List Byte := fwBody ++ (fwSig ++ zeros 32)
theorem fwBody_length : fwBody.length = 65600 := by
  have : fwHead.length = 64 := by decide
  simp only [fwBody, List.length_append, this, zeros, List.length_replicate]
theorem fwSig_length : fwSig.length = 96 := by simp [fwSig, padTo, zeros]; omega
theorem fwImage0_length : fwImage0.length = 65728 := by
  simp only [fwImage0, List.length_append, fwBody_length, fwSig_length, zeros, List.length_replicate]
/-- A field within the image's head, and the parts behind it. -/
theorem slice_head (off len : Nat) (h : off + len ≤ 64) : slice fwImage0 off len = slice fwHead off len := by
  have : fwHead.length = 64 := by decide
  unfold slice fwImage0 fwBody
  rw [List.append_assoc, List.drop_append_of_le_length (by omega), List.take_append_of_le_length]
  rw [List.length_drop]
  omega
theorem slice_tail : slice fwImage0 65696 32 = zeros 32 := by
  unfold slice fwImage0
  rw [← List.append_assoc, List.drop_append, List.drop_eq_nil_of_le (by simp [fwBody_length, fwSig_length])]
  simp [fwBody_length, fwSig_length, zeros]
theorem slice_sig : slice fwImage0 65600 96 = fwSig := by
  unfold slice fwImage0
  rw [List.drop_append, List.drop_eq_nil_of_le (by simp [fwBody_length]), fwBody_length]
  simp [fwSig_length]
/-- The image passes the checks of R531. -/
theorem fw_passes (s : State) (hg : s.otp = {}) (hs : s.svc = {}) : s.fwFail 65728 fwImage0 = none := by
  have f (off len : Nat) (h : off + len ≤ 64) : field fwImage0 off len = field fwHead off len := by
    unfold field
    rw [slice_head off len h]
  have h16 : field fwImage0 16 4 = 65536 := by rw [f 16 4 (by decide)]; decide
  have sig : imageVerifies (fwImage0.take 65728) = true := by
    rw [List.take_of_length_le (Nat.le_of_eq fwImage0_length)]
    have e : fwImage0.take 65600 = fwBody := by
      unfold fwImage0
      rw [List.take_append_of_le_length (Nat.le_of_eq fwBody_length.symm), List.take_of_length_le (Nat.le_of_eq fwBody_length)]
    simp only [imageVerifies, h16]
    rw [show 65536 + 64 = 65600 from rfl, slice_sig, e]
    simp [fwSig]
  have hd : fwHeaderOk s.otp.grade (some 65728) fwImage0 = true := by
    unfold fwHeaderOk
    simp only [h16]
    rw [show 65536 + 160 = 65696 from rfl, slice_tail, fwImage0_length, f 0 4 (by decide), f 4 1 (by decide), f 13 1 (by decide), f 20 1 (by decide),
      slice_head 5 3 (by decide), slice_head 14 2 (by decide), slice_head 21 43 (by decide), hg]
    decide
  unfold State.fwFail
  rw [hd, sig, f 13 1 (by decide), f 12 1 (by decide)]
  unfold State.fw
  rw [hs]
  decide
/-- A packet that loads the image, and the device it comes to. -/
def fwPk : Packet := sealedAs 0xF000 (pk 0xFFFF (leBytes 8 dramBase ++ leBytes 8 65728))
def fwState : State := { base .ready with dram := cellsAt dramBase fwImage0 }
theorem test_meets_serviceCommandsAct_fwLoad : startsNow svcFwLoadSpec fwPk fwState = true := by
  refine sealed_starts ⟨rfl, rfl⟩ ?_
  have e : firstFail (headerRange (svcFwLoadSpec.critical fwPk (taken fwPk fwState)) fwPk ::
      svcFwLoadSpec.checks fwPk (taken fwPk fwState) ++ [(noSpace (svcFwLoadSpec.resultLen fwPk (taken fwPk fwState)) fwPk, stResultSpace)]) = none := by
    obtain ⟨h, e⟩ := taken_eq fwPk fwState
    rw [e]
    have f1 : headerRange true fwPk = (false, stRange) := by decide +kernel
    have f2 : fwPk.fld 0 8 = dramBase ∧ fwPk.fld 8 4 = 65728 ∧ fwPk.zeroAt 12 4 = true ∧ noScope fwPk = (false, stRange) ∧ noSpace 0 fwPk = false := by decide +kernel
    have f3 : State.dramOk { mem := mem0 } dramBase 65728 = true := by decide +kernel
    have rd : Mem.readBytes 0#8 (cellsAt dramBase fwImage0) dramBase 65728 = fwImage0 := by rw [← fwImage0_length]; exact readBytes_cellsAt _ _
    have mx : max fwState.dt fwPk.t = 200 := by decide +kernel
    rw [mx]
    generalize hv : ({ fwState with dt := 200, tx := [], host := h } : State) = v
    have r : v.dram = cellsAt dramBase fwImage0 := by rw [← hv]; rfl
    have ps : v.fwFail 65728 fwImage0 = none := fw_passes _ (by rw [← hv]; rfl) (by rw [← hv]; rfl)
    have ok : v.dramOk dramBase 65728 = true := by rw [← hv]; exact f3
    have po : v.poisoned dramBase 65728 = false := by rw [← hv]; rfl
    have rt : v.fw.setRetired = false := by rw [← hv]; rfl
    simp only [svcFwLoadSpec, State.dramRead, dramDefault, r, rd, ps, ok, po, rt, f1, f2, List.cons_append, List.nil_append, firstFail, Option.isSome_none]
    decide
  unfold startsBut
  simp only [Bool.and_eq_true, Option.isNone_iff_eq_none]
  refine ⟨⟨⟨⟨⟨⟨⟨⟨⟨⟨⟨⟨?_, ?_⟩, ?_⟩, ?_⟩, ?_⟩, ?_⟩, ?_⟩, ?_⟩, ?_⟩, ?_⟩, ?_⟩, ?_⟩, e⟩
  all_goals decide +kernel
/-- The snapshot in a slot that loads it (R253). -/
def snapState : State := { base .ready with dram := snapMem, ledger := { slots := [{ state := .loading, load := some (4, dramBase) }, {}] } }
theorem test_meets_ledgerEventsAct_snapshot :
    snapState.up = true ∧ ((List.range 2).find? fun i => (snapState.ledger.slots.getD i {}).load.isSome) = some 0 ∧
      snapState.ledger.slots[0]? = some { state := .loading, load := some (4, dramBase) } ∧
      snapState.snapFail (snapState.dramRead dramBase snapLen) = none ∧ snapState.poisoned dramBase snapLen = false :=
  ⟨by decide +kernel, by decide +kernel, rfl, snap_passes _ (by decide +kernel) (by decide +kernel) (by decide +kernel), by decide +kernel⟩


theorem test_meets_cycleStands : (∃ i s t, exec i s = .next t ∧ keepsCycle i = true) ∧ (∃ i s t, exec i s = .next t ∧ keepsEmitters i = true) :=
  ⟨⟨.swiWrite 0 0, State.reset, _, rfl, rfl⟩, ⟨.swiWrite 0 0, State.reset, _, rfl, rfl⟩⟩

theorem test_meets_axesAndCamerasStand :
    (∃ i s t, exec i s = .next t ∧ keepsMotion i = true) ∧ (∃ i s t, exec i s = .next t ∧ keepsImaging i = true) :=
  ⟨⟨.swiWrite 0 0, State.reset, _, rfl, rfl⟩, ⟨.swiWrite 0 0, State.reset, _, rfl, rfl⟩⟩

theorem test_meets_memoryStands : (∃ i s t, exec i s = .next t ∧ keepsDram i = true) ∧ (∃ i s t, exec i s = .next t ∧ keepsFlash i = true) :=
  ⟨⟨.swiWrite 0 0, State.reset, _, rfl, rfl⟩, ⟨.swiWrite 0 0, State.reset, _, rfl, rfl⟩⟩

theorem test_meets_memoryStaysCanonical :
    ∃ s t, step s = .next t ∧ s.dram.wf dramDefault = true ∧ s.flash.wf flashErased = true ∧ s.dram ≠ [] ∧ s.flash ≠ [] :=
  ⟨{ State.reset with dram := [(dramBase, 1#8)], flash := [(0, 0#8)] }, _, rfl, by decide, by decide, by decide, by decide⟩

theorem test_meets_otpNeverChanges : ∃ s t, step s = .next t := ⟨State.reset, _, rfl⟩

theorem test_meets_bar0Acts_release : (base .standby).bar0 = true ∧ ((base .standby).qp 0).enabled = true ∧ 1 % 65536 < ((base .standby).qp 0).slots ∧
    ((base .standby).qp 0).cqUsed < (1 % 65536 + ((base .standby).qp 0).slots - ((base .standby).qp 0).cqHead) % ((base .standby).qp 0).slots := by
  decide +kernel

theorem test_meets_dmaRequestsAct_reserved : (base .standby).bar0 = true ∧ 0 < (base .standby).dma.channels.length ∧ (2 : Nat).testBit 0 = false := by
  decide +kernel

theorem test_meets_interruptsAct_above : (base .standby).up = true ∧ 150 < (base .standby).int.sources.length ∧ 0 < (base .standby).int.cores.length := by
  decide +kernel

/-! Ill-formed terms, one for every check. -/

/-- A well-formed packet; each list below spoils one field. -/
def wfPk : Packet := pk 0 []
def bootSmall : BootInputs :=
  { dramFail := 0, setAPass := true, setBPass := true, selfTestPass := true, tEnd := 0, temp := [0, 0, 0], programmed := [] }
def trailer0 : Trailer := { slot := 0, zero := 0, counter := 0, mac := List.replicate 16 0 }

theorem test_wf_packet_refuses :
    (Instr.nop wfPk).wf = true ∧ (Instr.nop { wfPk with trailer := some trailer0 }).wf = true ∧
      ([{ wfPk with t := 2 ^ 64 }, { wfPk with version := 256 }, { wfPk with flags := 256 }, { wfPk with length := 65536 }, { wfPk with tag := 65536 },
        { wfPk with scope := 65536 }, { wfPk with zero := 2 ^ 48 }, { wfPk with resultSize := 2 ^ 32 }, { wfPk with resultAddr := 2 ^ 64 },
        { wfPk with origin := .qp 64 }, { wfPk with origin := .session 16 }, { wfPk with trailer := some { trailer0 with slot := 256 } },
        { wfPk with trailer := some { trailer0 with zero := 2 ^ 56 } }, { wfPk with trailer := some { trailer0 with counter := 2 ^ 64 } },
        { wfPk with trailer := some { trailer0 with mac := [] } }].all fun p => !(Instr.nop p).wf) = true := by decide

theorem test_wf_events_refuse_0 : ([
    .deviceResetDelayEnd (2 ^ 64), .streamReadWrite (.bar0 (2 ^ 64) 0 0), .streamReadWrite (.bar0 0 5 0),
    .streamReadWrite (.bar0 0 0 (2 ^ 64)), .sqTailWrite (2 ^ 64) 0 0, .sqTailWrite 0 64 0, .sqTailWrite 0 0 (2 ^ 32),
    .cqHeadWrite (2 ^ 64) 0 0, .cqHeadWrite 0 64 0, .cqHeadWrite 0 0 (2 ^ 32), .qp0CfgWrite (2 ^ 64) (.mod 0) 0,
    .qp0CfgWrite 0 (.mod 64) 0, .qp0CfgWrite 0 (.mod 0) (2 ^ 32), .qp0CfgWrite (2 ^ 64) .sqBase 0, .qp0CfgWrite 0 .sqBase (2 ^ 64),
    .pauseWrite (2 ^ 64) 0, .pauseWrite 0 (2 ^ 32), .bar0BadAccess (2 ^ 64) 0 0 false, .bar0BadAccess 0 (2 ^ 16) 0 false,
    .dmaDoorbell (2 ^ 64) 0 0, .dmaDoorbell 0 16 0, .dmaDoorbell 0 0 (2 ^ 32), .dmaRingHeadWrite (2 ^ 64) 0 0, .dmaRingHeadWrite 0 16 0,
    .dmaRingHeadWrite 0 0 (2 ^ 32), .sqFetch (2 ^ 64) [] [], .leaseCommit (2 ^ 64) 0 false, .leaseCommit 0 8 false,
    .fenceRelease (2 ^ 64) 0, .fenceTimeout (2 ^ 64) 0, .cqEntryWrite (2 ^ 64) 0, .cqEntryWrite 0 64, .moderationTimerExpire (2 ^ 64) 0,
    .moderationTimerExpire 0 64, .msixUnmask (2 ^ 64) (.entry 0 0 0 false), .msixUnmask 0 (.entry 64 0 0 false),
    .msixUnmask 0 (.entry 0 (2 ^ 64) 0 false), .msixUnmask 0 (.entry 0 0 (2 ^ 32) false), .msixUnmask (2 ^ 64) (.control false false),
    .functionD0Return (2 ^ 64)] : List Instr).all (fun i => !i.wf) = true := by decide

theorem test_wf_events_refuse_1 : ([
    .functionD3hotEntry (2 ^ 64) false false, .functionReset (2 ^ 64), .udpDatagram (2 ^ 64) 0 0 0 0 false [],
    .udpDatagram 0 4 0 0 0 false [], .udpDatagram 0 0 (2 ^ 128) 0 0 false [], .udpDatagram 0 0 0 (2 ^ 16) 0 false [],
    .udpDatagram 0 0 0 0 (2 ^ 16) false [], .sessionTimeout (2 ^ 64) 0, .sessionTimeout 0 16, .railsInWindow (2 ^ 64),
    .railOutOfWindow (2 ^ 64) 0, .railOutOfWindow 0 8, .supplyWarning (2 ^ 64) 0, .supplyWarning 0 8, .pwrfailAssert (2 ^ 64) 0,
    .resetPin (2 ^ 64) 0, .junctionOver115 (2 ^ 64) 0 0, .junctionOver115 0 3 0, .junctionOver125 (2 ^ 64) 0 0, .junctionOver125 0 3 0,
    .watchdogReset (2 ^ 64), .resetRelease (2 ^ 64) bootSmall, .resetRelease 0 { bootSmall with tEnd := 2 ^ 64 },
    .resetRelease 0 { bootSmall with temp := [] }, .interlockOpen (2 ^ 64) 0, .interlockOpen 0 2, .interlockClose (2 ^ 64) 0,
    .interlockClose 0 2, .intlkDiscrepancy (2 ^ 64), .witnessPin (2 ^ 64), .witnessTimeout (2 ^ 64), .islandFault (2 ^ 64) 0 0,
    .islandFault 0 45 0, .islandFault 0 0 2, .islandSelfTestEnd (2 ^ 64) 0 false, .islandSelfTestEnd 0 45 false,
    .fwStandbyReady (2 ^ 64), .fwQuiescentPoint (2 ^ 64) false, .fwCommitDone (2 ^ 64) false, .quireLoadStart (2 ^ 64)] : List Instr).all (fun i => !i.wf) = true := by decide

theorem test_wf_events_refuse_2 : ([
    .signatureLoadEnd (2 ^ 64), .longSegmentFree (2 ^ 64), .exposeStart (2 ^ 64), .slotBoundary (2 ^ 64), .loopDeadlineMiss (2 ^ 64) 0,
    .loopDeadlineMiss 0 256, .sampleUp (2 ^ 64) 0 [], .sampleUp 0 32 [], .sampleMissing (2 ^ 64) 0 0, .sampleMissing 0 32 0,
    .frameResult (2 ^ 64) 0, .frameResult 0 32, .frameTruncated (2 ^ 64) 0, .frameTruncated 0 32, .mpsFlushTimeout (2 ^ 64),
    .mpsRingWrite (2 ^ 64), .hostRingCopy (2 ^ 64) 0, .hostRingCopy 0 5, .linkLoss (2 ^ 64) 0 false, .linkLoss 0 32 false,
    .cfgAckTimeout (2 ^ 64) 0, .cfgAckTimeout 0 32, .blockLockLost (2 ^ 64) 0, .blockLockLost 0 32, .blockLockHeld (2 ^ 64) 0,
    .blockLockHeld 0 32, .capDownSend (2 ^ 64) 0, .capDownSend 0 32, .capUp (2 ^ 64) 0 [], .capUp 0 32 [], .echoDownSend (2 ^ 64) 0,
    .echoDownSend 0 32, .echoUp (2 ^ 64) 0 [], .echoUp 0 32 [], .trainingTimeout (2 ^ 64) 0, .trainingTimeout 0 32,
    .loopbackEnd (2 ^ 64) 0 0 0, .loopbackEnd 0 32 0 0, .kettleFence (2 ^ 64), .kettleTimeout (2 ^ 64)] : List Instr).all (fun i => !i.wf) = true := by decide

theorem test_wf_events_refuse_3 : ([
    .triggerDue (2 ^ 64) 0, .triggerDue 0 8, .kettleEnd (2 ^ 64), .recoatStart (2 ^ 64), .recoatEnd (2 ^ 64), .imageEnd (2 ^ 64),
    .frameTimeout (2 ^ 64) 0, .frameTimeout 0 8, .cxpSof (2 ^ 64) 0 0 0 0, .cxpSof 0 8 0 0 0, .cxpSof 0 0 0 (2 ^ 32) 0,
    .stripeArrival (2 ^ 64) 0, .stripeArrival 0 8, .stripeReturn (2 ^ 64) 0, .stripeReturn 0 8, .pipelineStripeDone (2 ^ 64),
    .cxpControlAck (2 ^ 64) 0 false 0 [], .cxpControlAck 0 8 false 0 [], .cxpControlTimeout (2 ^ 64) 0, .cxpControlTimeout 0 8,
    .cxpDiscovery (2 ^ 64) 0 false 0, .cxpDiscovery 0 8 false 0, .cxpLinkLoss (2 ^ 64) 0, .cxpLinkLoss 0 8,
    .cxpEventPacket (2 ^ 64) 0 [], .cxpEventPacket 0 8 [], .cxpHeartbeat (2 ^ 64), .axisTick (2 ^ 64), .moveInPosition (2 ^ 64) 0,
    .moveInPosition 0 8, .positionReestablish (2 ^ 64) 0, .positionReestablish 0 8, .motFaultPin (2 ^ 64) 0 false,
    .motFaultPin 0 8 false, .syncInEdge (2 ^ 64) 0, .syncInEdge 0 2, .sincosConversion (2 ^ 64) 0 0 0, .sincosConversion 0 9 0 0,
    .sincosConversion 0 0 (2 ^ 16) 0, .sincosConversion 0 0 0 (2 ^ 16)] : List Instr).all (fun i => !i.wf) = true := by decide

theorem test_wf_events_refuse_4 : ([
    .quadEdge (2 ^ 64) 0 false false, .quadEdge 0 9 false false, .quadIndex (2 ^ 64) 0, .quadIndex 0 9,
    .ssiFrameEnd (2 ^ 64) 0 0 0 false 0, .ssiFrameEnd 0 9 0 0 false 0, .trimPeriod (2 ^ 64), .trimHandover (2 ^ 64) 0 false,
    .trimFit (2 ^ 64) [], .trimHandback (2 ^ 64) 0 false, .sweeperTick (2 ^ 64), .ldgReadoutCopy (2 ^ 64) 0, .ldgSnapshotLoaded (2 ^ 64),
    .emdLatchDue (2 ^ 64) 0, .emdLatchDue 0 4, .emdRefreshLatch (2 ^ 64) 0, .emdRefreshLatch 0 4, .emdTransferEnd (2 ^ 64) 0 [],
    .emdTransferEnd 0 4 [], .emdStatusPoll (2 ^ 64) 0 0 [], .emdStatusPoll 0 4 0 [], .emdStatusPoll 0 0 16 [],
    .dmaDescriptorFetch (2 ^ 64) 0 [], .dmaDescriptorFetch 0 16 [], .dmaBurstEnd (2 ^ 64) 0 [] [], .dmaBurstEnd 0 16 [] [],
    .dmaDescriptorEnd (2 ^ 64) 0, .dmaDescriptorEnd 0 16, .dmaLinkReadReturn (2 ^ 64) 0 0, .dmaLinkReadReturn 0 16 0,
    .dmaLinkReadReturn 0 0 (2 ^ 32), .dmaReadFailed (2 ^ 64) 0, .dmaReadFailed 0 16, .periphRequest (2 ^ 64) 0, .periphRequest 0 4,
    .periphWithdraw (2 ^ 64) 0 0 0 [], .periphWithdraw 0 4 0 0 [], .periphWithdraw 0 0 16 0 [], .sourceLevelChange (2 ^ 64) 0 false,
    .sourceLevelChange 0 256 false] : List Instr).all (fun i => !i.wf) = true := by decide

theorem test_wf_events_refuse_5 : ([
    .sourceTake (2 ^ 64) 0 none, .sourceTake 0 12 none, .eoiWrite (2 ^ 64) 0 0, .eoiWrite 0 12 0, .eoiWrite 0 0 (2 ^ 32),
    .routeWrite (2 ^ 64) 0 0, .routeWrite 0 256 0, .routeWrite 0 0 (2 ^ 32), .coreOnlineWrite (2 ^ 64) 0 0, .coreOnlineWrite 0 12 0,
    .coreOnlineWrite 0 0 (2 ^ 32), .swiWrite (2 ^ 64) 0, .swiWrite 0 (2 ^ 32), .storeUncorrectable (2 ^ 64) 0 0 0 .other,
    .storeUncorrectable 0 4 0 0 .other, .storeCorrectable (2 ^ 64) 0 0, .storeCorrectable 0 4 0, .scrubRead (2 ^ 64) 0, .scrubRead 0 4,
    .rowRepair (2 ^ 64) 0 0, .rowRepair 0 4 0, .dramCorrected (2 ^ 64) 0 0 0 0, .dramCorrected 0 4 0 0 0, .dramCorrected 0 0 2 0 0,
    .dramCorrected 0 0 0 2 0, .dramCorrected 0 0 0 0 10, .dramPoison (2 ^ 64) 0, .dramPoison 0 (2 ^ 64),
    .refreshDue (2 ^ 64) 0 0 false 0, .refreshDue 0 4 0 false 0, .refreshDue 0 0 2 false 0, .retrainPause (2 ^ 64) 0 0 0,
    .retrainPause 0 4 0 0, .neighbourRefresh (2 ^ 64) 0 0 0 [], .neighbourRefresh 0 4 0 0 [], .neighbourRefresh 0 0 2 0 [],
    .neighbourRefresh 0 0 0 32 [], .rfmIssue (2 ^ 64) 0 0 0 0 false 0, .rfmIssue 0 4 0 0 0 false 0, .rfmIssue 0 0 2 0 0 false 0] : List Instr).all (fun i => !i.wf) = true := by decide

theorem test_wf_events_refuse_6 : ([
    .rfmIssue 0 0 0 32 0 false 0, .refreshWindowClear (2 ^ 64) 0, .refreshWindowClear 0 4, .migrationBlock (2 ^ 64) false,
    .migrationEnd (2 ^ 64), .ethFrame (2 ^ 64) 0 false [], .ethFrame 0 4 false [], .ptpMessage (2 ^ 64) 0 0 0 none,
    .ptpMessage 0 4 0 0 none, .timeHoldover (2 ^ 64), .refclkBad (2 ^ 64) 0, .refclkBad 0 2, .refclkGood (2 ^ 64) 0, .refclkGood 0 2,
    .peerCap (2 ^ 64) [], .pairCapRetry (2 ^ 64), .peerEcho (2 ^ 64) [], .peerOffsetEchoTimer (2 ^ 64), .peerSlot (2 ^ 64) [],
    .peerCycle (2 ^ 64) [], .peerClaim (2 ^ 64) [], .peerRelease (2 ^ 64) [], .peerRelation (2 ^ 64) [], .messageResend (2 ^ 64) 0,
    .messageResend 0 (2 ^ 32), .peerLinkDown (2 ^ 64), .eventArrival (2 ^ 64) 0, .freezeTimeout (2 ^ 64),
    .journalWriteEnd (2 ^ 64) false, .compactionEnd (2 ^ 64), .selfTestEnd (2 ^ 64) 0 [] [], .svcLoopbackEnd (2 ^ 64) 0 0 0 0,
    .svcLoopbackEnd 0 6 0 0 0, .svcLoopbackEnd 0 0 9 0 0, .peerLinkUp (2 ^ 64), .stripeReady (2 ^ 64) 0 [] 0 false false,
    .stripeReady 0 8 [] 0 false false, .clkreqNAsserted (2 ^ 64), .ethPortLinkChange (2 ^ 64) 0 false, .ethPortLinkChange 0 4 false] : List Instr).all (fun i => !i.wf) = true := by decide

/-! The spec's worked examples. The expected numbers are the spec's. -/

/-- 01, a custom profile with extra loops: the demands, and the mask with the LOOP bit (its steps 2 to 7). -/
theorem test_example_budget :
    let p := readDescriptor [0x0F#8, 0x20#8, 0x01#8, 0x00#8, 0x01#8, 0x00#8, 0x60#8, 0x00#8, 0x00#8, 0x06#8, 0x00#8, 0x00#8, 0x01#8, 0x00#8, 0x00#8, 0x00#8]
    let s := { base .standby with par := (List.range 8).map fun (i : Nat) => (parKey 0x8000 i, 1 + 256 * 6) }
    (p.servo = 96 ∧ p.extraOps = 1536) ∧ s.budget p =
      { mask := 16, loop := 12800, dram := 46048, dramLimit := 105000, link := 313, linkLimit := 1515, power := 98610 } := by decide +kernel

/-- 04, power and edges of one window: words 1,813, 4,229, 6,042, 7,250 held to 7,200, 4,000, 5,438 and 1,813. -/
theorem test_example_power :
    let v := [64, 96, 128, 160, 192, 208, 224, 240]
    let w := [240, 224, 208, 192, 160, 128, 96, 64]
    let i : LaserIn := { corr := 14848, ceil := 7200 }
    powerWord i 8000 (rampIn v 3 0) 14848 = (1813, false) ∧ powerWord i 8000 (rampIn v 3 1) 14848 = (4229, false) ∧
      powerWord i 8000 (rampIn v 3 2) 14848 = (6042, false) ∧ powerWord i 8000 (1, 1) 14848 = (7200, true) ∧
      powerWord i 8000 (1, 1) 8192 = (4000, false) ∧ powerWord i 8000 (rampOut w 2 0) 14848 = (5438, false) ∧
      powerWord i 8000 (rampOut w 2 1) 14848 = (1813, false) := by decide +kernel

/-- 04, the window's profile, the window, and the blocks of samples 12,000 and 12,010. -/
def exProf : ExpProfile :=
  { power := 8000, rampInLen := 3, rampOutLen := 2, rampIn := [64, 96, 128, 160, 192, 208, 224, 240]
    rampOut := [240, 224, 208, 192, 160, 128, 96, 64] }
theorem test_example_blocks :
    let ws : List Win := [{ unit := 0, cls := 0, ri := 0, prof := 0, tOn := 96001100, tOff := some 96084000 }]
    (laserBlock 500 12000 [exProf] ws { corr := 14848, ceil := 7200 }).bytes =
        [0x15#8, 0x07#8, 0x4C#8, 0x04#8, 0x00#8, 0x00#8, 0x03#8, 0x00#8, 0x00#8, 0x00#8, 0x00#8, 0x00#8] ∧
      (laserBlock 500 12010 [exProf] ws { corr := 14848, ceil := 7200, gate := true }).bytes =
        [0x15#8, 0x07#8, 0xA0#8, 0x0F#8, 0x00#8, 0x00#8, 0x01#8, 0x00#8, 0x00#8, 0x00#8, 0x00#8, 0x00#8] := by decide +kernel

/-- 05, one corridor check: the two heads are in conflict. -/
theorem test_example_corridor :
    inCorridor { gx := 16384, gy := 0, margin := 0, minSep := 0 } { down := 80000, up := 4000, half := 8000 } (1000000, 400000) (1048000, 405000) = true := by
  decide +kernel

/-- 06, one record: the corrected bands, the temperature and the record's bytes. -/
theorem test_example_pyrometer :
    pdValue [12410, 12388, 12452, 12430, 12404] 400 0x4400 = 12768 ∧ pdValue [9870, 9902, 9884, 9856, 9890] 350 0x3C00 = 8934 ∧
      roundNat (65536 * 12768) (12768 + 8934) = 38557 ∧ roundNat (8480 * (64 - 29) + 8492 * 29) 64 = 8485 := by decide +kernel
theorem test_example_record :
    meltRecord { k := 40000, head := 9, dt := 32320000000, x := 2450000, y := 1200000, cls := 0, flags := 0, power := 11840, corr := 14336, ledger := 6700
                 frame := some { area := 412, peak := 1004 } } { a := 12768, b := 8934, temp := 8485 } =
      [0x00#8, 0x10#8, 0x6C#8, 0x86#8, 0x07#8, 0x00#8, 0x00#8, 0x00#8, 0x50#8, 0x62#8, 0x25#8, 0x80#8, 0x4F#8, 0x12#8, 0x09#8, 0x00#8,
        0x40#8, 0x2E#8, 0x00#8, 0x38#8, 0xE0#8, 0x31#8, 0xE6#8, 0x22#8, 0x25#8, 0x21#8, 0x9C#8, 0x01#8, 0xEC#8, 0x03#8, 0x2C#8, 0x1A#8] := by decide +kernel

/-- 07, tuning a power loop: the preset execution and the one after it (steps 6 to 9). -/
def exCoef : LoopCoef :=
  { alpha := 16777216, dr := 2147483647, kp := 16256992, ki := 203212, kd := 0, biquads := List.replicate 4 [16777216, 0, 0, 0, 0]
    k1 := -4194304, k2 := 0, k3 := 0, bias := 0, outMin := 0x10000000, outMax := 0x50000000, du := 10737418, outStart := 0x40000000, manual := 0x38000000
    hostIn := 0 }
theorem test_example_loop :
    let a := (loopFrame exCoef false false [] { y := 576716800, r := 536870912, x1 := 109772800 }
      { rs := 536870912, out := 939524096, preset := some 939524096 }).1
    let b := (loopFrame exCoef false false [] { y := 581959680, r := 536870912, x1 := 6710 * 16384 } a).1
    (a.e = -39845888 ∧ a.i = 1005577652 ∧ a.out = 939524096 ∧ loopWord a.out = 14336) ∧
      (b.e = -45088768 ∧ b.i = 1005031520 ∧ b.out = 933856694 ∧ loopWord b.out = 14250) := by decide +kernel

/-- 08, one cell across three passes: ΔH, the decayed values and the feed-forward value. -/
theorem test_example_ledger :
    depositHeat 8000 500 26214 0 = 50 ∧ depositHeat 4800 500 26214 0 = 30 ∧ decay 500000 6250 80 = 6186 ∧ decay 500000 12436 600 = 11517 ∧
      ageAt 36 65500 = 72 ∧ cellOf 1000 0 0 (400500, 200500) = some (4096 * 200 + 400) := by decide +kernel

/-- 10, the recoat sequence of layer 7: the three targets. -/
theorem test_example_recoat :
    recoatTarget (leNat [0x00#8, 0x02#8, 0x00#8, 0x00#8, 0x00#8, 0xFF#8]) 0 160 7 655360 = -400 ∧
      recoatTarget (leNat [0x02#8, 0x02#8, 0x01#8, 0x00#8, 0x80#8, 0x02#8]) 0 160 7 131072 = 200 ∧
      recoatTarget (leNat [0x01#8, 0x03#8, 0x00#8, 0x00#8, 0x80#8, 0x4F#8, 0x12#8, 0x00#8, 0x80#8, 0x1A#8, 0x06#8, 0x00#8, 0x00#8, 0x00#8, 0x00#8, 0x00#8]) 5 160 7 0 = 0 := by
  decide +kernel

/-- 11, one conversion on channel 3, and 20, the same codes after the trim. -/
def exCal : TrackCal := { offS := 120, offC := -80, gainS := 0x4000, gainC := 0x4200, phase := 0, ampMin := 8192, ampMax := 24576, resExp := 10, invert := false }
theorem test_example_conversion :
    let t := ((({ active := true, started := true, aPrev := 827, p := 234299, r := 58574, c := 58574 } : Track).convert exCal 44000 36000).1)
    (t.aPrev = 830 ∧ t.p = 234302 ∧ t.r = 58575 ∧ t.c = 58575) ∧ (t.follow 58574).c = 58575 ∧ (t.follow 58573).c = 58574 := by decide +kernel
theorem test_example_trimmed :
    ((({ active := true, started := true, aPrev := 827, p := 827 } : Track).convert
      { exCal with offS := 122, offC := -81, gainS := 16448, gainC := 16883, phase := -25 } 44000 36000).1).aPrev = 829 := by decide +kernel

/-- 12, recoat lights on bus 2: the place of the emitter's level and the transfer's clocks. -/
theorem test_example_lights : 2048 * 37 + 32 * 5 + 8 * 2 + 9 / 2 = 75956 ∧ transferClocks 1 0 1 = 2194 := by decide

/-- 13, calibrating HEAD 12 and deriving its lags. -/
theorem test_example_lags : linkDownDelay 800 (zeros 30 ++ leBytes 2 240) = 1250 ∧ ruleLagOf 500 2819 = 2 := by decide +kernel

/-- 14, an authenticated ARM: the status packets of its steps 4 and 6, and the lease of step 7. -/
theorem test_example_status :
    statusPacket 0x0024 0x30 0 0x0107 0xFFFF stOk [] =
        [0x24#8, 0x00#8, 0x30#8, 0x00#8, 0x02#8, 0x00#8, 0x07#8, 0x01#8, 0xFF#8, 0xFF#8, 0x00#8, 0x00#8, 0x00#8, 0x00#8, 0x00#8, 0x00#8] ∧
      slice (statusPacket 0x0024 0x30 0 0x0107 0xFFFF stReplay []) 10 2 = [0x02#8, 0x02#8] ∧ leaseFor 131072 = 196608 := by decide +kernel

/-- 15, deferring a write: the status packets of the reply and of the kettle fence. -/
theorem test_example_deferred :
    statusPacket 0x0012 0x30 0 0x0230 3 stAccepted [] =
        [0x12#8, 0x00#8, 0x30#8, 0x00#8, 0x02#8, 0x00#8, 0x30#8, 0x02#8, 0x03#8, 0x00#8, 0x01#8, 0x00#8, 0x00#8, 0x00#8, 0x00#8, 0x00#8] ∧
      slice (statusPacket 0x0012 0x30 0 0x0230 3 stOk (leBytes 8 40000000000 ++ leBytes 8 1)) 16 16 =
        [0x00#8, 0x90#8, 0x2F#8, 0x50#8, 0x09#8, 0x00#8, 0x00#8, 0x00#8, 0x01#8, 0x00#8, 0x00#8, 0x00#8, 0x00#8, 0x00#8, 0x00#8, 0x00#8] := by decide +kernel

/-- 17, placing one address: channel 1 at 0x48D1_5800, and channel 2's migration reserve once channel 1 is mapped out. -/
theorem test_example_place :
    let s := { base .standby with mem := { mem0 with ranks := 2, capacity := 32 } }
    s.reservedBase = dramBase + 0x17C0000000 ∧ s.placeOf 0x4123456800 = (1, 0x48D15800) ∧
      ({ s with mem := { s.mem with mapout := some 1, channels := updAt s.mem.channels 1 fun _ => { mappedOut := true } } } : State).placeOf 0x4123456800 =
        (2, 0x61845C800) := by decide +kernel

/-- 18, converting a DT value. -/
theorem test_example_tai : ({ dt0 := 16000000000, tai0 := 1767225637000000000, rate := 2199023 } : TimeRel).tai 32000000000 = 1767225638000002000 := by
  decide +kernel

/-- 19, a lease entry: its length and its first 32 bytes. -/
theorem test_example_lease :
    journalLen (zeros 16) = 48 ∧ (journalBody 0x10 417 (leBytes 8 2 ++ leBytes 8 196608)).take 32 =
      [0x53#8, 0x58#8, 0x4A#8, 0x4E#8, 0x10#8, 0x10#8, 0x10#8, 0x00#8, 0xA1#8, 0x01#8, 0x00#8, 0x00#8, 0x00#8, 0x00#8, 0x00#8, 0x00#8,
        0x02#8, 0x00#8, 0x00#8, 0x00#8, 0x00#8, 0x00#8, 0x00#8, 0x00#8, 0x00#8, 0x00#8, 0x03#8, 0x00#8, 0x00#8, 0x00#8, 0x00#8, 0x00#8] := by decide +kernel

/-- 20, a trim of channel 3: the candidate is accepted, and the slew at conversion 256. -/
theorem test_example_trim :
    candidateResult (512 + 65536 * 328 + 2 ^ 32 * 164 + 2 ^ 48 * 64 + 2 ^ 64 * 82 + 2 ^ 80 * 33 + 2 ^ 96 * 16) [22, -21, 64, -13, -25] [20, -20, 0, 0, 0] 6 = 1 ∧
      ({ delta := [22, -21, 64, -13, -25], slewFrom := [20, -20, 0, 0, 0], slewDone := 256 } : FrontEnd).deltaNow.drop 2 = [16, -3, -6] := by decide +kernel

/-- 03, a hatch vector: the conversions, and the bilinear value of step 9. -/
theorem test_example_units : cruise 500 2000 = 131072 ∧ accelGen 500 62500 = 4096 := by decide +kernel

/-- 10, a deceleration change near the target: the generator's units. -/
theorem test_example_decel : accelOf 1000000 = 4295 ∧ cruiseOf 200000 = 858993459 := by decide +kernel

/-- 14, the CMAC of a trailer (SP 800-38B): the published value of a message of one block under a 256-bit key. -/
theorem test_cmac :
    cmac ((leBytes 32 0x603deb1015ca71be2b73aef0857d77811f352c073b6108d72d9810a30914dff4).reverse)
      ((leBytes 16 0x6bc1bee22e409f96e93d7e117393172a).reverse) = (leBytes 16 0x28a7023f452e8f82bd4bf28d8c37c35c).reverse := by decide +kernel

/-- 14, the cipher under KEY_LOAD's unwrapping (FIPS 197, its example of a 256-bit key), in reverse. -/
theorem test_cipher_reverse :
    aesDecrypt (List.range 32) (toNats (leBytes 16 0x8ea2b7ca516745bfeafc49904b496089).reverse) =
      toNats (leBytes 16 0x00112233445566778899aabbccddeeff).reverse := by decide +kernel

/-- 14, an 8-byte register read as two 4-byte reads: the high half is the one latched, though device time has moved (R373). -/
theorem test_bar0_latch :
    let s := { base .standby with dt := 2 ^ 32 - 1, host := { host0 with ready := true } }
    (State.bar0Load 0x28 4 s).1 = 2 ^ 32 - 1 ∧ (State.bar0Load 0x2C 4 { (State.bar0Load 0x28 4 s).2 with dt := 2 ^ 32 }).1 = 0 ∧
      (State.bar0Load 0x2C 4 { s with dt := 2 ^ 32 }).1 = 1 := by decide +kernel

/-- States and operands that meet the hypotheses of `Obligations.StateCommandsAct`. -/
theorem test_meets_stateCommandsAct :
    startsNow readyEnterSpec (pk 0xFFFF []) (armable .standby) = true ∧
    startsNow standbyEnterSpec (pk 0xFFFF []) (base .ready) = true ∧
    startsNow armSpec (sealedAs armSpec.opcode (pk 0xFFFF [])) (armable .ready) = true ∧
    startsNow holdSpec (pk 0xFFFF []) (base .armed) = true ∧
    startsNow resumeSpec (sealedAs resumeSpec.opcode (pk 0xFFFF [])) (closedIn .hold .expose) = true ∧
    startsNow safeRequestSpec (pk 0xFFFF []) (base .armed) = true ∧
    startsNow recoverSpec (sealedAs recoverSpec.opcode (pk 0xFFFF [])) (base .safe) = true ∧
    startsNow recoveryExitSpec (pk 0xFFFF []) (base .recovery) = true ∧
    startsNow serviceEnterSpec (sealedAs serviceEnterSpec.opcode (pk 0xFFFF [])) (base .standby) = true ∧
    startsNow disarmSpec (pk 0xFFFF []) (inPhase .expose .hold) = true ∧
    (let s : State := inPhase .expose .hold; s.cyc.state = .hold ∨ s.cyc.phase = .idle) ∧
    startsNow disarmSpec (pk 0xFFFF []) (base .armed) = true ∧
    (let s : State := base .armed; s.cyc.state = .hold ∨ s.cyc.phase = .idle) ∧
    startsNow disarmSpec (pk 0xFFFF []) (inPhase .kettle .armed) = true ∧
    (let s : State := inPhase .kettle .armed; s.cyc.state = .armed ∧ s.cyc.phase ≠ .idle ∧ s.cyc.disarm = none) :=
  ⟨by decide +kernel,
    by decide +kernel,
    sealed_starts ⟨by decide +kernel, rfl⟩ (by decide +kernel),
    by decide +kernel,
    sealed_starts ⟨by decide +kernel, rfl⟩ (by decide +kernel),
    by decide +kernel,
    sealed_starts ⟨by decide +kernel, rfl⟩ (by decide +kernel),
    by decide +kernel,
    sealed_starts ⟨by decide +kernel, rfl⟩ (by decide +kernel),
    by decide +kernel,
    by decide +kernel,
    by decide +kernel,
    by decide +kernel,
    by decide +kernel,
    by decide +kernel⟩

/-- States and operands that meet the hypotheses of `Obligations.CycleCommandsAct`. -/
theorem test_meets_cycleCommandsAct :
    startsNow profileSelectSpec (pk 0xFFFF (leBytes 1 15 ++ leBytes 1 1 ++ leBytes 1 1 ++ leBytes 1 0 ++ leBytes 1 1 ++ zeros 11)) (base .standby) = true ∧
    startsNow profileCheckSpec (pk 0xFFFF (leBytes 1 15 ++ leBytes 1 1 ++ leBytes 1 1 ++ leBytes 1 0 ++ leBytes 1 1 ++ zeros 11)) (base .ready) = true ∧
    startsNow cycleRunSpec (pk 0xFFFF (leBytes 8 3)) (base .armed) = true ∧
    (let p : Packet := pk 0xFFFF (leBytes 8 3); let s : State := base .armed; s.cyc.phase = .idle ∧ 0 < p.fld 0 4) ∧
    startsNow cyclePhaseSpec (pk 0xFFFF (leBytes 8 2)) ({ base .armed with svc := { modes := 256 } }) = true ∧
    (let p : Packet := pk 0xFFFF (leBytes 8 2); p.fld 0 1 = 2) ∧
    startsNow cycleReleaseSpec (pk 0xFFFF []) ({ base .armed with cyc := { state := .armed, phase := .kettle, phaseDone := true, boundary := some .beforeRecoat } }) = true ∧
    (let s : State := { base .armed with cyc := { state := .armed, phase := .kettle, phaseDone := true, boundary := some .beforeRecoat } }; s.cyc.boundary.isSome) ∧
    startsNow cycleStopSpec (pk 0xFFFF []) ({ base .armed with cyc := { state := .armed, phase := .kettle, layersLeft := 4 } }) = true ∧
    startsNow deviceResetSpec (sealedAs deviceResetSpec.opcode (pk 0xFFFF [])) (base .hold) = true :=
  ⟨by decide +kernel,
    by decide +kernel,
    by decide +kernel,
    by decide +kernel,
    by decide +kernel,
    by decide +kernel,
    by decide +kernel,
    by decide +kernel,
    by decide +kernel,
    sealed_starts ⟨by decide +kernel, rfl⟩ (by decide +kernel)⟩

/-- States and operands that meet the hypotheses of `Obligations.SignatureCommandsAct`. -/
theorem test_meets_signatureCommandsAct :
    startsNow quireAppendSpec (pk 0xFFFF (leBytes 8 dramBase ++ leBytes 4 65536 ++ zeros 4)) (base .standby) = true ∧
    startsNow sigLoadSpec (pk 0xFFFF (leBytes 8 dramBase ++ leBytes 4 65536 ++ zeros 4)) (base .ready) = true ∧
    (let s : State := base .ready; (List.range 2).find? (fun k => (s.bank k).state == .empty) = some 0) ∧
    startsNow quireFlushSpec (pk 0xFFFF []) ({ base .ready with sig := { quire := [{ id := 3, acc := 0, addr := dramBase, len := 4096 }] } }) = true ∧
    startsNow sigDiscardSpec (pk 0xFFFF (leBytes 8 1)) (withBank 1 { state := .valid } (base .ready)) = true ∧
    (let p : Packet := pk 0xFFFF (leBytes 8 1); let s : State := withBank 1 { state := .valid } (base .ready); ((s.bank (p.fld 0 1)).state = .valid ∨ (s.bank (p.fld 0 1)).state = .retained) ∧ p.fld 0 1 < s.sig.banks.length) ∧
    startsNow sigDiscardSpec (pk 0xFFFF (leBytes 8 0)) (loadingAt .ready none) = true ∧
    (let p : Packet := pk 0xFFFF (leBytes 8 0); let s : State := loadingAt .ready none; (s.bank (p.fld 0 1)).state = .loading ∧ s.sig.loading.isSome) ∧
    startsNow sigDiscardSpec (pk 0xFFFF (leBytes 8 0)) (base .ready) = true ∧
    (let p : Packet := pk 0xFFFF (leBytes 8 0); let s : State := base .ready; (s.bank (p.fld 0 1)).state = .empty) :=
  ⟨by decide +kernel,
    by decide +kernel,
    by decide +kernel,
    by decide +kernel,
    by decide +kernel,
    by decide +kernel,
    by decide +kernel,
    by decide +kernel,
    by decide +kernel,
    by decide +kernel⟩

/-- States and operands that meet the hypotheses of `Obligations.SignatureEventsAct`. -/
theorem test_meets_signatureEventsAct :
    (let s : State := { base .ready with sig := { quire := [{ id := 3, acc := 0, addr := dramBase, len := 4096 }] } }; s.up = true ∧ s.cyc.state = .ready ∧ s.sig.loading = none ∧ s.long = false ∧ s.nextLoad = some ({ id := 3, acc := 0, addr := dramBase, len := 4096 }, 0)) ∧
    (let s : State := loadingAt .ready none; s.up = true ∧ s.sig.loading.isSome ∧ s.long = false) ∧
    (let s : State := longBank; s.up = true ∧ s.activeBank = some 0 ∧ s.long = true ∧ s.cyc.phase = .expose ∧ 0 < s.sig.banks.length ∧ (s.bank 0).segments[0]? = some (7, false) ∧ ((s.outstandingRecords ++ (s.bank 0).left).any fun i => i / 65536 == 0) = false) :=
  ⟨by decide +kernel,
    by decide +kernel,
    by decide +kernel⟩

/-- States and operands that meet the hypotheses of `Obligations.ImageTablesAct`. -/
theorem test_meets_imageTablesAct :
    startsNow trjFcLoadSpec (fcPk) (fcState .standby .idle) = true ∧
    (let p : Packet := fcPk; let s : State := fcState .standby .idle; p.scope < s.head.trj.length ∧ s.takesNow = true) ∧
    startsNow trjFcLoadSpec (fcPk) (fcState .armed .kettle) = true ∧
    (let p : Packet := fcPk; let s : State := fcState .armed .kettle; p.scope < s.head.trj.length ∧ s.takesNow = false) ∧
    startsNow mpsRatioLoadSpec (ratioPk) (ratioState .standby .idle) = true ∧
    (let p : Packet := ratioPk; let s : State := ratioState .standby .idle; p.scope < s.mps.heads.length ∧ s.takesNow = true) ∧
    startsNow mpsRatioLoadSpec (ratioPk) (ratioState .armed .kettle) = true ∧
    (let p : Packet := ratioPk; let s : State := ratioState .armed .kettle; p.scope < s.mps.heads.length ∧ s.takesNow = false) ∧
    startsNow trjFcReadSpec (tabPk 0 fcImageLen 0) ({ base .standby with head := { trj := { fc := some (fcOf []) } :: List.replicate 31 {} } }) = true ∧
    (let p : Packet := tabPk 0 fcImageLen 0; let s : State := { base .standby with head := { trj := { fc := some (fcOf []) } :: List.replicate 31 {} } }; (s.trj p.scope).fc = some (fcOf [])) ∧
    startsNow mpsRatioReadSpec (tabPk 3 2176 0) ({ base .standby with mps := { heads := List.replicate 32 { ratio := some { generation := 9, image := [] } } } }) = true ∧
    (let p : Packet := tabPk 3 2176 0; let s : State := { base .standby with mps := { heads := List.replicate 32 { ratio := some { generation := 9, image := [] } } } }; (s.mpsHead p.scope).ratio = some { generation := 9, image := [] }) ∧
    startsNow loopCaptureReadSpec (pk 0xFFFF (leBytes 8 dramBase ++ leBytes 8 5)) (capState) = true ∧
    (let p : Packet := pk 0xFFFF (leBytes 8 dramBase ++ leBytes 8 5); let s : State := capState; s.captureOfLoop (p.fld 8 1) = some cap0) :=
  ⟨fc_starts _ _ rfl,
    by decide +kernel,
    fc_starts _ _ rfl,
    by decide +kernel,
    ratio_starts _ _ rfl,
    by decide +kernel,
    ratio_starts _ _ rfl,
    by decide +kernel,
    by decide +kernel,
    by decide +kernel,
    by decide +kernel,
    by decide +kernel,
    by decide +kernel,
    by decide +kernel⟩

/-- States and operands that meet the hypotheses of `Obligations.LayerTablesAct`. -/
theorem test_meets_layerTablesAct :
    startsNow gutReplayLoadSpec (tabPk 0xFFFF 3 8) ({ base .ready with gut := { replays := [{ layer := 8, addr := 0, count := 1 }] } }) = true ∧
    startsNow gutStitchTableSpec (tabPk 0xFFFF 1 8) (oneHead (withDram (leBytes 3 5 ++ leBytes 3 6 ++ leBytes 1 0 ++ leBytes 1 2 ++ leBytes 2 9) (base .ready))) = true ∧
    (let p : Packet := tabPk 0xFFFF 1 8; tabLen p ≠ 0) ∧
    startsNow gutStitchTableSpec (tabPk 0xFFFF 0 8) ({ base .ready with gut := { stitch := [(8, [])] } }) = true ∧
    (let p : Packet := tabPk 0xFFFF 0 8; tabLen p = 0) ∧
    startsNow loopMapLoadSpec (tabPk 0xFFFF 64 8) (withDram mapImage (base .ready)) = true ∧
    startsNow pairGutterTableSpec (tabPk 0xFFFF 1 8) (withDram (leBytes 2 3 ++ leBytes 2 4 ++ leBytes 4 6) (base .ready)) = true ∧
    startsNow loopInjectSpec (sealedAs loopInjectSpec.opcode (pk 0xFFFF (leBytes 1 5 ++ leBytes 1 0 ++ leBytes 1 1 ++ zeros 1 ++ leBytes 4 100 ++ leBytes 8 0 ++ leBytes 4 10 ++ zeros 28))) (withPar [(devPar 0x6405, 3)] (base .ready)) = true ∧
    (let p : Packet := sealedAs loopInjectSpec.opcode (pk 0xFFFF (leBytes 1 5 ++ leBytes 1 0 ++ leBytes 1 1 ++ zeros 1 ++ leBytes 4 100 ++ leBytes 8 0 ++ leBytes 4 10 ++ zeros 28)); p.fld 2 1 ≠ 0) ∧
    startsNow loopInjectSpec (sealedAs loopInjectSpec.opcode (pk 0xFFFF (leBytes 1 5 ++ leBytes 1 0 ++ leBytes 1 0 ++ zeros 1 ++ leBytes 4 100 ++ leBytes 8 0 ++ leBytes 4 10 ++ zeros 28))) (base .ready) = true ∧
    (let p : Packet := sealedAs loopInjectSpec.opcode (pk 0xFFFF (leBytes 1 5 ++ leBytes 1 0 ++ leBytes 1 0 ++ zeros 1 ++ leBytes 4 100 ++ leBytes 8 0 ++ leBytes 4 10 ++ zeros 28)); p.fld 2 1 = 0) ∧
    startsNow loopCaptureSpec (pk 0xFFFF (leBytes 1 5 ++ leBytes 1 0 ++ leBytes 3 0xFFFFFF ++ leBytes 1 0 ++ zeros 2 ++ leBytes 4 2 ++ leBytes 4 1 ++ zeros 16)) (base .ready) = true :=
  ⟨by decide +kernel,
    by decide +kernel,
    by decide +kernel,
    by decide +kernel,
    by decide +kernel,
    by decide +kernel,
    by decide +kernel,
    sealed_starts ⟨by decide +kernel, rfl⟩ (by decide +kernel),
    by decide +kernel,
    sealed_starts ⟨by decide +kernel, rfl⟩ (by decide +kernel),
    by decide +kernel,
    by decide +kernel⟩

/-- States and operands that meet the hypotheses of `Obligations.LedgerCommandsAct`. -/
theorem test_meets_ledgerCommandsAct :
    startsNow ldgClearSpec (pk 0xFFFF []) ({ base .ready with ledger := { cells := [{ idx := 4, heat := 9, stamp := 0 }] } }) = true ∧
    startsNow ldgReadSpec (pk 0xFFFF (leBytes 8 dramBase ++ leBytes 2 0 ++ leBytes 2 0 ++ leBytes 2 2 ++ leBytes 2 2 ++ zeros 8)) (base .ready) = true ∧
    startsNow ldgSnapshotLoadSpec (tabPk 0xFFFF snapLen 0) ({ base .ready with svc := { modes := 32 }, dram := cellsAt dramBase snapHead }) = true ∧
    (let p : Packet := tabPk 0xFFFF snapLen 0; let s : State := { base .ready with svc := { modes := 32 }, dram := cellsAt dramBase snapHead }; s.snapSlot (leNat (s.dramRead (tabAddr p + 8) 4)) = some 0 ∧ 0 < s.ledger.slots.length) :=
  ⟨by decide +kernel,
    by decide +kernel,
    by decide +kernel,
    by decide +kernel⟩

/-- States and operands that meet the hypotheses of `Obligations.LedgerEventsAct`. -/
theorem test_meets_ledgerEventsAct :
    (let s : State := { base .ready with ledger := { readouts := [rd0] } }; s.up = true ∧ s.ledger.readouts[0]? = some rd0 ∧ rd0.at_ = some 90 ∧ rd0.fence = false) ∧
    (let s : State := base .ready; s.up = true ∧ s.ldgAssisted = false ∧ s.ledger.stopped = false ∧ s.ledger.sweptU ≤ tickU 2048000 ∧ s.dt ≤ 2048000) :=
  ⟨by decide +kernel,
    by decide +kernel⟩

/-- States and operands that meet the hypotheses of `Obligations.InterlockActs`. -/
theorem test_meets_interlockActs :
    (let s : State := closedIn .armed .idle; s.up = true ∧ s.las.aClosed = true ∧ s.cyc.state = .armed) ∧
    (let s : State := closedIn .ready .idle; s.up = true ∧ s.las.aClosed = true ∧ s.cyc.state ≠ .armed) ∧
    (let s : State := closedIn .armed .idle; s.up = true ∧ s.las.bClosed = true ∧ s.cyc.state = .armed) ∧
    (let s : State := base .ready; s.up = true) ∧
    (let s : State := base .ready; s.up = true) ∧
    (let s : State := { base .ready with las := { aClosed := true, differ := 50 } }; s.up = true ∧ s.las.aClosed ≠ s.las.bClosed ∧ s.las.discrepancy = false ∧ s.las.differ + 16000000 * s.dparam 0x3004 < 3000000000) ∧
    startsNow lasHeadRestoreSpec (sealedAs lasHeadRestoreSpec.opcode (pk 4 [])) ({ base .hold with las := { stopped := 16 } }) = true ∧
    (let s : State := { base .hold with las := { stopped := 16 } }; s.cyc.state = .armed ∨ s.cyc.state = .hold) ∧
    startsNow lasHeadRestoreSpec (sealedAs lasHeadRestoreSpec.opcode (pk 4 [])) ({ base .ready with las := { stopped := 16 } }) = true ∧
    (let s : State := { base .ready with las := { stopped := 16 } }; s.cyc.state ≠ .armed ∧ s.cyc.state ≠ .hold) ∧
    (let s : State := closedIn .ready .idle; s.up = true ∧ s.las.bClosed = true ∧ s.cyc.state ≠ .armed) :=
  ⟨by decide +kernel,
    by decide +kernel,
    by decide +kernel,
    by decide +kernel,
    by decide +kernel,
    by decide +kernel,
    sealed_starts ⟨by decide +kernel, rfl⟩ (by decide +kernel),
    by decide +kernel,
    sealed_starts ⟨by decide +kernel, rfl⟩ (by decide +kernel),
    by decide +kernel,
    by decide +kernel⟩

/-- States and operands that meet the hypotheses of `Obligations.ExposeBeginsAndEnds`. -/
theorem test_meets_exposeBeginsAndEnds :
    (let s : State := withBank 0 { state := .valid } (inPhase .load .armed); s.up = true ∧ (s.at 64000000).exposeReady = true ∧ (s.at 64000000).isPaired = false ∧ max s.dt 64000000 % 16000 = 0) ∧
    (let s : State := exposing0; s.up = true ∧ (s.at 64000000).fenceDue = true ∧ s.hostCycle = false ∧ s.svc.modeReq = [] ∧ s.cyc.holdAtFence = none) ∧
    (let s : State := { exposing0 with gut := { firstDone := some 64 } }; s.up = true ∧ s.gut.firstDone = some 64 ∧ s.cyc.state = .armed ∧ s.exposing = true ∧ 64 + 16000000 * s.dparam 0x4004 ≤ 960000000064) :=
  ⟨by decide +kernel,
    by decide +kernel,
    by decide +kernel⟩

/-- States and operands that meet the hypotheses of `Obligations.PhasesFollow`. -/
theorem test_meets_phasesFollow :
    (let s : State := inPhase .kettle .armed; s.up = true ∧ s.cyc.phase = .kettle ∧ s.cyc.phaseDone = false ∧ s.framesDone 1 false = true) ∧
    (let s : State := withPar [(devPar 0x0014, 2)] (inPhase .kettle .armed); s.up = true ∧ s.cyc.phase = .kettle ∧ s.cyc.phaseDone = false ∧ s.framesDone 1 false = true ∧ s.gate 1 = true) ∧
    (let s : State := { base .armed with cyc := { state := .armed, phase := .kettle, phaseDone := true, layer := 9 } }; s.up = true ∧ s.cyc.boundary = none ∧ s.mot.stream.running = false ∧ s.fencesDone = true ∧ s.pair.mode ≠ .split ∧ s.hostCycle = false) ∧
    (let s : State := withPar [(devPar 0x0014, 4)] { inPhase .recoat .armed with mot := {} }; s.up = true ∧ s.cyc.phaseDone = false ∧ s.recoatOver = true ∧ s.cyc.boundary = none ∧ s.hostCycle = false ∧ s.gate 2 = true) ∧
    (let s : State := { inPhase .recoat .armed with mot := {} }; s.up = true ∧ s.cyc.phaseDone = false ∧ s.recoatOver = true ∧ s.cyc.boundary = none ∧ s.hostCycle = false ∧ s.gate 2 = false) ∧
    (let s : State := { base .armed with cyc := { state := .armed, phase := .image, layersLeft := 2 } }; s.up = true ∧ s.cyc.phaseDone = false ∧ s.framesDone 2 true = true ∧ s.cyc.disarm = none ∧ s.hostCycle = false) ∧
    (let s : State := { base .armed with cyc := { state := .armed, phase := .image, layersLeft := 1 } }; s.up = true ∧ s.cyc.phaseDone = false ∧ s.framesDone 2 true = true ∧ s.cyc.disarm = none ∧ s.hostCycle = false) ∧
    (let s : State := { base .armed with cyc := { state := .armed, phase := .image, layersLeft := 2, disarm := some 5 } }; s.up = true ∧ s.cyc.phaseDone = false ∧ s.framesDone 2 true = true ∧ s.cyc.disarm.isSome) :=
  ⟨by decide +kernel,
    by decide +kernel,
    by decide +kernel,
    by decide +kernel,
    by decide +kernel,
    by decide +kernel,
    by decide +kernel,
    by decide +kernel⟩

/-- States and operands that meet the hypotheses of `Obligations.SamplesAct`. -/
theorem test_meets_samplesAct :
    (let s : State := { inPhase .expose .armed with lay := { heads := [{ takesPart := true, cur := some { recs := [{ idx := 0, x0 := 0, y0 := 0, x1 := 0, y1 := 0, prof := 0, cls := 4, flags := 0 }] } }] } }; s.up = true ∧ s.exposing = true ∧ s.layEnv.dtOf s.cyc.sample ≤ 64000 ∧ ((s.at 64000).depositsTo (s.layEnv.dtOf s.cyc.sample)).fenceDue = false) ∧
    (let s : State := base .standby; s.up = true ∧ s.exposing = false ∧ s.cyc.lastSlot < max s.dt 64000 / (16 * s.ts) * (16 * s.ts)) ∧
    (let s : State := withPar [(devPar 0x6420, 2)] { base .ready with loop := { placed := [{ loop := 32, proc := 0, cost := 1, div := 1, phase := 0 }] }, head := { hlk := { link := .up } :: List.replicate 31 {} } }; s.up = true ∧ s.loopDelay 32 ≤ 64000 / (16 * s.ts) + 1 ∧ 32 < s.loop.loops.length ∧ (s.at 64000).loopDue 32 (64000 / (16 * s.ts) + 1 - s.loopDelay 32) = true) ∧
    (let s : State := { base .ready with head := { hlk := List.replicate 32 { link := .up } } }; s.up = true ∧ 31 < s.head.hlk.length ∧ s.linkUp 31 = true ∧ unframe (zeros 20) = none) ∧
    (let s : State := { base .ready with head := { hlk := List.replicate 32 { link := .up, version := 0x10, missRun := 2 } } }; s.up = true ∧ s.linkUp 0 = true ∧ unframe (framed (leBytes 1 0x81 ++ zeros 63)) = some (leBytes 1 0x81 ++ zeros 63) ∧ field (leBytes 1 0x81 ++ zeros 63) 0 1 = 0x81 ∧ upLength (s.hlk 0).version (leBytes 1 0x81 ++ zeros 63) = true) ∧
    (let s : State := base .ready; s.up = true ∧ s.linkUp 0 = false) ∧
    (let s : State := { base .ready with head := { hlk := List.replicate 32 { link := .up } } }; s.up = true ∧ s.arrival 0 5 + 32 * s.ts ≤ 640000000 ∧ s.senseAt 0 5 = none ∧ (s.hlk 0).arrived.contains 5 = false ∧ s.linkUp 0 = true) :=
  ⟨by decide +kernel,
    by decide +kernel,
    by decide +kernel,
    by decide +kernel,
    by decide +kernel,
    by decide +kernel,
    by decide +kernel⟩

/-- States and operands that meet the hypotheses of `Obligations.FramesAndStreamsAct`. -/
theorem test_meets_framesAndStreamsAct :
    (let s : State := withPar [(parKey 0x5001 0, 40)] { exposing0 with mps := { heads := List.replicate 32 { got := 20480, pixels := zeros 20480 } }, recorder := { sum := { open_ := true } }, cyc := { state := .armed, phase := .expose, sample := 9 } }; s.up = true ∧ (s.at 300).frameOpen 0 (s.mpsHead 0).frameNo = true ∧ (s.mpsHead 0).got = s.pixelBytes 0) ∧
    (let s : State := withPar [(parKey 0x5001 0, 40), (parKey 0x5002 0, 0x0008000800000000)] { inPhase .expose .armed with recorder := { sum := { open_ := true } }, cyc := { state := .armed, phase := .expose, sample := 9 } }; s.up = true ∧ s.cyc.dtS + 16 * s.ts * s.param 0x5001 0 * ((s.mpsHead 0).next + 2) ≤ 64000000 ∧ (s.at 64000000).frameOpen 0 (s.mpsHead 0).next = true ∧ ¬ ((s.mpsHead 0).frameNo = (s.mpsHead 0).next ∧ (s.mpsHead 0).got = s.pixelBytes 0)) ∧
    (let s : State := { base .ready with mps := { staged := [zeros 32] } }; s.up = true ∧ s.mps.lastIn + 16000 * s.dparam 0x5014 ≤ 64000000 ∧ s.mps.staged.length % 2 = 1) ∧
    (let s : State := withPar [(devPar (streamRingId 0), dramBase + 2 ^ 64 * 65536)] { base .ready with mps := { staged := List.replicate 3 (zeros 32) } }; s.up = true ∧ s.ringSize 0 ≠ 0 ∧ 0 < s.streams.length ∧ min 64 (min (s.mps.staged.length / 2 * 2) (s.ringRoom 0 / 64 * 2)) = 2) ∧
    (let s : State := withPar [(devPar (streamRingId 4), dramBase + 2 ^ 64 * 65536), (devPar (streamHostId 4), 4096 + 2 ^ 64 * 65536)] { base .ready with streams := List.replicate 5 { written := 128 } }; s.up = true ∧ 4 < s.streams.length ∧ s.streamOn 4 = true ∧ s.copyPoisoned 4 = false ∧ s.copyReach 4 (min (min 2048 ((s.stream 4).written - (s.stream 4).copied)) (min (s.hostRoom 4) (s.hostSize 4 - (s.stream 4).hostWrite))) = 128) :=
  ⟨by decide +kernel,
    by decide +kernel,
    by decide +kernel,
    by decide +kernel,
    by decide +kernel⟩

/-- States and operands that meet the hypotheses of `Obligations.LinksRetrain`. -/
theorem test_meets_linksRetrain :
    (let s : State := { base .armed with head := { hlk := List.replicate 32 { link := .up } } }; s.up = true ∧ 0 < s.head.hlk.length ∧ s.linkUp 0 = true ∧ s.cyc.state ≠ .ready) ∧
    (let s : State := { base .ready with head := { hlk := List.replicate 32 { link := .up, missRun := 4 } } }; s.up = true ∧ s.linkUp 31 = true ∧ 4 ≤ (s.hlk 31).missRun ∧ s.cyc.state = .ready ∧ s.inProfile 31 = true) ∧
    (let s : State := { base .hold with head := { hlk := List.replicate 32 { link := .up, cfg := some { seq := 1, type := 1, data := [], slots := 64 } } } }; s.up = true ∧ s.linkUp 0 = true ∧ s.cyc.state ≠ .ready ∧ (s.hlk 0).cfg.any (fun c => 64 ≤ c.slots) = true) ∧
    startsNow hlkRetrainSpec (pk 31 []) ({ base .standby with head := { hlk := List.replicate 32 { link := .up } } }) = true ∧
    (let s : State := { base .standby with head := { hlk := List.replicate 32 { link := .up } } }; s.cyc.state ≠ .ready ∧ 31 < s.head.hlk.length ∧ s.linkUp 31 = true) ∧
    startsNow hlkRetrainSpec (pk 0xFFFF []) ({ base .standby with head := { hlk := List.replicate 32 { link := .up } } }) = true ∧
    (let s : State := { base .standby with head := { hlk := List.replicate 32 { link := .up } } }; s.cyc.state ≠ .ready ∧ 31 < s.heads ∧ s.linkUp 31 = true) ∧
    startsNow hlkLoopbackSpec (pk 3 (leBytes 1 1 ++ leBytes 1 0 ++ zeros 2 ++ leBytes 4 5)) ({ base .service with head := { hlk := List.replicate 32 { link := .acquire } } }) = true ∧
    (let p : Packet := pk 3 (leBytes 1 1 ++ leBytes 1 0 ++ zeros 2 ++ leBytes 4 5); let s : State := { base .service with head := { hlk := List.replicate 32 { link := .acquire } } }; p.scope < s.head.hlk.length ∧ p.fld 0 1 ≠ 0) ∧
    startsNow hlkLoopbackSpec (pk 3 (leBytes 8 (2 ^ 32))) ({ base .service with head := { hlk := List.replicate 32 { link := .loopback, loop := some { acc := 0, depth := 1, pattern := 0, endsAt := 900 } } } }) = true ∧
    (let p : Packet := pk 3 (leBytes 8 (2 ^ 32)); let s : State := { base .service with head := { hlk := List.replicate 32 { link := .loopback, loop := some { acc := 0, depth := 1, pattern := 0, endsAt := 900 } } } }; p.scope < s.head.hlk.length ∧ p.fld 0 1 = 0 ∧ (s.hlk p.scope).loop.isSome) ∧
    (let s : State := { base .service with head := { hlk := List.replicate 32 { link := .loopback, loop := some { acc := 0, depth := 1, pattern := 0, endsAt := 900 } } } }; s.up = true ∧ (s.hlk 3).loop.any (fun l => l.endsAt ≤ 900) = true) :=
  ⟨by decide +kernel,
    by decide +kernel,
    by decide +kernel,
    by decide +kernel,
    by decide +kernel,
    by decide +kernel,
    by decide +kernel,
    by decide +kernel,
    by decide +kernel,
    by decide +kernel,
    by decide +kernel,
    by decide +kernel⟩

/-- States and operands that meet the hypotheses of `Obligations.LinksTrain`. -/
theorem test_meets_linksTrain :
    (let s : State := { base .ready with head := { hlk := List.replicate 32 { link := .acquire } } }; s.up = true ∧ (s.hlk 0).link = .acquire ∧ (s.hlk 0).since + 16000000 ≤ 16000000) ∧
    (let s : State := { base .ready with head := { hlk := List.replicate 32 { link := .capability } } }; s.up = true ∧ (s.hlk 0).link = .capability) ∧
    (let s : State := { base .ready with head := { hlk := List.replicate 32 { link := .calibrate } } }; s.up = true ∧ (s.hlk 0).link = .calibrate) ∧
    (let s : State := { base .ready with head := { hlk := List.replicate 32 { link := .fault } } }; s.up = true ∧ (s.hlk 0).link = .fault) ∧
    (let s : State := { base .ready with head := { hlk := List.replicate 32 { link := .calibrate } } }; s.up = true ∧ (s.hlk 31).link = .calibrate ∧ (s.hlk 31).since + 160000000 ≤ 160000000) ∧
    (let s : State := { base .ready with head := { hlk := List.replicate 32 { link := .capability } } }; s.up = true ∧ (s.hlk 31).link = .capability ∧ (s.hlk 31).since + 160000000 ≤ 160000000) ∧
    (let s : State := { base .ready with head := { hlk := List.replicate 32 { link := .capability } } }; s.up = true ∧ (s.hlk 0).link = .capability) ∧
    (let s : State := { base .ready with head := { hlk := List.replicate 32 { link := .calibrate } } }; s.up = true ∧ (s.hlk 0).link = .calibrate) ∧
    (let s : State := { base .standby with head := { hlk := List.replicate 32 { link := .capability } } }; s.up = true ∧ unframe (framed capGood) = some capGood ∧ field capGood 0 1 = 0x82 ∧ allZero (slice capGood 1 7) = true ∧ capGood.length = 72 ∧ (s.hlk 0).link = .capability ∧ capFail (s.versionCap 0) s.cyc.profile.ts (padTo 128 (capGood.drop 8)) = none) ∧
    (let s : State := { base .standby with head := { hlk := List.replicate 32 { link := .capability } } }; s.up = true ∧ unframe (framed (leBytes 1 0x82 ++ zeros 71)) = some (leBytes 1 0x82 ++ zeros 71) ∧ (s.hlk 0).link = .capability ∧ capFail (s.versionCap 0) s.cyc.profile.ts (padTo 128 (zeros 64)) = some 1) ∧
    (let s : State := { base .standby with head := { hlk := List.replicate 32 { link := .calibrate, echoes := [5] } } }; s.up = true ∧ unframe (framed echoBytes) = some echoBytes ∧ field echoBytes 0 1 = 0x84 ∧ echoBytes.length = 32 ∧ (s.hlk 0).link = .calibrate ∧ (s.hlk 0).apply = false ∧ (s.hlk 0).echoes.length < 255) ∧
    (let s : State := { base .standby with head := { hlk := List.replicate 32 { link := .calibrate, echoes := List.replicate 255 150 } } }; s.up = true ∧ (s.hlk 0).link = .calibrate ∧ (s.hlk 0).apply = false ∧ 255 ≤ (s.hlk 0).echoes.length ∧ calibration (150 :: (s.hlk 0).echoes) = some 75) ∧
    (let s : State := { base .standby with head := { hlk := List.replicate 32 { link := .calibrate, echoes := List.replicate 255 100 } } }; s.up = true ∧ (s.hlk 0).link = .calibrate ∧ (s.hlk 0).apply = false ∧ 255 ≤ (s.hlk 0).echoes.length) :=
  ⟨by decide +kernel,
    by decide +kernel,
    by decide +kernel,
    by decide +kernel,
    by decide +kernel,
    by decide +kernel,
    by decide +kernel,
    by decide +kernel,
    by decide +kernel,
    by decide +kernel,
    by decide +kernel,
    by decide +kernel,
    by decide +kernel⟩

/-- States and operands that meet the hypotheses of `Obligations.ImagingCommandsAct`. -/
theorem test_meets_imagingCommandsAct :
    startsNow imgControlSpec (pk 0 (leBytes 1 1 ++ zeros 3 ++ leBytes 4 64 ++ leBytes 2 256 ++ zeros 6 ++ leBytes 8 dramBase)) (camPort .ready { link := .up }) = true ∧
    (let p : Packet := pk 0 (leBytes 1 1 ++ zeros 3 ++ leBytes 4 64 ++ leBytes 2 256 ++ zeros 6 ++ leBytes 8 dramBase); let s : State := camPort .ready { link := .up }; p.scope < s.img.ports.length) ∧
    startsNow imgControlSpec (pk 0 (leBytes 1 0 ++ zeros 3 ++ leBytes 4 64 ++ leBytes 2 4 ++ zeros 6 ++ leBytes 8 dramBase)) (camPort .ready { link := .up }) = true ∧
    (let p : Packet := pk 0 (leBytes 1 0 ++ zeros 3 ++ leBytes 4 64 ++ leBytes 2 4 ++ zeros 6 ++ leBytes 8 dramBase); let s : State := camPort .ready { link := .up }; p.scope < s.img.ports.length) ∧
    startsNow imgSnapSpec (pk 7 []) (base .ready) = true ∧
    (let p : Packet := pk 7 []; let s : State := base .ready; p.scope < s.img.ports.length) ∧
    startsNow imgPortResetSpec (pk 0 []) (camPort .ready { link := .up, cfg := cam0, inFrame := true, frames := [frame0] }) = true ∧
    (let p : Packet := pk 0 []; let s : State := camPort .ready { link := .up, cfg := cam0, inFrame := true, frames := [frame0] }; p.scope < s.img.ports.length) ∧
    startsNow imgPortResetSpec (pk 7 []) (camPort .ready {}) = true ∧
    (let p : Packet := pk 7 []; let s : State := camPort .ready {}; p.scope < s.img.ports.length) :=
  ⟨by decide +kernel,
    by decide +kernel,
    by decide +kernel,
    by decide +kernel,
    by decide +kernel,
    by decide +kernel,
    by decide +kernel,
    by decide +kernel,
    by decide +kernel,
    by decide +kernel⟩

/-- States and operands that meet the hypotheses of `Obligations.CameraLinksAct`. -/
theorem test_meets_cameraLinksAct :
    (let s : State := camPort .ready { link := .discovery, cfg := cam0 }; s.up = true ∧ 0 < s.img.ports.length ∧ s.looped 3 0 = false ∧ (s.port 0).link = .discovery) ∧
    (let s : State := camPort .ready { link := .discovery, cfg := cam0 }; s.up = true ∧ s.looped 3 0 = false ∧ (s.port 0).link = .discovery) ∧
    (let s : State := camPort .ready { link := .up, cfg := cam0 }; s.up = true ∧ (s.port 0).link = .up) ∧
    (let s : State := camPort .ready { link := .up, cfg := cam0 }; s.up = true ∧ (s.port 0).link = .up) ∧
    (let s : State := camPort .ready { link := .up, cfg := cam0 }; s.up = true ∧ s.img.beat + 16000000 ≤ 16000000 ∧ (s.port 0).link = .up) ∧
    (let s : State := camPort .ready { link := .up, cfg := cam0, queue := [ctl0 false] }; s.up = true ∧ (s.port 0).queue = ctl0 false :: [] ∧ (ctl0 false).attempts ≠ 0 ∧ (ctl0 false).write = false ∧ (ctl0 false).acc = some 4) ∧
    (let s : State := camPort .ready { link := .up, cfg := cam0, queue := [ctl0 true] }; s.up = true ∧ (s.port 0).queue = ctl0 true :: [] ∧ (ctl0 true).attempts ≠ 0 ∧ (ctl0 true).write = true ∧ (ctl0 true).acc = some 4) ∧
    (let s : State := camPort .ready { link := .up, cfg := cam0, queue := [{ ctl0 true with attempts := 2 }] }; s.up = true ∧ (s.port 0).queue = { ctl0 true with attempts := 2 } :: [] ∧ (ctl0 true).since + 16000000 * s.dparam 0x8011 ≤ 1600000000) :=
  ⟨by decide +kernel,
    by decide +kernel,
    by decide +kernel,
    by decide +kernel,
    by decide +kernel,
    by decide +kernel,
    by decide +kernel,
    by decide +kernel⟩

/-- States and operands that meet the hypotheses of `Obligations.FramesMove`. -/
theorem test_meets_framesMove :
    (let s : State := withPar [(parKey 0x8002 0, 2 ^ 32 - 50)] (camPort .ready { link := .up, cfg := cam0, triggers := [{ trig0 with sent := true }, trig0] }); s.up = true ∧ ((s.port 0).triggers.findIdx? fun e => !e.sent && decide (e.due ≤ max s.dt 300)) = some 1 ∧ (s.port 0).triggers[1]? = some trig0 ∧ (s.port 0).link = .up) ∧
    (let s : State := camPort .ready { link := .up, cfg := cam0, nextFrame := 4 }; s.up = true ∧ (s.port 0).link = .up ∧ (s.port 0).inFrame = false ∧ 0 = camPixel (s.port 0).cfg ∧ 64 = camWidth (s.port 0).cfg ∧ 64 = camHeight (s.port 0).cfg) ∧
    (let s : State := camPort .ready { link := .up, cfg := cam0, nextFrame := 4 }; s.up = true ∧ (s.port 0).link = .up ∧ (s.port 0).inFrame = false ∧ 65 ≠ camHeight (s.port 0).cfg) ∧
    (let s : State := camPort .ready { link := .up, cfg := cam0, inFrame := true, frames := [frame0] }; s.up = true ∧ ((s.port 0).frames.find? fun g => !g.ended) = some frame0 ∧ (s.port 0).inFrame = true ∧ (s.port 0).discard = false ∧ frame0.arrived < camHeight (s.port 0).cfg ∧ ((s.port 0).stripes.any fun st => !st.ready) = false) ∧
    (let s : State := camPort .ready { link := .up, cfg := cam0, inFrame := true, frames := [frame0], checks := 2 ^ 32 - 2 }; s.up = true ∧ ((s.port 0).frames.find? fun g => !g.ended) = some frame0 ∧ (s.port 0).inFrame = true ∧ (s.port 0).discard = false) ∧
    (let s : State := camPort .ready { link := .up, cfg := cam0, inFrame := true, frames := [frame0] }; s.up = true ∧ ((s.port 0).frames.find? fun g => !g.ended) = some frame0 ∧ (s.port 0).inFrame = true ∧ (s.port 0).discard = false) ∧
    (let s : State := camPort .ready { link := .up, cfg := cam0, inFrame := true, frames := [frame0], stripes := [{ frame := 3, index := 0, spilled := true, lost := false, ready := true, lines := [] }] }; s.up = true ∧ (s.port 0).inBuffer < bufferRoom (s.port 0).cfg ∧ ((s.port 0).stripes.findIdx? fun st => st.spilled) = some 0 ∧ ((s.port 0).stripes.all fun st => !(st.lost && st.spilled)) = true) ∧
    (let s : State := { camPort .ready { link := .up, cfg := cam0, inFrame := true, frames := [frame0], stripes := [{ frame := 3, index := 0, spilled := false, lost := false, ready := true, lines := [] }] } with img := { ports := { link := .up, cfg := cam0, inFrame := true, frames := [frame0], stripes := [{ frame := 3, index := 0, spilled := false, lost := false, ready := true, lines := [] }] } :: List.replicate 7 {}, busy := some 0 } }; s.up = true ∧ s.img.busy = some 0 ∧ (s.port 0).stripes ≠ []) ∧
    (let s : State := camPort .ready { link := .up, cfg := cam0, triggers := [{ trig0 with missing := true }, trig0] }; s.up = true ∧ ((s.port 0).triggers.findIdx? fun e => !e.received && !e.missing && decide (e.due + 16000000 * s.dparam 0x8009 ≤ max s.dt 160000000000)) = some 1 ∧ (s.port 0).triggers[1]? = some trig0) :=
  ⟨by decide +kernel,
    by decide +kernel,
    by decide +kernel,
    by decide +kernel,
    by decide +kernel,
    by decide +kernel,
    by decide +kernel,
    by decide +kernel,
    by decide +kernel⟩

/-- States and operands that meet the hypotheses of `Obligations.MotionCommandsAct`. -/
theorem test_meets_motionCommandsAct :
    startsNow motMoveSpec (pk 0 (leBytes 1 0 ++ leBytes 1 0 ++ zeros 2 ++ leBytes 4 1000 ++ leBytes 4 100000 ++ zeros 4)) (axis0 255 { posValid := true }) = true ∧
    (let p : Packet := pk 0 (leBytes 1 0 ++ leBytes 1 0 ++ zeros 2 ++ leBytes 4 1000 ++ leBytes 4 100000 ++ zeros 4); let s : State := axis0 255 { posValid := true }; p.scope < s.mot.axes.length ∧ p.fld 1 1 = 0) ∧
    startsNow motMoveSpec (pk 0 (leBytes 1 2 ++ leBytes 1 2 ++ zeros 2 ++ leBytes 4 1000 ++ leBytes 4 0 ++ zeros 4)) (axis0 255 {}) = true ∧
    (let p : Packet := pk 0 (leBytes 1 2 ++ leBytes 1 2 ++ zeros 2 ++ leBytes 4 1000 ++ leBytes 4 0 ++ zeros 4); let s : State := axis0 255 {}; p.scope < s.mot.axes.length ∧ p.fld 1 1 ≠ 0) ∧
    startsNow motStopSpec (pk 0 []) (axis0 255 { v := 99, mode := .moving, move := some { target := 5, cruise := 5 } }) = true ∧
    (let s : State := axis0 255 { v := 99, mode := .moving, move := some { target := 5, cruise := 5 } }; 0 < s.mot.axes.length ∧ s.axisOn 0 = true) ∧
    startsNow motStopSpec (pk 0xFFFF []) (axis0 255 { v := 99, mode := .moving, move := some { target := 5, cruise := 5 } }) = true ∧
    (let s : State := axis0 255 { v := 99, mode := .moving, move := some { target := 5, cruise := 5 } }; 0 < s.mot.axes.length ∧ s.axisOn 0 = true) ∧
    startsNow motSetPositionSpec (sealedAs motSetPositionSpec.opcode (pk 0 (leBytes 8 (2 ^ 32 - 7)))) (axis0 255 {}) = true ∧
    (let p : Packet := sealedAs motSetPositionSpec.opcode (pk 0 (leBytes 8 (2 ^ 32 - 7))); let s : State := axis0 255 {}; p.scope < s.mot.axes.length) ∧
    startsNow motFaultClearSpec (pk 0 []) (axis0 255 { mode := .fault, cause := 1 }) = true ∧
    (let p : Packet := pk 0 []; let s : State := axis0 255 { mode := .fault, cause := 1 }; p.scope < s.mot.axes.length ∧ (s.axis p.scope).mode = .fault ∧ (s.axis p.scope).pinLow = false) ∧
    startsNow motFaultClearSpec (pk 7 []) (axis0 255 {}) = true ∧
    (let p : Packet := pk 7 []; let s : State := axis0 255 {}; p.scope < s.mot.axes.length ∧ (s.axis p.scope).mode ≠ .fault) ∧
    startsNow motStreamStartSpec (pk 0xFFFF []) ({ axis0 255 {} with svc := { modes := 128 } }) = true :=
  ⟨by decide +kernel,
    by decide +kernel,
    by decide +kernel,
    by decide +kernel,
    by decide +kernel,
    by decide +kernel,
    by decide +kernel,
    by decide +kernel,
    sealed_starts ⟨by decide +kernel, rfl⟩ (by decide +kernel),
    by decide +kernel,
    by decide +kernel,
    by decide +kernel,
    by decide +kernel,
    by decide +kernel,
    by decide +kernel⟩

/-- States and operands that meet the hypotheses of `Obligations.MotionEventsAct`. -/
theorem test_meets_motionEventsAct :
    (let s : State := axis0 255 { v := 5, move := some { target := 2 ^ 40, cruise := 2 ^ 30 } }; s.up = true ∧ s.mot.tick < max s.dt 32000 / 16000) ∧
    (let s : State := axis0 255 { p := 5, pf := 5, move := some { target := 5, cruise := 5 } }; s.up = true ∧ (s.at 300).moveReached 0 = true ∧ (s.axis 0).move = some { target := 5, cruise := 5 }) ∧
    (let s : State := axis0 255 { pfSpeed := 5, v := 5, move := some { target := 2 ^ 50, cruise := 5, acc := some 4, speedMode := true } }; s.up = true ∧ (s.at 300).moveReached 0 = true ∧ (s.axis 0).move = some { target := 2 ^ 50, cruise := 5, acc := some 4, speedMode := true } ∧ (s.axis 0).v ≠ 0) ∧
    (let s : State := { axis0 0 { waitZero := some 10000 } with fbk := { channels := { track := { c := -9 } } :: List.replicate 8 {} } }; s.up = true ∧ (s.axis 0).waitZero = some 10000 ∧ s.feedback 0 = some (-9)) ∧
    (let s : State := axis0 255 { v := 9 }; s.up = true ∧ (s.axis 0).mode ≠ .fault ∧ s.axisOn 0 = true) ∧
    (let s : State := axis0 255 { pinLow := true }; s.up = true) ∧
    (let s : State := axis0 255 { wait := some { input := 1, mode := 0, value := 0, speed := 1, acc := 3 } }; s.up = true ∧ 1 < s.mot.syncIn.length ∧ (s.axis 0).wait = some { input := 1, mode := 0, value := 0, speed := 1, acc := 3 }) :=
  ⟨by decide +kernel,
    by decide +kernel,
    by decide +kernel,
    by decide +kernel,
    by decide +kernel,
    by decide +kernel,
    by decide +kernel⟩

/-- States and operands that meet the hypotheses of `Obligations.FeedbackActs`. -/
theorem test_meets_feedbackActs :
    startsNow fbkSetCountSpec (sealedAs fbkSetCountSpec.opcode (pk 0 (leBytes 8 (2 ^ 32 - 3)))) (chan0 2 { track := { lost := true } }) = true ∧
    (let p : Packet := sealedAs fbkSetCountSpec.opcode (pk 0 (leBytes 8 (2 ^ 32 - 3))); let s : State := chan0 2 { track := { lost := true } }; p.scope < s.fbk.channels.length) ∧
    (let s : State := chan0 1 {}; s.up = true ∧ 0 < s.fbk.channels.length ∧ s.fbkMode 0 = 1) ∧
    (let s : State := chan0 2 {}; s.up = true ∧ s.fbkMode 0 = 2 ∧ (byteField (s.param 0xA000 0) 1 1).testBit 0 = false) ∧
    (let s : State := chan0 2 {}; s.up = true ∧ s.fbkMode 0 = 2 ∧ true ≠ (s.channel 0).a ∧ true ≠ (s.channel 0).b) ∧
    (let s : State := chan0 (2 + 2 ^ 33 + 2 ^ 64 * 8) { track := { c := 4 } }; s.up = true ∧ s.fbkMode 0 = 2 ∧ byteField (s.param 0xA000 0) 4 1 = 2) ∧
    (let s : State := chan0 (2 + 2 ^ 32) { track := { c := 4 } }; s.up = true ∧ s.fbkMode 0 = 2 ∧ byteField (s.param 0xA000 0) 4 1 = 1) ∧
    (let s : State := chan0 3 { ssiFails := 1 }; s.up = true ∧ s.fbkMode 0 = 3) ∧
    (let s : State := chan0 3 { ssiFails := 1 }; s.up = true ∧ s.fbkMode 0 = 3) :=
  ⟨sealed_starts ⟨by decide +kernel, rfl⟩ (by decide +kernel),
    by decide +kernel,
    by decide +kernel,
    by decide +kernel,
    by decide +kernel,
    by decide +kernel,
    by decide +kernel,
    by decide +kernel,
    by decide +kernel⟩

/-- States and operands that meet the hypotheses of `Obligations.EmittersAct`. -/
theorem test_meets_emittersAct :
    startsNow emdFrameLoadSpec (pk 0 (leBytes 8 dramBase ++ leBytes 1 1 ++ zeros 3 ++ leBytes 4 64 ++ leBytes 4 64 ++ zeros 4)) ({ emit0 {} with dram := [(dramBase, 5#8)] }) = true ∧
    (let p : Packet := pk 0 (leBytes 8 dramBase ++ leBytes 1 1 ++ zeros 3 ++ leBytes 4 64 ++ leBytes 4 64 ++ zeros 4); let s : State := { emit0 {} with dram := [(dramBase, 5#8)] }; p.scope < s.emd.length ∧ p.fld 8 1 < (s.bus p.scope).pages.length) ∧
    startsNow emdLatchSpec (pk 0 (leBytes 1 1 ++ leBytes 1 4 ++ zeros 6 ++ leBytes 8 900)) (emit0 {}) = true ∧
    startsNow emdDarkSpec (pk 0 []) (emit0 { active := some 1, latch := some { page := 1, when_ := .at_ 900, acc := 0 } }) = true ∧
    (let s : State := emit0 { active := some 1, latch := some { page := 1, when_ := .at_ 900, acc := 0 } }; 0 < s.emd.length) ∧
    startsNow emdDarkSpec (pk 0xFFFF []) ({ base .ready with emd := List.replicate 4 { active := some 1 } }) = true ∧
    (let s : State := { base .ready with emd := List.replicate 4 { active := some 1 } }; 3 < s.emd.length) ∧
    (let s : State := emit0 { active := some 0, lastLatch := 300, latch := some { page := 1, when_ := .at_ 900, acc := 0 } }; s.up = true ∧ s.emdOn 0 = true ∧ (s.bus 0).latch = some { page := 1, when_ := .at_ 900, acc := 0 } ∧ (s.bus 0).seq = [] ∧ ((s.bus 0).page 1).content = .loaded ∧ (s.bus 0).lastLatch + 16000 ≤ 16300) ∧
    (let s : State := emit0 { active := some 0, lastLatch := 300 }; s.up = true ∧ s.emdOn 0 = true ∧ (s.bus 0).active = some 0 ∧ (s.bus 0).seq = [] ∧ (s.bus 0).latch = none ∧ (s.bus 0).lastLatch + ceilDiv 48000000 (max 1 (s.matrixDt 0)) * max 1 (s.matrixDt 0) ≤ 64000000) ∧
    (let s : State := emit0 { pages := [{ content := .transferring, loads := [4], buffer := [(0, 1#8)] }, {}] }; s.up = true ∧ s.emdOn 0 = true ∧ ((List.range 2).find? fun k => ((s.bus 0).page k).content == .transferring) = some 0 ∧ 0 < (s.bus 0).pages.length) ∧
    (let s : State := emit0 { drivers := List.replicate 64 { misses := 2 } }; s.up = true ∧ s.emdOn 0 = true ∧ (s.emdMask 0).contains 0 = true ∧ 0 < (s.bus 0).drivers.length ∧ emdReplyOf (reply0 9) = some (5, 9)) :=
  ⟨by decide +kernel,
    by decide +kernel,
    by decide +kernel,
    by decide +kernel,
    by decide +kernel,
    by decide +kernel,
    by decide +kernel,
    by decide +kernel,
    by decide +kernel,
    by decide +kernel,
    by decide +kernel⟩

/-- States and operands that meet the hypotheses of `Obligations.HostQueriesAct`. -/
theorem test_meets_hostQueriesAct :
    startsNow devIdentifySpec (pk 0xFFFF []) (base .ready) = true ∧
    (let p : Packet := pk 0xFFFF []; p.flags.testBit 3 = false) ∧
    startsNow nopSpec (pk 0xFFFF []) (base .ready) = true ∧
    (let p : Packet := pk 0xFFFF []; p.flags.testBit 3 = false) ∧
    startsNow counterReadSpec (pk 0xFFFF []) (base .ready) = true ∧
    (let p : Packet := pk 0xFFFF []; p.flags.testBit 3 = false) ∧
    startsNow streamFenceSpec (pk 0xFFFF []) (base .ready) = true ∧
    (let s : State := base .ready; s.exposing = false) ∧
    startsNow streamFenceSpec (pk 0xFFFF []) (exposing0) = true ∧
    (let s : State := exposing0; s.exposing = true) :=
  ⟨by decide +kernel,
    by decide +kernel,
    by decide +kernel,
    by decide +kernel,
    by decide +kernel,
    by decide +kernel,
    by decide +kernel,
    by decide +kernel,
    by decide +kernel,
    by decide +kernel⟩

/-- States and operands that meet the hypotheses of `Obligations.QueuesAndKeysAct`. -/
theorem test_meets_queuesAndKeysAct :
    startsNow queueCreateSpec (pk 0xFFFF (leBytes 1 63 ++ leBytes 1 16 ++ leBytes 1 63 ++ zeros 5 ++ leBytes 8 4096 ++ leBytes 8 8192 ++ zeros 8)) (base .ready) = true ∧
    (let p : Packet := pk 0xFFFF (leBytes 1 63 ++ leBytes 1 16 ++ leBytes 1 63 ++ zeros 5 ++ leBytes 8 4096 ++ leBytes 8 8192 ++ zeros 8); let s : State := base .ready; p.fld 0 1 < s.host.qps.length) ∧
    startsNow queueDeleteSpec (pk 0xFFFF (leBytes 8 5)) (withHost (fun h => { h with qps := updAt h.qps 5 fun x => { x with enabled := true, sizeExp := 4 } }) (base .ready)) = true ∧
    (let p : Packet := pk 0xFFFF (leBytes 8 5); let s : State := withHost (fun h => { h with qps := updAt h.qps 5 fun x => { x with enabled := true, sizeExp := 4 } }) (base .ready); p.fld 0 1 < s.host.qps.length ∧ (s.host.qps.all fun q => q.deleting.isNone) = true ∧ s.outstanding (.qp (p.fld 0 1)) = 0) ∧
    startsNow queueDeleteSpec (pk 0xFFFF (leBytes 8 5)) (withHost (fun h => { h with qps := updAt h.qps 5 (fun x => { x with enabled := true, sizeExp := 4 }), inProg := [{ ahead0 with packet := { pk 0xFFFF [] with origin := .qp 5 } }] }) (base .ready)) = true ∧
    (let p : Packet := pk 0xFFFF (leBytes 8 5); let s : State := withHost (fun h => { h with qps := updAt h.qps 5 (fun x => { x with enabled := true, sizeExp := 4 }), inProg := [{ ahead0 with packet := { pk 0xFFFF [] with origin := .qp 5 } }] }) (base .ready); p.fld 0 1 < s.host.qps.length ∧ (s.host.qps.all fun q => q.deleting.isNone) = true ∧ s.outstanding (.qp (p.fld 0 1)) ≠ 0) ∧
    startsNow keyLoadSpec (pk 0xFFFF (leBytes 8 7 ++ List.replicate 32 9#8 ++ zeros 8)) (withHost (fun h => { h with keys := List.replicate 8 { last := 3, lease := 70 } }) (base .standby)) = true ∧
    (let p : Packet := pk 0xFFFF (leBytes 8 7 ++ List.replicate 32 9#8 ++ zeros 8); let s : State := withHost (fun h => { h with keys := List.replicate 8 { last := 3, lease := 70 } }) (base .standby); p.fld 0 1 < s.host.keys.length ∧ s.loadedKey p = some (List.replicate 32 9#8)) ∧
    startsNow keyRetireSpec (sealedAs keyRetireSpec.opcode (pk 0xFFFF (leBytes 8 1))) (withHost (fun h => { h with keys := updAt h.keys 1 fun x => { x with state := .active, key := key0 } }) (base .ready)) = true ∧
    (let p : Packet := sealedAs keyRetireSpec.opcode (pk 0xFFFF (leBytes 8 1)); let s : State := withHost (fun h => { h with keys := updAt h.keys 1 fun x => { x with state := .active, key := key0 } }) (base .ready); p.fld 0 1 < s.host.keys.length) :=
  ⟨by decide +kernel,
    by decide +kernel,
    by decide +kernel,
    by decide +kernel,
    by decide +kernel,
    by decide +kernel,
    by decide +kernel,
    by decide +kernel,
    sealed_starts ⟨by decide +kernel, rfl⟩ (by decide +kernel),
    by decide +kernel⟩

/-- States and operands that meet the hypotheses of `Obligations.Bar0Acts`. -/
theorem test_meets_bar0Acts :
    (let s : State := base .ready; s.bar0 = true ∧ (s.qp 0).enabled = true ∧ 65791 % 65536 < (s.qp 0).slots) ∧
    (let s : State := base .ready; s.bar0 = true ∧ (s.qp 0).slots ≤ 256 % 65536) ∧
    (let s : State := base .ready; s.bar0 = true ∧ (s.qp 63).enabled = false) ∧
    (let s : State := withHost (fun h => { h with qps := updAt h.qps 0 fun x => { x with cqHead := 255, cqUsed := 2 } }) (base .ready); s.bar0 = true ∧ (s.qp 0).enabled = true ∧ 1 % 65536 < (s.qp 0).slots ∧ (1 % 65536 + (s.qp 0).slots - (s.qp 0).cqHead) % (s.qp 0).slots = 2 ∧ 2 ≤ (s.qp 0).cqUsed) ∧
    (let s : State := base .ready; s.bar0 = true ∧ cfgEnable s.host.qp0Cfg = false ∧ 64 % 64 = 0) ∧
    (let s : State := base .ready; s.bar0 = true ∧ cfgEnable s.host.qp0Cfg = false) ∧
    (let s : State := base .ready; s.bar0 = true ∧ 63 % 64 ≠ 0) ∧
    (let s : State := withHost (fun h => { h with qp0Cfg := 1025 }) (base .ready); s.bar0 = true ∧ cfgEnable s.host.qp0Cfg = true) ∧
    (let s : State := withHost (fun h => { h with qp0SqBase := 64, qp0CqBase := 128 }) (base .ready); s.bar0 = true ∧ 0 < s.host.qps.length ∧ cfgEnable s.host.qp0Cfg = false ∧ cfgEnable 4097 = true ∧ 4 ≤ cfgSizeExp 4097 ∧ cfgSizeExp 4097 ≤ 16) ∧
    (let s : State := withHost (fun h => { h with qp0Cfg := 4097 }) (base .ready); s.bar0 = true ∧ cfgEnable s.host.qp0Cfg = true ∧ cfgEnable 4096 = false) ∧
    (let s : State := base .ready; s.bar0 = true ∧ 63 < s.host.vectors.length) ∧
    (let s : State := base .ready; s.bar0 = true) ∧
    (let s : State := base .ready; s.bar0 = true ∧ ((16 == 4 || 16 == 8) && 8 % 16 == 0) = false) ∧
    (let s : State := withPar [(devPar (streamHostId 4), 4096 + 2 ^ 64 * 65536)] (base .ready); s.bar0 = true ∧ 65472 % 64 = 0 ∧ 65472 < s.hostSize 4) :=
  ⟨by decide +kernel,
    by decide +kernel,
    by decide +kernel,
    by decide +kernel,
    by decide +kernel,
    by decide +kernel,
    by decide +kernel,
    by decide +kernel,
    by decide +kernel,
    by decide +kernel,
    by decide +kernel,
    by decide +kernel,
    by decide +kernel,
    by decide +kernel⟩

/-- States and operands that meet the hypotheses of `Obligations.PacketsAct`. -/
theorem test_meets_packetsAct :
    (let s : State := withHost (fun h => { h with qps := updAt h.qps 0 fun x => { x with sqTail := 1 } }) (base .ready); s.up = true ∧ (s.at 300).turn = some 0 ∧ (nopSlot 0).length = 64 ∧ slotFail (nopSlot 0) ((nopSlot 0).drop 16) = none) ∧
    (let s : State := withHost (fun h => { h with qps := updAt h.qps 0 fun x => { x with sqTail := 1 } }) (base .ready); s.up = true ∧ (s.at 300).turn = some 0 ∧ (nopSlot 1).length = 64 ∧ slotFail (nopSlot 1) ((nopSlot 1).drop 16) = some stRange) ∧
    (let s : State := { withPar [(parKey 0xE000 3, 1)] (base .ready) with net := { ports := List.replicate 4 { lock := true } } }; s.up = true ∧ (s.at 300).ethUp 3 = true ∧ s.accepts = true ∧ 16 ≤ nopBytes.length ∧ nopBytes.length = 8 * field nopBytes 4 2 ∧ (s.at 300).sessionFor 0x0A000001 5000 = some 0 ∧ s.dparam 0xE004 = 47130) ∧
    (let s : State := withHost (fun h => { h with waiting := [wait0 none] }) (base .ready); s.up = true ∧ (s.host.waiting.find? fun w => w.acc == 1 && w.lease.isNone) = some (wait0 none) ∧ s.blocked 1 (wait0 none).packet = false) ∧
    (let s : State := withHost (fun h => { h with waiting := [{ wait0 none with packet := { pk 0xFFFF [] with flags := 2 } }], inProg := [ahead0] }) (base .ready); s.up = true ∧ (s.host.waiting.find? fun w => w.acc == 1 && w.lease.isNone) = some { wait0 none with packet := { pk 0xFFFF [] with flags := 2 } } ∧ s.fenced 1 { pk 0xFFFF [] with flags := 2 } = true ∧ 100 + 16000000 * s.dparam 0x0017 < 16000000000000) ∧
    (let s : State := { base .ready with recorder := { journal := { queue := [lease0] } } }; s.up = true ∧ s.recorder.journal.queue = lease0 :: [] ∧ lease0.use = .lease 0 ∧ 0 < s.host.keys.length ∧ (s.host.waiting.all fun w => w.lease.isNone) = true ∧ ((s.at 300).journalEnd true).2 = some (.lease 0, true)) ∧
    (let s : State := { base .ready with recorder := { journal := { queue := [{ lease0 with attempts := 2 }] } } }; s.up = true ∧ s.recorder.journal.queue = { lease0 with attempts := 2 } :: [] ∧ ((s.at 300).journalEnd false).2 = some (.lease 0, false) ∧ (s.host.waiting.all fun w => w.lease.isNone) = true) :=
  ⟨by decide +kernel,
    by decide +kernel,
    by decide +kernel,
    by decide +kernel,
    by decide +kernel,
    by decide +kernel,
    by decide +kernel⟩

/-- States and operands that meet the hypotheses of `Obligations.HostEventsAct`. -/
theorem test_meets_hostEventsAct :
    (let s : State := withHost (fun h => { h with qps := updAt h.qps 0 (fun x => { x with cqTail := 255 }), cqWait := [{ qp := 0, packet := zeros 64, resultAddr := 0, marker := false }] }) (base .ready); s.up = true ∧ (s.host.cqWait.find? fun c => c.qp == 0) = some { qp := 0, packet := zeros 64, resultAddr := 0, marker := false } ∧ (s.qp 0).enabled = true ∧ (s.qp 0).cqUsed < (s.qp 0).slots ∧ s.mayWrite = true ∧ s.host.held = []) ∧
    (let s : State := withHost (fun h => { h with sessions := List.replicate 16 (some { src := 1, port := 2, lastDt := 50 }) }) (base .ready); s.up = true ∧ s.host.sessions.getD 15 none = some { src := 1, port := 2, lastDt := 50 } ∧ 50 + 16000000000 * s.dparam 0x0018 ≤ 64000000000000) ∧
    (let s : State := withHost (fun h => { h with msixEnable := true, vectors := List.replicate 64 { entries := 1, first := 100, masked := false, addr := 8, data := 9 } }) (base .ready); s.up = true ∧ 63 < s.host.vectors.length ∧ 0 < (s.host.vectors.getD 63 {}).entries ∧ (s.host.vectors.getD 63 {}).due = false ∧ (s.host.vectors.getD 63 {}).first + 16000 * (s.host.vectors.getD 63 {}).timer ≤ 3200000 ∧ s.maySend 63 = true) ∧
    (let s : State := withHost (fun h => { h with msixEnable := true, vectors := List.replicate 64 { entries := 1, first := 100, masked := true } }) (base .ready); s.up = true ∧ 0 < (s.host.vectors.getD 0 {}).entries ∧ (s.host.vectors.getD 0 {}).due = false ∧ (s.host.vectors.getD 0 {}).first + 16000 * (s.host.vectors.getD 0 {}).timer ≤ 3200000 ∧ s.maySend 0 = false) ∧
    (let s : State := base .ready; s.up = true ∧ s.host.ready = true ∧ s.host.d3hot = false ∧ 63 < s.host.vectors.length) ∧
    (let s : State := base .ready; s.up = true ∧ s.host.ready = true ∧ s.host.d3hot = false) ∧
    (let s : State := base .ready; s.up = true) ∧
    (let s : State := withHost (fun h => { h with d3hot := true, held := [{ addr := 4, bytes := [1#8], vector := 0 }] }) (base .ready); s.up = true) ∧
    (let s : State := base .armed; s.up = true) ∧
    (let s : State := withHost (fun h => { h with linkL1 := true }) (base .ready); s.up = true) :=
  ⟨by decide +kernel,
    by decide +kernel,
    by decide +kernel,
    by decide +kernel,
    by decide +kernel,
    by decide +kernel,
    by decide +kernel,
    by decide +kernel,
    by decide +kernel,
    by decide +kernel⟩

/-- States and operands that meet the hypotheses of `Obligations.ParameterValuesAct`. -/
theorem test_meets_parameterValuesAct :
    startsNow paramSetSpec (setPk 0x2000 31 4 77) (base .ready) = true ∧
    (let p : Packet := setPk 0x2000 31 4 77; let s : State := base .ready; s.cyc.state ≠ .armed ∧ s.cyc.state ≠ .hold ∧ (rowOf p.paramId).any (fun r => (s.scopesOf r p.scope).all fun sc => sc = 31) = true ∧ readStream p.paramId = none) ∧
    startsNow paramSetSpec (sealedAs paramSetSpec.opcode (setPk 0x3000 31 4 7)) (base .ready) = true ∧
    (let p : Packet := sealedAs paramSetSpec.opcode (setPk 0x3000 31 4 7); let s : State := base .ready; s.cyc.state ≠ .armed ∧ (rowOf p.paramId).isSome) ∧
    startsNow paramSetSpec (sealedAs paramSetSpec.opcode (setPk 0x3000 0xFFFF 4 7)) (withPar [(parKey 0x3000 3, 5), (parKey 0x3000 4, 9)] (base .armed)) = true ∧
    (let p : Packet := sealedAs paramSetSpec.opcode (setPk 0x3000 0xFFFF 4 7); let s : State := withPar [(parKey 0x3000 3, 5), (parKey 0x3000 4, 9)] (base .armed); s.cyc.state = .armed ∧ (rowOf p.paramId).isSome ∧ p.paramId = 0x3000) ∧
    startsNow paramSetSpec (sealedAs paramSetSpec.opcode (setPk 0x3001 0xFFFF 4 0xFFFFFFFE)) (base .armed) = true ∧
    (let p : Packet := sealedAs paramSetSpec.opcode (setPk 0x3001 0xFFFF 4 0xFFFFFFFE); let s : State := base .armed; s.cyc.state = .armed ∧ (rowOf p.paramId).isSome ∧ p.paramId = 0x3001) ∧
    startsNow paramSetSpec (setPk 0x2000 31 4 7) (base .armed) = true ∧
    (let p : Packet := setPk 0x2000 31 4 7; let s : State := base .armed; s.cyc.state = .armed ∧ (rowOf p.paramId).any (fun r => r.timing == .fence) = true) ∧
    startsNow paramSetSpec (setPk 0x1000 65535 4 1) (base .standby) = true ∧
    (let p : Packet := setPk 0x1000 65535 4 1; let s : State := base .standby; s.cyc.state ≠ .armed ∧ s.cyc.state ≠ .hold ∧ (rowOf p.paramId).any (fun r => 65535 ∈ s.scopesOf r p.scope ∧ p.fld 8 r.size = 1) = true ∧ readStream p.paramId = none) ∧
    startsNow paramSetSpec (setPk 0x9004 7 4 4294967295) (base .ready) = true ∧
    (let p : Packet := setPk 0x9004 7 4 4294967295; let s : State := base .ready; s.cyc.state ≠ .armed ∧ s.cyc.state ≠ .hold ∧ (rowOf p.paramId).any (fun r => 7 ∈ s.scopesOf r p.scope ∧ p.fld 8 r.size = 4294967295) = true ∧ readStream p.paramId = none) ∧
    startsNow paramSetSpec (setPk 0x9005 0 4 1) (base .ready) = true ∧
    (let p : Packet := setPk 0x9005 0 4 1; let s : State := base .ready; s.cyc.state ≠ .armed ∧ s.cyc.state ≠ .hold ∧ (rowOf p.paramId).any (fun r => 0 ∈ s.scopesOf r p.scope ∧ p.fld 8 r.size = 1) = true ∧ readStream p.paramId = none) ∧
    startsNow paramSetSpec (setPk 0x9006 7 8 (2 ^ 31 + 2 ^ 32 * (2 ^ 31 - 1))) (base .ready) = true ∧
    (let p : Packet := setPk 0x9006 7 8 (2 ^ 31 + 2 ^ 32 * (2 ^ 31 - 1)); let s : State := base .ready; s.cyc.state ≠ .armed ∧ s.cyc.state ≠ .hold ∧ (rowOf p.paramId).any (fun r => 7 ∈ s.scopesOf r p.scope ∧ p.fld 8 r.size = (2 ^ 31 + 2 ^ 32 * (2 ^ 31 - 1))) = true ∧ readStream p.paramId = none) ∧
    startsNow paramSetSpec (sealedAs paramSetSpec.opcode (setPk 0xA000 7 16 2)) (base .ready) = true ∧
    (let p : Packet := sealedAs paramSetSpec.opcode (setPk 0xA000 7 16 2); let s : State := base .ready; s.cyc.state ≠ .armed ∧ s.cyc.state ≠ .hold ∧ (rowOf p.paramId).any (fun r => 7 ∈ s.scopesOf r p.scope ∧ p.fld 8 r.size = 2) = true ∧ readStream p.paramId = none) ∧
    startsNow paramSetSpec (setPk 0xA005 8 16 (2 ^ 48 * 25)) (base .ready) = true ∧
    (let p : Packet := setPk 0xA005 8 16 (2 ^ 48 * 25); let s : State := base .ready; s.cyc.state ≠ .armed ∧ s.cyc.state ≠ .hold ∧ (rowOf p.paramId).any (fun r => 8 ∈ s.scopesOf r p.scope ∧ p.fld 8 r.size = (2 ^ 48 * 25)) = true ∧ readStream p.paramId = none) ∧
    startsNow paramSetSpec (setPk 0xB001 3 64 256) (base .ready) = true ∧
    (let p : Packet := setPk 0xB001 3 64 256; let s : State := base .ready; s.cyc.state ≠ .armed ∧ s.cyc.state ≠ .hold ∧ (rowOf p.paramId).any (fun r => 3 ∈ s.scopesOf r p.scope ∧ p.fld 8 r.size = 256) = true ∧ readStream p.paramId = none) ∧
    startsNow paramSetSpec (setPk 0xC000 31 8 (1 + 65536 * 16)) (base .standby) = true ∧
    (let p : Packet := setPk 0xC000 31 8 (1 + 65536 * 16); let s : State := base .standby; s.cyc.state ≠ .armed ∧ s.cyc.state ≠ .hold ∧ (rowOf p.paramId).any (fun r => 31 ∈ s.scopesOf r p.scope ∧ p.fld 8 r.size = (1 + 65536 * 16)) = true ∧ readStream p.paramId = none) ∧
    startsNow paramSetSpec (setPk 0xE000 3 8 (2048 + 1)) (base .ready) = true ∧
    (let p : Packet := setPk 0xE000 3 8 (2048 + 1); let s : State := base .ready; s.cyc.state ≠ .armed ∧ s.cyc.state ≠ .hold ∧ (rowOf p.paramId).any (fun r => 3 ∈ s.scopesOf r p.scope ∧ p.fld 8 r.size = (2048 + 1)) = true ∧ readStream p.paramId = none) ∧
    startsNow paramSetSpec (sealedAs paramSetSpec.opcode (setPk 0xC100 65535 4 2)) (base .standby) = true ∧
    (let p : Packet := sealedAs paramSetSpec.opcode (setPk 0xC100 65535 4 2); let s : State := base .standby; s.cyc.state ≠ .armed ∧ s.cyc.state ≠ .hold ∧ (rowOf p.paramId).any (fun r => 65535 ∈ s.scopesOf r p.scope ∧ p.fld 8 r.size = 2) = true ∧ readStream p.paramId = none) ∧
    startsNow paramSetSpec (setPk 0x8005 7 8 65535) (base .ready) = true ∧
    (let p : Packet := setPk 0x8005 7 8 65535; let s : State := base .ready; s.cyc.state ≠ .armed ∧ s.cyc.state ≠ .hold ∧ (rowOf p.paramId).any (fun r => 7 ∈ s.scopesOf r p.scope ∧ p.fld 8 r.size = 65535) = true ∧ readStream p.paramId = none) :=
  ⟨by decide +kernel,
    by decide +kernel,
    sealed_starts ⟨by decide +kernel, rfl⟩ (by decide +kernel),
    by decide +kernel,
    sealed_starts ⟨by decide +kernel, rfl⟩ (by decide +kernel),
    by decide +kernel,
    sealed_starts ⟨by decide +kernel, rfl⟩ (by decide +kernel),
    by decide +kernel,
    by decide +kernel,
    by decide +kernel,
    by decide +kernel,
    by decide +kernel,
    by decide +kernel,
    by decide +kernel,
    by decide +kernel,
    by decide +kernel,
    by decide +kernel,
    by decide +kernel,
    sealed_starts ⟨by decide +kernel, rfl⟩ (by decide +kernel),
    by decide +kernel,
    by decide +kernel,
    by decide +kernel,
    by decide +kernel,
    by decide +kernel,
    by decide +kernel,
    by decide +kernel,
    by decide +kernel,
    by decide +kernel,
    sealed_starts ⟨by decide +kernel, rfl⟩ (by decide +kernel),
    by decide +kernel,
    by decide +kernel,
    by decide +kernel⟩

/-- States and operands that meet the hypotheses of `Obligations.ParameterEffectsAct`. -/
theorem test_meets_parameterEffectsAct :
    startsNow paramSetSpec (setPk 0x7000 0xFFFF 8 (2 ^ 32 * 1000 + 2000)) ({ base .standby with ledger := { cells := [{ idx := 4, heat := 9, stamp := 0 }] } }) = true ∧
    (let p : Packet := setPk 0x7000 0xFFFF 8 (2 ^ 32 * 1000 + 2000); (rowOf p.paramId).isSome ∧ p.paramId = 0x7000) ∧
    startsNow paramSetSpec (setPk (streamRingId 4) 0xFFFF 16 (dramBase + 2 ^ 64 * 1048576)) ({ base .standby with streams := List.replicate 5 { written := 64, copied := 64, hostWrite := 64 } }) = true ∧
    (let p : Packet := setPk (streamRingId 4) 0xFFFF 16 (dramBase + 2 ^ 64 * 1048576); let s : State := { base .standby with streams := List.replicate 5 { written := 64, copied := 64, hostWrite := 64 } }; (rowOf p.paramId).isSome ∧ ringStream p.paramId = some 4 ∧ 4 < s.streams.length) ∧
    startsNow paramSetSpec (setPk (streamHostId 0) 0xFFFF 32 (2 ^ 64 * 65536)) ({ base .standby with streams := List.replicate 5 { hostWrite := 64 } }) = true ∧
    (let p : Packet := setPk (streamHostId 0) 0xFFFF 32 (2 ^ 64 * 65536); let s : State := { base .standby with streams := List.replicate 5 { hostWrite := 64 } }; (rowOf p.paramId).isSome ∧ hostRingStream p.paramId = some 0 ∧ 0 < s.streams.length) ∧
    startsNow paramSetSpec (setPk (streamReadId 0) 0xFFFF 8 64) (withPar [(devPar (streamHostId 0), 2 ^ 64 * 65536)] (base .ready)) = true ∧
    (let p : Packet := setPk (streamReadId 0) 0xFFFF 8 64; let s : State := withPar [(devPar (streamHostId 0), 2 ^ 64 * 65536)] (base .ready); (rowOf p.paramId).isSome ∧ readStream p.paramId = some 0 ∧ 0 < s.streams.length) ∧
    startsNow paramSetSpec (setPk 0x6CFF 0xFFFF 4 2) ({ base .ready with loop := { loops := List.replicate 256 { flags := 3 } } }) = true ∧
    (let p : Packet := setPk 0x6CFF 0xFFFF 4 2; let s : State := { base .ready with loop := { loops := List.replicate 256 { flags := 3 } } }; (rowOf p.paramId).isSome ∧ p.paramId = 0x6C00 + 255 ∧ 255 < s.loop.loops.length) ∧
    startsNow paramSetSpec (setPk 0x800D 0 4 5) (withPar [(parKey 0x800C 0, dramBase + 2 ^ 64 * 4096 + 2 ^ 96 * 8)] (camPort .ready { full := [4, 5] })) = true ∧
    (let p : Packet := setPk 0x800D 0 4 5; let s : State := withPar [(parKey 0x800C 0, dramBase + 2 ^ 64 * 4096 + 2 ^ 96 * 8)] (camPort .ready { full := [4, 5] }); (rowOf p.paramId).isSome ∧ p.paramId = 0x800D ∧ p.scope < s.img.ports.length) ∧
    startsNow paramSetSpec (setPk 0x8000 0 16 cam0) (camPort .standby { inFrame := true }) = true ∧
    (let p : Packet := setPk 0x8000 0 16 cam0; let s : State := camPort .standby { inFrame := true }; (rowOf p.paramId).isSome ∧ p.paramId = 0x8000 ∧ p.scope < s.img.ports.length) ∧
    startsNow paramSetSpec (setPk 0xB000 0 16 1073809408) ({ emit0 { active := some 1 } with cyc := { state := .standby } }) = true ∧
    (let p : Packet := setPk 0xB000 0 16 1073809408; let s : State := { emit0 { active := some 1 } with cyc := { state := .standby } }; (rowOf p.paramId).isSome ∧ p.paramId = 0xB000 ∧ p.scope < s.emd.length ∧ s.param 0xB000 p.scope ≠ p.fld 8 16) ∧
    startsNow paramSetSpec (sealedAs paramSetSpec.opcode (setPk 0xD100 0xFFFF 32 (1 + 65536 * 4))) (base .standby) = true ∧
    (let p : Packet := sealedAs paramSetSpec.opcode (setPk 0xD100 0xFFFF 32 (1 + 65536 * 4)); let s : State := base .standby; (rowOf p.paramId).isSome ∧ p.paramId = 0xD100 + 0 ∧ 0 < s.dma.channels.length) ∧
    startsNow paramSetSpec (sealedAs paramSetSpec.opcode (setPk 0xA006 0xFFFF 4 1)) (base .service) = true ∧
    (let p : Packet := sealedAs paramSetSpec.opcode (setPk 0xA006 0xFFFF 4 1); let s : State := base .service; (rowOf p.paramId).isSome ∧ p.paramId = 0xA006 ∧ s.svc.trim = none) ∧
    startsNow paramSetSpec (sealedAs paramSetSpec.opcode (setPk 0xA006 0xFFFF 4 1)) ({ base .service with svc := { trim := some { fe := 0, step := 0, inPlace := true, kind := .rotation, since := 0 } } }) = true ∧
    (let p : Packet := sealedAs paramSetSpec.opcode (setPk 0xA006 0xFFFF 4 1); let s : State := { base .service with svc := { trim := some { fe := 0, step := 0, inPlace := true, kind := .rotation, since := 0 } } }; (rowOf p.paramId).isSome ∧ p.paramId = 0xA006 ∧ s.svc.trim.isSome) ∧
    startsNow paramGetSpec (pk 0xFFFF (leBytes 8 0x0015)) (base .ready) = true ∧
    (let p : Packet := pk 0xFFFF (leBytes 8 0x0015); p.flags.testBit 3 = false) :=
  ⟨by decide +kernel,
    by decide +kernel,
    by decide +kernel,
    by decide +kernel,
    by decide +kernel,
    by decide +kernel,
    by decide +kernel,
    by decide +kernel,
    by decide +kernel,
    by decide +kernel,
    by decide +kernel,
    by decide +kernel,
    by decide +kernel,
    by decide +kernel,
    by decide +kernel,
    by decide +kernel,
    sealed_starts ⟨by decide +kernel, rfl⟩ (by decide +kernel),
    by decide +kernel,
    sealed_starts ⟨by decide +kernel, rfl⟩ (by decide +kernel),
    by decide +kernel,
    sealed_starts ⟨by decide +kernel, rfl⟩ (by decide +kernel),
    by decide +kernel,
    by decide +kernel,
    by decide +kernel⟩

/-- States and operands that meet the hypotheses of `Obligations.ForerunnerCommandsAct`. -/
theorem test_meets_forerunnerCommandsAct :
    startsNow opStatusSpec (pk2 0x20 0xFFFF []) (base .standby) = true ∧
    (let p : Packet := pk2 0x20 0xFFFF []; p.flags.testBit 3 = false) ∧
    startsNow opArmSpec (sealedAs opArmSpec.opcode (pk2 0x24 0xFFFF [])) (armable .ready) = true ∧
    startsNow opDisarmSpec (pk2 0x24 0xFFFF []) (inPhase .expose .hold) = true ∧
    (let s : State := inPhase .expose .hold; s.cyc.state = .hold ∨ s.cyc.phase = .idle) ∧
    startsNow opDisarmSpec (pk2 0x24 0xFFFF []) (inPhase .kettle .armed) = true ∧
    (let s : State := inPhase .kettle .armed; s.cyc.state = .armed ∧ s.cyc.phase ≠ .idle ∧ s.cyc.disarm = none) ∧
    startsNow opPauseSpec (pk2 0x24 0xFFFF []) (base .armed) = true ∧
    startsNow opContinueSpec (sealedAs opContinueSpec.opcode (pk2 0x24 0xFFFF [])) (closedIn .hold .expose) = true ∧
    startsNow opAbortSpec (pk2 0x24 0xFFFF []) (base .armed) = true ∧
    startsNow opRunSpec (pk2 0x24 0xFFFF (leBytes 8 3)) (base .armed) = true ∧
    (let p : Packet := pk2 0x24 0xFFFF (leBytes 8 3); let s : State := base .armed; s.cyc.phase = .idle ∧ 0 < p.fld 0 4) ∧
    startsNow opFenceSpec (pk2 0x24 0xFFFF []) (base .ready) = true ∧
    (let s : State := base .ready; s.exposing = false) ∧
    startsNow opLoadLayerSpec (pk2 0x24 0xFFFF (leBytes 8 dramBase ++ leBytes 4 65530 ++ zeros 4)) (base .standby) = true ∧
    startsNow opFlushSpec (pk2 0x24 0xFFFF []) ({ base .ready with sig := { quire := [{ id := 3, acc := 0, addr := dramBase, len := 4096 }] } }) = true :=
  ⟨by decide +kernel,
    by decide +kernel,
    sealed_starts ⟨by decide +kernel, rfl⟩ (by decide +kernel),
    by decide +kernel,
    by decide +kernel,
    by decide +kernel,
    by decide +kernel,
    by decide +kernel,
    sealed_starts ⟨by decide +kernel, rfl⟩ (by decide +kernel),
    by decide +kernel,
    by decide +kernel,
    by decide +kernel,
    by decide +kernel,
    by decide +kernel,
    by decide +kernel,
    by decide +kernel⟩

/-- States and operands that meet the hypotheses of `Obligations.ForerunnerSettingsAct`. -/
theorem test_meets_forerunnerSettingsAct :
    startsNow opSetJumpSpec (pk2 0x24 11 (leBytes 4 32767 ++ leBytes 4 5)) (base .ready) = true ∧
    (let p : Packet := pk2 0x24 11 (leBytes 4 32767 ++ leBytes 4 5); let s : State := base .ready; s.inLayer = false ∧ 11 ∈ s.v2Heads p.scope) ∧
    startsNow opSetJumpSpec (pk2 0x24 0xFFFF (leBytes 4 1 ++ leBytes 4 5)) (base .armed) = true ∧
    (let p : Packet := pk2 0x24 0xFFFF (leBytes 4 1 ++ leBytes 4 5); let s : State := base .armed; s.inLayer = true ∧ 11 ∈ s.v2Heads p.scope) ∧
    startsNow opSetDelaysSpec (pk2 0x24 0xFFFF (leBytes 2 50000 ++ leBytes 2 10000 ++ leBytes 4 4)) (base .ready) = true ∧
    (let p : Packet := pk2 0x24 0xFFFF (leBytes 2 50000 ++ leBytes 2 10000 ++ leBytes 4 4); let s : State := base .ready; s.inLayer = false ∧ 0 ∈ s.v2Heads p.scope) ∧
    startsNow opSetDelaysSpec (pk2 0x24 0 (leBytes 2 3 ++ leBytes 2 3 ++ leBytes 4 4)) (base .hold) = true ∧
    (let p : Packet := pk2 0x24 0 (leBytes 2 3 ++ leBytes 2 3 ++ leBytes 4 4); let s : State := base .hold; s.inLayer = true ∧ 0 ∈ s.v2Heads p.scope) ∧
    startsNow opSetPowerLimitSpec (sealedAs opSetPowerLimitSpec.opcode (pk2 0x24 3 (leBytes 8 20479))) (base .ready) = true ∧
    (let p : Packet := sealedAs opSetPowerLimitSpec.opcode (pk2 0x24 3 (leBytes 8 20479)); let s : State := base .ready; s.inLayer = false ∧ 3 ∈ s.v2Heads p.scope) ∧
    startsNow opHeadResetSpec (sealedAs opHeadResetSpec.opcode (pk2 0x24 4 [])) ({ base .ready with las := { stopped := 16 } }) = true ∧
    (let s : State := { base .ready with las := { stopped := 16 } }; s.inLayer = false) ∧
    startsNow opMoveAxisSpec (pk2 0x24 0 (leBytes 1 1 ++ zeros 3 ++ leBytes 4 1000 ++ leBytes 4 100000 ++ zeros 4)) (axis0 255 { posValid := true }) = true ∧
    (let p : Packet := pk2 0x24 0 (leBytes 1 1 ++ zeros 3 ++ leBytes 4 1000 ++ leBytes 4 100000 ++ zeros 4); let s : State := axis0 255 { posValid := true }; p.scope < s.mot.axes.length) ∧
    startsNow opRetrainSpec (pk2 0x24 11 []) ({ base .standby with head := { hlk := List.replicate 32 { link := .up } } }) = true ∧
    (let p : Packet := pk2 0x24 11 []; let s : State := { base .standby with head := { hlk := List.replicate 32 { link := .up } } }; s.cyc.state ≠ .ready ∧ 11 ∈ s.v2Heads p.scope ∧ 11 < s.head.hlk.length ∧ s.linkUp 11 = true) :=
  ⟨by decide +kernel,
    by decide +kernel,
    by decide +kernel,
    by decide +kernel,
    by decide +kernel,
    by decide +kernel,
    by decide +kernel,
    by decide +kernel,
    sealed_starts ⟨by decide +kernel, rfl⟩ (by decide +kernel),
    by decide +kernel,
    sealed_starts ⟨by decide +kernel, rfl⟩ (by decide +kernel),
    by decide +kernel,
    by decide +kernel,
    by decide +kernel,
    by decide +kernel,
    by decide +kernel⟩

/-- States and operands that meet the hypotheses of `Obligations.DmaCommandsAct`. -/
theorem test_meets_dmaCommandsAct :
    startsNow dmaStopSpec (pk 0xFFFF (leBytes 8 0)) (dma0 { mode := .running, step := .move, desc := desc0 1 0 4096 0 dramBase 9 }) = true ∧
    (let p : Packet := pk 0xFFFF (leBytes 8 0); let s : State := dma0 { mode := .running, step := .move, desc := desc0 1 0 4096 0 dramBase 9 }; p.fld 0 1 < s.dma.channels.length ∧ s.inBurst (p.fld 0 1) = true) ∧
    startsNow dmaStopSpec (pk 0xFFFF (leBytes 8 0)) (dma0 { mode := .running, step := .fetch }) = true ∧
    (let p : Packet := pk 0xFFFF (leBytes 8 0); let s : State := dma0 { mode := .running, step := .fetch }; p.fld 0 1 < s.dma.channels.length ∧ s.inBurst (p.fld 0 1) = false) ∧
    startsNow dmaRetrySpec (pk 0xFFFF (leBytes 8 256)) (dma0 { mode := .halted, addr := 4096 }) = true ∧
    (let p : Packet := pk 0xFFFF (leBytes 8 256); let s : State := dma0 { mode := .halted, addr := 4096 }; p.fld 0 1 < s.dma.channels.length ∧ (s.chan (p.fld 0 1)).addr = s.chanChain (p.fld 0 1)) ∧
    startsNow dmaRetrySpec (pk 0xFFFF (leBytes 8 256)) (dma0 { mode := .halted, addr := 8192 }) = true ∧
    (let p : Packet := pk 0xFFFF (leBytes 8 256); let s : State := dma0 { mode := .halted, addr := 8192 }; p.fld 0 1 < s.dma.channels.length ∧ (s.chan (p.fld 0 1)).addr ≠ s.chanChain (p.fld 0 1)) ∧
    startsNow dmaSkipSpec (pk 0xFFFF (leBytes 8 (512 + 15))) ({ base .ready with dma := { channels := List.replicate 32 { mode := .halted, addr := 8192 } } }) = true ∧
    (let p : Packet := pk 0xFFFF (leBytes 8 (512 + 15)); let s : State := { base .ready with dma := { channels := List.replicate 32 { mode := .halted, addr := 8192 } } }; p.fld 0 1 < s.dma.channels.length) :=
  ⟨by decide +kernel,
    by decide +kernel,
    by decide +kernel,
    by decide +kernel,
    by decide +kernel,
    by decide +kernel,
    by decide +kernel,
    by decide +kernel,
    by decide +kernel,
    by decide +kernel⟩

/-- States and operands that meet the hypotheses of `Obligations.DmaRequestsAct`. -/
theorem test_meets_dmaRequestsAct :
    (let s : State := dma0 { mode := .parked }; s.bar0 = true ∧ 0 < s.dma.channels.length ∧ (1 : Nat).testBit 0 = true ∧ (s.chan 0).mode = .parked) ∧
    (let s : State := { base .ready with dma := { channels := List.replicate 32 { mode := .running } } }; s.bar0 = true ∧ 15 < s.dma.channels.length ∧ (s.chan 15).mode = .running) ∧
    (let s : State := base .ready; s.bar0 = true ∧ (s.chan 15).mode = .disabled) ∧
    (let s : State := dma0 { mode := .parked, used := 15 }; s.bar0 = true ∧ (15 + s.chanSlots 0 - (s.chan 0).head % s.chanSlots 0) % s.chanSlots 0 = 15 ∧ (s.chan 0).mode ≠ .disabled ∧ 15 < s.chanSlots 0 ∧ 15 ≤ (s.chan 0).used) ∧
    (let s : State := dma0 { mode := .parked, used := 15 }; s.bar0 = true ∧ s.chanSlots 0 ≤ 16 % 65536) ∧
    (let s : State := dma0 { mode := .parked, used := 1 }; s.bar0 = true ∧ (s.chan 0).used < (2 % 65536 + s.chanSlots 0 - (s.chan 0).head % s.chanSlots 0) % s.chanSlots 0) ∧
    (let s : State := base .ready; s.up = true ∧ 3 < s.dma.requests.length) ∧
    (let s : State := { base .ready with dma := { requests := [true, true, true, true] } }; s.up = true ∧ 0 < s.dma.requests.length) :=
  ⟨by decide +kernel,
    by decide +kernel,
    by decide +kernel,
    by decide +kernel,
    by decide +kernel,
    by decide +kernel,
    by decide +kernel,
    by decide +kernel⟩

/-- States and operands that meet the hypotheses of `Obligations.DmaChannelsMove`. -/
theorem test_meets_dmaChannelsMove :
    (let s : State := dma0 { mode := .running, step := .fetch, next := 8192 }; s.up = true ∧ 0 < s.dma.channels.length ∧ (s.chan 0).mode = .running ∧ (s.chan 0).step = .fetch ∧ (desc0 1 0 4096 0 dramBase 9).length = 64 ∧ s.ringFree 0 = true ∧ s.mayWrite = true ∧ descCheck 0 { s.chan 0 with addr := 8192, desc := desc0 1 0 4096 0 dramBase 9 } s = none) ∧
    (let s : State := dma0 { mode := .running, step := .fetch, next := 8192 }; s.up = true ∧ (s.chan 0).mode = .running ∧ (s.chan 0).step = .fetch ∧ (desc0 3 0 0 0 0 0).length = 64 ∧ s.ringFree 0 = true ∧ s.mayWrite = true ∧ descCheck 0 { s.chan 0 with addr := 8192, desc := desc0 3 0 0 0 0 0 } s = none) ∧
    (let s : State := dma0 { mode := .running, step := .fetch, next := 8192 }; s.up = true ∧ (s.chan 0).mode = .running ∧ (s.chan 0).step = .fetch ∧ (desc0 4 0 0 0 0 0).length = 64 ∧ s.ringFree 0 = true ∧ s.mayWrite = true ∧ descCheck 0 { s.chan 0 with addr := 8192, desc := desc0 4 0 0 0 0 0 } s = some stRange) ∧
    (let s : State := dma0 { mode := .running, step := .move, desc := desc0 1 0 64 0 dramBase 9 }; s.up = true ∧ (s.chan 0).mode = .running ∧ s.inBurst 0 = true ∧ (s.chan 0).dstSpace = 0 ∧ (s.chan 0).op = 1) ∧
    (let s : State := { dma0 { mode := .running, step := .move, desc := desc0 0 0 64 dramBase (dramBase + 64) 0 } with dram := [(dramBase, 3#8)] }; s.up = true ∧ (s.chan 0).mode = .running ∧ s.inBurst 0 = true ∧ (s.chan 0).dstSpace = 0 ∧ (s.chan 0).op = 0 ∧ (s.chan 0).srcSpace = 0 ∧ s.poisoned ((s.chan 0).src + (s.chan 0).moved) (s.chan 0).burst = false) ∧
    (let s : State := dma0 { mode := .running, step := .ending, desc := desc0 3 0 0 0 0 0 }; s.up = true ∧ (s.chan 0).mode = .running ∧ (s.chan 0).step = .ending ∧ s.mayWrite = true) ∧
    (let s : State := dma0 { mode := .running, step := .decide }; s.up = true ∧ (s.chan 0).mode = .running ∧ (s.chan 0).step = .decide ∧ s.mayWrite = true ∧ (2 ^ 63 + 64 : Nat).testBit 0 = false) ∧
    (let s : State := dma0 { mode := .running, step := .decide, dbPending := true }; s.up = true ∧ (s.chan 0).mode = .running ∧ (s.chan 0).step = .decide ∧ s.mayWrite = true ∧ (s.chan 0).dbPending = true) ∧
    (let s : State := dma0 { mode := .running, step := .decide }; s.up = true ∧ (s.chan 0).mode = .running ∧ (s.chan 0).step = .decide ∧ s.mayWrite = true ∧ (s.chan 0).dbPending = false) ∧
    (let s : State := dma0 { mode := .running, step := .move, desc := desc0 0 1 64 4096 dramBase 0 }; s.up = true ∧ (s.chan 0).mode = .running ∧ (s.chan 0).step = .move ∧ (s.chan 0).readsHost = true ∧ s.inBurst 0 = true) :=
  ⟨by decide +kernel,
    by decide +kernel,
    by decide +kernel,
    by decide +kernel,
    by decide +kernel,
    by decide +kernel,
    by decide +kernel,
    by decide +kernel,
    by decide +kernel,
    by decide +kernel⟩

/-- States and operands that meet the hypotheses of `Obligations.InterruptsAct`. -/
theorem test_meets_interruptsAct :
    (let s : State := src5 {}; s.up = true ∧ 5 < s.int.sources.length ∧ 0 < s.int.cores.length ∧ (s.source 5).state = .idle) ∧
    (let s : State := src5 { level := true, state := .active 3 }; s.up = true ∧ (s.source 5).state ≠ .idle ∧ (s.source 5).state ≠ .pending) ∧
    (let s : State := src5 {}; s.up = true ∧ 122 < s.int.sources.length) ∧
    (let s : State := src5 { level := true, state := .pending, priority := 3, enable := true, target := 0 }; s.up = true ∧ s.presented 0 = some 5) ∧
    (let s : State := src5 { level := true, state := .active 11 }; s.up = true ∧ 11 < s.int.cores.length ∧ (256 + 5) % 256 = 5 ∧ (s.source 5).state = .active 11) ∧
    (let s : State := src5 { level := true, state := .active 11 }; s.up = true ∧ (s.source 5).state ≠ .active 0) ∧
    (let s : State := src5 {}; s.up = true) ∧
    (let s : State := src5 { target := 3 }; s.up = true) ∧
    (let s : State := base .ready; s.up = true ∧ 11 < s.int.cores.length) ∧
    (let s : State := base .ready; s.up = true ∧ 143 < s.int.sources.length ∧ 128 + (2 ^ 31 + 15) % 16 = 143) :=
  ⟨by decide +kernel,
    by decide +kernel,
    by decide +kernel,
    by decide +kernel,
    by decide +kernel,
    by decide +kernel,
    by decide +kernel,
    by decide +kernel,
    by decide +kernel,
    by decide +kernel⟩

/-- States and operands that meet the hypotheses of `Obligations.StoresAct`. -/
theorem test_meets_storesAct :
    (let s : State := store0 0 {}; s.up = true ∧ 0 < s.mem.stores.length ∧ 128 < storeBytes) ∧
    (let s : State := store0 3 {}; s.up = true ∧ 3 < s.mem.stores.length) ∧
    (let s : State := store0 2 { scrubRow := 7, passErrors := [(1, 1)] }; s.up = true ∧ (s.store 2).scrubRow + 1 < storeRows) ∧
    (let s : State := store0 0 { scrubRow := 1048575, passErrors := [(1, 1)] }; s.up = true ∧ storeRows ≤ (s.store 0).scrubRow + 1) ∧
    (let s : State := store0 1 { due := [9] }; s.up = true ∧ 9 ∈ (s.store 1).due ∧ (s.store 1).usedIn (tileOf 1 9) < sparesOf 1) ∧
    (let s : State := store0 3 { due := [9], used := [(tileOf 3 9, 2)] }; s.up = true ∧ 9 ∈ (s.store 3).due ∧ sparesOf 3 ≤ (s.store 3).usedIn (tileOf 3 9)) :=
  ⟨by decide +kernel,
    by decide +kernel,
    by decide +kernel,
    by decide +kernel,
    by decide +kernel,
    by decide +kernel⟩

/-- States and operands that meet the hypotheses of `Obligations.DramChannelsAct`. -/
theorem test_meets_dramChannelsAct :
    (let s : State := dram0 { inService := true }; s.up = true ∧ 0 < s.mem.channels.length ∧ (s.dchan 0).inService = true) ∧
    (let s : State := base .ready; s.up = true ∧ dramBase ≤ dramBase + 200 ∧ dramBase + 200 < dramBase + s.installed ∧ dramBase + 200 < s.reservedBase) ∧
    (let s : State := dram0 { inService := true, owed := [1, 2] }; s.up = true ∧ (s.dchan 0).inService = true ∧ 1 < (s.dchan 0).owed.length) ∧
    (let s : State := dram0 { inService := true, owed := [2, 2] }; s.up = true ∧ (s.dchan 0).inService = true ∧ (s.dchan 0).owed.getD 0 0 < 3) ∧
    (let s : State := dram0 { inService := true, owed := [3, 2] }; s.up = true ∧ (s.dchan 0).inService = true ∧ 3 ≤ (s.dchan 0).owed.getD 0 0) ∧
    (let s : State := dram0 { inService := true, owed := [3, 2] }; s.up = true ∧ (s.dchan 0).inService = true ∧ 0 % 256 < s.dparam 0xD006) ∧
    (let s : State := dram0 { inService := true }; s.up = true ∧ (s.dchan 0).inService = true) ∧
    (let s : State := dram0 { inService := true, banks := [{ rank := 0, bank := 0, rolling := 8 }] }; s.up = true ∧ (s.dchan 0).inService = true ∧ 8 ≤ ((s.dchan 0).table 0 0).rolling) ∧
    (let s : State := dram0 { inService := true, banks := [{ rank := 0, bank := 0, rows := [(1, 1)] }] }; s.up = true) ∧
    startsNow memChannelMapoutSpec (sealedAs memChannelMapoutSpec.opcode (pk 0xFFFF (leBytes 8 3))) (base .standby) = true ∧
    (let p : Packet := sealedAs memChannelMapoutSpec.opcode (pk 0xFFFF (leBytes 8 3)); let s : State := base .standby; p.fld 0 1 = 3 ∧ 3 < s.mem.channels.length) ∧
    (let s : State := { base .standby with mem := { mem0 with mapout := some 0, pointer := 6442450943 / 2048, channels := List.replicate 4 { inService := true, migrating := true } } }; s.up = true ∧ s.mem.mapout = some 0 ∧ (s.dchan 0).migrating = true ∧ s.mem.pointer < s.blocks) ∧
    (let s : State := { base .standby with mem := { mem0 with mapout := some 0, pointer := 3 * 16 * gib / 4 / 2048, channels := List.replicate 4 { inService := true, migrating := true } } }; s.up = true ∧ s.mem.mapout = some 0 ∧ (s.dchan 0).migrating = true ∧ s.blocks ≤ s.mem.pointer) :=
  ⟨by decide +kernel,
    by decide +kernel,
    by decide +kernel,
    by decide +kernel,
    by decide +kernel,
    by decide +kernel,
    by decide +kernel,
    by decide +kernel,
    by decide +kernel,
    sealed_starts ⟨by decide +kernel, rfl⟩ (by decide +kernel),
    by decide +kernel,
    by decide +kernel,
    by decide +kernel⟩

/-- States and operands that meet the hypotheses of `Obligations.NetworkEventsAct`. -/
theorem test_meets_networkEventsAct :
    (let s : State := eth0 id; s.up = true ∧ 0 < s.net.ports.length ∧ s.ethUp 0 = true ∧ 14 ≤ (zeros 64).length ∧ (s.ethPort 0).counts.length = 6) ∧
    (let s : State := eth0 id; s.up = true) ∧
    (let s : State := eth0 fun n => { n with ports := List.replicate 4 {} }; s.up = true ∧ s.ethEnabled 0 = true ∧ s.looped 2 0 = false ∧ s.islandIn islandNetwork = true ∧ s.cyc.state ≠ .boot) ∧
    (let s : State := eth0 id; s.up = true ∧ (s.ethPort 0).lock = true ∧ byteField (s.dparam 0xE010) 0 1 ≠ 0 ∧ s.net.rel.state ≠ .peer) ∧
    (let s : State := eth0 id; s.up = true ∧ (s.ethPort 0).lock = true ∧ byteField (s.dparam 0xE010) 0 1 ≠ 0 ∧ s.net.rel.state ≠ .peer) ∧
    (let s : State := eth0 fun n => { n with rel := { state := .locked }, offsets := [1] }; s.up = true ∧ s.net.rel.state = .locked) ∧
    (let s : State := eth0 fun n => { n with rel := { state := .acquiring }, offsets := [1] }; s.up = true ∧ s.net.rel.state = .acquiring) ∧
    (let s : State := eth0 fun n => { n with good := [true, true], selected := 1 }; s.up = true ∧ 1 < s.net.good.length ∧ s.net.good.getD 1 false = true ∧ s.net.selected = 1 ∧ s.net.good.getD (1 - 1) false = true) ∧
    (let s : State := eth0 fun n => { n with good := [false, false], selected := 1, bothLost := true }; s.up = true ∧ s.net.good.getD 0 false = false ∧ s.net.bothLost = true) :=
  ⟨by decide +kernel,
    by decide +kernel,
    by decide +kernel,
    by decide +kernel,
    by decide +kernel,
    by decide +kernel,
    by decide +kernel,
    by decide +kernel,
    by decide +kernel⟩

/-- States and operands that meet the hypotheses of `Obligations.PeerMessagesAct`. -/
theorem test_meets_peerMessagesAct :
    (let s : State := pair0 1 (fun x => { x with mode := .linking }) (base .ready); goodMessage 1 s (framed (msg0 1 (zeros 32))) (msg0 1 (zeros 32)) ∧ ((msg0 1 (zeros 32)).drop 16).length = 32 ∧ s.pair.mode = .linking ∧ field ((msg0 1 (zeros 32)).drop 16) 3 1 / 16 ≠ 1) ∧
    (let s : State := pair0 1 (fun x => { x with mode := .linking }) (base .ready); goodMessage 1 s (framed (msg0 1 (zeros 3 ++ leBytes 29 0x1F))) (msg0 1 (zeros 3 ++ leBytes 29 0x1F)) ∧ s.pair.mode = .linking ∧ field ((msg0 1 (zeros 3 ++ leBytes 29 0x1F)).drop 16) 3 1 / 16 = 1 ∧ s.capAgrees ((msg0 1 (zeros 3 ++ leBytes 29 0x1F)).drop 16) = false) ∧
    (let s : State := pair0 1 (fun x => { x with mode := .linking, offsetOk := true }) (base .ready); goodMessage 1 s (framed (msg0 1 (cap1 (withPar [(devPar 0xC100, 1)] (base .ready))))) (msg0 1 (cap1 (withPar [(devPar 0xC100, 1)] (base .ready)))) ∧ (cap1 s).length = 32 ∧ cap1 (withPar [(devPar 0xC100, 1)] (base .ready)) = cap1 s ∧ s.pair.mode = .linking ∧ s.capAgrees (cap1 s) = true ∧ s.pair.offsetOk = true) ∧
    (let s : State := pair0 1 id (base .ready); goodMessage 2 s (framed (msg0 2 (echo1 5 0 0))) (msg0 2 (echo1 5 0 0)) ∧ ((msg0 2 (echo1 5 0 0)).drop 16).length = 24 ∧ s.role = 1 ∧ field ((msg0 2 (echo1 5 0 0)).drop 16) 16 8 = 0) ∧
    (let s : State := pair0 2 id (base .ready); goodMessage 2 s (framed (msg0 2 (echo1 100 250 270))) (msg0 2 (echo1 100 250 270)) ∧ s.role = 2 ∧ field ((msg0 2 (echo1 100 250 270)).drop 16) 16 8 ≠ 0 ∧ s.pair.mode = .paired) ∧
    (let s : State := pair0 2 id (base .armed); goodMessage 3 s (framed (msg0 3 (cycle1 evHold 4 0))) (msg0 3 (cycle1 evHold 4 0)) ∧ ((msg0 3 (cycle1 evHold 4 0)).drop 16).length = 1048 ∧ s.pair.mode = .paired ∧ field ((msg0 3 (cycle1 evHold 4 0)).drop 16) 4 1 = evHold ∧ s.cyc.state = .armed) ∧
    (let s : State := pair0 2 id (base .armed); goodMessage 3 s (framed (msg0 3 (cycle1 evImage 0 0))) (msg0 3 (cycle1 evImage 0 0)) ∧ s.pair.mode = .paired ∧ field ((msg0 3 (cycle1 evImage 0 0)).drop 16) 4 1 = evImage) ∧
    (let s : State := pair0 2 (fun x => { x with delta := 1000 }) (base .armed); goodMessage 3 s (framed (msg0 3 (cycle1 evStart 0 50000))) (msg0 3 (cycle1 evStart 0 50000)) ∧ s.pair.mode = .paired ∧ field ((msg0 3 (cycle1 evStart 0 50000)).drop 16) 4 1 = evStart ∧ s.role = 2) ∧
    (let s : State := pair0 2 id (base .armed); goodMessage 4 s (framed (msg0 4 (zeros 24))) (msg0 4 (zeros 24)) ∧ ((msg0 4 (zeros 24)).drop 16).length = 24 ∧ s.exposing = false ∧ s.pair.mode = .paired) ∧
    (let s : State := pair0 1 id (base .armed); goodMessage 5 s (framed (msg0 5 (zeros 8))) (msg0 5 (zeros 8)) ∧ ((msg0 5 (zeros 8)).drop 16).length = 8 + 12 * field ((msg0 5 (zeros 8)).drop 16) 2 2 ∧ s.exposing = false ∧ s.pair.mode = .paired) ∧
    (let s : State := pair0 2 (fun x => { x with delta := 1000 }) (base .ready); goodMessage 6 s (framed (msg0 6 (leBytes 8 5000 ++ leBytes 8 (2 ^ 64 - 9) ++ zeros 16))) (msg0 6 (leBytes 8 5000 ++ leBytes 8 (2 ^ 64 - 9) ++ zeros 16)) ∧ ((msg0 6 (leBytes 8 5000 ++ leBytes 8 (2 ^ 64 - 9) ++ zeros 16)).drop 16).length = 32 ∧ s.pair.mode = .paired ∧ s.role = 2) ∧
    (let s : State := pair0 1 id (base .ready); s.up = true ∧ s.pair.link = true ∧ s.role ≠ 0 ∧ unframe (zeros 20) = none) :=
  ⟨by unfold goodMessage; exact ⟨⟨by decide +kernel, by decide +kernel, by decide +kernel, unframe_framed (by decide +kernel), by decide +kernel, by decide +kernel, by decide +kernel, by decide +kernel⟩, by decide +kernel⟩,
    by unfold goodMessage; exact ⟨⟨by decide +kernel, by decide +kernel, by decide +kernel, unframe_framed (by decide +kernel), by decide +kernel, by decide +kernel, by decide +kernel, by decide +kernel⟩, by decide +kernel⟩,
    by unfold goodMessage; exact ⟨⟨by decide +kernel, by decide +kernel, by decide +kernel, unframe_framed (by decide +kernel), by decide +kernel, by decide +kernel, by decide +kernel, by decide +kernel⟩, by decide +kernel⟩,
    by unfold goodMessage; exact ⟨⟨by decide +kernel, by decide +kernel, by decide +kernel, unframe_framed (by decide +kernel), by decide +kernel, by decide +kernel, by decide +kernel, by decide +kernel⟩, by decide +kernel⟩,
    by unfold goodMessage; exact ⟨⟨by decide +kernel, by decide +kernel, by decide +kernel, unframe_framed (by decide +kernel), by decide +kernel, by decide +kernel, by decide +kernel, by decide +kernel⟩, by decide +kernel⟩,
    by unfold goodMessage; exact ⟨⟨by decide +kernel, by decide +kernel, by decide +kernel, unframe_framed (by decide +kernel), by decide +kernel, by decide +kernel, by decide +kernel, by decide +kernel⟩, by decide +kernel⟩,
    by unfold goodMessage; exact ⟨⟨by decide +kernel, by decide +kernel, by decide +kernel, unframe_framed (by decide +kernel), by decide +kernel, by decide +kernel, by decide +kernel, by decide +kernel⟩, by decide +kernel⟩,
    by unfold goodMessage; exact ⟨⟨by decide +kernel, by decide +kernel, by decide +kernel, unframe_framed (by decide +kernel), by decide +kernel, by decide +kernel, by decide +kernel, by decide +kernel⟩, by decide +kernel⟩,
    by unfold goodMessage; exact ⟨⟨by decide +kernel, by decide +kernel, by decide +kernel, unframe_framed (by decide +kernel), by decide +kernel, by decide +kernel, by decide +kernel, by decide +kernel⟩, by decide +kernel⟩,
    by unfold goodMessage; exact ⟨⟨by decide +kernel, by decide +kernel, by decide +kernel, unframe_framed (by decide +kernel), by decide +kernel, by decide +kernel, by decide +kernel, by decide +kernel⟩, by decide +kernel⟩,
    by unfold goodMessage; exact ⟨⟨by decide +kernel, by decide +kernel, by decide +kernel, unframe_framed (by decide +kernel), by decide +kernel, by decide +kernel, by decide +kernel, by decide +kernel⟩, by decide +kernel⟩,
    by decide +kernel⟩

/-- States and operands that meet the hypotheses of `Obligations.PairLinkActs`. -/
theorem test_meets_pairLinkActs :
    (let s : State := pair0 1 (fun x => { x with lostRun := 2 }) (base .ready); s.up = true ∧ s.pair.link = true ∧ s.role ≠ 0 ∧ unframe (framed (leBytes 1 0x11 ++ zeros 1 ++ leBytes 2 77 ++ zeros 12)) = some (leBytes 1 0x11 ++ zeros 1 ++ leBytes 2 77 ++ zeros 12)) ∧
    (let s : State := pair0 1 (fun x => { x with lostRun := 2 }) (base .ready); s.up = true ∧ s.pair.link = true ∧ s.role ≠ 0 ∧ unframe (zeros 20) = none ∧ s.pair.lostRun < 3) ∧
    (let s : State := pair0 1 (fun x => { x with mode := .linking }) (base .ready); s.up = true ∧ s.pair.link = true ∧ s.role ≠ 0 ∧ s.pair.mode = .linking ∧ s.pair.capOk = false ∧ s.pair.lastCap + 1600000000 ≤ max s.dt 1600000000) ∧
    (let s : State := pair0 2 id (base .ready); s.up = true ∧ s.pair.link = true ∧ s.pair.mode = .paired ∧ s.role = 2 ∧ s.pair.lastEcho + 16000000 ≤ max s.dt 16000000) ∧
    (let s : State := pair0 2 (fun x => { x with unacked := [{ seq := 4, bytes := [1#8], sent := 0 }] }) (base .ready); s.up = true ∧ s.pair.link = true ∧ s.role ≠ 0 ∧ (s.pair.unacked.find? fun m => m.sent + 320000 ≤ max s.dt 320000) = some { seq := 4, bytes := [1#8], sent := 0 } ∧ (∀ n ∈ s.pair.unacked, n.seq = 4 → n = { seq := 4, bytes := [1#8], sent := 0 })) ∧
    (let s : State := pair0 2 id (base .armed); s.up = true ∧ s.pair.link = true ∧ s.pair.mode = .paired ∧ s.cyc.state = .armed) ∧
    (let s : State := pair0 2 id (base .hold); s.up = true ∧ s.pair.link = true ∧ s.pair.mode = .paired ∧ s.cyc.state = .hold) ∧
    (let s : State := pair0 2 id (base .ready); s.up = true ∧ s.pair.link = true ∧ s.pair.mode = .paired ∧ s.cyc.state = .ready) ∧
    (let s : State := pair0 2 (fun x => { x with mode := .linking }) (base .ready); s.up = true ∧ s.pair.link = true ∧ s.pair.mode ≠ .paired) ∧
    (let s : State := pair0 2 (fun x => { x with mode := .linking, link := false }) (base .ready); s.up = true ∧ s.pair.link = false ∧ s.role ≠ 0 ∧ s.looped 1 0 = false ∧ s.pair.mode = .linking) ∧
    (let s : State := pair0 2 (fun x => { x with mode := .split, splitAt := 50 }) (base .hold); s.up = true ∧ s.pair.mode = .split ∧ s.pair.expired = false ∧ max s.dt 300 ≤ s.witnessEnds) ∧
    (let s : State := pair0 2 (fun x => { x with mode := .split, splitAt := 50 }) (base .hold); s.up = true ∧ s.pair.mode = .split ∧ s.witnessEnds ≤ max s.dt 1600000000000) ∧
    startsNow pairWitnessGrantSpec (sealedAs pairWitnessGrantSpec.opcode (pk 0xFFFF [])) (pair0 2 (fun x => { x with mode := .split, splitAt := 50 }) (base .hold)) = true :=
  ⟨by decide +kernel,
    by decide +kernel,
    by decide +kernel,
    by decide +kernel,
    by decide +kernel,
    by decide +kernel,
    by decide +kernel,
    by decide +kernel,
    by decide +kernel,
    by decide +kernel,
    by decide +kernel,
    by decide +kernel,
    sealed_starts ⟨by decide +kernel, rfl⟩ (by decide +kernel)⟩

/-- States and operands that meet the hypotheses of `Obligations.RecorderCommandsAct`. -/
theorem test_meets_recorderCommandsAct :
    startsNow recReadSpec ({ pk 0xFFFF (zeros 16 ++ leBytes 8 255) with resultSize := 16448 }) (rec0 .ready { log := [{ dt := 5, code := 1 }], nextSeq := 1 }) = true ∧
    (let p : Packet := { pk 0xFFFF (zeros 16 ++ leBytes 8 255) with resultSize := 16448 }; recAddr p = 0) ∧
    startsNow recReadSpec (pk 0xFFFF (leBytes 8 dramBase ++ zeros 8 ++ leBytes 8 1)) (rec0 .ready { log := [{ dt := 5, code := 1 }], nextSeq := 1 }) = true ∧
    (let p : Packet := pk 0xFFFF (leBytes 8 dramBase ++ zeros 8 ++ leBytes 8 1); recAddr p ≠ 0) ∧
    startsNow recFreezeSpec (pk 0xFFFF []) (base .service) = true ∧
    startsNow recUnfreezeSpec (pk 0xFFFF []) (rec0 .service { frozen := some 50, held := [{ dt := 5, code := 1 }] }) = true ∧
    (let s : State := rec0 .service { frozen := some 50, held := [{ dt := 5, code := 1 }] }; s.recorder.frozen.isSome) ∧
    startsNow recClearSpec (sealedAs recClearSpec.opcode (pk 0xFFFF [])) (rec0 .ready { log := [{ dt := 5, code := 9, seq := 4 }], nextSeq := 5, lost := 3, clears := 7 }) = true ∧
    startsNow recBuildBeginSpec (pk 0xFFFF (leBytes 8 77)) (withPar [(devPar (streamRingId 3), dramBase + 2 ^ 64 * 1048576), (devPar (streamHostId 3), 2 ^ 64 * 65536)] (base .standby)) = true ∧
    startsNow recBuildEndSpec (sealedAs recBuildEndSpec.opcode (pk 0xFFFF [])) (rec0 .standby { build := some { id := 77, begun := 5 } }) = true ∧
    (let s : State := rec0 .standby { build := some { id := 77, begun := 5 } }; s.cyc.phase = .idle) ∧
    startsNow recBuildEndSpec (sealedAs recBuildEndSpec.opcode (pk 0xFFFF [])) ({ inPhase .kettle .armed with recorder := { build := some { id := 77, begun := 5 } } }) = true ∧
    (let s : State := { inPhase .kettle .armed with recorder := { build := some { id := 77, begun := 5 } } }; s.cyc.phase ≠ .idle) :=
  ⟨by decide +kernel,
    by decide +kernel,
    by decide +kernel,
    by decide +kernel,
    by decide +kernel,
    by decide +kernel,
    by decide +kernel,
    sealed_starts ⟨by decide +kernel, rfl⟩ (by decide +kernel),
    by decide +kernel,
    sealed_starts ⟨by decide +kernel, rfl⟩ (by decide +kernel),
    by decide +kernel,
    sealed_starts ⟨by decide +kernel, rfl⟩ (by decide +kernel),
    by decide +kernel⟩

/-- States and operands that meet the hypotheses of `Obligations.RecorderEventsAct`. -/
theorem test_meets_recorderEventsAct :
    (let s : State := rec0 .ready { arriving := [{ dt := 5, code := 9 }, { dt := 6, code := 0x3002 }], nextSeq := 4, log := [{ dt := 5, code := 9, seq := 3 }] }; s.up = true ∧ s.recorder.arriving[1]? = some { dt := 6, code := 0x3002 } ∧ s.recorder.frozen = none ∧ s.recorder.log.length + 1 < s.otp.grade.slots ∧ (∀ n ∈ s.recorder.log.head?, foldsInto s.otp.grade { dt := 6, code := 0x3002 } n = false)) ∧
    (let s : State := rec0 .ready { frozen := some 50, held := [{ dt := 5, code := 1 }] }; s.up = true ∧ s.recorder.frozen = some 50 ∧ 50 + 16000000000 * s.dparam 0xE109 ≤ max s.dt 160000000000000) ∧
    (let s : State := rec0 .ready { journal := { queue := [jreq0 0, jreq0 1], nextSeq := 9, pos := 256 } }; s.up = true ∧ s.recorder.journal.queue = jreq0 0 :: [jreq0 1] ∧ (jreq0 0).use = .capture ∧ s.recorder.journal.compacting = false ∧ s.recorder.journal.bad = false) ∧
    (let s : State := rec0 .ready { journal := { queue := [jreq0 1], nextSeq := 9, pos := 256 } }; s.up = true ∧ s.recorder.journal.queue = jreq0 1 :: [] ∧ s.recorder.journal.compacting = false ∧ s.recorder.journal.bad = false ∧ (jreq0 1).attempts < 2) ∧
    (let s : State := rec0 .ready { journal := { compacting := true, generation := 3 } }; s.up = true ∧ s.recorder.journal.compacting = true) :=
  ⟨by decide +kernel,
    by decide +kernel,
    by decide +kernel,
    by decide +kernel,
    by decide +kernel⟩

/-- States and operands that meet the hypotheses of `Obligations.ServiceCommandsAct`. -/
theorem test_meets_serviceCommandsAct :
    startsNow svcFwSwitchSpec (sealedAs svcFwSwitchSpec.opcode (pk 0xFFFF [])) (svc0 .ready { fw := { standby := .staged } }) = true ∧
    startsNow svcFwCommitSpec (sealedAs svcFwCommitSpec.opcode (pk 0xFFFF (leBytes 8 1))) (svc0 .ready { fw := { standby := .trial } }) = true ∧
    startsNow svcModeSetSpec (sealedAs svcModeSetSpec.opcode (pk 0xFFFF (leBytes 4 2 ++ leBytes 4 2))) ({ armable .ready with svc := {} }) = true ∧
    (let s : State := { armable .ready with svc := {} }; s.modesNow = true) ∧
    startsNow svcModeSetSpec (sealedAs svcModeSetSpec.opcode (pk 0xFFFF (leBytes 4 2 ++ leBytes 4 2))) ({ armable .hold with svc := {} }) = true ∧
    (let s : State := { armable .hold with svc := {} }; s.modesNow = false) ∧
    startsNow svcTrimRunSpec (pk 0xFFFF (leBytes 8 8)) (base .ready) = true ∧
    (let p : Packet := pk 0xFFFF (leBytes 8 8); let s : State := base .ready; s.svc.trim = none ∧ s.svc.trimQueue = [] ∧ s.trimInPlace (p.fld 0 1) = true) ∧
    startsNow svcTrimRunSpec (pk 0xFFFF (leBytes 8 8)) (svc0 .ready { trim := some (trim0 1 .rotation) }) = true ∧
    (let s : State := svc0 .ready { trim := some (trim0 1 .rotation) }; s.svc.trim.isSome) ∧
    startsNow svcTrimCaptureSpec (pk 0xFFFF (leBytes 8 dramBase ++ leBytes 8 8)) (svc0 .ready { modes := 512 }) = true ∧
    (let p : Packet := pk 0xFFFF (leBytes 8 dramBase ++ leBytes 8 8); let s : State := svc0 .ready { modes := 512 }; s.svc.trim = none ∧ s.svc.trimQueue = [] ∧ s.trimInPlace (p.fld 8 1) = true) ∧
    startsNow svcTrimCaptureSpec (pk 0xFFFF (leBytes 8 dramBase ++ leBytes 8 8)) (svc0 .ready { modes := 512, trim := some (trim0 1 .rotation) }) = true ∧
    (let s : State := svc0 .ready { modes := 512, trim := some (trim0 1 .rotation) }; s.svc.trim.isSome) ∧
    startsNow svcTrimSetSpec (sealedAs svcTrimSetSpec.opcode (pk 0xFFFF (leBytes 8 8 ++ leBytes 2 5 ++ leBytes 2 (65536 - 5) ++ zeros 12))) (svc0 .ready { modes := 512 }) = true ∧
    (let p : Packet := sealedAs svcTrimSetSpec.opcode (pk 0xFFFF (leBytes 8 8 ++ leBytes 2 5 ++ leBytes 2 (65536 - 5) ++ zeros 12)); let s : State := svc0 .ready { modes := 512 }; p.fld 0 1 < s.svc.frontEnds.length) ∧
    startsNow svcLoopbackSpec (pk 0xFFFF (leBytes 1 1 ++ leBytes 1 0 ++ leBytes 1 1 ++ leBytes 1 1 ++ leBytes 4 3600000)) (base .service) = true ∧
    startsNow svcSelfTestSpec (pk 0xFFFF (leBytes 8 7)) (base .service) = true :=
  ⟨sealed_starts ⟨by decide +kernel, rfl⟩ (by decide +kernel),
    sealed_starts ⟨by decide +kernel, rfl⟩ (by decide +kernel),
    sealed_starts ⟨by decide +kernel, rfl⟩ (by decide +kernel),
    by decide +kernel,
    sealed_starts ⟨by decide +kernel, rfl⟩ (by decide +kernel),
    by decide +kernel,
    by decide +kernel,
    by decide +kernel,
    by decide +kernel,
    by decide +kernel,
    by decide +kernel,
    by decide +kernel,
    by decide +kernel,
    by decide +kernel,
    sealed_starts ⟨by decide +kernel, rfl⟩ (by decide +kernel),
    by decide +kernel,
    by decide +kernel,
    by decide +kernel⟩

/-- States and operands that meet the hypotheses of `Obligations.ServiceEventsAct`. -/
theorem test_meets_serviceEventsAct :
    (let s : State := svc0 .ready { fw := { standby := .loading, loading := some (4, { version := 9 }) } }; s.up = true ∧ s.fw.standby = .loading ∧ s.fw.setRetired = false ∧ s.fw.committing = none ∧ (s.svc.islands.getD 44 {}).status ≠ .testing ∧ s.fw.loading = some (4, { version := 9 })) ∧
    (let s : State := svc0 .ready { fw := { standby := .loading, active := { version := 3 } } }; s.up = true ∧ s.fw.standby = .loading ∧ s.fw.setRetired = false ∧ s.fw.committing = none ∧ (s.svc.islands.getD 44 {}).status ≠ .testing ∧ s.fw.loading = none ∧ s.fw.takeoverWait = false) ∧
    (let s : State := svc0 .ready { fw := { standby := .staged, switching := some 4, active := { version := 3 }, other := { version := 9 } } }; s.up = true ∧ s.fw.switching.isSome) ∧
    (let s : State := svc0 .ready { fw := { standby := .trial, switching := some 4, activeSet := 1 } }; s.up = true ∧ s.fw.switching.isSome) ∧
    (let s : State := svc0 .ready { fw := { standby := .loading, committing := some (4, false), active := { version := 3 } } }; s.up = true ∧ s.fw.committing = some (4, false) ∧ (s.svc.islands.getD 44 {}).status ≠ .testing) ∧
    (let s : State := base .ready; s.up = true ∧ s.mayFault 0 0 = true ∧ 0 < s.svc.islands.length) ∧
    (let s : State := base .armed; s.up = true ∧ s.mayFault 44 1 = true ∧ 44 < s.svc.islands.length) ∧
    (let s : State := svc0 .ready { islands := List.replicate 45 { status := .testing } }; s.up = true ∧ (s.island 3).status = .testing ∧ 3 < s.svc.islands.length) ∧
    (let s : State := svc0 .safe { islands := List.replicate 45 { status := .testing } }; s.up = true ∧ (s.island islandGuard).status = .testing ∧ islandGuard < s.svc.islands.length ∧ s.cyc.state ≠ .recovery) ∧
    (let s : State := svc0 .ready { islands := List.replicate 45 { status := .testing } }; s.up = true ∧ (s.island 3).status = .testing ∧ 3 ≠ islandGuard ∧ 3 ≠ islandMotion ∧ 3 ≠ islandMemory) :=
  ⟨by decide +kernel,
    by decide +kernel,
    by decide +kernel,
    by decide +kernel,
    by decide +kernel,
    by decide +kernel,
    by decide +kernel,
    by decide +kernel,
    by decide +kernel,
    by decide +kernel⟩

/-- States and operands that meet the hypotheses of `Obligations.TrimsAct`. -/
theorem test_meets_trimsAct :
    (let s : State := base .ready; s.up = true ∧ s.svc.lastPeriod + 16000000000 * byteField (s.dparam 0xF018) 0 4 ≤ max s.dt 160000000000000 ∧ s.assisted fnTrim = false ∧ s.dparam 0xA006 ≠ 1) ∧
    (let s : State := svc0 .ready { trim := some (trim0 1 .rotation) }; s.up = true ∧ s.svc.trim = some (trim0 1 .rotation) ∧ (trim0 1 .rotation).since + compareTime ≤ max s.dt 3276800 ∧ (trim0 1 .rotation).mismatch 0 false = false) ∧
    (let s : State := svc0 .ready { trim := some (trim0 1 .rotation) }; s.up = true ∧ s.svc.trim = some (trim0 1 .rotation) ∧ (trim0 1 .rotation).mismatch 0 true = true ∧ s.svc.trimQueue = [] ∧ s.svc.spareWrite = [] ∧ (trim0 1 .rotation).fe < s.svc.frontEnds.length) ∧
    (let s : State := svc0 .ready { trim := some (trim0 3 .rotation) }; s.up = true ∧ s.svc.trim = some (trim0 3 .rotation) ∧ (trim0 3 .rotation).conv0 + 8191 * 3200 ≤ max s.dt 32000000 ∧ (List.replicate 8192 ((0, 0) : Nat × Nat)).length = 8192 ∧ (trim0 3 .rotation).inPlace = false) ∧
    (let s : State := svc0 .ready { trim := some (trim0 5 (.run 4)) }; s.up = true ∧ s.svc.trim = some (trim0 5 (.run 4)) ∧ (trim0 5 (.run 4)).step = 5 ∧ (trim0 5 (.run 4)).since + compareTime ≤ max s.dt 3276800 ∧ (trim0 5 (.run 4)).mismatch 0 false = false ∧ (trim0 5 (.run 4)).result = 1 ∧ s.svc.trimQueue = [] ∧ s.svc.spareWrite = []) ∧
    (let s : State := svc0 .service { loopback := [{ acc := 4, iface := 1, index := 0, depth := 1, pattern := 0, endsAt := 900 }] }; s.up = true ∧ (s.svc.loopback.find? fun l => l.iface == 1 && l.index == 0) = some { acc := 4, iface := 1, index := 0, depth := 1, pattern := 0, endsAt := 900 }) ∧
    (let s : State := svc0 .service { selfTest := some (4, 7) }; s.up = true ∧ s.svc.selfTest.isSome) :=
  ⟨by decide +kernel,
    by decide +kernel,
    by decide +kernel,
    by decide +kernel,
    by decide +kernel,
    by decide +kernel,
    by decide +kernel⟩

/-- States and operands that meet the hypotheses of `Obligations.ResetsRestart`. -/
theorem test_meets_resetsRestart :
    (let s : State := withPar [(devPar 0x0014, 2)] (base .armed); s.up = true) ∧
    (let s : State := withHost (fun h => { h with resetAt := some 300 }) (base .hold); s.up = true ∧ s.host.resetAt = some 300 ∧ 300 ≤ max s.dt 300) ∧
    (let s : State := rec0 .boot { log := [{ dt := 5, code := 1 }] }; s.up = true ∧ s.recorder.journal.queue = [] ∧ s.recorder.frozen = none) ∧
    (let s : State := base .safe; s.up = true) :=
  ⟨by decide +kernel,
    by decide +kernel,
    by decide +kernel,
    by decide +kernel⟩

/-- States and operands that meet the hypotheses of `Obligations.PowerEventsAct`. -/
theorem test_meets_powerEventsAct :
    (let s : State := { ({} : State) with recorder := { log := [{ dt := 5, code := 1 }] } }; s.cyc.state = .off) ∧
    (let s : State := base .boot; s.cyc.state ≠ .off) ∧
    (let s : State := base .armed; s.cyc.state ∈ safeStates) ∧
    (let s : State := base .service; s.cyc.state ∈ safeStates) ∧
    (let s : State := base .standby; s.cyc.state ∈ safeStates) ∧
    (let s : State := base .armed; s.cyc.state ≠ .off) ∧
    (let s : State := { ({} : State) with cyc := { state := .reset }, power := { railsIn := true }, net := { good := [true, false] } }; (s.at 800000000).mayRelease boot0 = true ∧ boot0.programmed = [] ∧ s.boardRecord = none) :=
  ⟨by decide +kernel,
    by decide +kernel,
    by decide +kernel,
    by decide +kernel,
    by decide +kernel,
    by decide +kernel,
    by decide +kernel⟩

end Sys2Proof.Tests
end

section
/-! PROOFS. Writes of BAR0 (14): what the write of each register does, and from these O33. -/

namespace Sys2Proof.Machine

/-- BAR0 answers only in a device that is powered and out of reset (log entry 6). -/
theorem State.up_of_bar0 {s : State} (hb : s.bar0 = true) : s.up = true := by
  simp only [State.bar0, Bool.and_eq_true] at hb
  exact hb.1.1

/-- An event whose change to the state at its DT is known, in a device whose BAR0 answers. -/
theorem bar0_reaches {i : Instr} {s u : State} {t : Nat} {f : State → State} {P : State → Prop}
    (hx : exec i s = s.event t f) (hb : s.bar0 = true) (hf : f (s.at t) = u)
    (h : P { u with dt := max s.dt t, pending := s.pending }) : Reaches i s P :=
  event_of hx (State.up_of_bar0 hb) (hf ▸ h)

/-! Doorbells (R374, R377, R380). -/

/-- A tail is refused by the pair's state and the tail's place alone (R380). -/
theorem State.sqTail_eq {s : State} {q : Nat} (v : Nat) (hb : s.bar0 = true) (hq : q < 64) :
    s.sqTail q v = if (s.qp q).enabled = false ∨ (s.qp q).slots ≤ v % 65536 then s.badDoorbell
      else s.setQp q fun x => { x with sqTail := v % 65536 } := by
  simp [State.sqTail, hb, Nat.not_le.mpr hq]

theorem State.sqTail_taken {s : State} {q v : Nat} (hb : s.bar0 = true) (hq : q < 64)
    (he : (s.qp q).enabled = true) (hv : v % 65536 < (s.qp q).slots) :
    s.sqTail q v = s.setQp q fun x => { x with sqTail := v % 65536 } := by
  rw [State.sqTail_eq v hb hq, if_neg (by simp [he, hv])]

theorem State.sqTail_ignored {s : State} {q v : Nat} (hb : s.bar0 = true) (hq : q < 64)
    (h : (s.qp q).enabled = false ∨ (s.qp q).slots ≤ v % 65536) : s.sqTail q v = s.badDoorbell := by
  rw [State.sqTail_eq v hb hq, if_pos h]

/-- Entries of the CQ of pair `q` that a head written as `v` would release (R377). -/
def State.releasedBy (s : State) (q v : Nat) : Nat :=
  (v % 65536 + (s.qp q).slots - (s.qp q).cqHead) % (s.qp q).slots

/-- A head is refused as a tail is, and where it would release more entries than the device has written (R380). -/
theorem State.cqHead_eq {s : State} {q : Nat} (v : Nat) (hb : s.bar0 = true) (hq : q < 64) :
    s.cqHead q v =
      if ((s.qp q).enabled = false ∨ (s.qp q).slots ≤ v % 65536) ∨ (s.qp q).cqUsed < s.releasedBy q v then s.badDoorbell
      else s.setQp q fun x => { x with cqHead := v % 65536, cqUsed := x.cqUsed - s.releasedBy q v } := by
  unfold State.releasedBy
  simp [State.cqHead, hb, Nat.not_le.mpr hq]

theorem State.cqHead_taken {s : State} {q v : Nat} (hb : s.bar0 = true) (hq : q < 64)
    (he : (s.qp q).enabled = true) (hv : v % 65536 < (s.qp q).slots) (hn : s.releasedBy q v ≤ (s.qp q).cqUsed) :
    s.cqHead q v = s.setQp q fun x => { x with cqHead := v % 65536, cqUsed := x.cqUsed - s.releasedBy q v } := by
  rw [State.cqHead_eq v hb hq, if_neg (by simp [he, hv, hn])]

theorem State.cqHead_ignored {s : State} {q v : Nat} (hb : s.bar0 = true) (hq : q < 64)
    (h : ((s.qp q).enabled = false ∨ (s.qp q).slots ≤ v % 65536) ∨ (s.qp q).cqUsed < s.releasedBy q v) :
    s.cqHead q v = s.badDoorbell := by
  rw [State.cqHead_eq v hb hq, if_pos h]

/-! Queue pair 0 and the moderation registers (Tables 14.5 and 14.7). -/

theorem State.qp0Base_taken {s : State} {cq : Bool} {v : Nat} (he : cfgEnable s.host.qp0Cfg = false) (hv : v % 64 = 0) :
    s.qp0Base cq v = if cq then { s with host := { s.host with qp0CqBase := v } } else { s with host := { s.host with qp0SqBase := v } } := by
  simp [State.qp0Base, he, hv]

theorem State.qp0Base_ignored {s : State} {cq : Bool} {v : Nat} (h : cfgEnable s.host.qp0Cfg = true ∨ v % 64 ≠ 0) :
    s.qp0Base cq v = s.reservedWrite := by
  have hbad : (cfgEnable s.host.qp0Cfg || decide (v % 64 ≠ 0)) = true := by simpa using h
  rw [State.qp0Base, if_pos hbad]

theorem State.setQp_qp_same {s : State} {q : Nat} {f : QueuePair → QueuePair} (hq : q < s.host.qps.length) :
    (s.setQp q f).qp q = f (s.qp q) := by
  simp only [State.qp, State.setQp, updAt_getD, hq, and_self, if_true]

/-- A pair given the reset values is disabled, whether the list of pairs reaches it or not. -/
theorem State.setQp_default_enabled (s : State) (q : Nat) : ((s.setQp q fun _ => {}).qp q).enabled = false := by
  simp only [State.qp, State.setQp, updAt_getD]
  split
  · rfl
  · next h =>
    have hnone : s.host.qps[q]? = none := List.getElem?_eq_none (by simpa only [true_and, Nat.not_lt] using h)
    rw [List.getD_eq_getElem?_getD, hnone]
    rfl

/-- While the pair is disabled, no field but a reserved SIZE_EXP is refused: ENABLE starts the pair at indices 0 with what the
word and the two base registers hold. -/
theorem State.qp0Cfg_enables {s : State} {v : Nat} (hl : 0 < s.host.qps.length) (hoff : cfgEnable s.host.qp0Cfg = false)
    (hon : cfgEnable v = true) (hlo : 4 ≤ cfgSizeExp v) (hhi : cfgSizeExp v ≤ 16) :
    (s.qp0Cfg v).qp 0 =
      { enabled := true, sizeExp := cfgSizeExp v, vector := cfgVector v, sqBase := s.host.qp0SqBase, cqBase := s.host.qp0CqBase } := by
  have hsize : decide (cfgSizeExp v < 4 ∨ 16 < cfgSizeExp v) = false := by simp; omega
  simp only [State.qp0Cfg, hoff, hon, hsize, Bool.false_and, Bool.or_self, Bool.not_false, Bool.and_self, Bool.false_eq_true, if_true, if_false]
  exact State.setQp_qp_same hl

theorem State.qp0Cfg_disables {s : State} {v : Nat} (hon : cfgEnable s.host.qp0Cfg = true) (hoff : cfgEnable v = false) :
    ((s.qp0Cfg v).qp 0).enabled = false := by
  simp only [State.qp0Cfg, hon, hoff, Bool.false_and, Bool.not_false, Bool.and_self, Bool.false_eq_true, if_true, if_false]
  exact State.setQp_default_enabled _ 0

/-- A message that falls due leaves the moderation of every vector (R399). -/
theorem State.messageDue_moderation (s : State) (v n : Nat) :
    ((s.messageDue v).host.vectors.getD n {}).count = (s.host.vectors.getD n {}).count ∧
    ((s.messageDue v).host.vectors.getD n {}).timer = (s.host.vectors.getD n {}).timer := by
  have keeps : ∀ f : Vector64 → Vector64, (∀ x, (f x).count = x.count ∧ (f x).timer = x.timer) →
      ((updAt s.host.vectors v f).getD n {}).count = (s.host.vectors.getD n {}).count ∧
      ((updAt s.host.vectors v f).getD n {}).timer = (s.host.vectors.getD n {}).timer := by
    intro f hf
    rw [updAt_getD]
    split
    · next h => rw [h.1]; exact hf _
    · exact ⟨rfl, rfl⟩
  unfold State.messageDue
  dsimp only
  split
  · exact keeps _ fun _ => ⟨rfl, rfl⟩
  · split <;> exact keeps _ fun _ => ⟨rfl, rfl⟩

theorem State.modWrite_moderation {s : State} {n v : Nat} (hn : n < 64) (hl : n < s.host.vectors.length) :
    ((s.modWrite n v).host.vectors.getD n {}).count = v / 65536 % 65536 ∧
    ((s.modWrite n v).host.vectors.getD n {}).timer = v % 65536 := by
  simp only [State.modWrite, if_neg (Nat.not_le.mpr hn)]
  split
  · simp only [State.messageDue_moderation, updAt_getD, hl, and_self, if_true]
  · simp only [updAt_getD, hl, and_self, if_true]

/-! What the commands reach. -/

theorem sqTailWrite_reaches {t q v : Nat} {s u : State} {P : State → Prop} (hb : s.bar0 = true)
    (hf : (s.at t).sqTail q v = u) (h : P { u with dt := max s.dt t, pending := s.pending }) : Reaches (.sqTailWrite t q v) s P :=
  bar0_reaches rfl hb hf h

theorem cqHeadWrite_reaches {t q v : Nat} {s u : State} {P : State → Prop} (hb : s.bar0 = true)
    (hf : (s.at t).cqHead q v = u) (h : P { u with dt := max s.dt t, pending := s.pending }) : Reaches (.cqHeadWrite t q v) s P :=
  bar0_reaches rfl hb hf h

/-- What a write of each register of QP0_CFG_WRITE does where BAR0 answers. -/
def State.registerWrite (s : State) (v : Nat) : Bar0Reg → State
  | .sqBase => s.qp0Base false v
  | .cqBase => s.qp0Base true v
  | .cfg => s.qp0Cfg v
  | .mod n => s.modWrite n v

theorem qp0CfgWrite_reaches {t v : Nat} {reg : Bar0Reg} {s u : State} {P : State → Prop} (hb : s.bar0 = true)
    (hf : (s.at t).registerWrite v reg = u) (h : P { u with dt := max s.dt t, pending := s.pending }) :
    Reaches (.qp0CfgWrite t reg v) s P := by
  refine bar0_reaches (f := fun s => if !s.bar0 then s else s.registerWrite v reg) ?_ hb ?_ h
  · cases reg <;> rfl
  · have hbt : (s.at t).bar0 = true := hb
    simp [hbt, hf]

theorem pauseWrite_reaches {t v : Nat} {s : State} (hb : s.bar0 = true) :
    Reaches (.pauseWrite t v) s fun u => u = { s with
      dt := max s.dt t, tx := [], host := { s.host with pauseRequest := v.testBit 0 } } :=
  bar0_reaches rfl hb (if_pos hb) rfl

theorem bar0BadAccess_write_reaches {t off size : Nat} {s : State} (hb : s.bar0 = true)
    (hbad : ((size == 4 || size == 8) && off % size == 0) = false) :
    Reaches (.bar0BadAccess t off size true) s fun u => u = { s with
      dt := max s.dt t, tx := [], host := { s.host with rsvdWrites := inc32 s.host.rsvdWrites } } := by
  have hbt : (s.at t).bar0 = true := hb
  exact bar0_reaches (u := (s.at t).reservedWrite) rfl hb (by simp only [hbt, hbad]; rfl) rfl

theorem streamReadWrite_bar0_reaches {t i v : Nat} {s : State} (hb : s.bar0 = true) (hi : i < 5) (hv : v % 64 = 0)
    (hlt : v < s.hostSize i) :
    Reaches (.streamReadWrite (.bar0 t i v)) s fun u => u = { s with
      dt := max s.dt t, tx := [], streams := updAt s.streams i fun x => { x with hostRead := v } } := by
  have hgood : offsetBad v ((s.at t).hostSize i) = false := by
    have hsize : (s.at t).hostSize i = s.hostSize i := rfl
    simp [offsetBad, hsize, hv, hlt]
  have hbt : (s.at t).bar0 = true := hb
  exact bar0_reaches (u := (s.at t).hostReadTo i v) rfl hb (by simp [hbt, hi, hgood]) rfl

/-- Settles O33. A doorbell is taken or ignored by R374, R377 and R380; the other registers follow R8, R373, R401 and Tables 14.5
and 14.7, a read offset R195. That a base of the wrong alignment is counted is R8's; which writes of QP0_CFG count as refused is
log entry 35's choice. -/
theorem bar0Acts : Obligations.Bar0Acts := by
  unfold Obligations.Bar0Acts
  refine ⟨fun t q v s hb hq => ⟨fun he hv => ?tail, fun h => ⟨?badTail, ?badHead⟩, fun n he hv hn hu => ?head, fun n he hv hn hu => ?beyond⟩,
    fun t v s hb => ⟨fun he hv => ⟨?sqBase, ?cqBase⟩, fun h => ⟨?badSqBase, ?badCqBase⟩, fun hl hoff hon hlo hhi => ?enable,
      fun hon hoff => ?disable, fun n hn hl => ?mod, pauseWrite_reaches hb, fun off size hbad => bar0BadAccess_write_reaches hb hbad⟩,
    fun t i v s hb hi hv hlt => streamReadWrite_bar0_reaches hb hi hv hlt⟩
  case tail => exact sqTailWrite_reaches hb (State.sqTail_taken hb hq he hv) rfl
  case badTail => exact sqTailWrite_reaches hb (State.sqTail_ignored hb hq h) rfl
  case badHead => exact cqHeadWrite_reaches hb (State.cqHead_ignored hb hq (.inl h)) rfl
  case head => subst hn; exact cqHeadWrite_reaches hb (State.cqHead_taken hb hq he hv hu) rfl
  case beyond => subst hn; exact cqHeadWrite_reaches hb (State.cqHead_ignored hb hq (.inr hu)) rfl
  case sqBase => exact qp0CfgWrite_reaches hb (State.qp0Base_taken he hv) rfl
  case cqBase => exact qp0CfgWrite_reaches hb (State.qp0Base_taken he hv) rfl
  case badSqBase => exact qp0CfgWrite_reaches hb (State.qp0Base_ignored h) rfl
  case badCqBase => exact qp0CfgWrite_reaches hb (State.qp0Base_ignored h) rfl
  case enable => exact qp0CfgWrite_reaches hb rfl (State.qp0Cfg_enables (s := s.at t) hl hoff hon hlo hhi)
  case disable => exact qp0CfgWrite_reaches hb rfl (State.qp0Cfg_disables (s := s.at t) hon hoff)
  case mod => exact qp0CfgWrite_reaches hb rfl (State.modWrite_moderation (s := s.at t) hn hl)

end Sys2Proof.Machine
end

section
/-! PROOFS. What an event reaches. -/

namespace Sys2Proof.Machine

/-- An event whose change to the state at its DT is known, in a device that is up. -/
theorem up_reaches {i : Instr} {s u : State} {t : Nat} {f : State → State} {P : State → Prop}
    (hx : exec i s = s.event t f) (hup : s.up = true) (hf : f (s.at t) = u)
    (h : P { u with dt := max s.dt t, pending := s.pending }) : Reaches i s P :=
  event_of hx hup (hf ▸ h)

/-- What a command reaches, weakened. -/
theorem Reaches.imp {i : Instr} {s : State} {P Q : State → Prop} (h : Reaches i s P) (hPQ : ∀ u, P u → Q u) : Reaches i s Q := by
  obtain ⟨u, hx, hP⟩ := h
  exact ⟨u, hx, hPQ u hP⟩

end Sys2Proof.Machine
end

section
/-! PROOFS. DMA doorbells, entry releases and request lines (16), and from these O41. -/

namespace Sys2Proof.Machine

/-! The channel table. -/

theorem State.setChan_chan_same {s : State} {c : Nat} {f : DmaChannel → DmaChannel} (hl : c < s.dma.channels.length) :
    (s.setChan c f).chan c = f (s.chan c) := by
  simp only [State.chan, State.setChan, updAt_getD, hl, and_self, if_true]

@[simp] theorem State.sourceLevel_dma (n : Nat) (b : Bool) (s : State) : (s.sourceLevel n b).dma = s.dma := by
  unfold State.sourceLevel
  split <;> rfl

/-- The end decision of a channel begins with the LINK word's read (R435). -/
theorem State.dmaDecide_chan_same {s : State} {c : Nat} {b : Bool} (hl : c < s.dma.channels.length) :
    (s.dmaDecide c b).chan c = { s.chan c with mode := .running, step := .decide, dbPending := false, belled := b } := by
  rw [State.dmaDecide, State.chan, State.sourceLevel_dma]
  exact State.setChan_chan_same hl

/-! Doorbells (R435, R442) and entry releases (R428). -/

/-- What a doorbell register does where BAR0 answers. -/
def State.doorbell (c w : Nat) (s : State) : State :=
  if !w.testBit 0 then s.reservedWrite
  else match (s.chan c).mode with
    | .disabled => s.badDoorbell
    | .parked => s.dmaDecide c true
    | .running => s.setChan c fun ch => { ch with dbPending := true, doorbells := inc32 ch.doorbells }
    | .halted => s.setChan c fun ch => { ch with doorbells := inc32 ch.doorbells }

theorem State.doorbell_reserved {s : State} {c w : Nat} (hw : w.testBit 0 = false) : s.doorbell c w = s.reservedWrite := by
  simp only [State.doorbell, hw, Bool.not_false, if_true]

theorem State.doorbell_disabled {s : State} {c w : Nat} (hw : w.testBit 0 = true) (hm : (s.chan c).mode = .disabled) :
    s.doorbell c w = s.badDoorbell := by
  simp only [State.doorbell, hw, hm, Bool.not_true, Bool.false_eq_true, if_false]

theorem State.doorbell_parked {s : State} {c w : Nat} (hw : w.testBit 0 = true) (hm : (s.chan c).mode = .parked) :
    s.doorbell c w = s.dmaDecide c true := by
  simp only [State.doorbell, hw, hm, Bool.not_true, Bool.false_eq_true, if_false]

theorem State.doorbell_running {s : State} {c w : Nat} (hw : w.testBit 0 = true) (hm : (s.chan c).mode = .running) :
    s.doorbell c w = s.setChan c fun ch => { ch with dbPending := true, doorbells := inc32 ch.doorbells } := by
  simp only [State.doorbell, hw, hm, Bool.not_true, Bool.false_eq_true, if_false]

theorem dmaDoorbell_reaches {t c w : Nat} {s u : State} {P : State → Prop} (hb : s.bar0 = true) (hc : c < 16)
    (hf : (s.at t).doorbell c w = u) (h : P { u with dt := max s.dt t, pending := s.pending }) : Reaches (.dmaDoorbell t c w) s P := by
  have hbt : (s.at t).bar0 = true := hb
  exact bar0_reaches (f := fun s => if !s.bar0 || decide (16 ≤ c) then s else s.doorbell c w) rfl hb
    (by simp only [hbt, Nat.not_le.mpr hc, decide_false, Bool.not_true, Bool.or_self, Bool.false_eq_true, if_false, hf]) h

/-- Entries of the completion ring of channel `c` that a head written as `v` would release (R428). -/
def State.chanReleasedBy (s : State) (c v : Nat) : Nat :=
  (v % 65536 + s.chanSlots c - (s.chan c).head % s.chanSlots c) % s.chanSlots c

/-- What a ring-head register does where BAR0 answers. -/
def State.ringHead (c v : Nat) (s : State) : State :=
  if (s.chan c).mode == .disabled || decide (s.chanSlots c ≤ v % 65536) || decide ((s.chan c).used < s.chanReleasedBy c v) then
    s.badDoorbell
  else s.setChan c fun ch => { ch with head := v % 65536, used := ch.used - s.chanReleasedBy c v }

theorem State.ringHead_taken {s : State} {c v : Nat} (hm : (s.chan c).mode ≠ .disabled) (hv : v % 65536 < s.chanSlots c)
    (hn : s.chanReleasedBy c v ≤ (s.chan c).used) :
    s.ringHead c v = s.setChan c fun ch => { ch with head := v % 65536, used := ch.used - s.chanReleasedBy c v } := by
  have hfree : ¬((s.chan c).mode == .disabled || decide (s.chanSlots c ≤ v % 65536) ||
      decide ((s.chan c).used < s.chanReleasedBy c v)) = true := by
    simp only [Bool.or_eq_true, beq_iff_eq, decide_eq_true_eq, hm, Nat.not_le.mpr hv, Nat.not_lt.mpr hn, or_self, not_false_eq_true]
  exact if_neg hfree

theorem State.ringHead_ignored {s : State} {c v : Nat}
    (h : (s.chan c).mode = .disabled ∨ s.chanSlots c ≤ v % 65536 ∨ (s.chan c).used < s.chanReleasedBy c v) :
    s.ringHead c v = s.badDoorbell := by
  rw [State.ringHead, if_pos (by simpa only [Bool.or_eq_true, beq_iff_eq, decide_eq_true_eq, or_assoc] using h)]

theorem dmaRingHeadWrite_reaches {t c v : Nat} {s u : State} {P : State → Prop} (hb : s.bar0 = true) (hc : c < 16)
    (hf : (s.at t).ringHead c v = u) (h : P { u with dt := max s.dt t, pending := s.pending }) :
    Reaches (.dmaRingHeadWrite t c v) s P := by
  have hbt : (s.at t).bar0 = true := hb
  exact bar0_reaches (f := fun s => if !s.bar0 || decide (16 ≤ c) then s else s.ringHead c v) rfl hb
    (by simp only [hbt, Nat.not_le.mpr hc, decide_false, Bool.not_true, Bool.or_self, Bool.false_eq_true, if_false, hf]) h

/-! What a channel does leaves the request lines alone (R437 to R439). -/

@[simp] theorem State.setChan_requests (c : Nat) (f : DmaChannel → DmaChannel) (s : State) :
    (s.setChan c f).dma.requests = s.dma.requests := rfl

theorem Replied.dma_eq {s u : State} (h : Replied s u) : u.dma = s.dma := by
  obtain ⟨_, _, _, _, _, rfl⟩ := h
  rfl

@[simp] theorem State.completeAll_dma (accs : List Nat) (st : Nat) (s : State) : (s.completeAll accs st).dma = s.dma :=
  (State.completeAll_replied accs st s).dma_eq

theorem State.messageDue_dma (v : Nat) (s : State) : (s.messageDue v).dma = s.dma := by
  unfold State.messageDue
  dsimp only
  split
  · rfl
  · split <;> rfl

theorem State.countEntry_dma (v : Nat) (s : State) : (s.countEntry v).dma = s.dma := by
  unfold State.countEntry
  dsimp only
  split
  · rw [State.messageDue_dma]
  · rfl

@[simp] theorem State.hostEntry_dma (v : Nat) (writes : List (Nat × List Byte)) (s : State) : (s.hostEntry v writes).dma = s.dma := by
  unfold State.hostEntry
  split
  · rw [State.countEntry_dma]
  · rfl

@[simp] theorem State.dmaEntry_requests (c tag count status : Nat) (s : State) :
    (s.dmaEntry c tag count status).dma.requests = s.dma.requests := by
  simp only [State.dmaEntry, State.setChan_requests, State.hostEntry_dma]

@[simp] theorem State.dmaHalt_requests (c tag count status : Nat) (s : State) :
    (s.dmaHalt c tag count status).dma.requests = s.dma.requests := by
  simp only [State.dmaHalt, State.dmaHalted, State.completeAll_dma, State.sourceLevel_dma, State.setChan_requests]
  split
  · exact State.dmaEntry_requests c tag count status s
  · rfl

@[simp] theorem State.dmaAfter_requests (c : Nat) (s : State) : (s.dmaAfter c).dma.requests = s.dma.requests := by
  unfold State.dmaAfter
  dsimp only
  split
  · rfl
  · split
    · exact State.dmaHalt_requests ..
    · split <;> rfl

@[simp] theorem State.dmaWrite_requests (c : Nat) (ch : DmaChannel) (bytes : List Byte) (s : State) :
    (s.dmaWrite c ch bytes).dma.requests = s.dma.requests := by
  unfold State.dmaWrite
  dsimp only
  rw [State.setChan_requests]
  split
  · rfl
  · split
    · rfl
    · split <;> rfl

@[simp] theorem State.deliverHeld_requests (e c : Nat) (s : State) : (s.deliverHeld e c).dma.requests = s.dma.requests := by
  unfold State.deliverHeld
  dsimp only
  split
  · rw [State.dmaAfter_requests, State.setChan_requests, State.send_dma]
  · rfl

theorem State.foldl_deliverHeld_requests (e : Nat) (cs : List Nat) (s : State) :
    (cs.foldl (fun (s : State) (c : Nat) => s.deliverHeld e c) s).dma.requests = s.dma.requests := by
  induction cs generalizing s with
  | nil => rfl
  | cons c cs ih => rw [List.foldl_cons, ih, State.deliverHeld_requests]

/-- Bytes held for the endpoint are delivered, and its request stays raised (R439). -/
theorem State.periphRequest_requests (e : Nat) (s : State) : (s.periphRequest e).dma.requests = s.dma.requests.set e true := by
  rw [State.periphRequest, State.foldl_deliverHeld_requests]

/-- The burst that a withdrawal cuts short ends or waits by its channel alone (R438, R439). -/
theorem State.withdrawn_requests (e c n : Nat) (bytes : List Byte) (s : State) :
    (s.withdrawn e c n bytes).dma.requests = s.dma.requests := by
  unfold State.withdrawn
  dsimp only
  split
  · rfl
  · split
    · split
      · rfl
      · split <;> rw [State.dmaAfter_requests, State.setChan_requests, State.dmaWrite_requests]
    · split
      · split
        · rfl
        · split
          · rw [State.setChan_requests, State.dmaWrite_requests]
          · rw [State.dmaAfter_requests, State.setChan_requests, State.dmaWrite_requests]
      · rfl

theorem State.periphWithdraw_requests (e c n : Nat) (bytes : List Byte) (s : State) :
    (s.periphWithdraw e c n bytes).dma.requests = s.dma.requests.set e false := by
  unfold State.periphWithdraw
  dsimp only
  split
  · rw [State.withdrawn_requests]
  · rfl

theorem periphRequest_reaches {t e : Nat} {s : State} (hup : s.up = true) (he : e < 4) :
    Reaches (.periphRequest t e) s fun u => u.dma.requests = s.dma.requests.set e true := by
  refine up_reaches (f := fun s => if e < 4 then s.periphRequest e else s) rfl hup (if_pos he) ?_
  simp only [State.periphRequest_requests, State.at_dma]

theorem periphWithdraw_reaches {t e c n : Nat} {bytes : List Byte} {s : State} (hup : s.up = true) (he : e < 4) :
    Reaches (.periphWithdraw t e c n bytes) s fun u => u.dma.requests = s.dma.requests.set e false := by
  refine up_reaches (f := fun s => if e < 4 then s.periphWithdraw e c n bytes else s) rfl hup (if_pos he) ?_
  simp only [State.periphWithdraw_requests, State.at_dma]

/-- Settles O41. A doorbell follows R435 and R442, an entry release R428, the request lines R437 to R439. That a doorbell word
with bit 0 clear does nothing but count, whatever the channel's mode, is log entry 34's reading of R8. -/
theorem dmaRequestsAct : Obligations.DmaRequestsAct := by
  unfold Obligations.DmaRequestsAct
  refine ⟨fun t c w s hb hc hl => ⟨fun hw => ⟨fun hm => ?parked, fun hm => ?running, fun hm => ?disabled⟩, fun hw => ?reserved,
      fun n hn => ⟨fun hm hv hu => ?release, fun h => ?beyond⟩⟩,
    fun t e s hup he _ => ⟨periphRequest_reaches hup he, fun c n bytes => periphWithdraw_reaches hup he⟩⟩
  case parked =>
    have hch := State.dmaDecide_chan_same (s := s.at t) (b := true) hl
    exact dmaDoorbell_reaches hb hc (State.doorbell_parked (s := s.at t) hw hm)
      ⟨(congrArg DmaChannel.mode hch :), (congrArg DmaChannel.step hch :), (congrArg DmaChannel.belled hch :)⟩
  case running =>
    have hch := State.setChan_chan_same (s := s.at t) (f := fun ch => { ch with dbPending := true, doorbells := inc32 ch.doorbells }) hl
    exact dmaDoorbell_reaches hb hc (State.doorbell_running (s := s.at t) hw hm)
      ⟨(congrArg DmaChannel.dbPending hch :), (congrArg DmaChannel.doorbells hch :), (congrArg DmaChannel.step hch :)⟩
  case disabled => exact dmaDoorbell_reaches hb hc (State.doorbell_disabled (s := s.at t) hw hm) rfl
  case reserved => exact dmaDoorbell_reaches hb hc (State.doorbell_reserved hw) rfl
  case release =>
    subst hn
    have hch := State.setChan_chan_same (s := s.at t)
      (f := fun ch => { ch with head := w % 65536, used := ch.used - (s.at t).chanReleasedBy c w }) hl
    exact dmaRingHeadWrite_reaches hb hc (State.ringHead_taken (s := s.at t) hm hv hu)
      ⟨(congrArg DmaChannel.head hch :), (congrArg DmaChannel.used hch :)⟩
  case beyond =>
    subst hn
    exact dmaRingHeadWrite_reaches hb hc (State.ringHead_ignored (s := s.at t) h) rfl

end Sys2Proof.Machine
end

section
/-! PROOFS. The interrupt controller (16): levels, takes, completion, routing, and from these O43. -/

namespace Sys2Proof.Machine

/-! Sources and cores. -/

theorem State.source_congr {s u : State} (h : u.int = s.int) (n : Nat) : u.source n = s.source n := by
  rw [State.source, State.source, h]

theorem State.core_congr {s u : State} (h : u.int = s.int) (c : Nat) : u.core c = s.core c := by
  rw [State.core, State.core, h]

/-- One source changed leaves the others. -/
theorem State.setSource_source (n : Nat) (f : IntSource → IntSource) (s : State) (m : Nat) :
    (s.setSource n f).source m = if m = n ∧ n < s.int.sources.length then f (s.source n) else s.source m := by
  simp only [State.source, State.setSource, updAt_getD]

theorem State.setSource_source_same {s : State} {n : Nat} {f : IntSource → IntSource} (hl : n < s.int.sources.length) :
    (s.setSource n f).source n = f (s.source n) := by
  rw [State.setSource_source, if_pos ⟨rfl, hl⟩]

theorem State.setCore_core_same {s : State} {c : Nat} {f : IntCore → IntCore} (hl : c < s.int.cores.length) :
    (s.setCore c f).core c = f (s.core c) := by
  simp only [State.core, State.setCore, updAt_getD, hl, and_self, if_true]

@[simp] theorem State.setSource_core (n : Nat) (f : IntSource → IntSource) (s : State) (c : Nat) :
    (s.setSource n f).core c = s.core c := rfl

/-! Levels (R444, R445). -/

theorem IntSource.withLevel_state_active {x : IntSource} (b : Bool) (hi : x.state ≠ .idle) (hp : x.state ≠ .pending) :
    (x.withLevel b).state = x.state := by
  unfold IntSource.withLevel
  cases hx : x.state with
  | idle => exact absurd hx hi
  | pending => exact absurd hx hp
  | active c => rfl

theorem IntSource.withLevel_state_waiting {x : IntSource} (b : Bool) (h : x.state = .idle ∨ x.state = .pending) :
    (x.withLevel b).state = if b then .pending else .idle := by
  rcases h with h | h <;> simp only [IntSource.withLevel, h]

theorem State.sourceLevel_source_same {s : State} {n : Nat} {b : Bool} (hn : n < 144) (hl : n < s.int.sources.length) :
    (s.sourceLevel n b).source n = (s.source n).withLevel b := by
  rw [State.sourceLevel, if_pos hn, State.setSource_source_same hl]

theorem sourceLevelChange_reaches {t n : Nat} {b : Bool} {s : State} (hup : s.up = true) (hl : n < s.int.sources.length)
    (hn : n < 90 ∨ (121 < n ∧ n < 128)) :
    Reaches (.sourceLevelChange t n b) s fun u => u.source n = (s.source n).withLevel b :=
  up_reaches (f := fun s => if n < 90 ∨ (121 < n ∧ n < 128) then s.sourceLevel n b else s) rfl hup (if_pos hn)
    (State.sourceLevel_source_same (s := s.at t) (by omega) hl :)

theorem swiWrite_reaches {t v : Nat} {s : State} (hup : s.up = true) (hl : 128 + v % 16 < s.int.sources.length) :
    Reaches (.swiWrite t v) s fun u => u.source (128 + v % 16) = (s.source (128 + v % 16)).withLevel (v.testBit 31) :=
  up_reaches rfl hup rfl (State.sourceLevel_source_same (s := s.at t) (by omega) hl :)

/-! Takes (R446, R447): what a core is presented with depends on the controller alone. -/

theorem State.walkTarget_congr {s u : State} (h : u.int = s.int) (k c : Nat) : u.walkTarget k c = s.walkTarget k c := by
  induction k generalizing c with
  | zero => rfl
  | succ k ih => simp only [State.walkTarget, State.core_congr h, ih]

theorem State.target_congr {s u : State} (h : u.int = s.int) (n : Nat) : u.target n = s.target n := by
  simp only [State.target, State.source_congr h, State.walkTarget_congr h]

theorem State.candidate_congr {s u : State} (h : u.int = s.int) (c : Nat) : u.candidate c = s.candidate c := by
  have hbetter : u.better = s.better := by
    funext best n
    simp only [State.better, State.source_congr h]
  simp only [State.candidate, hbetter, State.source_congr h, State.target_congr h]

theorem State.owned_congr {s u : State} (h : u.int = s.int) (c : Nat) : u.owned c = s.owned c := by
  simp only [State.owned, State.source_congr h]

theorem State.runPriority_congr {s u : State} (h : u.int = s.int) (c : Nat) : u.runPriority c = s.runPriority c := by
  simp only [State.runPriority, State.owned_congr h, State.source_congr h]

theorem State.presented_congr {s u : State} (h : u.int = s.int) (c : Nat) : u.presented c = s.presented c := by
  unfold State.presented
  rw [State.core_congr h, State.candidate_congr h, State.owned_congr h, State.runPriority_congr h]
  cases s.candidate c with
  | none => rfl
  | some n => dsimp only; rw [State.source_congr h]

/-- The presented source becomes ACTIVE on the core, which enters that source's vector. -/
theorem State.takeSource_taken {s : State} {c n : Nat} (wake : Option Nat) (hs : n < s.int.sources.length) (hc : c < s.int.cores.length)
    (hp : s.presented c = some n) :
    ((s.takeSource c wake).source n).state = .active c ∧ ((s.takeSource c wake).core c).taken = some n ∧
      ((s.takeSource c wake).core c).entered = (s.core c).vbar + 64 * n := by
  have hsource := State.setSource_source_same (f := fun x => { x with state := .active c }) hs
  have hcore := State.setCore_core_same (s := s.setSource n fun x => { x with state := .active c })
    (f := fun x => { x with taken := some n, entered := x.vbar + 64 * n }) hc
  simp only [State.takeSource, hp]
  exact ⟨(congrArg IntSource.state hsource :), (congrArg IntCore.taken hcore :), (congrArg IntCore.entered hcore :)⟩

theorem sourceTake_reaches {t c n : Nat} {wake : Option Nat} {s : State} (hup : s.up = true) (hs : n < s.int.sources.length)
    (hl : c < s.int.cores.length) (hc : c < 12) (hp : s.presented c = some n) :
    Reaches (.sourceTake t c wake) s fun u =>
      (u.source n).state = .active c ∧ (u.core c).taken = some n ∧ (u.core c).entered = (s.core c).vbar + 64 * n := by
  have hpt : (s.at t).presented c = some n := (State.presented_congr rfl c).trans hp
  exact up_reaches (f := fun s => if c < 12 then s.takeSource c wake else s) rfl hup (if_pos hc)
    (State.takeSource_taken (s := s.at t) wake hs hl hpt :)

/-! Completion (R450). -/

theorem State.eoi_completes {s : State} {c n : Nat} (hn : n < 144) (ha : (s.source n).state = .active c) :
    s.eoi c n = s.setSource n IntSource.release :=
  if_pos ⟨hn, ha⟩

theorem State.eoi_spurious {s : State} {c n : Nat} (h : (s.source n).state ≠ .active c ∨ 144 ≤ n) :
    s.eoi c n = { s with int := { s.int with spuriousEoi := inc32 s.int.spuriousEoi } } :=
  if_neg fun ⟨hn, ha⟩ => h.elim (fun hna => hna ha) (by omega)

theorem IntSource.release_not_active (x : IntSource) (c : Nat) : x.release.state ≠ .active c := by
  unfold IntSource.release
  cases x.level <;> exact fun h => SourceState.noConfusion h

/-- A release leaves the priority of every source. -/
theorem State.release_priority (s : State) (n m : Nat) : ((s.setSource n IntSource.release).source m).priority = (s.source m).priority := by
  rw [State.setSource_source]
  split
  · next h => rw [h.1]; rfl
  · rfl

/-- A source that is released leaves the sources its core owns, and no other leaves or joins them. -/
theorem State.release_owned {s : State} {n : Nat} (hl : n < s.int.sources.length) (c : Nat) :
    (s.setSource n IntSource.release).owned c = (s.owned c).filter fun m => m != n := by
  simp only [State.owned, List.filter_filter]
  refine List.filter_congr fun m _ => ?_
  by_cases hm : m = n
  · subst hm
    simp only [State.setSource_source_same hl,
      beq_eq_false_iff_ne.mpr (IntSource.release_not_active _ c), bne_self_eq_false, Bool.false_and]
  · simp only [State.setSource_source, hm, false_and, if_false, bne_iff_ne.mpr hm, Bool.true_and]

theorem State.release_runPriority {s : State} {n : Nat} (hl : n < s.int.sources.length) (c : Nat) :
    (s.setSource n IntSource.release).runPriority c =
      (((s.owned c).filter fun m => m != n).map fun m => (s.source m).priority).foldl max 0 := by
  simp only [State.runPriority, State.release_owned hl, State.release_priority]

theorem eoiWrite_reaches {t c v : Nat} {s u : State} {P : State → Prop} (hup : s.up = true) (hc : c < 12)
    (hf : (s.at t).eoi c (v % 256) = u) (h : P { u with dt := max s.dt t, pending := s.pending }) : Reaches (.eoiWrite t c v) s P :=
  up_reaches (f := fun s => if c < 12 then s.eoi c (v % 256) else s) rfl hup (by rw [if_pos hc, hf]) h

/-! Routes and cores (Tables 16.15 and 16.16). -/

/-- The encodings of TARGET that Table 16.15 reserves. -/
def reservedTarget (v : Nat) : Bool := decide (12 ≤ v % 16 ∧ v % 16 ≤ 14)

/-- A ROUTE register written as `v`; a reserved TARGET leaves the field (R8). -/
def IntSource.routed (v : Nat) (x : IntSource) : IntSource :=
  { x with
    priority := v / 4096 % 16
    enable := v.testBit 8
    target := if reservedTarget v then x.target else v % 16 }

/-- What a write of ROUTE[n] does: a reserved TARGET is counted. -/
def State.route (n v : Nat) (s : State) : State :=
  if reservedTarget v then (s.setSource n (IntSource.routed v)).reservedWrite else s.setSource n (IntSource.routed v)

theorem State.route_source_same {s : State} {n v : Nat} (hl : n < s.int.sources.length) :
    (s.route n v).source n = (s.source n).routed v := by
  unfold State.route
  split <;> exact State.setSource_source_same hl

theorem State.route_rsvdWrites {s : State} {n v : Nat} (h : reservedTarget v = true) :
    (s.route n v).host.rsvdWrites = inc32 s.host.rsvdWrites := by
  rw [State.route, if_pos h]
  rfl

theorem routeWrite_reaches {t n v : Nat} {s : State} (hup : s.up = true) (hl : n < s.int.sources.length) (hn : n < 256) :
    Reaches (.routeWrite t n v) s fun u => u.source n = (s.source n).routed v ∧
      (reservedTarget v = true → u.host.rsvdWrites = inc32 s.host.rsvdWrites) :=
  up_reaches (f := fun s => if 256 ≤ n then s else s.route n v) rfl hup (if_neg (Nat.not_le.mpr hn))
    ⟨(State.route_source_same (s := s.at t) hl :), (State.route_rsvdWrites (s := s.at t) :)⟩

theorem State.foldl_setSource_core (f : IntSource → IntSource) (ns : List Nat) (s : State) (c : Nat) :
    (ns.foldl (fun (s : State) (n : Nat) => s.setSource n f) s).core c = s.core c := by
  induction ns generalizing s with
  | nil => rfl
  | cons n ns ih => rw [List.foldl_cons, ih, State.setSource_core]

/-- The sources that an offline core loses leave its registers (R449). -/
theorem State.coreWrite_core_same {s : State} {c fb : Nat} {online : Bool} (hl : c < s.int.cores.length) :
    (s.coreWrite c fb online).core c = { s.core c with online := online, fallback := fb } := by
  unfold State.coreWrite
  dsimp only
  split
  · exact State.setCore_core_same hl
  · rw [State.foldl_setSource_core]
    exact State.setCore_core_same hl

/-- What a write of CORE_STATE[c] does: a reserved FALLBACK leaves the field and is counted (R8). -/
def State.writeCoreState (c v : Nat) (s : State) : State :=
  let fb := v / 4096 % 16
  let s1 := s.coreWrite c (if fb < 12 then fb else (s.core c).fallback) (v.testBit 0)
  if fb < 12 then s1 else s1.reservedWrite

theorem State.writeCoreState_core_same {s : State} {c v : Nat} (hl : c < s.int.cores.length) :
    (s.writeCoreState c v).core c = { s.core c with
      online := v.testBit 0
      fallback := if v / 4096 % 16 < 12 then v / 4096 % 16 else (s.core c).fallback } := by
  unfold State.writeCoreState
  dsimp only
  split <;> exact State.coreWrite_core_same hl

theorem coreOnlineWrite_reaches {t c v : Nat} {s : State} (hup : s.up = true) (hl : c < s.int.cores.length) (hc : c < 12) :
    Reaches (.coreOnlineWrite t c v) s fun u => u.core c = { s.core c with
      online := v.testBit 0
      fallback := if v / 4096 % 16 < 12 then v / 4096 % 16 else (s.core c).fallback } :=
  up_reaches (f := fun s => if 12 ≤ c then s else s.writeCoreState c v) rfl hup (if_neg (Nat.not_le.mpr hc))
    (State.writeCoreState_core_same (s := s.at t) hl :)

/-- Settles O43. Levels follow R444 and R445, takes R446 and R447, completion R450, the registers Tables 16.15 and 16.16. That
SOURCE_LEVEL_CHANGE acts on no source whose level the device holds itself is log entry 66's choice; that a reserved TARGET leaves
the write's other fields in force is log entry 34's reading of R8. -/
theorem interruptsAct : Obligations.InterruptsAct := by
  unfold Obligations.InterruptsAct
  intro t n c s hup hs hl
  refine ⟨fun b hn => ?level, fun wake hc hp => sourceTake_reaches hup hs hl hc hp,
    fun v hc hv => ⟨fun hn ha => ?complete, fun h => ?spurious⟩, fun v hn => ?route, fun v hc => ?core, fun v hv => ?swi⟩
  case level =>
    refine (sourceLevelChange_reaches hup hs hn).imp fun u hu => ?_
    rw [hu]
    exact ⟨rfl, IntSource.withLevel_state_active b, IntSource.withLevel_state_waiting b⟩
  case complete =>
    subst hv
    exact eoiWrite_reaches hup hc (State.eoi_completes (s := s.at t) hn ha)
      ⟨(congrArg IntSource.state (State.setSource_source_same (s := s.at t) hs) :), rfl,
        (State.release_runPriority (s := s.at t) hs c :)⟩
  case spurious =>
    subst hv
    exact eoiWrite_reaches hup hc (State.eoi_spurious (s := s.at t) h) rfl
  case route =>
    refine (routeWrite_reaches hup hs hn).imp fun u ⟨hu, hcount⟩ => ?_
    rw [hu]
    refine ⟨rfl, rfl, rfl, fun hv => if_neg ?_, fun hlo hhi => ?_⟩
    · simp only [reservedTarget, decide_eq_true_eq]
      omega
    · have hbad : reservedTarget v = true := decide_eq_true ⟨hlo, hhi⟩
      exact ⟨if_pos hbad, hcount hbad⟩
  case core =>
    refine (coreOnlineWrite_reaches hup hl hc).imp fun u hu => ?_
    rw [hu]
    exact ⟨rfl, fun hfb => if_pos hfb⟩
  case swi =>
    subst hv
    refine (swiWrite_reaches hup hs).imp fun u hu => ?_
    rw [hu]
    rfl

end Sys2Proof.Machine
end

section
/-! PROOFS. What every operation of the model leaves: OTP, device time, and the canonical form of both memories. -/

namespace Sys2Proof.Machine

-- Elaborated side by side, the many short proofs below would ask for more threads than the memory of a check has stacks for.
set_option Elab.async false

/-- `t` has the OTP and the device time of `s`, and memories that are canonical where those of `s` are. -/
def Intact (s t : State) : Prop :=
  t.otp = s.otp ∧ t.dt = s.dt ∧ (s.dram.wf dramDefault = true → t.dram.wf dramDefault = true) ∧
    (s.flash.wf flashErased = true → t.flash.wf flashErased = true)

namespace Intact

theorem refl (s : State) : Intact s s := ⟨rfl, rfl, id, id⟩

/-- A change of other fields. -/
theorem update {s t : State} {pending fresh tx par parPending deferred cyc host power svc recorder streams sig lay mps loop ledger img mot fbk
    emd dma int mem head las gut net pair} (h : Intact s t) :
    Intact s ⟨pending, t.dt, fresh, tx, par, parPending, deferred, t.otp, cyc, host, power, svc, recorder, streams, sig, lay, mps, loop, ledger,
      img, mot, fbk, emd, dma, int, mem, head, las, gut, net, pair, t.dram, t.flash⟩ := h

theorem ite {s t u : State} {c : Prop} [Decidable c] (ht : Intact s t) (hu : Intact s u) : Intact s (if c then t else u) := by
  split
  · exact ht
  · exact hu

theorem foldl {α : Type} {s : State} {f : State → α → State} (hf : ∀ {t : State} (a : α), Intact s t → Intact s (f t a)) {l : List α}
    {t : State} (h : Intact s t) : Intact s (l.foldl f t) := by
  induction l generalizing t with
  | nil => exact h
  | cons a l ih => exact ih (hf a h)

theorem dramWrite {s t : State} {a : Nat} {bs : List Byte} (h : Intact s t) : Intact s (t.dramWrite a bs) :=
  ⟨h.1, h.2.1, fun hw => Mem.writeBytes_wf (h.2.2.1 hw) a bs, h.2.2.2⟩

theorem flashWrite {s t : State} {a : Nat} {bs : List Byte} (h : Intact s t) : Intact s (t.flashWrite a bs) :=
  ⟨h.1, h.2.1, h.2.2.1, fun hw => Mem.writeBytes_wf (h.2.2.2 hw) a bs⟩

theorem flashErase {s t : State} {a n : Nat} (h : Intact s t) : Intact s (t.flashErase a n) :=
  ⟨h.1, h.2.1, h.2.2.1, fun hw => Mem.filter_wf (h.2.2.2 hw) _⟩

variable {s t : State}

theorem noteEmit (h : Intact s t) : Intact s t.noteEmit := .foldl (fun _ h' => .update h') h
theorem emptyBank {k : Nat} (h : Intact s t) : Intact s (t.emptyBank k) := .update (.update h)
theorem reply {o : Origin} {addr : Nat} {marker : Bool} {bytes : List Byte} (h : Intact s t) : Intact s (t.reply o addr marker bytes) := by
  unfold State.reply
  split
  · exact .update h
  · split
    · exact .update h
    · exact h
theorem answer {p : Packet} {opcode : Nat} {final : Bool} {status : Nat} {result : List Byte} (h : Intact s t) : Intact s
    (t.answer p opcode final status result) := by
  unfold State.answer
  split
  · split
    · exact h
    · exact .ite (.update h) h
  · split
    · exact .reply h
    · exact .ite (.update (.reply h)) (.reply h)
theorem finish {acc status : Nat} {result : List Byte} (h : Intact s t) : Intact s (t.finish acc status result) := by
  unfold State.finish
  split
  · exact h
  · exact .ite (.update h) (.answer (.update h))
theorem settleDeletes {n : Nat} (h : Intact s t) : Intact s (t.settleDeletes n) := by
  induction n generalizing t with
  | zero => exact h
  | succ n ih =>
    unfold State.settleDeletes
    split
    · exact h
    · exact ih (.finish (.update h))
theorem complete {acc status : Nat} {result : List Byte} (h : Intact s t) : Intact s (t.complete acc status result) := .settleDeletes (.finish h)
theorem loadAnswer {l : Loading} {status : Nat} {result : List Byte} (h : Intact s t) : Intact s (t.loadAnswer l status result) := by
  unfold State.loadAnswer
  split
  · exact .complete h
  · split
    · exact .ite h (.complete (.update h))
    · exact h
theorem failSet {k : Nat} {replaces : Bool} (h : Intact s t) : Intact s (t.failSet k replaces) := .ite h (.update h)
theorem abandonLoad {status stage : Nat} (h : Intact s t) : Intact s (t.abandonLoad status stage) := by
  unfold State.abandonLoad
  split
  · exact h
  · exact .update (.loadAnswer (.failSet (.update h)))
theorem dropBanks (h : Intact s t) : Intact s t.dropBanks := .emptyBank (.emptyBank (.abandonLoad h))
theorem logOne {e : LogRec} (h : Intact s t) : Intact s (t.logOne e).1 := by
  unfold State.logOne
  dsimp only
  split
  · split
    · exact .update h
    · split
      · exact .update h
      · split
        · exact .update h
        · exact .update h
  · exact .update h
theorem unfreeze (h : Intact s t) : Intact s t.unfreeze := by
  unfold State.unfreeze
  refine .ite h (.update (.foldl (fun _ h' => ?_) (.update h)))
  split
  · exact .ite (.update h') (.ite (.logOne h') (.update (.logOne h')))
  · exact .logOne h'
theorem setState {new : DevState} {cause : Nat} (h : Intact s t) : Intact s (t.setState new cause) := .noteEmit (.update (.update (.unfreeze h)))
theorem peerSend {type : Nat} {payload : List Byte} (h : Intact s t) : Intact s (t.peerSend type payload) := .ite h (.update (.update h))
theorem sendCap (h : Intact s t) : Intact s t.sendCap := .peerSend (.update h)
theorem pairLink (h : Intact s t) : Intact s t.pairLink := .ite (.sendCap (.update h)) (.update h)
theorem startTracks {head : Nat} {declared : Nat → Bool} (h : Intact s t) : Intact s (t.startTracks head declared) :=
    .foldl (fun _ h' => .update h') h
theorem portLeaves {head : Nat} (h : Intact s t) : Intact s (t.portLeaves head) := .update (.startTracks h)
theorem toAcquire {head : Nat} (h : Intact s t) : Intact s (t.toAcquire head) := .update (.portLeaves h)
theorem toDisabled {head : Nat} (h : Intact s t) : Intact s (t.toDisabled head) := .update (.portLeaves h)
theorem portFollow {head : Nat} (h : Intact s t) : Intact s (t.portFollow head) := .ite (.toAcquire h) (.ite (.toDisabled h) h)
theorem portsFollow (h : Intact s t) : Intact s t.portsFollow := .foldl (fun _ h' => .portFollow h') h
theorem enterStandby {cause : Nat} (h : Intact s t) : Intact s (t.enterStandby cause) :=
    .ite (.pairLink (.portsFollow (.noteEmit (.update (.dropBanks (.setState h)))))) (.ite (.pairLink (.portsFollow (.noteEmit (.update (.dropBanks
      (.setState h)))))) (.portsFollow (.noteEmit (.update (.dropBanks (.setState h))))))
theorem ringPut {i : Nat} {bs : List Byte} (h : Intact s t) : Intact s (t.ringPut i bs) := .update (.dramWrite (.dramWrite h))
theorem append {i : Nat} {gapBytes : Gap → List Byte} {keep : Bool} {bs : List Byte} (h : Intact s t) :
    Intact s (t.append i gapBytes keep bs).1 := by
  unfold State.append
  dsimp only
  split
  · split
    · exact .update (.ringPut h)
    · exact .update h
  · split
    · exact .update (.ringPut h)
    · exact .update h
theorem buildEntry {type : Nat} {payload : List Byte} (h : Intact s t) : Intact s (t.buildEntry type payload) :=
    .ite (.update h) (.update (.append h))
theorem layOut {o : LayOut} (h : Intact s t) : Intact s (t.layOut o) := by
  unfold State.layOut
  split
  · exact .buildEntry h
  · exact .buildEntry (.update (.update h))
  · exact .buildEntry (.update h)
  · exact .update h
  · refine .buildEntry (.update ?_)
    split
    · exact .update h
    · exact h
  · exact .buildEntry h
theorem setLay {l : Lay} (h : Intact s t) : Intact s (t.setLay l) := .foldl (fun _ h' => .layOut h') (.update h)
theorem splitLayer (h : Intact s t) : Intact s t.splitLayer := .ite (.setLay h) h
theorem peerDown (h : Intact s t) : Intact s t.peerDown := by
  unfold State.peerDown
  refine .ite h (.ite (.update h) ?_)
  split
  · split
    · exact .pairLink (.update (.update h))
    · exact .enterStandby (.update (.update h))
    · exact .update (.update (.update (.splitLayer (.update (.update h)))))
    · exact .update (.update (.update (.splitLayer (.update (.update h)))))
    · exact .update (.update h)
  · split
    · exact .pairLink (.update h)
    · exact .enterStandby (.update h)
    · exact .update (.update (.update (.splitLayer (.update h))))
    · exact .update (.update (.update (.splitLayer (.update h))))
    · exact .update h
theorem statsEntry {keep : Bool} {bs : List Byte} (h : Intact s t) : Intact s (t.statsEntry keep bs) := .ite (.append h) (.update h)
theorem outputLines {p n upto : Nat} (h : Intact s t) : Intact s (t.outputLines p n upto) := by
  unfold State.outputLines
  dsimp only
  split
  · exact h
  · refine .update ?_
    split
    · exact .foldl (fun _ h' => .dramWrite h') h
    · exact h
theorem finishFrame {p n : Nat} (h : Intact s t) : Intact s (t.finishFrame p n) := by
  unfold State.finishFrame
  dsimp only
  split
  · exact .outputLines (.update h)
  · exact .update (.statsEntry (.ite (.outputLines (.update h)) (.statsEntry (.outputLines (.update h)))))
theorem finishEnded {p n : Nat} (h : Intact s t) : Intact s (t.finishEnded p n) := by
  induction n generalizing t with
  | zero => exact h
  | succ n ih =>
    unfold State.finishEnded
    split
    · exact .ite (ih (.ite (.update (.finishFrame h)) (.finishFrame h))) h
    · exact h
theorem pipeTake (h : Intact s t) : Intact s t.pipeTake := by
  unfold State.pipeTake
  refine .ite (.foldl (fun _ h' => .finishEnded (.update h')) h) ?_
  split
  · exact .foldl (fun _ h' => .finishEnded (.update h')) h
  · exact .update (.foldl (fun _ h' => .finishEnded (.update h')) h)
theorem frameEnds {p : Nat} (h : Intact s t) : Intact s (t.frameEnds p) := by
  unfold State.frameEnds
  split
  · exact h
  · exact .pipeTake (.update (.update (.ite (.update h) h)))
theorem cxpLost {p : Nat} (h : Intact s t) : Intact s (t.cxpLost p) := .ite (.update (.ite (.frameEnds h) h)) h
theorem loopBegin {iface index : Nat} (h : Intact s t) : Intact s (t.loopBegin iface index) := by
  unfold State.loopBegin
  split
  · exact .peerDown h
  · exact .update h
  · exact .cxpLost h
  · exact h
theorem askLease {slot l : Nat} (h : Intact s t) : Intact s (t.askLease slot l) := .ite h (.update h)
theorem acceptCounter {p : Packet} (h : Intact s t) : Intact s (t.acceptCounter p) := by
  unfold State.acceptCounter
  split
  · exact h
  · exact .ite (.askLease (.update h)) (.update h)
theorem setVersion {o : Origin} {v : Nat} (h : Intact s t) : Intact s (t.setVersion o v) := by
  unfold State.setVersion
  split
  · exact .update h
  · exact .update h
theorem tagMatch {p : Packet} {u : State} (h : Intact s t) (hu : t.tagMatch p = some u) : Intact s u := by
  unfold State.tagMatch at hu
  repeat' split at hu
  all_goals cases hu
  · exact h
  · exact .update h
  · exact h
theorem trimDone {kind : TrimKind} {st : Nat} (h : Intact s t) : Intact s (t.trimDone kind st) := by
  unfold State.trimDone
  split
  · exact .complete h
  · exact h
theorem restartTrack {c : Nat} (h : Intact s t) : Intact s (t.restartTrack c) := .update (.foldl (fun _ h' => .update h') (.update h))
theorem setSpare {v : Nat} (h : Intact s t) : Intact s (t.setSpare v) := .ite h (.restartTrack (.update h))
theorem noteTrim {fe result residual : Nat} {candidate : List Int} (h : Intact s t) : Intact s (t.noteTrim fe result residual candidate) :=
    .update (.update h)
theorem beginTrim {fe : Nat} {kind : TrimKind} (h : Intact s t) : Intact s (t.beginTrim fe kind).1 := by
  unfold State.beginTrim
  split
  · exact .update h
  · split
    · exact .update h
    · exact .noteTrim h
theorem nextTrims {n : Nat} (h : Intact s t) : Intact s (t.nextTrims n) := by
  induction n generalizing t with
  | zero => exact h
  | succ n ih =>
    unfold State.nextTrims
    dsimp only
    split
    · exact h
    · exact .ite (ih (.trimDone (.update h))) (.ite (.beginTrim (.update h)) (ih (.trimDone (.beginTrim (.update h)))))
theorem trimOver (h : Intact s t) : Intact s t.trimOver := .nextTrims (.foldl (fun _ h' => .complete (.setSpare h')) (.update h))
theorem endTrim {time : Trim} {result : Nat} (h : Intact s t) : Intact s (t.endTrim time result) := .trimOver (.trimDone (.noteTrim h))
theorem abandonTrim {c : Nat} (h : Intact s t) : Intact s (t.abandonTrim c) := by
  unfold State.abandonTrim
  split
  · exact .ite (.endTrim h) h
  · exact h
theorem restartChannel {c : Nat} (h : Intact s t) : Intact s (t.restartChannel c) := .restartTrack (.abandonTrim h)
theorem failStep {a : Nat} (h : Intact s t) : Intact s (t.failStep a) := by
  unfold State.failStep
  split
  · exact .update h
  · exact h
theorem endMove {acc : Option Nat} {status : Nat} (h : Intact s t) : Intact s (t.endMove acc status) := by
  unfold State.endMove
  split
  · exact .complete h
  · exact h
theorem abortMove {a : Nat} (h : Intact s t) : Intact s (t.abortMove a) := .endMove (.endMove (.update h))
theorem quickStop {a : Nat} (h : Intact s t) : Intact s (t.quickStop a) := .ite h (.update (.update (.abortMove (.failStep h))))
theorem axisFault {cause a : Nat} (h : Intact s t) : Intact s (t.axisFault cause a) := .ite h (.update (.update (.quickStop h)))
theorem axisCfgWritten {a : Nat} (h : Intact s t) : Intact s (t.axisCfgWritten a) := .ite (.ite (.axisFault (.update h)) (.update h)) (.update h)
theorem loopCfgChanged {l old : Nat} (h : Intact s t) : Intact s (t.loopCfgChanged l old) := .ite (.update h) (.ite (.update h) h)
theorem fenceEffect {id scope old : Nat} (h : Intact s t) : Intact s (t.fenceEffect id scope old) :=
    .ite (.ite (.update h) h) (.ite (.update h) (.ite (.noteEmit h) (.ite (.loopCfgChanged h) h)))
theorem emdSends {b : Nat} {ps : List (List Byte)} (h : Intact s t) : Intact s (t.emdSends b ps) := .ite h (.update h)
theorem emdKick {b : Nat} (h : Intact s t) : Intact s (t.emdKick b) := by
  unfold State.emdKick
  refine .ite h ?_
  split
  · exact h
  · exact .emdSends (.update h)
theorem emdSend {b : Nat} {bs : List Byte} (h : Intact s t) : Intact s (t.emdSend b bs) := .ite h (.update h)
theorem completeAll {accs : List Nat} {status : Nat} (h : Intact s t) : Intact s (t.completeAll accs status) := .foldl (fun _ h' => .complete h') h
theorem finishLoads {b k status : Nat} (h : Intact s t) : Intact s (t.finishLoads b k status) := .completeAll (.update h)
theorem endLatch {b status : Nat} {result : List Byte} (h : Intact s t) : Intact s (t.endLatch b status result) := by
  unfold State.endLatch
  split
  · exact .complete (.update h)
  · exact h
theorem emdDark {b : Nat} (h : Intact s t) : Intact s (t.emdDark b) := .ite (.emdSend (.update (.endLatch h))) (.update (.endLatch h))
theorem busCfgWritten {b : Nat} (h : Intact s t) : Intact s (t.busCfgWritten b) :=
    .ite (.emdKick (.update (.emdSends (.emdSend (.emdDark h))))) (.update (.finishLoads (.finishLoads (.emdDark h))))
theorem sourceLevel {n : Nat} {b : Bool} (h : Intact s t) : Intact s (t.sourceLevel n b) := .ite (.update h) h
theorem dmaConfigured {c : Nat} (h : Intact s t) : Intact s (t.dmaConfigured c) := .sourceLevel (.update h)
theorem portConfigured {p v : Nat} (h : Intact s t) : Intact s (t.portConfigured p v) := .update (.update h)
theorem endSession {i : Nat} (h : Intact s t) : Intact s (t.endSession i) := .update (.update h)
theorem endSessions (h : Intact s t) : Intact s t.endSessions := .foldl (fun _ h' => .ite (.endSession h') h') h
theorem decelWritten {a : Nat} (h : Intact s t) : Intact s (t.decelWritten a) := by
  unfold State.decelWritten
  dsimp only
  split
  · exact h
  · exact .ite h (.ite (.update h) (.update h))
theorem limitsWritten {a : Nat} (h : Intact s t) : Intact s (t.limitsWritten a) := by
  unfold State.limitsWritten
  dsimp only
  split
  · exact h
  · exact .ite h (.ite (.update (.failStep h)) (.update h))
theorem loopbackOff {head : Nat} (h : Intact s t) : Intact s (t.loopbackOff head) := by
  unfold State.loopbackOff
  split
  · exact .complete (.toAcquire h)
  · exact h
theorem retrain {head : Nat} (h : Intact s t) : Intact s (t.retrain head) := .ite (.toAcquire h) h
theorem linkConfigured {head : Nat} (h : Intact s t) : Intact s (t.linkConfigured head) := .retrain (.portFollow (.loopbackOff h))
theorem roleWritten (h : Intact s t) : Intact s t.roleWritten := .ite (.ite (.update (.update h)) (.update h)) (.ite (.pairLink h) h)
theorem refEvent {key : Nat} (h : Intact s t) : Intact s (t.refEvent key) := .ite (.update h) h
theorem refSwitch {i : Nat} (h : Intact s t) : Intact s (t.refSwitch i) := .refEvent (.update h)
theorem refConfigured {old : Nat} (h : Intact s t) : Intact s (t.refConfigured old) := .ite (.refSwitch h) h
theorem loopParamEntry {l id : Nat} (h : Intact s t) : Intact s (t.loopParamEntry l id) := .ite (.buildEntry h) h
theorem cfgTaken {l old : Nat} (h : Intact s t) : Intact s (t.cfgTaken l old) := by
  unfold State.cfgTaken
  refine .ite ?_ (.loopParamEntry (.loopCfgChanged h))
  split
  · exact .update (.loopParamEntry (.loopCfgChanged h))
  · exact .loopParamEntry (.loopCfgChanged h)
theorem axisTracksCleared {head v : Nat} (h : Intact s t) : Intact s (t.axisTracksCleared head v) := .foldl (fun _ h' => .update h') h
theorem pageDirty {b k : Nat} (h : Intact s t) : Intact s (t.pageDirty b k) := .emdKick (.update h)
theorem levelsWritten {b old : Nat} (h : Intact s t) : Intact s (t.levelsWritten b old) := .foldl (fun _ h' => .ite h' (.pageDirty h')) h
theorem camKick {p : Nat} (h : Intact s t) : Intact s (t.camKick p) := by
  unfold State.camKick
  dsimp only
  split
  · exact .ite (.update (.update h)) h
  · exact h
theorem imgCommit {p f : Nat} (h : Intact s t) : Intact s (t.imgCommit p f) := .camKick (.update h)
theorem commitIfQuiet {p : Nat} (h : Intact s t) : Intact s (t.commitIfQuiet p) := .ite (.imgCommit h) h
theorem settingsWritten {p : Nat} {cam : Bool} (h : Intact s t) : Intact s (t.settingsWritten p cam) := .commitIfQuiet (.update h)
theorem takeValue {id scope v : Nat} (h : Intact s t) : Intact s (t.takeValue id scope v) := by
  unfold State.takeValue
  split
  · exact .update (.update h)
  · exact .update (.update h)
  · exact .update h
  · refine .ite (.cfgTaken (.update h)) (.ite (.update h) (.ite (.loopParamEntry (.update h)) (.ite (.dmaConfigured (.update h)) ?_)))
    split
    · exact .update h
    · exact .update (.update h)
    · exact .portConfigured (.update h)
    · exact .settingsWritten (.update h)
    · exact .settingsWritten (.update h)
    · exact .settingsWritten (.update h)
    · exact .settingsWritten (.update h)
    · exact .update (.update h)
    · exact .update h
    · exact .axisCfgWritten (.update h)
    · exact .decelWritten (.update h)
    · exact .limitsWritten (.update h)
    · exact .update (.update h)
    · exact .update h
    · exact .restartChannel (.update h)
    · exact .restartChannel (.update h)
    · exact .update (.update h)
    · exact .setSpare h
    · exact .update h
    · exact .axisTracksCleared h
    · exact .ite (.update h) (.busCfgWritten (.update h))
    · exact .levelsWritten (.update h)
    · exact .linkConfigured (.update h)
    · exact .roleWritten (.update h)
    · exact .update (.update h)
    · exact .endSessions (.update h)
    · exact .refConfigured (.update h)
    · exact .fenceEffect (.update h)
theorem setPowerMax {head v : Nat} (h : Intact s t) : Intact s (t.setPowerMax head v).1 := by
  unfold State.setPowerMax
  split
  · exact .takeValue h
  · exact .update h
theorem setLoopCfg {id v : Nat} (h : Intact s t) : Intact s (t.setLoopCfg id v).1 := by
  unfold State.setLoopCfg
  split
  · exact .takeValue h
  · exact .ite (.takeValue h) h
theorem noteDone (h : Intact s t) : Intact s t.noteDone := .ite h (.ite (.update h) h)
theorem leaveStream {head : Nat} (h : Intact s t) : Intact s (t.leaveStream head) := .buildEntry h
theorem loseHead {head : Nat} (h : Intact s t) : Intact s (t.loseHead head) :=
    .ite h (.noteDone (.ite (.leaveStream (.setLay (.update h))) (.setLay (.update h))))
theorem lasWarn {head cond action : Nat} (h : Intact s t) : Intact s (t.lasWarn head cond action) := .buildEntry (.update h)
theorem headStop {head cond : Nat} (h : Intact s t) : Intact s (t.headStop head cond) :=
    .ite h (.noteEmit (.loseHead (.update (.update (.lasWarn h)))))
theorem stopMask {mask : Nat} (h : Intact s t) : Intact s (t.stopMask mask) := .foldl (fun _ h' => .ite (.headStop h') h') h
theorem setEmitMask {v : Nat} (h : Intact s t) : Intact s (t.setEmitMask v).1 := by
  unfold State.setEmitMask
  rw [apply_ite Prod.fst]
  have atOnce : Intact s (t.takeValue 0x3001 devScope v) := .takeValue h
  refine .ite atOnce ?_
  exact .noteEmit (.stopMask (.update h))
theorem writeOne {id : Nat} {timing : Timing} {v scope : Nat} (h : Intact s t) : Intact s (t.writeOne id timing v scope).1 := by
  cases timing with
  | now => exact .takeValue h
  | fence =>
    unfold State.writeOne
    dsimp only
    split
    · exact h
    · exact .takeValue h
  | own =>
    unfold State.writeOne
    dsimp only
    split
    · exact .setPowerMax h
    · split
      · exact .setEmitMask h
      · split
        · exact .setLoopCfg h
        · split
          · exact h
          · exact .takeValue h

theorem foldl_fst {α β : Type} {f : State × β → α → State × β} (hf : ∀ {r : State × β} (a : α), Intact s r.1 → Intact s (f r a).1)
    {l : List α} {r : State × β} (h : Intact s r.1) : Intact s (l.foldl f r).1 := by
  induction l generalizing r with
  | nil => exact h
  | cons a l ih => exact ih (hf a h)

theorem writeParam {acc id : Nat} {timing : Timing} {v : Nat} {scopes : List Nat} (h : Intact s t) :
    Intact s (State.writeParam acc id timing v scopes t).1 := by
  have written := foldl_fst (f := fun a sc => ((a.1.writeOne id timing v sc).1, if (a.1.writeOne id timing v sc).2 then a.2 ++ [sc] else a.2))
    (l := scopes) (r := (t, [])) (fun _ h' => .writeOne h') h
  unfold State.writeParam
  dsimp only
  split
  · exact written
  · exact .update written
theorem poisonSeen {a n : Nat} (h : Intact s t) : Intact s (t.poisonSeen a n) := by
  unfold State.poisonSeen
  split
  · exact h
  · exact .update h
theorem poisonReject {a n : Packet → Nat} {p : Packet} {st : Nat} (h : Intact s t) : Intact s (poisonReject a n p st t) := .ite (.poisonSeen h) h
theorem emdResume (h : Intact s t) : Intact s t.emdResume := .foldl (fun _ h' => .emdKick h') h
theorem setCount {c : Nat} {v : Int} (h : Intact s t) : Intact s (t.setCount c v) := by
  unfold State.setCount
  refine .foldl (fun _ h' => ?_) (.update (.update h))
  split
  · exact .update h'
  · exact h'
theorem quadIndex {c : Nat} (h : Intact s t) : Intact s (t.quadIndex c) := .ite h (.ite (.update (.setCount (.update h))) (.update h))
theorem qp0Cfg {v : Nat} (h : Intact s t) : Intact s (t.qp0Cfg v) :=
    .ite (.update (.ite (.update h) (.update h))) (.ite (.update (.update (.ite (.update h) (.update h)))) (.ite (.update h) (.update h)))
theorem qp0Base {cq : Bool} {v : Nat} (h : Intact s t) : Intact s (t.qp0Base cq v) := .ite (.update h) (.ite (.update h) (.update h))
theorem messageDue {v : Nat} (h : Intact s t) : Intact s (t.messageDue v) := .ite (.update h) (.ite (.update h) (.update h))
theorem modWrite {v w : Nat} (h : Intact s t) : Intact s (t.modWrite v w) := .ite h (.ite (.messageDue (.update h)) (.update h))
theorem assignSegments (h : Intact s t) : Intact s t.assignSegments := by
  unfold State.assignSegments
  split
  · exact h
  · exact .update h
theorem startLoad {k addr len : Nat} {quire : Option Nat} {acc : Nat} (h : Intact s t) : Intact s (t.startLoad k addr len quire acc) :=
    .assignSegments (.update (.update h))
theorem startMapout {c : Nat} {acc : Option Nat} (h : Intact s t) : Intact s (t.startMapout c acc) := .update (.update h)
theorem loopFinish {iface index : Nat} (h : Intact s t) : Intact s (t.loopFinish iface index) := by
  unfold State.loopFinish
  split
  · exact .update h
  · exact .restartChannel h
  · exact h
theorem loopEnd {iface index bits errors : Nat} (h : Intact s t) : Intact s (t.loopEnd iface index bits errors) := by
  unfold State.loopEnd
  split
  · exact .ite h (.complete (.loopFinish (.update h)))
  · exact h
theorem channelClose {ch : Nat} (h : Intact s t) : Intact s (t.channelClose ch) := .noteEmit (.update h)
theorem closeGap (h : Intact s t) : Intact s t.closeGap := by
  unfold State.closeGap
  split
  · exact h
  · exact .update (.update (.append (.update h)))
theorem endBuild {slot counter : Nat} (h : Intact s t) : Intact s (t.endBuild slot counter).1 := by
  unfold State.endBuild
  dsimp only
  split
  · exact .closeGap h
  · exact .update (.buildEntry (.closeGap h))
theorem dmaHalted {c : Nat} (h : Intact s t) : Intact s (t.dmaHalted c) := .completeAll (.sourceLevel (.update h))
theorem countEntry {v : Nat} (h : Intact s t) : Intact s (t.countEntry v) := .ite (.messageDue (.update h)) (.update h)
theorem hostEntry {v : Nat} {writes : List (Nat × List Byte)} (h : Intact s t) : Intact s (t.hostEntry v writes) :=
    .ite (.countEntry (.update h)) (.update h)
theorem dmaEntry {c tag count status : Nat} (h : Intact s t) : Intact s (t.dmaEntry c tag count status) := .update (.hostEntry h)
theorem dmaHalt {c tag count status : Nat} (h : Intact s t) : Intact s (t.dmaHalt c tag count status) := .dmaHalted (.ite (.dmaEntry h) h)
theorem dmaAfter {c : Nat} (h : Intact s t) : Intact s (t.dmaAfter c) := .ite (.update h) (.ite (.dmaHalt h) (.ite (.update h) h))
theorem dmaReadFail {c tag count status : Nat} (h : Intact s t) : Intact s (t.dmaReadFail c tag count status) := .dmaHalt (.update h)
theorem dmaWrite {c : Nat} {ch : DmaChannel} {bytes : List Byte} (h : Intact s t) : Intact s (t.dmaWrite c ch bytes) :=
    .update (.ite (.dramWrite h) (.ite (.update h) (.ite (.update h) h)))
theorem dmaBurst {c : Nat} {src dst : List Byte} (h : Intact s t) : Intact s (t.dmaBurst c src dst) := by
  unfold State.dmaBurst
  refine .ite h (.ite (.ite (.update (.ite (.poisonSeen (.ite (.poisonSeen h) h)) (.ite (.poisonSeen h) h))) (.dmaReadFail (.ite (.poisonSeen (.ite
    (.poisonSeen h) h)) (.ite (.poisonSeen h) h)))) (.ite (.dmaAfter (.update (.dmaWrite h))) ?_))
  split
  · exact h
  · refine .ite (.dmaAfter (.update (.dmaWrite h))) ?_
    split
    · exact h
    · refine .dmaAfter ?_
      split
      · exact .update h
      · exact .update h
theorem layerSummary {outcome : Nat} (h : Intact s t) : Intact s (t.layerSummary outcome) := by
  unfold State.layerSummary
  dsimp only
  refine .ite h ?_
  split
  · exact .update (.buildEntry (.closeGap h))
  · exact .complete (.endBuild (.update (.buildEntry (.closeGap h))))
theorem stitchHead {layer : Nat} {es : List StitchEntry} {head : Nat} (h : Intact s t) : Intact s (t.stitchHead layer es head) :=
    .ite h (.ite (.update (.buildEntry (.update h))) (.buildEntry (.update h)))
theorem stitchLayer (h : Intact s t) : Intact s t.stitchLayer := by
  unfold State.stitchLayer
  dsimp only
  split
  · exact h
  · exact .update (.foldl (fun _ h' => .stitchHead h') h)
theorem cycleMessage {layer event cause dtS : Nat} {checks : List (Nat × Nat)} (h : Intact s t) : Intact s
    (t.cycleMessage layer event cause dtS checks) := .peerSend h
theorem tellPeer {event cause : Nat} (h : Intact s t) : Intact s (t.tellPeer event cause) := .ite (.cycleMessage h) h
theorem ledgerSwitched {assisted : Bool} (h : Intact s t) : Intact s (t.ledgerSwitched assisted) := .ite (.update h) (.update h)
theorem switchModes {new : Nat} (h : Intact s t) : Intact s (t.switchModes new) := .ite h (.update (.ite (.update h) (.ledgerSwitched (.update h))))
theorem applyModes (h : Intact s t) : Intact s t.applyModes := .completeAll (.switchModes (.update h))
theorem restoreHeads (h : Intact s t) : Intact s t.restoreHeads := by
  unfold State.restoreHeads
  refine .noteEmit (.foldl (fun _ h' => ?_) h)
  split
  · exact h'
  · exact .completeAll (.update (.update h'))
theorem endDeferred {status : Nat} {ds : List Deferred} (h : Intact s t) : Intact s (t.endDeferred status ds) := .foldl (fun _ h' => .complete h') h
theorem applyOne {p : PendingPar} (h : Intact s t) : Intact s (t.applyOne p) := .fenceEffect (.update h)
theorem applyPending (h : Intact s t) : Intact s t.applyPending := by
  unfold State.applyPending
  refine .endDeferred (.endDeferred (.ite ?_ (.foldl (fun _ h' => .applyOne h') (.update h))))
  split
  · exact .update (.foldl (fun _ h' => .applyOne h') (.update h))
  · exact .foldl (fun _ h' => .applyOne h') (.update h)
theorem atFence (h : Intact s t) : Intact s t.atFence := .restoreHeads (.applyModes (.applyPending h))
theorem takeRatio {head : Nat} (h : Intact s t) : Intact s (t.takeRatio head) := by
  unfold State.takeRatio
  dsimp only
  split
  · exact h
  · split
    · exact .complete (.update h)
    · exact .ite (.complete (.poisonSeen (.update h))) (.complete (.update (.update h)))
theorem takeFc {head : Nat} (h : Intact s t) : Intact s (t.takeFc head) := by
  unfold State.takeFc
  dsimp only
  split
  · exact h
  · split
    · exact .complete (.update h)
    · exact .ite (.complete (.poisonSeen (.update h))) (.complete (.update (.update (.update h))))
theorem takeLoads (h : Intact s t) : Intact s t.takeLoads := .foldl (fun _ h' => .takeRatio (.takeFc h')) h
theorem loopsReady (h : Intact s t) : Intact s t.loopsReady := by
  unfold State.loopsReady
  refine .update ?_
  split
  · exact .update (.foldl (fun _ h' => .ite h' (.update h')) h)
  · exact .foldl (fun _ h' => .ite h' (.update h')) h
theorem enterReady (h : Intact s t) : Intact s t.enterReady :=
    .update (.foldl (fun _ h' => .ite (.update (.update h')) (.update h')) (.loopsReady (.setState h)))
theorem dropTriggers (h : Intact s t) : Intact s t.dropTriggers := .update h
theorem clearLay (h : Intact s t) : Intact s t.clearLay := .update (.foldl (fun _ h' => .update h') h)
theorem retainBank (h : Intact s t) : Intact s t.retainBank := by
  unfold State.retainBank
  split
  · exact .update (.update h)
  · exact h
theorem listUnexposed (h : Intact s t) : Intact s t.listUnexposed := .foldl (fun _ h' => .layOut h') (.update h)
theorem disarmNow (h : Intact s t) : Intact s t.disarmNow := by
  have ended : ∀ {u : State} {x : Option Nat}, Intact s u → Intact s (match x with | some a => u.complete a stOk [] | none => u) := by
    intro u x hu
    split
    · exact .complete hu
    · exact hu
  have listed : Intact s (if (t.cyc.state == .hold) && t.recorder.sum.open_ then t.listUnexposed.layerSummary 1 else t) :=
    .ite (.layerSummary (.listUnexposed h)) h
  unfold State.disarmNow
  refine ended (.enterReady ?_)
  have left := takeLoads (.atFence (.clearLay (.dropTriggers (.ite (c := (t.cyc.state == .hold) = true)
    (.ite (c := t.recorder.sum.open_ = true) (.retainBank listed) listed) listed))))
  split
  · exact .complete (.update (.update (.update left)))
  · exact .update (.update left)
theorem waitAt {b : Boundary} {go : Bool} (h : Intact s t) : Intact s (t.waitAt b go) := .ite (.update h) h
theorem nextLayer (h : Intact s t) : Intact s t.nextLayer := .waitAt (.update h)
theorem endPhase (h : Intact s t) : Intact s t.endPhase := by
  unfold State.endPhase
  dsimp only
  split
  · exact .complete (.update h)
  · exact .update h
theorem imageEnd (h : Intact s t) : Intact s t.imageEnd := by
  unfold State.imageEnd
  refine .ite h (.ite (.disarmNow ?_) (.nextLayer ?_)) <;>
    exact .update (.endPhase (.update (.update (.tellPeer (.layerSummary (.stitchLayer h))))))
theorem dropLoads (h : Intact s t) : Intact s t.dropLoads := .foldl (fun _ h' => .completeAll (.update (.update h'))) h
theorem stopAllAxes (h : Intact s t) : Intact s t.stopAllAxes := .endMove (.foldl (fun _ h' => .quickStop h') (.update h))
theorem abandonCommandTrims (h : Intact s t) : Intact s t.abandonCommandTrims := by
  unfold State.abandonCommandTrims
  dsimp only
  split
  · exact .ite (.update h) (.trimOver (.trimDone (.noteTrim (.update h))))
  · exact .update h
theorem abortService (h : Intact s t) : Intact s t.abortService := .update (.completeAll (.abandonCommandTrims h))
theorem abortModes (h : Intact s t) : Intact s t.abortModes := .completeAll (.update h)
theorem abortQuire (h : Intact s t) : Intact s t.abortQuire := .foldl (fun _ h' => .ite h' (.complete (.update h'))) h
theorem emdSafe (h : Intact s t) : Intact s t.emdSafe := .foldl (fun _ h' => .update (.emdDark h')) h
theorem dropRestores (h : Intact s t) : Intact s t.dropRestores := .foldl (fun _ h' => .completeAll (.update h')) h
theorem abortPending (h : Intact s t) : Intact s t.abortPending := .endDeferred (.update h)
theorem enterSafe {cause : Nat} {self : Option Nat} (h : Intact s t) : Intact s (t.enterSafe cause self) :=
    .ite h (.tellPeer (.update (.completeAll (.update (.update (.clearLay (.abortService (.abortQuire (.dropBanks (.dropRestores (.dropLoads
      (.abortModes (.abortPending (.update (.emdSafe (.setState (.stopAllAxes (.ite (.layerSummary (.listUnexposed h)) h))))))))))))))))))
theorem memoryFault (h : Intact s t) : Intact s t.memoryFault := .enterSafe (.update h)
theorem endSwitch {st : Nat} {result : List Byte} (h : Intact s t) : Intact s (t.endSwitch st result) := by
  unfold State.endSwitch
  split
  · exact .complete (.update h)
  · exact h
theorem dropLoad {st : Nat} (h : Intact s t) : Intact s (t.dropLoad st) := by
  unfold State.dropLoad
  split
  · exact .complete (.update h)
  · exact h
theorem standbyFault (h : Intact s t) : Intact s t.standbyFault := .update (.dropLoad (.endSwitch h))
theorem dropCommit {st : Nat} (h : Intact s t) : Intact s (t.dropCommit st) := by
  unfold State.dropCommit
  split
  · exact .complete (.update h)
  · exact h
theorem coreWrite {c fallback : Nat} {online : Bool} (h : Intact s t) : Intact s (t.coreWrite c fallback online) :=
    .ite (.update h) (.foldl (fun _ h' => .update h') (.update h))
theorem coreOnline {c : Nat} {b : Bool} (h : Intact s t) : Intact s (t.coreOnline c b) := .coreWrite h
theorem setOnline {set : Nat} (h : Intact s t) : Intact s (t.setOnline set) := .foldl (fun _ h' => .coreOnline h') h
theorem setOffline {set : Nat} (h : Intact s t) : Intact s (t.setOffline set) := .foldl (fun _ h' => .coreWrite h') h
theorem swapSets {kind : Nat} (h : Intact s t) : Intact s (t.swapSets kind) := .update (.update (.setOnline (.setOffline h)))
theorem activeFault (h : Intact s t) : Intact s t.activeFault :=
    .ite (.update (.dropCommit (.dropLoad (.endSwitch (.setOffline h))))) (.update (.endSwitch (.swapSets h)))
theorem fwFault {set : Nat} (h : Intact s t) : Intact s (t.fwFault set) := .ite (.activeFault h) (.standbyFault h)
theorem holdover {fault : Bool} (h : Intact s t) : Intact s (t.holdover fault) := .ite (.update h) h
theorem networkFault (h : Intact s t) : Intact s t.networkFault := .update (.update (.holdover h))
theorem dmaDisable {c : Nat} (h : Intact s t) : Intact s (t.dmaDisable c) := .ite h (.completeAll (.update (.sourceLevel (.update h))))
theorem dmaDisableHost (h : Intact s t) : Intact s t.dmaDisableHost := .foldl (fun _ h' => .dmaDisable h') h
theorem functionReset (h : Intact s t) : Intact s t.functionReset := .dmaDisableHost (.update (.update h))
theorem imagingFault (h : Intact s t) : Intact s t.imagingFault := .ite (.update (.completeAll (.update h))) (.completeAll (.update h))
theorem loopIslandFault {i : Nat} (h : Intact s t) : Intact s (t.loopIslandFault i).1 := by
  unfold State.loopIslandFault
  dsimp only
  split
  · exact .foldl (fun _ h' => .update h') (.update h)
  · exact .update h
theorem linkGone {head : Nat} (h : Intact s t) : Intact s (t.linkGone head) := .ite (.loseHead (.noteEmit h)) (.ite (.enterStandby h) h)
theorem headFault {i : Nat} (h : Intact s t) : Intact s (t.headFault i) := by
  unfold State.headFault
  refine .ite (.loseHead (.noteEmit (.ite (.linkGone ?_) ?_))) (.loseHead (.noteEmit (.ite (.linkGone ?_) ?_)))
  · split
    · exact .complete (.portFollow h)
    · exact .portFollow h
  · split
    · exact .complete (.portFollow h)
    · exact .portFollow h
  · split
    · exact .complete (.portFollow h)
    · exact .portFollow h
  · split
    · exact .complete (.portFollow h)
    · exact .portFollow h
theorem islandResponse {i set : Nat} (h : Intact s t) : Intact s (t.islandResponse i set) :=
    .ite (.headFault h) (.ite (.ite (.loopIslandFault h) (.enterSafe (.loopIslandFault h))) (.ite (.imagingFault h) (.ite (.functionReset
      (.update h)) (.ite (.networkFault h) (.ite (.memoryFault h) (.ite (.fwFault h) (.enterSafe h)))))))
theorem islandFault {i set : Nat} (h : Intact s t) : Intact s (t.islandFault i set) :=
    .ite h (.ite (.update (.islandResponse (.ite (.update (.update (.update h))) (.update (.update h))))) (.islandResponse (.ite (.update (.update
      (.update h))) (.update (.update h)))))
theorem blockPoisoned {c k : Nat} (h : Intact s t) : Intact s (t.blockPoisoned c k) := by
  unfold State.blockPoisoned
  dsimp only
  split
  · refine .islandFault ?_
    split
    · exact .update (.update h)
    · exact .update h
  · split
    · exact .update (.update h)
    · exact .update h
theorem migrateBlock {ok : Bool} (h : Intact s t) : Intact s (t.migrateBlock ok) := by
  unfold State.migrateBlock
  split
  · exact .ite h (.update (.ite h (.blockPoisoned h)))
  · exact h
theorem loopbackStart {head acc depth pattern ms : Nat} (h : Intact s t) : Intact s (t.loopbackStart head acc depth pattern ms) :=
    .ite (.update (.update (.startTracks h))) (.update (.startTracks h))
theorem lightTriggers {port roleBit : Nat} {dts : List Nat} (h : Intact s t) : Intact s (t.lightTriggers port roleBit dts) :=
    .foldl (fun _ h' => .ite (.update h') h') h
theorem triggerDue {p : Nat} (h : Intact s t) : Intact s (t.triggerDue p) := by
  unfold State.triggerDue
  dsimp only
  split
  · exact h
  · exact .ite (.update (.update h)) (.update h)
theorem snap {p : Nat} (h : Intact s t) : Intact s (t.snap p) := .lightTriggers (.triggerDue (.update h))
theorem stopStream {except : Nat → Bool} (h : Intact s t) : Intact s (t.stopStream except) :=
    .ite h (.endMove (.foldl (fun _ h' => .ite (.update h') h') (.update h)))
theorem portRetrain {head : Nat} (h : Intact s t) : Intact s (t.portRetrain head) := .ite (.linkGone (.toAcquire h)) (.retrain h)
theorem syncEvent {source : Nat} {ok : Nat → Bool} (h : Intact s t) : Intact s (t.syncEvent source ok) :=
    .foldl (fun _ h' => .ite (.update h') h') h
theorem syncAxis {source a : Nat} (h : Intact s t) : Intact s (t.syncAxis source a) := .syncEvent h
theorem beginMove {a : Nat} {m : AxisMove} (h : Intact s t) : Intact s (t.beginMove a m) := .syncAxis (.update (.endMove (.endMove h)))
theorem beginBuild {id : Nat} (h : Intact s t) : Intact s (t.beginBuild id) := .update (.buildEntry (.update h))
theorem askTrim {fe : Nat} {kind : TrimKind} (h : Intact s t) : Intact s (t.askTrim fe kind) := .ite (.nextTrims (.update h)) (.update h)
theorem dmaDecide {c : Nat} {belled : Bool} (h : Intact s t) : Intact s (t.dmaDecide c belled) := .sourceLevel (.update h)
theorem retire {id : Option Nat} (h : Intact s t) : Intact s (t.retire id) := by
  unfold State.retire
  split
  · exact .update h
  · exact h
theorem flushQuire (h : Intact s t) : Intact s t.flushQuire := by
  unfold State.flushQuire
  refine .update (.foldl (fun _ h' => ?_) (.foldl (fun _ h' => .ite (.emptyBank h') h') ?_))
  · split
    · exact .ite h' (.complete h')
    · exact h'
  · split
    · exact .ite (.abandonLoad h) h
    · exact h
theorem depositsTo {dt : Nat} (h : Intact s t) : Intact s (t.depositsTo dt) := .ite h (.foldl (fun _ h' => .update h') (.update h))
theorem writeTogether {acc : Nat} {vals : List (Nat × Nat × Nat)} (h : Intact s t) : Intact s (t.writeTogether acc vals).1 := by
  unfold State.writeTogether
  split
  · exact .update h
  · exact .foldl (fun _ h' => .takeValue h') h
theorem startStep {i : Nat} (h : Intact s t) : Intact s (t.startStep i) := .ite (.update (.beginMove h)) (.update h)
theorem resumeMotion (h : Intact s t) : Intact s t.resumeMotion := by
  unfold State.resumeMotion
  refine .ite (.update (.foldl (fun _ h' => .ite ?_ h') h)) (.foldl (fun _ h' => .ite ?_ h') h)
  · split
    · exact .startStep (.update h')
    · exact .update h'
  · split
    · exact .startStep (.update h')
    · exact .update h'
theorem resumeNow (h : Intact s t) : Intact s t.resumeNow := .tellPeer (.update (.resumeMotion (.setState (.update h))))
theorem disarm {acc : Nat} (h : Intact s t) : Intact s (t.disarm acc) := .ite (.disarmNow (.update h)) (.update h)
theorem cycleRun {n : Nat} (h : Intact s t) : Intact s (t.cycleRun n) := .ite (.waitAt (.update (.update h))) (.update h)
theorem markQueue {o : Origin} {result : List Byte} (h : Intact s t) : Intact s (t.markQueue o result) := .reply h
theorem streamEvent {keep : Bool} {bytes : List Byte} (h : Intact s t) : Intact s (t.streamEvent keep bytes) := .ite (.append h) h
theorem closeMpsGap (h : Intact s t) : Intact s t.closeMpsGap := by
  unfold State.closeMpsGap
  split
  · exact h
  · exact .buildEntry (.update (.update h))
theorem writeGroup {dt : Nat} {recs marks : List (List Byte)} (h : Intact s t) : Intact s (t.writeGroup dt recs marks) :=
    .ite h (.ite (.update (.closeMpsGap h)) (.update h))
theorem fencesTo {k : Option Nat} (h : Intact s t) : Intact s (t.fencesTo k) := .update h
theorem writeRecords {n : Nat} (h : Intact s t) : Intact s (t.writeRecords n) := by
  induction n generalizing t with
  | zero => exact h
  | succ n ih =>
    unfold State.writeRecords
    dsimp only
    split
    · exact .fencesTo h
    · exact .ite (.fencesTo h) (ih (.update (.writeGroup (.fencesTo h))))
theorem flushRecords (h : Intact s t) : Intact s t.flushRecords := .writeRecords h
theorem markStreams {tf tag number : Nat} (h : Intact s t) : Intact s (t.markStreams tf tag number) :=
    .streamEvent (.buildEntry (.statsEntry (.flushRecords (.update h))))
theorem fenceAt {tf : Nat} {p : Packet} (h : Intact s t) : Intact s (t.fenceAt tf p).1 :=
    .foldl (fun _ h' => .markQueue h') (.markStreams (.update h))
theorem fenceRun {acc : Nat} {p : Packet} (h : Intact s t) : Intact s (fenceRun acc p t).1 := by
  unfold Machine.fenceRun
  dsimp only
  split
  · exact .update h
  · exact .fenceAt h
theorem armNow (h : Intact s t) : Intact s t.armNow := .setState (.update h)
theorem holdMotion (h : Intact s t) : Intact s t.holdMotion := .update (.foldl (fun _ h' => .ite (.endMove (.endMove (.update h'))) h') h)
theorem holdNow {cause : Nat} (h : Intact s t) : Intact s (t.holdNow cause) := .setState (.holdMotion (.ite (.setLay h) h))
theorem enterHold {cause : Nat} (h : Intact s t) : Intact s (t.enterHold cause) := .ite (.tellPeer (.holdNow h)) h
theorem selectProfile {q : Profile} (h : Intact s t) : Intact s (t.selectProfile q) :=
    .ite (.pairLink (.ite (.portsFollow (.ite (.update h) (.foldl (fun _ h' => .retrain h') (.update h)))) (.update (.portsFollow (.ite (.update h)
      (.foldl (fun _ h' => .retrain h') (.update h))))))) (.ite (.portsFollow (.ite (.update h) (.foldl (fun _ h' => .retrain h') (.update h))))
      (.update (.portsFollow (.ite (.update h) (.foldl (fun _ h' => .retrain h') (.update h))))))
theorem cycleStop (h : Intact s t) : Intact s t.cycleStop := .ite (.update (.update h)) (.update h)
theorem triggerRole {role dt0 : Nat} (h : Intact s t) : Intact s (t.triggerRole role dt0) := .foldl (fun _ h' => .ite (.update h') (.update h')) h
theorem phaseTriggers {role : Nat} (h : Intact s t) : Intact s (t.phaseTriggers role) := .foldl (fun _ h' => .lightTriggers h') (.triggerRole h)
theorem syncPhase {code : Nat} (h : Intact s t) : Intact s (t.syncPhase code) := .syncEvent h
theorem phaseEmd {code : Nat} (h : Intact s t) : Intact s (t.phaseEmd code) := .foldl (fun _ h' => .update h') h
theorem beginPhase {p : Phase} (h : Intact s t) : Intact s (t.beginPhase p) := by
  unfold State.beginPhase
  refine .phaseEmd (.syncPhase ?_)
  split
  · exact .phaseTriggers (.update (.update h))
  · exact .phaseTriggers (.update (.update h))
  · exact .update (.update h)
theorem askPhase {acc : Nat} {p : Phase} (h : Intact s t) : Intact s (t.askPhase acc p) := by
  unfold State.askPhase
  split
  · exact .update (.update h)
  · exact .beginPhase (.update h)
  · exact .ite (.beginPhase (.update h)) (.update h)
  · exact .update h
theorem readDone {id : Nat} (h : Intact s t) : Intact s (t.readDone id) := by
  unfold State.readDone
  split
  · exact .update h
  · exact .update h
  · exact .update h
  · exact h
theorem recoatRelease (h : Intact s t) : Intact s t.recoatRelease := .foldl (fun _ h' => .ite (.startStep h') h') (.update h)
theorem release (h : Intact s t) : Intact s t.release := by
  unfold State.release
  split
  · exact .ite (.recoatRelease h) h
  · exact .ite (.beginPhase (.update (.update h))) (.update (.update h))
theorem jCompact (h : Intact s t) : Intact s t.jCompact := .ite h (.update (.update h))
theorem journalEnd {ok : Bool} (h : Intact s t) : Intact s (t.journalEnd ok).1 := by
  unfold State.journalEnd
  dsimp only
  split
  · exact h
  · split
    · exact h
    · split
      · exact .jCompact (.update (.update (.flashWrite h)))
      · split
        · exact .jCompact (.update (.update (.update (.update (.flashWrite h)))))
        · exact .jCompact (.update (.update (.update (.update (.flashWrite h)))))
theorem recoatEnd (h : Intact s t) : Intact s t.recoatEnd :=
    .ite h (.ite (.ite (.waitAt (.endPhase h)) (.beginPhase (.waitAt (.endPhase h)))) (.ite (.update h) h))
theorem writeEntries {a seq : Nat} {es : List JEntry} (h : Intact s t) : Intact s (writeEntries a seq es t).1 := by
  induction es generalizing a seq t with
  | nil => exact h
  | cons e es ih => exact ih (.flashWrite h)
theorem compact (h : Intact s t) : Intact s t.compact := .update (.flashErase (.writeEntries (.flashErase h)))
theorem mpsFlush (h : Intact s t) : Intact s t.mpsFlush := .ite (.update h) h
theorem holdOne {e : LogRec} (h : Intact s t) : Intact s (t.holdOne e).1 := by
  unfold State.holdOne
  dsimp only
  split
  · split
    · exact .update h
    · split
      · exact .update h
      · exact .update h
  · exact .update h
theorem receive {e0 : LogRec} (h : Intact s t) : Intact s (t.receive e0) := by
  unfold State.receive
  refine .streamEvent ?_
  split
  · exact .holdOne (.update h)
  · exact .logOne (.update h)
theorem eventArrival {i : Nat} (h : Intact s t) : Intact s (t.eventArrival i) := by
  unfold State.eventArrival
  split
  · exact h
  · exact .receive (.update h)
theorem journalResult {use : JournalUse} {ok : Bool} (h : Intact s t) : Intact s (t.journalResult use ok) := by
  unfold State.journalResult
  split
  · exact .complete h
  · exact .complete h
  · exact .complete (.ite h (.update h))
  · exact .ite h (.update h)
  · exact h
  · exact h
  · exact h
  · exact h
theorem stripeArrives {p : Nat} (h : Intact s t) : Intact s (t.stripeArrives p) := by
  unfold State.stripeArrives
  dsimp only
  split
  · exact h
  · exact .ite h (.ite (.update (.update h)) (.update (.update h)))
theorem frameFormat {p n : Nat} (h : Intact s t) : Intact s (t.frameFormat p n) := by
  unfold State.frameFormat
  split
  · exact h
  · exact .statsEntry (.update h)
theorem stripeReady {p : Nat} {lines : List (List Nat)} {crcFails : Nat} {badLine ends : Bool} (h : Intact s t) : Intact s
    (t.stripeReady p lines crcFails badLine ends) := by
  unfold State.stripeReady
  dsimp only
  split
  · exact h
  · exact .ite h (.ite (.frameFormat h) (.ite (.frameEnds (.update h)) (.pipeTake (.update h))))
theorem dmaLink {c w : Nat} (h : Intact s t) : Intact s (t.dmaLink c w) := .ite h (.ite (.update h) (.ite (.update h) (.update h)))
theorem putSense {head i : Nat} {x : Sense} (h : Intact s t) : Intact s (t.putSense head i x) := .ite h (.flushRecords (.update h))
theorem trackEvents {source fresh : Nat} (h : Intact s t) : Intact s (t.trackEvents source fresh) := .foldl (fun _ h' => .ite (.update h') h') h
theorem axisPair {head a sc cc : Nat} (h : Intact s t) : Intact s (t.axisPair head a sc cc) := .trackEvents (.update h)
theorem axisSample {head a slot : Nat} {pairs : List (Option (Nat × Nat))} (h : Intact s t) : Intact s (t.axisSample head a slot pairs) := by
  unfold State.axisSample
  refine .update (.foldl (fun _ h' => ?_) h)
  split
  · exact .axisPair h'
  · exact .trackEvents (.update h')
theorem putTrack {head a i : Nat} {pairs : List (Option (Nat × Nat))} (h : Intact s t) : Intact s (t.putTrack head a i pairs) :=
    .ite (.headStop (.axisSample h)) (.axisSample h)
theorem noTracks {head i : Nat} (h : Intact s t) : Intact s (t.noTracks head i) := .foldl (fun _ h' => .ite (.putTrack h') h') h
theorem sampleMissing {head i : Nat} (h : Intact s t) : Intact s (t.sampleMissing head i) :=
    .ite h (.ite (.putSense h) (.ite (.update (.noTracks (.putSense h))) (.noTracks (.putSense h))))
theorem releaseAsked {p : List Byte} (h : Intact s t) : Intact s (t.releaseAsked p) := .ite h (.update h)
theorem claimAsked {p : List Byte} (h : Intact s t) : Intact s (t.claimAsked p) := .ite (.peerSend h) (.update h)
theorem releaseGranted {p : List Byte} (h : Intact s t) : Intact s (t.releaseGranted p) := by
  unfold State.releaseGranted
  dsimp only
  split
  · exact h
  · exact .ite h (.setLay h)
theorem claimGranted {p : List Byte} (h : Intact s t) : Intact s (t.claimGranted p) := by
  unfold State.claimGranted
  refine .ite (.ite (.update h) h) ?_
  split
  · exact h
  · split
    · exact h
    · exact .ite (.setLay h) (.setLay (.update (.update h)))
theorem crossMessage {type : Nat} {p : List Byte} (h : Intact s t) : Intact s (t.crossMessage type p) :=
    .ite (.ite (.claimAsked h) (.releaseAsked h)) (.ite (.ite (.claimGranted h) (.releaseGranted h)) h)
theorem crossArrived {type : Nat} {p : List Byte} (h : Intact s t) : Intact s (t.crossArrived type p) := .ite (.crossMessage h) (.ite h (.update h))

theorem peerMsg {type : Nat} {len : Option Nat} {frame : List Byte} {f : List Byte → State → State}
    (hf : ∀ {t : State} {c : List Byte}, Intact s t → Intact s (f c t)) (h : Intact s t) : Intact s (State.peerMsg type len frame f t) := by
  unfold State.peerMsg
  refine .ite h ?_
  split
  · exact .update h
  · exact .ite (.update h) (.ite h (hf (.update h)))
theorem quiescent {incomingFault : Bool} (h : Intact s t) : Intact s (t.quiescent incomingFault) :=
    .ite h (.ite (.standbyFault h) (.endSwitch (.update (.swapSets h))))
theorem migrateEnd (h : Intact s t) : Intact s t.migrateEnd := by
  unfold State.migrateEnd
  split
  · refine .ite h ?_
    split
    · split
      · exact .complete (.update (.update (.update h)))
      · exact .update (.update (.update h))
    · split
      · exact .complete (.update (.update (.update (.update h))))
      · exact .update (.update (.update (.update h)))
  · exact h
theorem channelOpen {ch : Nat} (h : Intact s t) : Intact s (t.channelOpen ch) := .ite (.enterHold (.noteEmit (.update h))) h
theorem kettleEnd (h : Intact s t) : Intact s t.kettleEnd := .ite h (.update (.waitAt (.endPhase (.takeLoads h))))
theorem deliverHeld {e c : Nat} (h : Intact s t) : Intact s (t.deliverHeld e c) := .ite (.dmaAfter (.update (.update h))) h
theorem periphRequest {e : Nat} (h : Intact s t) : Intact s (t.periphRequest e) := .foldl (fun _ h' => .deliverHeld h') (.update h)
theorem readoutCopy {i : Nat} (h : Intact s t) : Intact s (t.readoutCopy i) := by
  unfold State.readoutCopy
  split
  · exact h
  · split
    · exact h
    · exact .complete (.ite (.buildEntry (.dramWrite (.update h))) (.dramWrite (.update h)))
theorem kettleTimeout (h : Intact s t) : Intact s t.kettleTimeout := by
  unfold State.kettleTimeout
  split
  · exact h
  · exact .ite h (.enterHold (.update h))
theorem dmaReadFailed {c : Nat} (h : Intact s t) : Intact s (t.dmaReadFailed c) := by
  unfold State.dmaReadFailed
  refine .ite h ?_
  split
  · exact .ite (.dmaReadFail h) h
  · exact h
  · exact .ite h (.dmaReadFail (.update (.update h)))
  · exact .dmaReadFail (.update (.update h))
theorem flushMessages (h : Intact s t) : Intact s t.flushMessages := .foldl (fun _ h' => .ite (.messageDue h') h') h
theorem driverReply {b d : Nat} {r : List Byte} (h : Intact s t) : Intact s (t.driverReply b d r) := by
  unfold State.driverReply
  refine .update ?_
  split
  · exact .ite (.update (.update h)) (.update h)
  · exact .ite (.buildEntry (.ite (.update (.update h)) (.update h))) (.ite (.update (.update h)) (.update h))
theorem mpsRingWrite (h : Intact s t) : Intact s t.mpsRingWrite := .ite h (.update (.ringPut h))
theorem timeEntry (h : Intact s t) : Intact s t.timeEntry := .buildEntry h
theorem activate {k : Nat} (h : Intact s t) : Intact s (t.activate k) := .update (.retire (.update h))
theorem handOver (h : Intact s t) : Intact s t.handOver := by
  unfold State.handOver
  dsimp only
  split
  · refine .activate ?_
    split
    · exact .emptyBank (.foldl (fun _ h' => .ite (.update (.retire (.emptyBank h'))) h') h)
    · exact .foldl (fun _ h' => .ite (.update (.retire (.emptyBank h'))) h') h
  · refine .update ?_
    split
    · exact .emptyBank (.foldl (fun _ h' => .ite (.update (.retire (.emptyBank h'))) h') h)
    · exact .foldl (fun _ h' => .ite (.update (.retire (.emptyBank h'))) h') h
theorem episodeEntry {e : Episode} (h : Intact s t) : Intact s (t.episodeEntry e) := .buildEntry h
theorem closeEpisodes (h : Intact s t) : Intact s t.closeEpisodes := .foldl (fun _ h' => .episodeEntry h') (.update h)
theorem writeLags (h : Intact s t) : Intact s t.writeLags := .foldl (fun _ h' => .update h') h
theorem kettleFence (h : Intact s t) : Intact s t.kettleFence := by
  unfold State.kettleFence
  dsimp only
  split
  · exact .enterHold (.update (.ite (.update (.tellPeer (.endPhase (.update (.handOver (.atFence (.update (.update (.clearLay (.update (.mpsFlush
    (.flushRecords (.update (.writeLags (.timeEntry (.closeEpisodes (.listUnexposed (.setLay (.depositsTo h))))))))))))))))))) (.beginPhase (.update
      (.tellPeer (.endPhase (.update (.handOver (.atFence (.update (.update (.clearLay (.update (.mpsFlush (.flushRecords (.update (.writeLags
      (.timeEntry (.closeEpisodes (.listUnexposed (.setLay (.depositsTo h))))))))))))))))))))))
  · exact .ite (.update (.tellPeer (.endPhase (.update (.handOver (.atFence (.update (.update (.clearLay (.update (.mpsFlush (.flushRecords (.update
    (.writeLags (.timeEntry (.closeEpisodes (.listUnexposed (.setLay (.depositsTo h))))))))))))))))))) (.beginPhase (.update (.tellPeer (.endPhase
      (.update (.handOver (.atFence (.update (.update (.clearLay (.update (.mpsFlush (.flushRecords (.update (.writeLags (.timeEntry (.closeEpisodes
      (.listUnexposed (.setLay (.depositsTo h))))))))))))))))))))
theorem fenceTimeout {acc : Nat} (h : Intact s t) : Intact s (t.fenceTimeout acc) := by
  unfold State.fenceTimeout
  split
  · exact .ite (.settleDeletes (.answer (.update h))) h
  · exact h
theorem degrade {c : Nat} (h : Intact s t) : Intact s (t.degrade c) := .ite h (.ite (.startMapout (.update h)) (.update h))
theorem pause {c margin stall : Nat} (h : Intact s t) : Intact s (t.pause c margin stall) := .ite (.degrade (.update h)) (.update h)
theorem newRelation {r : TimeRel} (h : Intact s t) : Intact s (t.newRelation r) := .ite (.peerSend (.update h)) (.update h)
theorem relationGot {p : List Byte} (h : Intact s t) : Intact s (t.relationGot p) := .newRelation h
theorem lineCorrected {c d : Nat} (h : Intact s t) : Intact s (t.lineCorrected c d) := .ite (.degrade (.update h)) (.update h)
theorem discovered {p : Nat} {ok : Bool} {speed : Nat} (h : Intact s t) : Intact s (t.discovered p ok speed) :=
    .ite h (.ite (.ite (.camKick (.update h)) (.update h)) h)
theorem refBad {i : Nat} (h : Intact s t) : Intact s (t.refBad i) :=
    .ite h (.ite (.update h) (.ite (.refSwitch (.update h)) (.refEvent (.update (.update h)))))
theorem safeFrom {cause : Nat} (h : Intact s t) : Intact s (t.safeFrom cause) := .ite (.enterSafe h) h
theorem pwrfail {lowNs : Nat} (h : Intact s t) : Intact s (t.pwrfail lowNs) := .ite (.safeFrom (.update h)) (.update h)
theorem retainFrame {head : Nat} {r : FrameResult} {pixels : List Byte} (h : Intact s t) : Intact s (t.retainFrame head r pixels) :=
    .ite h (.ite (.update (.ringPut h)) (.ite (.buildEntry (.update h)) (.update h)))
theorem putResult {head : Nat} {r : FrameResult} {pixels : List Byte} (h : Intact s t) : Intact s (t.putResult head r pixels) :=
    .retainFrame (.ite (.update h) (.ite (.update (.update h)) (.writeGroup (.update h))))
theorem frameCut {head : Nat} (h : Intact s t) : Intact s (t.frameCut head) := .ite h (.putResult h)
theorem fcError {head offset : Nat} (h : Intact s t) : Intact s (t.fcError head offset) := .ite h (.update (.loseHead (.update h)))
theorem stagingError {k : Nat} (h : Intact s t) : Intact s (t.stagingError k) := by
  unfold State.stagingError
  split
  · exact .ite h (.update h)
  · exact h
theorem recordError {slot : Nat} (h : Intact s t) : Intact s (t.recordError slot) := .ite (.update h) h
theorem stripeError {p offset : Nat} (h : Intact s t) : Intact s (t.stripeError p offset) := by
  unfold State.stripeError
  dsimp only
  split
  · exact .update h
  · exact h
theorem traceError {offset : Nat} (h : Intact s t) : Intact s (t.traceError offset) :=
    .ite (.fcError h) (.ite (.stripeError h) (.ite (.recordError h) (.ite (.stagingError h) (.update h))))
theorem bankStoreError {k : Nat} (h : Intact s t) : Intact s (t.bankStoreError k) := by
  unfold State.bankStoreError
  dsimp only
  split
  · split
    · exact .update (.update (.emptyBank h))
    · exact .update (.emptyBank h)
  · split
    · split
      · exact .update (.update (.startLoad (.update (.failSet (.emptyBank h)))))
      · exact .update (.abandonLoad h)
    · exact .update h
  · exact .update (.emptyBank h)
  · exact .update h
theorem bankError {k : Nat} (h : Intact s t) : Intact s (t.bankError k) := .ite (.enterSafe h) (.bankStoreError h)
theorem dmaBufferLost {c : Nat} (h : Intact s t) : Intact s (t.dmaBufferLost c) := .ite (.dmaReadFail (.update h)) (.update h)
theorem onDieError {offset : Nat} {part : OnDie} (h : Intact s t) : Intact s (t.onDieError offset part) := by
  unfold State.onDieError
  split
  · exact h
  · exact .ite (.ite (.enterSafe h) (.bankError h)) h
  · exact .ite (.update (.dmaBufferLost h)) h
  · exact .ite (.islandFault h) h
  · exact .islandFault h
theorem storeError {n offset reader : Nat} {part : OnDie} (h : Intact s t) : Intact s (t.storeError n offset reader part) := by
  unfold State.storeError
  refine .ite ?_ (.ite (.update (.ite (.update (.update h)) (.update (.update (.update h))))) (.ite (.traceError (.ite (.update (.update h))
    (.update (.update (.update h))))) (.onDieError (.ite (.update (.update h)) (.update (.update (.update h)))))))
  split
  · exact .bankError (.ite (.update (.update h)) (.update (.update (.update h))))
  · exact .ite (.update (.update h)) (.update (.update (.update h)))
theorem quireLoadStart (h : Intact s t) : Intact s t.quireLoadStart := by
  unfold State.quireLoadStart
  refine .ite h ?_
  split
  · exact .startLoad h
  · exact h
theorem trimHandover {maxDiff : Nat} {pairError : Bool} (h : Intact s t) : Intact s (t.trimHandover maxDiff pairError) := by
  unfold State.trimHandover
  split
  · exact .ite h (.ite (.endTrim h) (.update h))
  · exact h
theorem trackDone {c fresh : Nat} {was : Bool} (h : Intact s t) : Intact s (t.trackDone c fresh was) :=
    .ite (.foldl (fun _ h' => .axisFault h') (.trackEvents h)) (.trackEvents h)
theorem dividerStep {c : Nat} {up : Bool} (h : Intact s t) : Intact s (t.dividerStep c up) := .ite (.update (.update h)) (.update (.update h))
theorem divide {c : Nat} (h : Intact s t) : Intact s (t.divide c) := .ite h (.update (.foldl (fun _ h' => .dividerStep h') (.update h)))
theorem quadEdge {c : Nat} {a b : Bool} (h : Intact s t) : Intact s (t.quadEdge c a b) := .ite h (.divide (.trackDone (.update h)))
theorem linkLoss {head cause : Nat} (h : Intact s t) : Intact s (t.linkLoss head cause) := .ite h (.linkGone (.update (.update (.toAcquire h))))
theorem tornJournal (h : Intact s t) : Intact s t.tornJournal := by
  unfold State.tornJournal
  dsimp only
  split
  · exact h
  · refine .ite h ?_
    split
    · exact .update h
    · exact .flashWrite (.update h)
    · exact .flashWrite (.update h)
theorem recoverJournal (h : Intact s t) : Intact s t.recoverJournal.1 := by
  have fixed : ∀ (x : JScan) (next : Nat), Intact s (if x.torn then
      (x.fixes.foldl (fun (s : State) (f : Nat × Nat) => (s.flashWrite f.1 [0#8]).logEvent 0xE003 255 1 f.2) t).logEvent 0xE003 255 1 next
      else x.fixes.foldl (fun (s : State) (f : Nat × Nat) => (s.flashWrite f.1 [0#8]).logEvent 0xE003 255 1 f.2) t) := by
    intro x next
    have fixes : Intact s (x.fixes.foldl (fun (s : State) (f : Nat × Nat) => (s.flashWrite f.1 [0#8]).logEvent 0xE003 255 1 f.2) t) :=
      .foldl (fun _ h' => .update (.flashWrite h')) h
    exact .ite (.update fixes) fixes
  unfold State.recoverJournal
  extract_lets size scan a0 a1 gen valid done v0 v1 c0 c1 erased
  split
  · exact .update (.flashWrite h)
  · split
    · exact .update (.update h)
    · exact .ite (.compact (.update (.update (fixed _ _)))) (.update (fixed _ _))
theorem placeStaging (h : Intact s t) : Intact s t.placeStaging := .update (.update h)
theorem bootKeys {es : List JEntry} (h : Intact s t) : Intact s (t.bootKeys es) := by
  unfold State.bootKeys
  refine .foldl (fun _ h' => ?_) h
  split
  · split
    · exact .update h'
    · split
      · exact .update h'
      · split
        · exact .update (.update h')
        · exact .update (.update h')
        · exact .update h'
  · split
    · exact .update h'
    · split
      · exact .update h'
      · split
        · exact .update (.update h')
        · exact .update (.update h')
        · exact .update h'
theorem startCores {aPass bPass : Bool} {im : List Byte} (h : Intact s t) : Intact s (t.startCores aPass bPass im) :=
    .setOnline (.ite (.update (.update h)) (.update (.update (.update h))))
theorem bootTrims {es : List JEntry} (h : Intact s t) : Intact s (t.bootTrims es) := by
  unfold State.bootTrims
  refine .foldl (fun _ h' => ?_) h
  split
  · exact h'
  · exact .ite (.update h') h'
theorem checkLog (h : Intact s t) : Intact s t.checkLog := .ite (.update h) (.receive (.update h))
theorem importOne {e0 : LogRec} (h : Intact s t) : Intact s (t.importOne e0) := .ite (.update h) (.logOne (.update h))
theorem importCapture {es : List JEntry} (h : Intact s t) : Intact s (t.importCapture es) := by
  unfold State.importCapture
  split
  · exact h
  · exact .ite h (.update (.foldl (fun _ h' => .importOne h') h))
theorem bootEnd {es : List JEntry} {pass : Bool} (h : Intact s t) : Intact s (t.bootEnd es pass) :=
    .ite (.enterSafe (.update h)) (.enterStandby (.update (.update (.bootTrims (.importCapture (.checkLog h))))))
theorem bootFrom {es : List JEntry} {b : BootInputs} (h : Intact s t) : Intact s (t.bootFrom es b) := by
  unfold State.bootFrom
  dsimp only
  split
  · exact .update (.bootKeys h)
  · exact .ite (.update (.update (.bootKeys h))) (.bootEnd (.startCores (.update (.bootKeys h))))
theorem boot {b : BootInputs} (h : Intact s t) : Intact s (t.boot b) := by
  unfold State.boot
  dsimp only
  split
  · exact .update h
  · exact .ite (.update h) (.bootFrom (.recoverJournal (.placeStaging (.update h))))
theorem withdrawn {e c n : Nat} {bytes : List Byte} (h : Intact s t) : Intact s (t.withdrawn e c n bytes) := by
  unfold State.withdrawn
  refine .ite h (.ite (.ite h (.ite (.dmaAfter (.update (.dmaWrite h))) (.dmaAfter (.update (.dmaWrite h))))) (.ite ?_ h))
  split
  · exact h
  · exact .ite (.update (.dmaWrite h)) (.dmaAfter (.update (.dmaWrite h)))
theorem periphWithdraw {e c n : Nat} {bytes : List Byte} (h : Intact s t) : Intact s (t.periphWithdraw e c n bytes) := .update (.ite (.withdrawn h) h)
theorem stripeDone (h : Intact s t) : Intact s t.stripeDone := by
  unfold State.stripeDone
  split
  · exact h
  · split
    · exact .update h
    · exact .pipeTake (.outputLines (.update h))
theorem latchNow {b k at_ : Nat} (h : Intact s t) : Intact s (t.latchNow b k at_) := .emdSend (.update h)
theorem refreshLatch {b : Nat} (h : Intact s t) : Intact s (t.refreshLatch b) := by
  unfold State.refreshLatch
  dsimp only
  split
  · exact h
  · exact .ite (.latchNow h) h
theorem trimPeriod (h : Intact s t) : Intact s t.trimPeriod := .ite h (.ite (.update h) (.askTrim (.update h)))
theorem offsetRun {d : Int} (h : Intact s t) : Intact s (t.offsetRun d) := .ite (.update (.update (.update h))) (.update h)
theorem pairUp (h : Intact s t) : Intact s t.pairUp := .ite (.update h) h
theorem pairTry (h : Intact s t) : Intact s t.pairTry := .ite h (.ite (.update (.pairUp h)) (.peerSend (.pairUp h)))
theorem tellOffset (h : Intact s t) : Intact s t.tellOffset := .peerSend h
theorem sendEcho (h : Intact s t) : Intact s t.sendEcho := .peerSend (.update h)
theorem offsetValue {d : Int} (h : Intact s t) : Intact s (t.offsetValue d) :=
    .ite (.sendEcho (.update h)) (.ite (.sendEcho (.update h)) (.pairTry (.tellOffset (.update (.update h)))))
theorem echoGot {p : List Byte} (h : Intact s t) : Intact s (t.echoGot p) :=
    .ite (.ite (.peerSend h) (.ite (.pairTry (.update h)) h)) (.ite h (.ite (.offsetValue h) (.ite (.offsetRun h) h)))
theorem loadEnd (h : Intact s t) : Intact s t.loadEnd := by
  unfold State.loadEnd
  dsimp only
  split
  · exact h
  · split
    · exact .ite (.retire (.update (.loadAnswer (.failSet (.update (.poisonSeen h)))))) (.ite h (.ite (.retire (.loadAnswer (.ite (.update
      (.update h)) (.update (.update h))))) (.loadAnswer (.ite (.update (.update h)) (.update (.update h))))))
    · exact .retire (.update (.loadAnswer (.failSet (.update h))))
theorem sequenceLatch {b : Nat} {l : SeqLatch} (h : Intact s t) : Intact s (t.sequenceLatch b l) :=
    .ite (.ite (.update (.latchNow (.update h))) (.latchNow (.update h))) (.buildEntry (.update (.update (.update h))))
theorem commandLatch {b due : Nat} (h : Intact s t) : Intact s (t.commandLatch b due) := by
  unfold State.commandLatch
  split
  · exact h
  · split
    · exact .endLatch (.ite (.update (.latchNow h)) (.latchNow h))
    · exact .endLatch h
    · exact .update h
theorem latchDue {b : Nat} (h : Intact s t) : Intact s (t.latchDue b) := by
  unfold State.latchDue
  dsimp only
  refine .ite h ?_
  split
  · exact .ite (.commandLatch h) (.ite (.sequenceLatch h) h)
  · exact .ite (.sequenceLatch h) h
  · exact .ite (.commandLatch h) h
  · exact h
theorem loopIslandBack {i : Nat} (h : Intact s t) : Intact s (t.loopIslandBack i) := .ite h (.update h)
theorem islandBack {i : Nat} (h : Intact s t) : Intact s (t.islandBack i) :=
    .ite (.portFollow (.update h)) (.ite (.loopIslandBack (.update h)) (.ite (.update (.update h)) (.ite (.update (.update h)) (.update h))))
theorem islandTested {i : Nat} {pass : Bool} (h : Intact s t) : Intact s (t.islandTested i pass) :=
    .ite h (.ite (.ite (.update (.update (.update h))) (.update (.update h))) (.ite (.update h) (.islandBack h)))
theorem refGood {i : Nat} (h : Intact s t) : Intact s (t.refGood i) := .ite h (.ite (.refSwitch (.update h)) (.update h))
theorem writeEntry {q : Nat} (h : Intact s t) : Intact s (t.writeEntry q) := by
  unfold State.writeEntry
  split
  · exact h
  · exact .ite h (.hostEntry (.update h))
theorem ethSend {p : Nat} {frame : List Byte} (h : Intact s t) : Intact s (t.ethSend p frame) := .update (.update h)
theorem endpoint {p : Nat} {f : List Byte} (h : Intact s t) : Intact s (t.endpoint p f) := by
  unfold State.endpoint
  dsimp only
  refine .ite (.update h) (.ite ?_ (.ite (.ite (.update h) (.ite (.ite (.ite h (.update h)) (.update h)) ?_)) (.ite (.ite (.update h) (.ite (.ite h
    (.update h)) ?_)) (.ite h (.update h)))))
  · split
    · exact .ethSend h
    · exact .update h
  · split
    · exact .ethSend h
    · exact .update h
  · split
    · exact .ethSend h
    · exact .update h
theorem bridge {p : Nat} {f : List Byte} (h : Intact s t) : Intact s (t.bridge p f) := by
  unfold State.bridge
  refine .ite h ?_
  split
  · exact .ite (.ethSend h) h
  · exact .foldl (fun _ h' => .ethSend h') h
theorem learn {mac p : Nat} (h : Intact s t) : Intact s (t.learn mac p) := .ite h (.update h)
theorem frameIn {p : Nat} {good : Bool} {f : List Byte} (h : Intact s t) : Intact s (t.frameIn p good f) :=
    .ite h (.ite (.update (.update h)) (.ite (.update (.update h)) (.ite (.endpoint (.bridge (.ite (.learn (.update h)) (.update h)))) (.ite
      (.bridge (.ite (.learn (.update h)) (.update h))) (.update (.bridge (.ite (.learn (.update h)) (.update h))))))))
theorem portFault {head cause : Nat} (h : Intact s t) : Intact s (t.portFault head cause) := .update (.update (.portLeaves h))
theorem capUp {head : Nat} {fr : List Byte} (h : Intact s t) : Intact s (t.capUp head fr) := by
  unfold State.capUp
  dsimp only
  split
  · exact .update h
  · refine .ite (.update h) (.ite h ?_)
    split
    · exact .portFault (.update h)
    · exact .update (.update (.update (.update h)))
theorem dramPoison {a : Nat} (h : Intact s t) : Intact s (t.dramPoison a) := by
  unfold State.dramPoison
  refine .ite h (.ite (.islandFault (.update (.update (.update h)))) (.ite ?_ (.update (.update (.update h)))))
  split
  · exact .update (.update (.update (.update h)))
  · exact .update (.update (.update h))
theorem cqHead {q v : Nat} (h : Intact s t) : Intact s (t.cqHead q v) := .ite h (.ite (.update h) (.update h))
theorem supplyWarn {rail : Nat} (h : Intact s t) : Intact s (t.supplyWarn rail) := .safeFrom (.update h)
theorem transferEnd {b : Nat} {replies : List (Nat × List (List Byte))} (h : Intact s t) : Intact s (t.transferEnd b replies) := by
  unfold State.transferEnd
  split
  · exact h
  · extract_lets table buf ask rs out okAll s1 s2 s3 s4 s5
    have asked : Intact s s3 := .foldl (fun _ h' => .foldl (fun _ h'' => .driverReply h'') h') (.update (.update h))
    have finished : Intact s s4 := .finishLoads (.update asked)
    refine .emdKick ?_
    unfold s5
    split
    · exact .ite (.endLatch finished) finished
    · exact finished
theorem standbyReady (h : Intact s t) : Intact s t.standbyReady := by
  unfold State.standbyReady
  refine .ite h ?_
  split
  · exact .complete (.update h)
  · exact .ite (.update (.swapSets (.update h))) (.update h)
theorem dmaFetched {c : Nat} {bytes : List Byte} (h : Intact s t) : Intact s (t.dmaFetched c bytes) := by
  unfold State.dmaFetched
  dsimp only
  refine .ite h ?_
  split
  · exact .dmaHalt (.update h)
  · exact .update (.update h)
theorem selfTestEnd {rows : Nat} {failed : List (Nat × Nat)} {margins : List Nat} (h : Intact s t) : Intact s (t.selfTestEnd rows failed margins) :=
    by
  unfold State.selfTestEnd
  split
  · exact h
  · exact .complete (.update (.foldl (fun _ h' => .pause h') (.foldl (fun _ h' => .update h') h)))
theorem useSnapshot {layer : Nat} (h : Intact s t) : Intact s (t.useSnapshot layer) := .ite h (.ite (.update h) (.buildEntry (.update h)))
theorem dropRetained (h : Intact s t) : Intact s t.dropRetained := .foldl (fun _ h' => .ite (.emptyBank h') h') h
theorem crossEarly (h : Intact s t) : Intact s t.crossEarly := .foldl (fun _ h' => .crossMessage h') (.update h)
theorem tellClaims {before : Lay} {round : Nat} (h : Intact s t) : Intact s (t.tellClaims before round) := by
  unfold State.tellClaims
  refine .update (.foldl (fun _ h' => .peerSend h') (.foldl (fun _ h' => .foldl (fun _ h' => ?_) h') h))
  split
  · exact .peerSend h'
  · exact h'
theorem testRelease {round : Nat} {q : PeerReq} (h : Intact s t) : Intact s (t.testRelease round q) := .ite h (.peerSend (.update h))
theorem askPrimary {head : Nat} (h : Intact s t) : Intact s (t.askPrimary head) := by
  unfold State.askPrimary
  refine .ite (.peerSend (.update h)) ?_
  split
  · exact h
  · exact .ite (.peerSend (.update h)) h
theorem peerTalk {before : Lay} (h : Intact s t) : Intact s (t.peerTalk before) :=
    .ite (.foldl (fun _ h' => .testRelease h') (.tellClaims h)) (.ite (.foldl (fun _ h' => .askPrimary h') h) h)
theorem chooseMap {total : Nat} (h : Intact s t) : Intact s (t.chooseMap total) := by
  unfold State.chooseMap
  refine .ite h ?_
  split
  · exact .buildEntry (.update h)
  · exact .ite h (.buildEntry (.update h))
theorem exposeStart {dtS : Nat} (h : Intact s t) : Intact s (t.exposeStart dtS) := by
  unfold State.exposeStart
  refine .noteDone (.phaseEmd (.syncPhase (.crossEarly (.peerTalk (.setLay (.chooseMap (.useSnapshot (.update (.buildEntry (.update (.update
    (.update (.update ?_)))))))))))))
  split
  · exact .activate (.dropRetained h)
  · exact .dropRetained h
theorem pairStart (h : Intact s t) : Intact s t.pairStart := by
  unfold State.pairStart
  split
  · exact .ite (.ite h (.update (.update h))) (.ite (.ite h (.update (.update h))) (.ite (.cycleMessage (.update h)) h))
  · exact h
theorem sayReady (h : Intact s t) : Intact s t.sayReady := .ite (.pairStart h) (.pairStart (.cycleMessage (.update h)))
theorem tryExpose (h : Intact s t) : Intact s t.tryExpose := by
  unfold State.tryExpose
  refine .ite h (.ite (.ite (.exposeStart h) h) ?_)
  split
  · exact .sayReady h
  · exact .ite h (.exposeStart h)
theorem acceptTrim {time : Trim} (h : Intact s t) : Intact s (t.acceptTrim time) :=
    .ite (.update (.endTrim (.ite (.update h) (.update (.update h))))) (.endTrim (.ite (.update h) (.update (.update h))))
theorem finishTrim {time : Trim} (h : Intact s t) : Intact s (t.finishTrim time) := by
  unfold State.finishTrim
  split
  · exact .trimOver (.trimDone (.dramWrite h))
  · exact .ite (.acceptTrim h) (.endTrim h)
theorem trimHandback {maxDiff : Nat} {pairError : Bool} (h : Intact s t) : Intact s (t.trimHandback maxDiff pairError) := by
  unfold State.trimHandback
  split
  · exact .ite h (.ite (.endTrim h) (.finishTrim h))
  · exact h
theorem snapLoaded (h : Intact s t) : Intact s t.snapLoaded := by
  unfold State.snapLoaded
  dsimp only
  split
  · exact h
  · split
    · exact h
    · split
      · exact .complete (.update h)
      · exact .ite (.complete (.poisonSeen (.update h))) (.complete (.update h))
theorem segmentFree (h : Intact s t) : Intact s t.segmentFree := by
  unfold State.segmentFree
  split
  · exact h
  · exact .ite h (.assignSegments (.update h))
theorem sqTail {q v : Nat} (h : Intact s t) : Intact s (t.sqTail q v) := .ite h (.ite (.update h) (.update h))
theorem flushHeld (h : Intact s t) : Intact s t.flushHeld := .ite h (.foldl (fun _ h' => .ite (.countEntry (.update h')) (.update h')) (.update h))
theorem recoatAdvance (h : Intact s t) : Intact s t.recoatAdvance := .foldl (fun _ h' => .ite (.ite (.update h') (.startStep h')) h') h
theorem moveEnds {a : Nat} (h : Intact s t) : Intact s (t.moveEnds a) := by
  unfold State.moveEnds
  refine .ite h ?_
  split
  · exact h
  · split
    · split
      · exact .recoatAdvance (.update (.endMove (.update h)))
      · exact .endMove (.update h)
    · split
      · exact .recoatAdvance (.update (.syncAxis (.endMove (.update h))))
      · exact .syncAxis (.endMove (.update h))
theorem peerResend {seq : Nat} (h : Intact s t) : Intact s (t.peerResend seq) := by
  unfold State.peerResend
  split
  · exact h
  · exact .update (.update h)
theorem frameDone {head : Nat} (h : Intact s t) : Intact s (t.frameDone head) := .ite h (.putResult h)
theorem stripeReturns {p : Nat} (h : Intact s t) : Intact s (t.stripeReturns p) := by
  unfold State.stripeReturns
  refine .ite ?_ h
  split
  · exact .pipeTake (.update h)
  · exact h
theorem sinCos {c sc cc : Nat} (h : Intact s t) : Intact s (t.sinCos c sc cc) := .ite (.update h) (.divide (.trackDone (.update h)))
theorem syncInEmd {i : Nat} (h : Intact s t) : Intact s (t.syncInEmd i) := .foldl (fun _ h' => .update h') h
theorem commitDone {flashOk : Bool} (h : Intact s t) : Intact s (t.commitDone flashOk) := by
  unfold State.commitDone
  split
  · exact h
  · exact .ite h (.ite (.complete (.update h)) (.ite (.complete (.flashWrite (.flashErase (.update h)))) (.ite (.complete (.flashWrite (.flashErase
    (.update h)))) (.update (.flashWrite (.flashErase (.update h)))))))
theorem sendPeerSlot {content : List Byte} (h : Intact s t) : Intact s (t.sendPeerSlot content) := .ite (.update h) h
theorem joinEpisode {env : LayEnv} {c : Nat × Nat × Nat × Nat} (h : Intact s t) : Intact s (t.joinEpisode env c) :=
    .ite (.update h) (.ite (.update h) (.update h))
theorem monitor {env : LayEnv} {ahead : Lay} {k : Nat} {lits : List Bool} (h : Intact s t) : Intact s (t.monitor env ahead k lits) :=
    .update (.foldl (fun _ h' => .episodeEntry h') (.update (.foldl (fun _ h' => .joinEpisode h') h)))
theorem loopRun {l slot : Nat} (h : Intact s t) : Intact s (t.loopRun l slot) := .update (.update h)
theorem loopExec {l slot : Nat} (h : Intact s t) : Intact s (t.loopExec l slot) := .ite h (.loopRun h)
theorem loopsAt {n : Nat} (h : Intact s t) : Intact s (t.loopsAt n) := .foldl (fun _ h' => .ite (.loopExec h') h') h
theorem ruleEval {head slot : Nat} {note : BlockNote} {n : Nat} (h : Intact s t) : Intact s (State.ruleEval head slot note t n) :=
    .ite (.update h) (.buildEntry (.ite (.update (.update h)) (.update h)))
theorem rulesEval {head slot : Nat} (h : Intact s t) : Intact s (t.rulesEval head slot) := by
  unfold State.rulesEval
  split
  · exact h
  · exact .ite (.foldl (fun _ h' => .ruleEval h') h) h

theorem foldHeads {α : Type} {f : Nat → State → State × α} (hf : ∀ {t : State} {n : Nat}, Intact s t → Intact s (f n t).1) {hs : List Nat}
    (h : Intact s t) : Intact s (foldHeads f hs t).1 := by
  induction hs generalizing t with
  | nil => exact h
  | cons n hs ih => exact ih (hf h)
theorem trjFault {head cause : Nat} (h : Intact s t) : Intact s (t.trjFault head cause) := .update (.leaveStream (.update (.update (.update h))))
theorem fetchBlock {head n : Nat} (h : Intact s t) : Intact s (t.fetchBlock head n) := by
  induction n generalizing t with
  | zero => exact h
  | succ n ih =>
    unfold State.fetchBlock
    dsimp only
    split
    · exact h
    · split
      · exact .trjFault h
      · exact .trjFault h
      · exact ih (.update h)
      · exact .ite (.update (.update h)) (ih (.update h))
      · exact .update h
theorem streamNext {head : Nat} (h : Intact s t) : Intact s (t.streamNext head).1 := by
  unfold State.streamNext
  dsimp only
  split
  · exact h
  · split
    · exact .fetchBlock h
    · split
      · exact .trjFault (.fetchBlock h)
      · split
        · exact .trjFault (.fetchBlock h)
        · exact .ite (.update (.update (.fetchBlock h))) (.update (.fetchBlock h))
theorem streamStep {head : Nat} (h : Intact s t) : Intact s (t.streamStep head).1 := by
  unfold State.streamStep
  dsimp only
  split
  · exact h
  · refine .update ?_
    split
    · exact h
    · exact .streamNext h
theorem ruleRun {head : Nat} {before : Int} {rs : List Nat} (h : Intact s t) : Intact s (t.ruleRun head before rs) := by
  unfold State.ruleRun
  refine .ite (.update h) ?_
  split
  · exact h
  · exact .ite (.update h) (.update (.update h))
theorem laserDone {head time : Nat} {b : Block} {o : LaserOut} (h : Intact s t) : Intact s (t.laserDone head time b o) := by
  unfold State.laserDone
  split
  · split
    · split
      · split
        · exact .update (.update h)
        · exact .update h
      · split
        · exact .update (.update h)
        · exact .update h
    · split
      · exact .update (.update h)
      · exact .update h
  · split
    · split
      · split
        · exact .update (.update h)
        · exact .update h
      · split
        · exact .update (.update h)
        · exact .update h
    · split
      · exact .update (.update h)
      · exact .update h
theorem command {head : Nat} {sample : Bool} {x y z : Int} (h : Intact s t) : Intact s (t.command head sample x y z) := by
  unfold State.command
  dsimp only
  split
  · exact h
  · exact .update h
theorem driftStep {head : Nat} (h : Intact s t) : Intact s (t.driftStep head) := .ite h (.update h)
theorem headCommand {env : LayEnv} {head : Nat} {st : Option StreamSample} (h : Intact s t) : Intact s (t.headCommand env head st) := by
  unfold State.headCommand
  refine .ite h (.ite ?_ (.command (.ite (.driftStep h) h)))
  split
  · exact .update h
  · exact h
theorem pulseReject {head k : Nat} {env : LayEnv} {b : Block} (h : Intact s t) : Intact s (t.pulseReject head k env b) := by
  unfold State.pulseReject
  split
  · exact .ite (.headStop h) h
  · exact h
theorem deposit {head time : Nat} {p : Pt} {power : Nat} (h : Intact s t) : Intact s (t.deposit head time p power).1 := by
  unfold State.deposit
  dsimp only
  split
  · exact h
  · split
    · exact .update h
    · exact .update h
theorem sampleRecord {env : LayEnv} {i k head : Nat} {n : BlockNote} {o : LaserOut} (h : Intact s t) : Intact s (t.sampleRecord env i k head n o).1 :=
    .deposit (.ite (.update h) (.update h))
theorem headSample {env : LayEnv} {ahead : Lay} {i k head : Nat} {before : Int} {st : Option StreamSample} (h : Intact s t) : Intact s
    (t.headSample env ahead i k head before st).1 := by
  unfold State.headSample
  dsimp only
  split
  · split
    · split
      · exact .sampleRecord (.laserDone (.ruleRun (.update (.pulseReject (.headCommand h)))))
      · exact .laserDone (.ruleRun (.update (.pulseReject (.headCommand h))))
    · split
      · exact .sampleRecord (.laserDone (.ruleRun (.update (.pulseReject (.headCommand h)))))
      · exact .laserDone (.ruleRun (.update (.pulseReject (.headCommand h))))
  · split
    · split
      · exact .sampleRecord (.laserDone (.ruleRun (.update (.pulseReject (.headCommand h)))))
      · exact .laserDone (.ruleRun (.update (.pulseReject (.headCommand h))))
    · split
      · exact .sampleRecord (.laserDone (.ruleRun (.update (.pulseReject (.headCommand h)))))
      · exact .laserDone (.ruleRun (.update (.pulseReject (.headCommand h))))
theorem sendDown {head slot : Nat} {active gateStart : Bool} {o : LaserOut} (h : Intact s t) : Intact s (t.sendDown head slot active gateStart o) :=
    .ite h (.update (.update h))
theorem layStep {env : LayEnv} {resume : Bool} (h : Intact s t) : Intact s (t.layStep env resume) := .setLay h

theorem exposeSlot {i k : Nat} (h : Intact s t) : Intact s (t.exposeSlot i k) :=
  have streamed := foldHeads (f := State.streamStep) (hs := List.range 32) (fun h' => .streamStep h') (.loopsAt (.peerTalk (.layStep h)))
  have sampled := foldHeads (fun h' => .headSample h') (.foldl (fun _ h' => .ite (.rulesEval h') h') (.monitor streamed))
  .noteDone (.update (.sendPeerSlot (.foldl (fun _ h' => .sendDown h') sampled)))
theorem fencesDue {tf : Nat} (h : Intact s t) : Intact s (t.fencesDue tf) := by
  unfold State.fencesDue
  refine .foldl (fun _ h' => ?_) (.update h)
  split
  · exact h'
  · exact .complete (.fenceAt h')
theorem restCommand {head : Nat} (h : Intact s t) : Intact s (t.restCommand head) := .ite h (.command h)
theorem restSlot {i : Nat} (h : Intact s t) : Intact s (t.restSlot i) :=
    .update (.sendPeerSlot (.foldl (fun _ h' => .sendDown (.update (.update (.ite (.restCommand (.ite (.ite (.rulesEval h') h') (.driftStep (.ite
      (.rulesEval h') h')))) (.ite (.ite (.rulesEval h') h') (.driftStep (.ite (.rulesEval h') h'))))))) (.loopsAt h)))
theorem slotBoundary (h : Intact s t) : Intact s t.slotBoundary :=
    .ite h (.ite (.exposeSlot (.fencesDue (.update (.ite (.kettleFence (.depositsTo h)) (.depositsTo h))))) (.restSlot (.fencesDue (.update (.ite
      (.kettleFence (.depositsTo h)) (.depositsTo h))))))
theorem camPop {p : Nat} (h : Intact s t) : Intact s (t.camPop p) := .camKick (.update h)
theorem camRetry {p : Nat} (h : Intact s t) : Intact s (t.camRetry p) := by
  unfold State.camRetry
  split
  · exact h
  · refine .ite (.update (.update h)) (.commitIfQuiet (.camPop ?_))
    split
    · exact .complete h
    · exact .update h
theorem camTimeout {p : Nat} (h : Intact s t) : Intact s (t.camTimeout p) := by
  unfold State.camTimeout
  split
  · exact .ite (.camRetry h) h
  · exact h
theorem skipEntry {i : Nat} (h : Intact s t) : Intact s (t.skipEntry i) := by
  unfold State.skipEntry
  split
  · exact .update (.update (.poisonSeen h))
  · exact .update (.update (.poisonSeen h))
  · exact .update (.update (.poisonSeen h))
theorem drain {i n : Nat} (h : Intact s t) : Intact s (t.drain i n) := by
  induction n generalizing t with
  | zero => exact h
  | succ n ih =>
    unfold State.drain
    split
    · exact h
    · exact .ite (ih (.update (.ringPut h))) h
theorem hostCopy {i : Nat} (h : Intact s t) : Intact s (t.hostCopy i) := .ite h (.ite (.skipEntry h) (.ite h (.drain (.hostEntry (.update h)))))
theorem capGot {b : List Byte} (h : Intact s t) : Intact s (t.capGot b) :=
    .ite (.update h) (.ite (.update (.update h)) (.ite (.update (.update h)) (.ite (.sendEcho (.pairTry (.update (.update h)))) (.pairTry (.update
      (.update h))))))
theorem recoatBegin (h : Intact s t) : Intact s t.recoatBegin := .recoatAdvance (.update h)
theorem streamStart {due : Nat} {acc : Option Nat} {recoat : Bool} (h : Intact s t) : Intact s (t.streamStart due acc recoat) := .update h
theorem recoatStart (h : Intact s t) : Intact s t.recoatStart := by
  have begun : Intact s (t.beginPhase .recoat) := .beginPhase h
  exact .ite h (.ite (.streamStart (.update begun)) (.recoatBegin begun))
theorem loopMiss {l slot : Nat} (h : Intact s t) : Intact s (t.loopMiss l slot) :=
    .ite (.headStop (.update (.update (.update h)))) (.update (.update h))
theorem offsetMeasured {o : Int} (h : Intact s t) : Intact s (t.offsetMeasured o) :=
    .ite (.timeEntry (.update (.newRelation (.update (.update h))))) (.newRelation (.update (.update h)))
theorem camAck {p : Nat} {valid : Bool} {code : Nat} {data : List Byte} (h : Intact s t) : Intact s (t.camAck p valid code data) := by
  unfold State.camAck
  split
  · exact h
  · refine .ite h (.ite (.camRetry h) (.commitIfQuiet (.camPop ?_)))
    split
    · exact .ite (.complete h) (.complete (.ite h (.dramWrite h)))
    · exact .ite (.update h) h
theorem cycleGot {p : List Byte} (h : Intact s t) : Intact s (t.cycleGot p) :=
    .ite h (.ite (.pairStart (.update h)) (.ite (.ite (.update h) h) (.ite (.update h) (.ite (.ite (.holdNow h) h) (.ite (.update h) (.ite (.ite
      (.disarm h) h) (.ite (.pairStart (.update h)) h)))))))
theorem releaseWaits {tick : Nat} (h : Intact s t) : Intact s (t.releaseWaits tick) := by
  unfold State.releaseWaits
  refine .foldl (fun _ h' => ?_) (.foldl (fun _ h' => ?_) h)
  · split
    · exact .ite (.startStep h') h'
    · exact h'
  · split
    · exact .ite (.ite (.beginMove (.update h')) (.complete (.update h'))) h'
    · exact h'
theorem axisTick {tick a : Nat} (h : Intact s t) : Intact s (t.axisTick tick a) :=
    .ite h (.ite (.axisFault (.syncEvent (.foldl (fun _ h' => .update h') (.update h)))) (.syncEvent (.foldl (fun _ h' => .update h') (.update h))))
theorem streamEnd (h : Intact s t) : Intact s t.streamEnd := .ite (.endMove (.update h)) h
theorem streamFault (h : Intact s t) : Intact s t.streamFault := .endMove (.foldl (fun _ h' => .axisFault h') (.update h))
theorem motFill {n tick : Nat} {u : State} (h : Intact s t) (hu : t.motFill n tick = some u) : Intact s u := by
  induction n generalizing t with
  | zero => cases hu; exact h
  | succ n ih =>
    unfold State.motFill at hu
    dsimp only at hu
    split at hu
    · cases hu; exact h
    · split at hu
      · exact ih (.update h) hu
      · cases hu
theorem streamTick {tick : Nat} (h : Intact s t) : Intact s (t.streamTick tick) := by
  unfold State.streamTick
  dsimp only
  refine .ite h (.ite h ?_)
  split
  · exact .streamFault h
  · next u hu =>
    have filled : Intact s u := .motFill h hu
    split
    · exact filled
    · exact .ite (.streamFault filled) (.ite (.update (.foldl (fun _ h' => .ite (.update h') h') filled))
        (.ite filled (.foldl (fun _ h' => .ite (.update h') h') filled)))
theorem motionTick (h : Intact s t) : Intact s t.motionTick :=
    .ite h (.streamEnd (.foldl (fun _ h' => .axisTick h') (.streamTick (.releaseWaits (.update h)))))
theorem pixelsIn {head n off : Nat} {bytes : List Byte} (h : Intact s t) : Intact s (t.pixelsIn head n off bytes) := .ite h (.update h)
theorem cfgAck {head ack : Nat} (h : Intact s t) : Intact s (t.cfgAck head ack) := by
  unfold State.cfgAck
  split
  · exact h
  · refine .ite h ?_
    split
    · exact .update h
    · exact .update (.update (.update h))
theorem sourceWord {head word slotDt : Nat} (h : Intact s t) : Intact s (t.sourceWord head word slotDt) := by
  unfold State.sourceWord
  dsimp only
  refine .ite (.ite (.update h) (.update (.update h))) ?_
  split
  · exact .headStop (.foldl (fun _ h' => .ite (.lasWarn h') h') (.ite (.update (.update h)) (.update h)))
  · exact .foldl (fun _ h' => .ite (.lasWarn h') h') (.ite (.update (.update h)) (.update h))
theorem runEcho {head : Nat} {r : Int} (h : Intact s t) : Intact s (t.runEcho head r) :=
    .ite (.update h) (.ite (.update h) (.ite (.update (.update (.update (.update (.update h))))) (.update (.update (.update h)))))
theorem upWhole {head : Nat} {c : List Byte} (h : Intact s t) : Intact s (t.upWhole head c) :=
    .pixelsIn (.cfgAck (.runEcho (.sourceWord (.foldl (fun _ h' => .putTrack h') (.ite (.putSense (.update h)) (.ite (.putSense (.update h))
      (.update h)))))))
theorem sampleUp {head : Nat} {frame : List Byte} (h : Intact s t) : Intact s (t.sampleUp head frame) := by
  unfold State.sampleUp
  refine .ite h ?_
  split
  · exact .update h
  · exact .ite (.update h) (.upWhole h)
theorem startOfFrame {p fmt w head : Nat} (h : Intact s t) : Intact s (t.startOfFrame p fmt w head) :=
    .ite h (.ite (.frameFormat (.update (.ite (.imgCommit (.ite (.frameEnds h) h)) (.ite (.frameEnds h) h)))) (.update (.ite (.imgCommit (.ite
      (.frameEnds h) h)) (.ite (.frameEnds h) h))))
theorem frameTimeout {p : Nat} (h : Intact s t) : Intact s (t.frameTimeout p) := by
  unfold State.frameTimeout
  dsimp only
  split
  · exact h
  · split
    · exact h
    · exact .update (.buildEntry (.update (.statsEntry (.update h))))
theorem peerUp (h : Intact s t) : Intact s t.peerUp := .ite h (.ite (.pairLink (.update h)) (.ite (.sendCap (.update h)) (.update h)))
theorem takeSource {c : Nat} {wake : Option Nat} (h : Intact s t) : Intact s (t.takeSource c wake) := by
  unfold State.takeSource
  split
  · exact h
  · exact .update (.update (.update h))
theorem portUp {head : Nat} (h : Intact s t) : Intact s (t.portUp head) :=
    .update (.foldl (fun _ h' => .update h') (.startTracks (.update (.update h))))
theorem echoUp {head t4 : Nat} {fr : List Byte} (h : Intact s t) : Intact s (t.echoUp head t4 fr) := by
  unfold State.echoUp
  split
  · exact .update h
  · refine .ite (.update h) (.ite h (.ite (.ite (.portUp h) h) (.ite (.update h) ?_)))
    split
    · exact .update h
    · exact .portFault h
theorem sessionTimeout {i : Nat} (h : Intact s t) : Intact s (t.sessionTimeout i) := by
  unfold State.sessionTimeout
  split
  · exact .ite (.endSession h) h
  · exact h
theorem borderGot {b : List Byte} (h : Intact s t) : Intact s (t.borderGot b) := .ite h (.ite (.depositsTo (.update h)) (.update h))
theorem slotGot {c : List Byte} (h : Intact s t) : Intact s (t.slotGot c) := .foldl (fun _ h' => .borderGot h') (.update h)
theorem slotsLost {n : Nat} (h : Intact s t) : Intact s (t.slotsLost n) := .ite (.peerDown (.update h)) (.update h)
theorem slotArrived {frame : List Byte} (h : Intact s t) : Intact s (t.slotArrived frame) := by
  unfold State.slotArrived
  refine .ite h ?_
  split
  · exact .slotsLost (.update h)
  · exact .ite (.slotsLost (.update h)) (.slotGot h)
theorem dmaEnd {c : Nat} (h : Intact s t) : Intact s (t.dmaEnd c) := .ite h (.dmaDecide (.update (.ite (.dmaEntry h) h)))
theorem ssiFrame {c raw extra : Nat} {good : Bool} {latch : Nat} (h : Intact s t) : Intact s (t.ssiFrame c raw extra good latch) :=
    .ite h (.ite (.trackDone (.update h)) (.divide (.trackDone (.update h))))
theorem eoi {c n : Nat} (h : Intact s t) : Intact s (t.eoi c n) := .ite (.update h) (.update h)
theorem trimFit {codes : List (Nat × Nat)} (h : Intact s t) : Intact s (t.trimFit codes) := by
  unfold State.trimFit
  split
  · exact .ite h (.ite (.finishTrim (.update (.update (.update h)))) (.update (.update (.update (.update h)))))
  · exact h

end Intact

/-! Command packets: what every command of the catalogue leaves, and from that what serving it leaves (R376, R382, R384). -/

section
variable {s t : State}

/-- Running a command and rejecting it leave what `Intact` says. -/
def SpecIntact (c : CmdSpec) : Prop :=
  (∀ {s t : State} {acc : Nat} {p : Packet}, Intact s t → Intact s (c.run acc p t).1) ∧
    ∀ {s t : State} {p : Packet} {st : Nat}, Intact s t → Intact s (c.onReject p st t)

theorem SpecIntact.of_run {c : CmdSpec} (hrun : ∀ {s t : State} {acc : Nat} {p : Packet}, Intact s t → Intact s (c.run acc p t).1)
    (hrej : ∀ {s t : State} {p : Packet} {st : Nat}, Intact s t → Intact s (c.onReject p st t) := by exact fun h => h) : SpecIntact c :=
  ⟨hrun, hrej⟩

theorem svcLoopbackSpec_intact : SpecIntact svcLoopbackSpec := .of_run fun h => .update (.loopBegin h)
theorem paramSetSpec_intact : SpecIntact paramSetSpec := .of_run fun h => by
  unfold paramSetSpec
  dsimp only
  split
  · exact h
  · split
    · exact .update h
    · split
      · exact .writeParam h
      · exact .writeParam h
theorem pairGutterTableSpec_intact : SpecIntact pairGutterTableSpec := .of_run (hrej := fun h => .poisonReject h) fun h => .update h
theorem recoverSpec_intact : SpecIntact recoverSpec := .of_run fun h => .emdResume (.update (.setState h))
theorem sigLoadSpec_intact : SpecIntact sigLoadSpec := .of_run fun h => by
  unfold sigLoadSpec
  dsimp only
  split
  · exact .startLoad h
  · exact h
theorem gutReplayLoadSpec_intact : SpecIntact gutReplayLoadSpec := .of_run fun h => .update h
theorem loopCaptureSpec_intact : SpecIntact loopCaptureSpec := .of_run fun h => .update h
theorem devIdentifySpec_intact : SpecIntact devIdentifySpec := .of_run fun h => h
theorem memChannelMapoutSpec_intact : SpecIntact memChannelMapoutSpec := .of_run fun h => .startMapout h
theorem recBuildEndSpec_intact : SpecIntact recBuildEndSpec := .of_run fun h => by
  unfold recBuildEndSpec
  dsimp only
  split
  · exact .endBuild h
  · exact .update h
theorem safeRequestSpec_intact : SpecIntact safeRequestSpec := .of_run fun h => .enterSafe h
theorem emdDarkSpec_intact : SpecIntact emdDarkSpec := .of_run fun h => .ite (.foldl (fun _ h' => .emdDark h') h) (.emdDark h)
theorem emdLatchSpec_intact : SpecIntact emdLatchSpec := .of_run fun h => .update h
theorem hlkLoopbackSpec_intact : SpecIntact hlkLoopbackSpec := .of_run fun h => by
  unfold hlkLoopbackSpec
  dsimp only
  split
  · exact .loopbackOff h
  · exact .loopbackStart h
theorem imgControlSpec_intact : SpecIntact imgControlSpec := .of_run fun h => .camKick (.update h)
theorem imgPortResetSpec_intact : SpecIntact imgPortResetSpec := .of_run fun h => .update h
theorem imgSnapSpec_intact : SpecIntact imgSnapSpec := .of_run fun h => .snap h
theorem motStreamStartSpec_intact : SpecIntact motStreamStartSpec := .of_run fun h => .update h
theorem motStopSpec_intact : SpecIntact motStopSpec := .of_run fun h => by
  unfold motStopSpec
  dsimp only
  split
  · exact .stopAllAxes (.stopStream h)
  · exact .quickStop (.stopStream h)
theorem imgToneLoadSpec_intact : SpecIntact imgToneLoadSpec := .of_run (hrej := fun h => .poisonReject h) fun h => .settingsWritten (.update h)
theorem motSetPositionSpec_intact : SpecIntact motSetPositionSpec := .of_run fun h => .update (.update h)
theorem hlkRetrainSpec_intact : SpecIntact hlkRetrainSpec := .of_run fun h => by
  unfold hlkRetrainSpec
  dsimp only
  split
  · exact .foldl (fun _ h' => .portRetrain h') h
  · exact .portRetrain h
theorem pairWitnessGrantSpec_intact : SpecIntact pairWitnessGrantSpec := .of_run fun h => .update h
theorem fbkSetCountSpec_intact : SpecIntact fbkSetCountSpec := .of_run fun h => .setCount h
theorem emdFrameLoadSpec_intact : SpecIntact emdFrameLoadSpec := .of_run (hrej := fun h => .poisonReject h) fun h => .pageDirty (.update h)
theorem motFaultClearSpec_intact : SpecIntact motFaultClearSpec := .of_run fun h => by
  unfold motFaultClearSpec
  dsimp only
  split
  · exact .ite (.axisFault (.update h)) (.update h)
  · exact h
theorem motMoveSpec_intact : SpecIntact motMoveSpec := .of_run fun h => by
  unfold motMoveSpec
  dsimp only
  split
  · exact .beginMove h
  · exact .endMove (.update h)
theorem recFreezeSpec_intact : SpecIntact recFreezeSpec := .of_run fun h => .update h
theorem svcSelfTestSpec_intact : SpecIntact svcSelfTestSpec := .of_run fun h => .update h
theorem svcFwSwitchSpec_intact : SpecIntact svcFwSwitchSpec := .of_run fun h => .update h
theorem recBuildBeginSpec_intact : SpecIntact recBuildBeginSpec := .of_run fun h => .beginBuild h
theorem recClearSpec_intact : SpecIntact recClearSpec := .of_run fun h => .update h
theorem svcTrimCaptureSpec_intact : SpecIntact svcTrimCaptureSpec := .of_run fun h => .askTrim (.answer h)
theorem svcFwCommitSpec_intact : SpecIntact svcFwCommitSpec := .of_run fun h => .update (.update h)
theorem svcFwLoadSpec_intact : SpecIntact svcFwLoadSpec := .of_run (hrej := fun h => .poisonReject h) fun h => .update h
theorem recReadSpec_intact : SpecIntact recReadSpec := .of_run fun h => by
  unfold recReadSpec
  dsimp only
  split
  · exact .update h
  · exact .dramWrite (.update h)
theorem recUnfreezeSpec_intact : SpecIntact recUnfreezeSpec := .of_run fun h => .unfreeze h
theorem svcModeSetSpec_intact : SpecIntact svcModeSetSpec := .of_run fun h => by
  unfold svcModeSetSpec
  dsimp only
  split
  · exact .switchModes h
  · exact .update h
theorem svcTrimSetSpec_intact : SpecIntact svcTrimSetSpec := .of_run fun h => by
  unfold svcTrimSetSpec
  dsimp only
  split
  · exact .update (.noteTrim (.update h))
  · exact .update (.noteTrim (.update h))
theorem svcTrimRunSpec_intact : SpecIntact svcTrimRunSpec := .of_run fun h => .askTrim (.answer h)
theorem lasHeadRestoreSpec_intact : SpecIntact lasHeadRestoreSpec := .of_run fun h => by
  unfold lasHeadRestoreSpec
  dsimp only
  split
  · exact .update h
  · exact .noteEmit (.update h)
theorem ldgSnapshotLoadSpec_intact : SpecIntact ldgSnapshotLoadSpec := .of_run fun h => by
  unfold ldgSnapshotLoadSpec
  dsimp only
  split
  · exact .update h
  · exact h
theorem mpsRatioLoadSpec_intact : SpecIntact mpsRatioLoadSpec := .of_run (hrej := fun h => .poisonReject h) fun h => by
  unfold mpsRatioLoadSpec
  dsimp only
  split
  · exact .update h
  · exact .update h
theorem sigDiscardSpec_intact : SpecIntact sigDiscardSpec := .of_run fun h => by
  unfold sigDiscardSpec
  dsimp only
  split
  · exact .retire (.abandonLoad h)
  · exact h
  · exact .retire (.emptyBank h)
theorem loopMapLoadSpec_intact : SpecIntact loopMapLoadSpec := .of_run (hrej := fun h => .poisonReject h) fun h => .update h
theorem quireAppendSpec_intact : SpecIntact quireAppendSpec := .of_run fun h => .update h
theorem ldgClearSpec_intact : SpecIntact ldgClearSpec := .of_run fun h => .update h
theorem loopInjectSpec_intact : SpecIntact loopInjectSpec := .of_run fun h => .update h
theorem gutStitchTableSpec_intact : SpecIntact gutStitchTableSpec := .of_run (hrej := fun h => .poisonReject h) fun h => .update h
theorem trjFcLoadSpec_intact : SpecIntact trjFcLoadSpec := .of_run (hrej := fun h => .poisonReject h) fun h => by
  unfold trjFcLoadSpec
  dsimp only
  split
  · exact .update (.update h)
  · exact .update h
theorem trjFcReadSpec_intact : SpecIntact trjFcReadSpec := .of_run fun h => by
  unfold trjFcReadSpec
  dsimp only
  split
  · exact .dramWrite h
  · exact h
theorem loopCaptureReadSpec_intact : SpecIntact loopCaptureReadSpec := .of_run fun h => by
  unfold loopCaptureReadSpec
  dsimp only
  split
  · exact .dramWrite (.update h)
  · exact h
theorem quireFlushSpec_intact : SpecIntact quireFlushSpec := .of_run fun h => .flushQuire h
theorem ldgReadSpec_intact : SpecIntact ldgReadSpec := .of_run fun h => .update (.depositsTo h)
theorem mpsRatioReadSpec_intact : SpecIntact mpsRatioReadSpec := .of_run fun h => by
  unfold mpsRatioReadSpec
  dsimp only
  split
  · exact .dramWrite h
  · exact h
theorem opSetJumpSpec_intact : SpecIntact opSetJumpSpec := .of_run fun h => .writeTogether h
theorem opSetDelaysSpec_intact : SpecIntact opSetDelaysSpec := .of_run fun h => .writeTogether h
theorem cycleRunSpec_intact : SpecIntact cycleRunSpec := .of_run fun h => .cycleRun h
theorem opSetPowerLimitSpec_intact : SpecIntact opSetPowerLimitSpec := .of_run fun h => by
  unfold opSetPowerLimitSpec
  dsimp only
  split
  · exact .writeParam h
  · exact .writeParam h
theorem opRetrainSpec_intact : SpecIntact opRetrainSpec := .of_run fun h => .foldl (fun _ h' => .portRetrain h') h
theorem opStatusSpec_intact : SpecIntact opStatusSpec := .of_run fun h => h
theorem streamFenceSpec_intact : SpecIntact streamFenceSpec := .of_run fun h => .fenceRun h
theorem armSpec_intact : SpecIntact armSpec := .of_run fun h => .armNow h
theorem holdSpec_intact : SpecIntact holdSpec := .of_run fun h => .enterHold h
theorem deviceResetSpec_intact : SpecIntact deviceResetSpec := .of_run fun h => .update h
theorem nopSpec_intact : SpecIntact nopSpec := .of_run fun h => h
theorem counterReadSpec_intact : SpecIntact counterReadSpec := .of_run fun h => h
theorem queueCreateSpec_intact : SpecIntact queueCreateSpec := .of_run fun h => .update h
theorem profileSelectSpec_intact : SpecIntact profileSelectSpec := .of_run fun h => .selectProfile h
theorem recoveryExitSpec_intact : SpecIntact recoveryExitSpec := .of_run fun h => .enterStandby (.ite (.update h) h)
theorem cycleStopSpec_intact : SpecIntact cycleStopSpec := .of_run fun h => .cycleStop h
theorem readyEnterSpec_intact : SpecIntact readyEnterSpec := .of_run fun h => .enterReady h
theorem serviceEnterSpec_intact : SpecIntact serviceEnterSpec := .of_run fun h => .setState h
theorem queueDeleteSpec_intact : SpecIntact queueDeleteSpec := .of_run fun h => .settleDeletes (.update (.answer h))
theorem keyLoadSpec_intact : SpecIntact keyLoadSpec := .of_run fun h => by
  unfold keyLoadSpec
  dsimp only
  split
  · exact .update h
  · exact .update (.update h)
theorem keyRetireSpec_intact : SpecIntact keyRetireSpec := .of_run fun h => by
  unfold keyRetireSpec
  dsimp only
  split
  · exact .update h
  · exact .update (.update h)
theorem cyclePhaseSpec_intact : SpecIntact cyclePhaseSpec := .of_run fun h => .askPhase h
theorem standbyEnterSpec_intact : SpecIntact standbyEnterSpec := .of_run fun h => .enterStandby h
theorem paramGetSpec_intact : SpecIntact paramGetSpec := .of_run fun h => .readDone h
theorem profileCheckSpec_intact : SpecIntact profileCheckSpec := .of_run fun h => h
theorem cycleReleaseSpec_intact : SpecIntact cycleReleaseSpec := .of_run fun h => .release h
theorem unknownSpec_intact {opcode : Nat} : SpecIntact (unknownSpec opcode) := .of_run fun h => h

theorem resumeSpec_intact : SpecIntact resumeSpec := .of_run fun h => by
  unfold resumeSpec
  dsimp only
  exact .resumeNow h

theorem disarmSpec_intact : SpecIntact disarmSpec := .of_run fun h => by
  unfold disarmSpec
  dsimp only
  split
  · dsimp only
    split
    · exact .complete (.disarmNow (.update (.tellPeer h)))
    · exact .disarmNow (.update (.tellPeer h))
  · split
    · exact .tellPeer h
    · exact .disarm (.tellPeer h)

/-- A version-2 opcode leaves what its native command leaves (R416). -/
theorem v2_intact {opcode minor len : Nat} {f : Packet → Packet} {bad : Packet → Bool} {c : CmdSpec} (hc : SpecIntact c) :
    SpecIntact (v2 opcode minor len f bad c) :=
  ⟨fun h => hc.1 h, fun h => hc.2 h⟩

theorem dmaStopSpec_intact : SpecIntact dmaStopSpec := .of_run fun h => by
  unfold dmaStopSpec dmaCtrlSpec
  dsimp only
  split
  · exact .update h
  · split
    · exact .dmaHalt (.update h)
    · exact .dmaHalt (.update (.update h))

theorem dmaRetrySpec_intact : SpecIntact dmaRetrySpec := .of_run fun h => by
  unfold dmaRetrySpec dmaCtrlSpec
  dsimp only
  split
  · exact .dmaDecide h
  · exact .sourceLevel (.update h)

theorem dmaSkipSpec_intact : SpecIntact dmaSkipSpec := .of_run fun h => .dmaDecide h

theorem dmaSpecOf_intact (p : Packet) : SpecIntact (dmaSpecOf p) := by
  unfold dmaSpecOf
  split
  · exact dmaRetrySpec_intact
  · exact dmaSkipSpec_intact
  · exact dmaStopSpec_intact

/-! The catalogue (R411). -/

theorem find_intact {l : List CmdSpec} (hl : ∀ c ∈ l, SpecIntact c) (opcode : Nat) :
    SpecIntact ((l.find? fun c => c.opcode == opcode).getD (unknownSpec opcode)) := by
  cases hf : l.find? fun c => c.opcode == opcode with
  | none => exact unknownSpec_intact
  | some c => exact hl c (List.mem_of_find?_eq_some hf)

theorem specsDev_intact : ∀ c ∈ specsDev, SpecIntact c := by
  simp only [specsDev, List.forall_mem_cons, List.not_mem_nil, false_implies, implies_true, and_true]
  exact ⟨devIdentifySpec_intact, paramGetSpec_intact, paramSetSpec_intact, profileSelectSpec_intact, profileCheckSpec_intact, readyEnterSpec_intact,
    standbyEnterSpec_intact, armSpec_intact, disarmSpec_intact, holdSpec_intact, resumeSpec_intact, safeRequestSpec_intact, recoverSpec_intact,
    recoveryExitSpec_intact, serviceEnterSpec_intact, deviceResetSpec_intact, cycleRunSpec_intact, cyclePhaseSpec_intact, cycleReleaseSpec_intact,
    cycleStopSpec_intact, queueCreateSpec_intact, queueDeleteSpec_intact, streamFenceSpec_intact, nopSpec_intact, keyLoadSpec_intact,
    keyRetireSpec_intact, counterReadSpec_intact⟩

theorem specsLayer_intact : ∀ c ∈ specsLayer, SpecIntact c := by
  simp only [specsLayer, List.forall_mem_cons, List.not_mem_nil, false_implies, implies_true, and_true]
  exact ⟨quireAppendSpec_intact, sigLoadSpec_intact, quireFlushSpec_intact, sigDiscardSpec_intact, trjFcLoadSpec_intact, trjFcReadSpec_intact,
    lasHeadRestoreSpec_intact, gutReplayLoadSpec_intact, gutStitchTableSpec_intact, mpsRatioLoadSpec_intact, mpsRatioReadSpec_intact,
    loopInjectSpec_intact, loopCaptureSpec_intact, loopCaptureReadSpec_intact, loopMapLoadSpec_intact, ldgClearSpec_intact, ldgReadSpec_intact,
    ldgSnapshotLoadSpec_intact⟩

theorem specsMachine_intact : ∀ c ∈ specsMachine, SpecIntact c := by
  simp only [specsMachine, List.forall_mem_cons, List.not_mem_nil, false_implies, implies_true, and_true]
  exact ⟨imgControlSpec_intact, imgSnapSpec_intact, imgToneLoadSpec_intact, imgPortResetSpec_intact, motMoveSpec_intact, motStopSpec_intact,
    motSetPositionSpec_intact, motFaultClearSpec_intact, motStreamStartSpec_intact, fbkSetCountSpec_intact, emdFrameLoadSpec_intact,
    emdLatchSpec_intact, emdDarkSpec_intact, hlkRetrainSpec_intact, hlkLoopbackSpec_intact, pairGutterTableSpec_intact,
    pairWitnessGrantSpec_intact, memChannelMapoutSpec_intact⟩

theorem specsService_intact : ∀ c ∈ specsService, SpecIntact c := by
  simp only [specsService, List.forall_mem_cons, List.not_mem_nil, false_implies, implies_true, and_true]
  exact ⟨recReadSpec_intact, recFreezeSpec_intact, recUnfreezeSpec_intact, recClearSpec_intact, recBuildBeginSpec_intact, recBuildEndSpec_intact,
    svcFwLoadSpec_intact, svcFwSwitchSpec_intact, svcFwCommitSpec_intact, svcModeSetSpec_intact, svcTrimRunSpec_intact, svcTrimCaptureSpec_intact,
    svcTrimSetSpec_intact, svcLoopbackSpec_intact, svcSelfTestSpec_intact⟩

theorem specsV2_intact : ∀ c ∈ specsV2, SpecIntact c := by
  simp only [specsV2, List.forall_mem_cons, List.not_mem_nil, false_implies, implies_true, and_true]
  exact ⟨opStatusSpec_intact, v2_intact armSpec_intact, v2_intact disarmSpec_intact, v2_intact holdSpec_intact, v2_intact resumeSpec_intact,
    v2_intact safeRequestSpec_intact, v2_intact cycleRunSpec_intact, v2_intact streamFenceSpec_intact, v2_intact quireAppendSpec_intact,
    v2_intact quireFlushSpec_intact, opSetJumpSpec_intact, opSetDelaysSpec_intact, opSetPowerLimitSpec_intact, v2_intact lasHeadRestoreSpec_intact,
    v2_intact motMoveSpec_intact, opRetrainSpec_intact⟩

theorem specFor_intact (opcode : Nat) (p : Packet) : SpecIntact (specFor opcode p) := by
  unfold specFor
  split
  · exact find_intact specsV2_intact opcode
  · split
    · exact dmaSpecOf_intact p
    · refine find_intact (fun c hc => ?_) opcode
      simp only [List.mem_append] at hc
      rcases hc with ((hc | hc) | hc) | hc
      · exact specsDev_intact c hc
      · exact specsLayer_intact c hc
      · exact specsMachine_intact c hc
      · exact specsService_intact c hc

/-! Serving a packet. -/

namespace Intact

theorem reject {c : CmdSpec} {p : Packet} {st : Nat} (hc : SpecIntact c) (h : Intact s t) : Intact s (reject c p st t) :=
  .answer (hc.2 (.ite (.update h) h))

theorem runCmd {c : CmdSpec} {acc : Nat} {p : Packet} (hc : SpecIntact c) (h : Intact s t) : Intact s (runCmd c acc p t) := by
  have ran : Intact s (c.run acc p { t.acceptCounter p with host := { (t.acceptCounter p).host with
      inProg := (t.acceptCounter p).host.inProg ++ [{ acc := acc, opcode := c.opcode, packet := p }] } }).1 :=
    hc.1 (.update (.acceptCounter h))
  unfold Machine.runCmd
  dsimp only
  split
  all_goals rename_i he; rw [he] at ran
  · exact .complete ran
  · exact ran
  · exact .answer ran
  · exact .update ran

theorem start {c : CmdSpec} {leased : Bool} {acc : Nat} {p : Packet} (hc : SpecIntact c) (h : Intact s t) :
    Intact s (start c leased acc p t) := by
  unfold Machine.start
  dsimp only
  split
  · exact .answer h
  · next v _ =>
    have checked := setVersion (o := p.origin) (v := v) h
    split
    · exact .reject hc checked
    · split
      · exact .ite (.runCmd hc checked) (.ite (.reject hc checked) (.update (.askLease checked)))
      · exact .runCmd hc checked

theorem accept {c : CmdSpec} {p : Packet} (hc : SpecIntact c) (h : Intact s t) : Intact s (accept c p t) := by
  unfold Machine.accept
  refine .ite h ?_
  split
  · next u hu => exact .tagMatch h hu
  · exact .ite (.update (.update h)) (.start hc (.update h))

theorem startWaiting {leased : Bool} {w : WaitingCmd} (h : Intact s t) : Intact s (t.startWaiting leased w) :=
  .start (specFor_intact _ _) (.update h)

theorem afterLease {l : Nat} {made : Bool} {w : WaitingCmd} (h : Intact s t) : Intact s (t.afterLease l made w) :=
  .ite (.ite (.startWaiting h) (.reject (specFor_intact _ _) (.update h))) (.startWaiting h)

theorem fetchSlot {time q : Nat} {slot packet : List Byte} (h : Intact s t) : Intact s (t.fetchSlot time q slot packet) := by
  unfold State.fetchSlot
  dsimp only
  split
  · exact .reply (.update h)
  · exact .accept (specFor_intact _ _) (.update h)

theorem datagram {time port src srcPort dstPort : Nat} {fragment : Bool} {payload : List Byte} (h : Intact s t) :
    Intact s (t.datagram time port src srcPort dstPort fragment payload) := by
  unfold State.datagram
  refine .ite h (.ite (.update h) ?_)
  split
  · exact .update h
  · exact .accept (specFor_intact _ _) (.update h)

theorem fenceRelease {acc : Nat} (h : Intact s t) : Intact s (t.fenceRelease acc) := by
  unfold State.fenceRelease
  split
  · exact .ite h (.settleDeletes (.startWaiting h))
  · exact h

theorem leaseCommit {slot : Nat} {ok : Bool} (h : Intact s t) : Intact s (t.leaseCommit slot ok) := by
  have written := journalEnd (ok := ok) h
  unfold State.leaseCommit
  dsimp only
  split
  · exact h
  · refine .ite h ?_
    split
    all_goals rename_i he; rw [he] at written
    · exact written
    · exact .settleDeletes (.foldl (fun _ h' => .afterLease h') (.update written))

end Intact

end

/-! What a command may do to OTP, device time and the memories. -/

/-- `t` has the OTP of `s`, memories that are canonical where those of `s` are, and a device time that has not fallen, unless `t` has just
entered RESET (R15). -/
def Lawful (s t : State) : Prop :=
  t.otp = s.otp ∧ (s.dt ≤ t.dt ∨ (t.cyc.state = .reset ∧ t.dt = 0)) ∧ (s.dram.wf dramDefault = true → t.dram.wf dramDefault = true) ∧
    (s.flash.wf flashErased = true → t.flash.wf flashErased = true)

theorem Intact.lawful {s t : State} (h : Intact s t) : Lawful s t := by
  obtain ⟨ho, hd, hm, hf⟩ := h
  exact ⟨ho, .inl (Nat.le_of_eq hd.symm), hm, hf⟩

/-- RESET begins with device time 0, OTP and flash as they were, and nothing listed in DRAM (R557). -/
theorem State.resetBy_lawful {s t : State} {cause : Nat} (h : Intact s t) : Lawful s (t.resetBy cause) := by
  obtain ⟨ho, -, -, hf⟩ := Intact.tornJournal h
  exact ⟨ho, .inr ⟨rfl, rfl⟩, fun _ => rfl, hf⟩

theorem State.resetFrom_lawful {s t : State} {cause : Nat} (h : Intact s t) : Lawful s (t.resetFrom cause) := by
  unfold State.resetFrom
  split
  · exact State.resetBy_lawful h
  · exact h.lawful

theorem State.railsIn_lawful {s t : State} (h : Intact s t) : Lawful s t.railsIn := by
  unfold State.railsIn
  split
  · obtain ⟨ho, -, -, hf⟩ := h
    exact ⟨ho, .inr ⟨rfl, rfl⟩, fun _ => rfl, hf⟩
  · exact h.lawful

theorem State.railOut_lawful {s t : State} (h : Intact s t) : Lawful s t.railOut := by
  unfold State.railOut
  split
  · exact h.lawful
  · obtain ⟨ho, hd, -, hf⟩ := Intact.tornJournal h
    exact ⟨ho, .inl (Nat.le_of_eq hd.symm), fun _ => rfl, hf⟩

theorem State.resetPin_lawful {s t : State} {lowNs : Nat} (h : Intact s t) : Lawful s (t.resetPin lowNs) := by
  unfold State.resetPin
  extract_lets f acts s1
  have taken : Intact s s1 := .ite h (.update h)
  split
  · exact Intact.lawful taken
  · exact State.resetFrom_lawful (.update taken)

theorem State.resetDue_lawful {s t : State} (h : Intact s t) : Lawful s t.resetDue := by
  unfold State.resetDue
  split
  · split
    · exact State.resetFrom_lawful h
    · exact h.lawful
  · exact h.lawful

/-- BOOT ends at its operand's DT at the earliest (R561). -/
theorem State.releaseReset_lawful {s t : State} {b : BootInputs} (h : Intact s t) : Lawful s (t.releaseReset b) := by
  unfold State.releaseReset
  split
  · exact h.lawful
  · obtain ⟨ho, hd, hm, hf⟩ : Intact s (b.programmed.foldl (fun (s : State) (w : Nat × List Byte) => s.flashWrite w.1 w.2) t) :=
      .foldl (fun _ h' => .flashWrite h') h
    obtain ⟨ho', hd', hm', hf'⟩ := Intact.boot (b := b) (Intact.refl { b.programmed.foldl (fun (s : State)
      (w : Nat × List Byte) => s.flashWrite w.1 w.2) t with
      power := { (b.programmed.foldl (fun (s : State) (w : Nat × List Byte) => s.flashWrite w.1 w.2) t).power with
        temp := (List.range 3).map (fun (i : Nat) => b.temp.getD i 0) ++ [((List.range 3).map fun (i : Nat) => b.temp.getD i 0).foldl
          (fun (a x : Int) => max a x) (((List.range 3).map fun (i : Nat) => b.temp.getD i 0).getD 0 0)] }
      dt := max (b.programmed.foldl (fun (s : State) (w : Nat × List Byte) => s.flashWrite w.1 w.2) t).dt b.tEnd })
    refine ⟨ho'.trans ho, .inl ?_, fun hw => hm' (hm hw), fun hw => hf' (hf hw)⟩
    exact Nat.le_trans (hd ▸ Nat.le_max_left _ _) (Nat.le_of_eq hd'.symm)

/-- A command answers a next state, leaves the queue behind it, and does no more to OTP, device time and the memories than `Lawful` says. -/
def Completes (s : State) (o : Host.Outcome State Fault Refusal) : Prop := ∃ t, o = .next t ∧ t.pending = s.pending ∧ Lawful s t

theorem Lawful.of_at {s t : State} {time : Nat} (h : Lawful (s.at time) t) : Lawful s t := by
  obtain ⟨ho, hd, hm⟩ := h
  exact ⟨ho, hd.imp_left fun hle => Nat.le_trans (Nat.le_max_left s.dt time) hle, hm⟩

/-- A state that `f` leaves intact, with the event's DT and the queue put back. -/
theorem Intact.event_lawful {s t : State} {time : Nat} (h : Intact (s.at time) t) :
    Lawful s { t with dt := max s.dt time, pending := s.pending } := by
  obtain ⟨ho, -, hm⟩ := h
  exact ⟨ho, .inl (Nat.le_max_left _ _), hm⟩

theorem Completes.event {s : State} {time : Nat} {f : State → State} (hf : ∀ {u v : State}, Intact u v → Intact u (f v)) :
    Completes s (s.event time f) := by
  unfold State.event
  split
  · exact ⟨_, rfl, rfl, (hf (.refl _)).event_lawful⟩
  · exact ⟨_, rfl, rfl, rfl, .inl (Nat.le_refl _), id, id⟩

theorem Completes.eventPowered {s : State} {time : Nat} {f : State → State} (hf : ∀ {u v : State}, Intact u v → Intact u (f v)) :
    Completes s (s.eventPowered time f) := by
  unfold State.eventPowered
  split
  · exact ⟨_, rfl, rfl, rfl, .inl (Nat.le_refl _), id, id⟩
  · exact ⟨_, rfl, rfl, (hf (.refl _)).event_lawful⟩

theorem Completes.eventReset {s : State} {time : Nat} {f : State → State} (hf : ∀ {u v : State}, Intact u v → Lawful u (f v)) :
    Completes s (s.eventReset time f) :=
  ⟨_, rfl, rfl, (hf (.refl _)).of_at⟩

theorem Completes.serve {s : State} {c : CmdSpec} {p : Packet} (hc : SpecIntact c) : Completes s (serve c p s) := .event fun h => .accept hc h

/-- Every command of the table completes. -/
theorem exec_completes (i : Instr) (s : State) : Completes s (exec i s) := by
  unfold exec
  cases i with
  | devIdentify p => exact .serve devIdentifySpec_intact
  | paramGet p => exact .serve paramGetSpec_intact
  | paramSet p => exact .serve paramSetSpec_intact
  | profileSelect p => exact .serve profileSelectSpec_intact
  | profileCheck p => exact .serve profileCheckSpec_intact
  | readyEnter p => exact .serve readyEnterSpec_intact
  | standbyEnter p => exact .serve standbyEnterSpec_intact
  | arm p => exact .serve armSpec_intact
  | disarm p => exact .serve disarmSpec_intact
  | hold p => exact .serve holdSpec_intact
  | resume p => exact .serve resumeSpec_intact
  | safeRequest p => exact .serve safeRequestSpec_intact
  | recover p => exact .serve recoverSpec_intact
  | recoveryExit p => exact .serve recoveryExitSpec_intact
  | serviceEnter p => exact .serve serviceEnterSpec_intact
  | deviceReset p => exact .serve deviceResetSpec_intact
  | deviceResetDelayEnd time => exact .eventReset fun h => State.resetDue_lawful h
  | cycleRun p => exact .serve cycleRunSpec_intact
  | cyclePhase p => exact .serve cyclePhaseSpec_intact
  | cycleRelease p => exact .serve cycleReleaseSpec_intact
  | cycleStop p => exact .serve cycleStopSpec_intact
  | queueCreate p => exact .serve queueCreateSpec_intact
  | queueDelete p => exact .serve queueDeleteSpec_intact
  | streamFence p => exact .serve streamFenceSpec_intact
  | nop p => exact .serve nopSpec_intact
  | keyLoad p => exact .serve keyLoadSpec_intact
  | keyRetire p => exact .serve keyRetireSpec_intact
  | counterRead p => exact .serve counterReadSpec_intact
  | quireAppend p => exact .serve quireAppendSpec_intact
  | sigLoad p => exact .serve sigLoadSpec_intact
  | quireFlush p => exact .serve quireFlushSpec_intact
  | sigDiscard p => exact .serve sigDiscardSpec_intact
  | trjFcLoad p => exact .serve trjFcLoadSpec_intact
  | trjFcRead p => exact .serve trjFcReadSpec_intact
  | lasHeadRestore p => exact .serve lasHeadRestoreSpec_intact
  | gutReplayLoad p => exact .serve gutReplayLoadSpec_intact
  | gutStitchTable p => exact .serve gutStitchTableSpec_intact
  | mpsRatioLoad p => exact .serve mpsRatioLoadSpec_intact
  | mpsRatioRead p => exact .serve mpsRatioReadSpec_intact
  | loopInject p => exact .serve loopInjectSpec_intact
  | loopCapture p => exact .serve loopCaptureSpec_intact
  | loopCaptureRead p => exact .serve loopCaptureReadSpec_intact
  | loopMapLoad p => exact .serve loopMapLoadSpec_intact
  | ldgClear p => exact .serve ldgClearSpec_intact
  | ldgRead p => exact .serve ldgReadSpec_intact
  | ldgSnapshotLoad p => exact .serve ldgSnapshotLoadSpec_intact
  | imgControl p => exact .serve imgControlSpec_intact
  | imgSnap p => exact .serve imgSnapSpec_intact
  | imgToneLoad p => exact .serve imgToneLoadSpec_intact
  | imgPortReset p => exact .serve imgPortResetSpec_intact
  | motMove p => exact .serve motMoveSpec_intact
  | motStop p => exact .serve motStopSpec_intact
  | motSetPosition p => exact .serve motSetPositionSpec_intact
  | motFaultClear p => exact .serve motFaultClearSpec_intact
  | motStreamStart p => exact .serve motStreamStartSpec_intact
  | fbkSetCount p => exact .serve fbkSetCountSpec_intact
  | emdFrameLoad p => exact .serve emdFrameLoadSpec_intact
  | emdLatch p => exact .serve emdLatchSpec_intact
  | emdDark p => exact .serve emdDarkSpec_intact
  | hlkRetrain p => exact .serve hlkRetrainSpec_intact
  | hlkLoopback p => exact .serve hlkLoopbackSpec_intact
  | dmaStop p => exact .serve dmaStopSpec_intact
  | dmaRetry p => exact .serve dmaRetrySpec_intact
  | dmaSkip p => exact .serve dmaSkipSpec_intact
  | memChannelMapout p => exact .serve memChannelMapoutSpec_intact
  | pairGutterTable p => exact .serve pairGutterTableSpec_intact
  | pairWitnessGrant p => exact .serve pairWitnessGrantSpec_intact
  | recRead p => exact .serve recReadSpec_intact
  | recFreeze p => exact .serve recFreezeSpec_intact
  | recUnfreeze p => exact .serve recUnfreezeSpec_intact
  | recClear p => exact .serve recClearSpec_intact
  | recBuildBegin p => exact .serve recBuildBeginSpec_intact
  | recBuildEnd p => exact .serve recBuildEndSpec_intact
  | svcFwLoad p => exact .serve svcFwLoadSpec_intact
  | svcFwSwitch p => exact .serve svcFwSwitchSpec_intact
  | svcFwCommit p => exact .serve svcFwCommitSpec_intact
  | svcModeSet p => exact .serve svcModeSetSpec_intact
  | svcTrimRun p => exact .serve svcTrimRunSpec_intact
  | svcTrimCapture p => exact .serve svcTrimCaptureSpec_intact
  | svcTrimSet p => exact .serve svcTrimSetSpec_intact
  | svcLoopback p => exact .serve svcLoopbackSpec_intact
  | svcSelfTest p => exact .serve svcSelfTestSpec_intact
  | opStatus p => exact .serve opStatusSpec_intact
  | opArm p => exact .serve (v2_intact armSpec_intact)
  | opDisarm p => exact .serve (v2_intact disarmSpec_intact)
  | opPause p => exact .serve (v2_intact holdSpec_intact)
  | opContinue p => exact .serve (v2_intact resumeSpec_intact)
  | opAbort p => exact .serve (v2_intact safeRequestSpec_intact)
  | opRun p => exact .serve (v2_intact cycleRunSpec_intact)
  | opFence p => exact .serve (v2_intact streamFenceSpec_intact)
  | opLoadLayer p => exact .serve (v2_intact quireAppendSpec_intact)
  | opFlush p => exact .serve (v2_intact quireFlushSpec_intact)
  | opSetJump p => exact .serve opSetJumpSpec_intact
  | opSetDelays p => exact .serve opSetDelaysSpec_intact
  | opSetPowerLimit p => exact .serve opSetPowerLimitSpec_intact
  | opHeadReset p => exact .serve (v2_intact lasHeadRestoreSpec_intact)
  | opMoveAxis p => exact .serve (v2_intact motMoveSpec_intact)
  | opRetrain p => exact .serve opRetrainSpec_intact
  | sigLongWrite p => exact .serve paramSetSpec_intact
  | lasPowerMaxWrite p => exact .serve paramSetSpec_intact
  | lasEmitMaskWrite p => exact .serve paramSetSpec_intact
  | ldgOriginWrite p => exact .serve paramSetSpec_intact
  | ringParamWrite p => exact .serve paramSetSpec_intact
  | streamReadWrite w =>
    cases w with
    | bar0 time i v =>
      unfold execStreamReadWrite
      exact .event fun h => .ite (.update h) h
    | param p => exact .serve paramSetSpec_intact
  | loopFlagsClear p => exact .serve paramSetSpec_intact
  | motDecelWrite p => exact .serve paramSetSpec_intact
  | motJerkWrite p => exact .serve paramSetSpec_intact
  | motLimitsWrite p => exact .serve paramSetSpec_intact
  | fbkChannelCfgWrite p => exact .serve paramSetSpec_intact
  | fbkDividerWrite p => exact .serve paramSetSpec_intact
  | fbkSpareModeWrite p => exact .serve paramSetSpec_intact
  | imgPortCfgWrite p => exact .serve paramSetSpec_intact
  | imgSettingsWrite p => exact .serve paramSetSpec_intact
  | imgOutRelease p => exact .serve paramSetSpec_intact
  | emdBusCfgWrite p => exact .serve paramSetSpec_intact
  | emdLevelsWrite p => exact .serve paramSetSpec_intact
  | hlkPortCfgWrite p => exact .serve paramSetSpec_intact
  | netPortCfgWrite p => exact .serve paramSetSpec_intact
  | pairRoleWrite p => exact .serve paramSetSpec_intact
  | dmaChannelCfgWrite p => exact .serve paramSetSpec_intact
  | sqTailWrite time qp v => exact .event fun h => .sqTail h
  | cqHeadWrite time qp v => exact .event fun h => .cqHead h
  | qp0CfgWrite time reg v =>
    refine .event fun h => .ite h ?_
    cases reg with
    | sqBase => exact .qp0Base h
    | cqBase => exact .qp0Base h
    | cfg => exact .qp0Cfg h
    | mod n => exact .modWrite h
  | pauseWrite time v => exact .event fun h => .ite (.update h) h
  | bar0BadAccess time offset size write => exact .event fun h => .ite (.update h) h
  | dmaDoorbell time c w =>
    refine .event fun h => .ite h (.ite (.update h) ?_)
    split
    · exact .update h
    · exact .dmaDecide h
    · exact .update h
    · exact .update h
  | dmaRingHeadWrite time c v => exact .event fun h => .ite h (.ite (.update h) (.update h))
  | sqFetch time slot packet =>
    refine .event fun h => ?_
    split
    · exact .fetchSlot h
    · exact h
  | leaseCommit time slot ok => exact .event fun h => .leaseCommit h
  | fenceRelease time acc => exact .event fun h => .fenceRelease h
  | fenceTimeout time acc => exact .event fun h => .fenceTimeout h
  | cqEntryWrite time qp => exact .event fun h => .writeEntry h
  | moderationTimerExpire time v => exact .event fun h => .ite (.messageDue h) h
  | msixUnmask time w =>
    refine .event fun h => ?_
    dsimp only
    refine .ite (.flushMessages ?_) h
    split
    · exact .update h
    · exact .update h
  | functionD0Return time => exact .event fun h => .flushMessages (.flushHeld (.update h))
  | functionD3hotEntry time d3hot pmeEn => exact .event fun h => .update h
  | functionReset time => exact .event fun h => .functionReset h
  | udpDatagram time port src srcPort dstPort fragment payload => exact .event fun h => .datagram h
  | sessionTimeout time index => exact .event fun h => .sessionTimeout h
  | railsInWindow time => exact .eventReset fun h => State.railsIn_lawful h
  | railOutOfWindow time rail =>
    refine .eventReset fun h => ?_
    split
    · exact State.railOut_lawful h
    · exact h.lawful
  | supplyWarning time rail => exact .eventPowered fun h => .ite (.supplyWarn h) h
  | pwrfailAssert time lowNs => exact .eventPowered fun h => .pwrfail h
  | resetPin time lowNs => exact .eventReset fun h => State.resetPin_lawful h
  | junctionOver115 time die temp => exact .eventPowered fun h => .ite (.safeFrom (.update h)) h
  | junctionOver125 time die temp =>
    refine .eventReset fun h => ?_
    split
    · exact State.resetFrom_lawful (.update h)
    · exact h.lawful
  | watchdogReset time => exact .eventReset fun h => State.resetFrom_lawful h
  | resetRelease time b => exact .eventReset fun h => State.releaseReset_lawful h
  | interlockOpen time ch => exact .event fun h => .channelOpen h
  | interlockClose time ch => exact .event fun h => .channelClose h
  | intlkDiscrepancy time => exact .event fun h => .ite h (.update h)
  | witnessPin time => exact .event fun h => .ite (.update h) h
  | witnessTimeout time => exact .event fun h => .ite (.update h) h
  | islandFault time island set => exact .event fun h => .islandFault h
  | islandSelfTestEnd time island pass => exact .event fun h => .islandTested h
  | fwStandbyReady time => exact .event fun h => .standbyReady h
  | fwQuiescentPoint time incomingFault => exact .event fun h => .quiescent h
  | fwCommitDone time flashOk => exact .event fun h => .commitDone h
  | quireLoadStart time => exact .event fun h => .quireLoadStart h
  | signatureLoadEnd time => exact .event fun h => .loadEnd h
  | longSegmentFree time => exact .event fun h => .segmentFree h
  | exposeStart time => exact .event fun h => .tryExpose h
  | slotBoundary time => exact .event fun h => .slotBoundary h
  | loopDeadlineMiss time l => exact .event fun h => .ite (.loopMiss h) h
  | sampleUp time head frame => exact .event fun h => .sampleUp h
  | sampleMissing time head i => exact .event fun h => .sampleMissing h
  | frameResult time head => exact .event fun h => .frameDone h
  | frameTruncated time head => exact .event fun h => .frameCut h
  | mpsFlushTimeout time => exact .event fun h => .ite (.mpsFlush h) h
  | mpsRingWrite time => exact .event fun h => .mpsRingWrite h
  | hostRingCopy time i => exact .event fun h => .hostCopy h
  | linkLoss time head lock => exact .event fun h => .ite (.linkLoss h) (.ite (.linkLoss h) h)
  | cfgAckTimeout time head =>
    refine .event fun h => ?_
    split
    · exact .ite (.linkLoss h) h
    · exact h
  | blockLockLost time head =>
    refine .event fun h => ?_
    split
    · exact .update (.toAcquire h)
    · exact .update (.toAcquire h)
    · exact .update (.toAcquire h)
    · exact h
  | blockLockHeld time head => exact .event fun h => .ite (.update h) h
  | capDownSend time head => exact .event fun h => .ite (.update h) h
  | capUp time head frame => exact .event fun h => .capUp h
  | echoDownSend time head => exact .event fun h => .ite (.update h) h
  | echoUp time head frame => exact .event fun h => .echoUp h
  | trainingTimeout time head => exact .event fun h => .ite (.toAcquire h) h
  | loopbackEnd time head bits errors =>
    refine .event fun h => ?_
    split
    · exact .ite (.complete (.toAcquire h)) h
    · exact h
  | kettleFence time => exact .event fun h => .ite (.kettleFence h) h
  | kettleTimeout time => exact .event fun h => .kettleTimeout h
  | triggerDue time p => exact .event fun h => .triggerDue h
  | kettleEnd time => exact .event fun h => .kettleEnd h
  | recoatStart time => exact .event fun h => .recoatStart h
  | recoatEnd time => exact .event fun h => .recoatEnd h
  | imageEnd time => exact .event fun h => .imageEnd h
  | frameTimeout time p => exact .event fun h => .frameTimeout h
  | cxpSof time p fmt w head => exact .event fun h => .startOfFrame h
  | stripeArrival time p => exact .event fun h => .stripeArrives h
  | stripeReturn time p => exact .event fun h => .stripeReturns h
  | pipelineStripeDone time => exact .event fun h => .stripeDone h
  | cxpControlAck time p valid code data => exact .event fun h => .camAck h
  | cxpControlTimeout time p => exact .event fun h => .camTimeout h
  | cxpDiscovery time p ok speed => exact .event fun h => .discovered h
  | cxpLinkLoss time p => exact .event fun h => .cxpLost h
  | cxpEventPacket time p bytes => exact .event fun h => .ite (.update (.update h)) h
  | cxpHeartbeat time => exact .event fun h => .ite (.foldl (fun _ h' => .ite (.update h') h') (.update h)) h
  | axisTick time => exact .event fun h => .motionTick h
  | moveInPosition time a => exact .event fun h => .moveEnds h
  | positionReestablish time a =>
    refine .event fun h => ?_
    split
    · exact .ite (.update h) h
    · exact h
  | motFaultPin time a low => exact .event fun h => .ite (.axisFault (.update h)) (.update h)
  | syncInEdge time i =>
    refine .event fun {u v} h => ?_
    obtain ⟨ho, -, hm⟩ := Intact.syncInEmd (i := i)
      (Intact.update (Intact.refl { v with dt := roundNat v.dt 20 * 20 }) : Intact _ (State.syncInMotion i { v with dt := roundNat v.dt 20 * 20 }))
    obtain ⟨ho', hd', hm', hf'⟩ := h
    exact ⟨ho.trans ho', hd', fun hw => hm.1 (hm' hw), fun hw => hm.2 (hf' hw)⟩
  | sincosConversion time c sc cc => exact .event fun h => .sinCos h
  | quadEdge time c a b => exact .event fun h => .quadEdge h
  | quadIndex time c => exact .event fun h => .quadIndex h
  | ssiFrameEnd time c raw extra good latch => exact .event fun h => .ssiFrame h
  | trimPeriod time => exact .event fun h => .trimPeriod h
  | trimHandover time maxDiff pairError => exact .event fun h => .trimHandover h
  | trimFit time codes => exact .event fun h => .trimFit h
  | trimHandback time maxDiff pairError => exact .event fun h => .trimHandback h
  | sweeperTick time => exact .event fun h => .ite h (.update h)
  | ldgReadoutCopy time i => exact .event fun h => .readoutCopy h
  | ldgSnapshotLoaded time => exact .event fun h => .snapLoaded h
  | emdLatchDue time b => exact .event fun h => .latchDue h
  | emdRefreshLatch time b => exact .event fun h => .refreshLatch h
  | emdTransferEnd time b replies => exact .event fun h => .transferEnd h
  | emdStatusPoll time b d reply => exact .event fun h => .ite (.driverReply (.emdSend h)) h
  | dmaDescriptorFetch time c bytes => exact .event fun h => .ite (.dmaFetched h) h
  | dmaBurstEnd time c src dst => exact .event fun h => .ite (.dmaBurst h) h
  | dmaDescriptorEnd time c => exact .event fun h => .ite (.dmaEnd h) h
  | dmaLinkReadReturn time c w => exact .event fun h => .ite (.dmaLink h) h
  | dmaReadFailed time c => exact .event fun h => .ite (.dmaReadFailed h) h
  | periphRequest time e => exact .event fun h => .ite (.periphRequest h) h
  | periphWithdraw time e c n bytes => exact .event fun h => .ite (.periphWithdraw h) h
  | sourceLevelChange time n level => exact .event fun h => .ite (.sourceLevel h) h
  | sourceTake time c wake => exact .event fun h => .ite (.takeSource h) h
  | eoiWrite time c v => exact .event fun h => .ite (.eoi h) h
  | routeWrite time n v => exact .event fun h => .ite h (.ite (.update (.update h)) (.update h))
  | coreOnlineWrite time c v => exact .event fun h => .ite h (.ite (.coreWrite h) (.update (.coreWrite h)))
  | swiWrite time v => exact .event fun h => .sourceLevel h
  | storeUncorrectable time store offset reader part => exact .event fun h => .ite h (.storeError h)
  | storeCorrectable time store offset => exact .event fun h => .ite h (.update (.update h))
  | scrubRead time store => exact .event fun h => .ite (.update h) h
  | rowRepair time store row =>
    refine .event fun h => ?_
    dsimp only
    refine .ite h (.ite (.update h) ?_)
    split
    · exact .update (.update (.update h))
    · exact .update h
  | dramCorrected time ch rank sub dev => exact .event fun h => .ite (.lineCorrected h) h
  | dramPoison time addr => exact .event fun h => .dramPoison h
  | refreshDue time ch rank burst stall => exact .event fun h => .ite (.update h) h
  | retrainPause time ch margin stall => exact .event fun h => .ite (.pause h) h
  | neighbourRefresh time ch rank bank acts => exact .event fun h => .ite (.update h) h
  | rfmIssue time ch rank bank raaimt forced stall => exact .event fun h => .ite (.update h) h
  | refreshWindowClear time ch => exact .event fun h => .ite (.update h) h
  | migrationBlock time ok => exact .event fun h => .migrateBlock h
  | migrationEnd time => exact .event fun h => .migrateEnd h
  | ethFrame time p good frame => exact .event fun h => .ite (.frameIn h) h
  | ptpMessage time p master utc offset =>
    refine .event fun h => ?_
    dsimp only
    refine .ite h ?_
    split
    · exact .offsetMeasured (.update h)
    · exact .update h
  | timeHoldover time => exact .event fun h => .holdover h
  | refclkBad time i => exact .eventPowered fun h => .ite (.refBad h) h
  | refclkGood time i => exact .eventPowered fun h => .ite (.refGood h) h
  | peerCap time frame => exact .event fun h => .peerMsg (fun h' => .capGot h') h
  | pairCapRetry time => exact .event fun h => .ite (.sendCap h) h
  | peerEcho time frame => exact .event fun h => .peerMsg (fun h' => .echoGot h') h
  | peerOffsetEchoTimer time => exact .event fun h => .ite (.sendEcho h) h
  | peerSlot time frame => exact .event fun h => .slotArrived h
  | peerCycle time frame => exact .event fun h => .peerMsg (fun h' => .cycleGot h') h
  | peerClaim time frame => exact .event fun h => .peerMsg (fun h' => .crossArrived h') h
  | peerRelease time frame => exact .event fun h => .peerMsg (fun h' => .ite (.crossArrived h') (.update h')) h
  | peerRelation time frame => exact .event fun h => .peerMsg (fun h' => .ite (.relationGot h') h') h
  | messageResend time seq => exact .event fun h => .peerResend h
  | peerLinkDown time => exact .event fun h => .peerDown h
  | eventArrival time i => exact .event fun h => .eventArrival h
  | freezeTimeout time =>
    refine .event fun h => ?_
    split
    · exact .ite (.unfreeze h) h
    · exact h
  | journalWriteEnd time ok =>
    refine .event fun {_ v} h => ?_
    have written := Intact.journalEnd (ok := ok) h
    split
    · exact h
    · split
      · exact h
      · split
        all_goals rename_i he; rw [he] at written
        · exact .journalResult written
        · exact written
  | compactionEnd time => exact .event fun h => .ite (.compact h) h
  | selfTestEnd time rowsTested failed margins => exact .event fun h => .selfTestEnd h
  | svcLoopbackEnd time iface index bits errors => exact .event fun h => .loopEnd h
  | peerLinkUp time => exact .event fun h => .peerUp h
  | stripeReady time p lines crcFails badLine ends => exact .event fun h => .stripeReady h
  | clkreqNAsserted time => exact .event fun h => .update h
  | ethPortLinkChange time p lock => exact .event fun h => .ite (.update h) h

/-- An empty queue counts device time (log entry 1). -/
theorem State.idle_lawful (s : State) : Lawful s s.idle := by
  unfold State.idle
  split
  · exact ⟨rfl, .inl (Nat.le_succ _), id, id⟩
  · exact ⟨rfl, .inl (Nat.le_refl _), id, id⟩

theorem step_lawful {s t : State} (h : step s = .next t) : Lawful s t := by
  unfold step at h
  split at h
  · cases h
    exact s.idle_lawful
  · next c rest _ =>
    obtain ⟨u, hu, -, hl⟩ := exec_completes c { s with pending := rest }
    cases hu.symm.trans h
    exact hl

/-- Settles O5: only the reset sources write device time beside the wrapper of an event (R15). -/
theorem deviceTimeNeverDecreases : Obligations.DeviceTimeNeverDecreases := fun _ _ h => (step_lawful h).2.1

/-- Settles O59: the one write and the one erasure of a memory keep its canonical form (log entry 3). -/
theorem memoryStaysCanonical : Obligations.MemoryStaysCanonical := by
  intro s t h hm hf
  obtain ⟨-, -, dram, flash⟩ := step_lawful h
  exact ⟨dram hm, flash hf⟩

/-- Settles O60: no operation writes OTP (R538). -/
theorem otpNeverChanges : Obligations.OtpNeverChanges := fun _ _ h => (step_lawful h).1

/-- Settles O4, from what every command's row does. -/
theorem everyCommandCompletes : Obligations.EveryCommandCompletes := by
  intro c s
  obtain ⟨t, ht, hp, -⟩ := exec_completes c s
  exact ⟨t, ht, hp⟩

end Sys2Proof.Machine
end

section
/-! PROOFS. A step and the queue it takes its command from. -/

namespace Sys2Proof.Machine

/-- Settles O1. -/
theorem stepTakesFront : Obligations.StepTakesFront := fun _ _ => rfl

/-- Idling counts device time where the device is up, and sends nothing (log entry 1). -/
theorem State.idle_eq (s : State) :
    s.idle = { s with dt := if s.cyc.state = .off ∨ s.cyc.state = .reset then s.dt else s.dt + 1, tx := [] } := by
  unfold State.idle State.up
  cases s.cyc.state <;> rfl

/-- Settles O2: by the state an idling block is in, and by the guard of every event (log entries 1 and 6). -/
theorem deviceIdles : Obligations.DeviceIdles := by
  refine ⟨fun s hq => ?_, fun c p s hdown => ?_⟩
  · have idles : step s = .next s.idle := by
      unfold step
      split
      · rfl
      · next hc => exact absurd (hq.symm.trans hc) (List.cons_ne_nil _ _).symm
    rw [idles, s.idle_eq]
  · unfold serve State.event
    rw [if_neg (ne_true_of_eq_false hdown)]
    rfl

end Sys2Proof.Machine
end

section
/-! PROOFS. Rejection and authentication (R23, R393). -/

namespace Sys2Proof.Machine

/-- `t` is `s` but for the host interface, whose key slots are as they were, the event records on their way, and what is sent. -/
def Refused (s t : State) : Prop :=
  ∃ g a x, t = { s with host := g, recorder := { s.recorder with arriving := a }, tx := x } ∧ g.keys = s.host.keys

theorem Refused.refl (s : State) : Refused s s := ⟨_, _, _, rfl, rfl⟩

theorem Refused.trans {s t u : State} (h : Refused s t) (g : Refused t u) : Refused s u := by
  obtain ⟨_, _, _, rfl, hk⟩ := h
  obtain ⟨_, _, _, rfl, hk'⟩ := g
  exact ⟨_, _, _, rfl, hk'.trans hk⟩

theorem Replied.refused {s t : State} (h : Replied s t) : Refused s t := by
  obtain ⟨_, _, _, _, _, rfl⟩ := h
  exact ⟨_, _, _, rfl, rfl⟩

theorem State.countAuth_refused (op st : Nat) (p : Packet) (s : State) : Refused s (s.countAuth op st p) := ⟨_, _, _, rfl, rfl⟩

theorem State.setVersion_refused (o : Origin) (v : Nat) (s : State) : Refused s (s.setVersion o v) := by
  unfold State.setVersion
  split <;> exact ⟨_, _, _, rfl, rfl⟩

theorem State.tagMatch_refused {p : Packet} {s t : State} (h : s.tagMatch p = some t) : Refused s t := by
  unfold State.tagMatch at h
  repeat' split at h
  all_goals cases h
  · exact .refl s
  · exact ⟨_, _, _, rfl, rfl⟩
  · exact .refl s

/-- A rejection that writes no record of its own counts an authentication failure at most, and answers (R23). -/
theorem reject_refused {c : CmdSpec} (hc : ∀ st s, c.onReject p st s = s) (st : Nat) (s : State) : Refused s (reject c p st s) := by
  have counted : Refused s (if isAuthStatus st then s.countAuth c.opcode st p else s) := by
    split
    · exact State.countAuth_refused _ _ _ s
    · exact .refl s
  unfold reject
  rw [hc]
  exact counted.trans (State.answer_replied _ _ _ _ _ _).refused

/-- A command that starts and fails a check is rejected. -/
theorem start_of_checkFail {c : CmdSpec} {leased : Bool} {acc v st : Nat} {p : Packet} {s : State}
    (hv : fixVersion (s.fixedVersion p.origin) p.version = some v) (hst : checkFail c acc v p (s.setVersion p.origin v) = some st) :
    start c leased acc p s = reject c p st (s.setVersion p.origin v) := by
  unfold start
  rw [hv]
  dsimp only
  rw [hst]

/-- A packet that would be rejected is dropped, answered from a stored reply, made to wait, or rejected: each leaves the device alone. -/
theorem accept_refused {c : CmdSpec} {p : Packet} {st : Nat} {s : State} (hc : ∀ st s, c.onReject p st s = s)
    (hst : checkFail c s.host.nextAcc (versionFor p s) p (taken p s) = some st)
    (hv : (fixVersion ((s.at p.t).fixedVersion p.origin) p.version).isSome) : Refused (s.at p.t) (accept c p (s.at p.t)) := by
  unfold accept
  split
  · exact .refl _
  · split
    · next u hu => exact State.tagMatch_refused hu
    · dsimp only
      split
      · exact ⟨_, _, _, rfl, rfl⟩
      · have numbered : Refused (s.at p.t) { s.at p.t with host := { (s.at p.t).host with nextAcc := (s.at p.t).host.nextAcc + 1 } } :=
          ⟨_, _, _, rfl, rfl⟩
        obtain ⟨v, hv⟩ := Option.isSome_iff_exists.mp hv
        have hfor : versionFor p s = v := by simp [versionFor, hv]
        subst hfor
        have hfix : ({ s.at p.t with host := { (s.at p.t).host with nextAcc := (s.at p.t).host.nextAcc + 1 } } : State).fixedVersion p.origin =
            (s.at p.t).fixedVersion p.origin := by
          unfold State.fixedVersion
          split <;> rfl
        have rejected := start_of_checkFail (c := c) (leased := false) (st := st) ((congrArg (fixVersion · p.version) hfix).trans hv) hst
        refine Eq.subst (motive := Refused (s.at p.t)) rejected.symm ?_
        exact (numbered.trans (State.setVersion_refused _ _ _)).trans (reject_refused hc st _)

/-- Settles O6: the answer, the count of authentication failures and its record are all that a rejection leaves (R23, R393). -/
theorem rejectionHasNoEffect : Obligations.RejectionHasNoEffect := by
  intro c p st s hup hc hst hv
  obtain ⟨g, a, x, ht, hk⟩ := accept_refused hc hst hv
  refine ⟨g, a, x, ?_, hk⟩
  unfold serve State.event
  rw [if_pos hup, ht]
  rfl

/-- Settles O8: the order KEY, AUTH, REPLAY is that of the list of checks (R23, R393). -/
theorem authenticationOrder : Obligations.AuthenticationOrder := by
  refine fun op acc crit p s => ⟨fun hn => by simp [authFail, hn], fun t ht => ?_⟩
  unfold authFail
  rw [ht]
  dsimp only
  generalize s.host.keys.getD t.slot {} = k
  refine ⟨fun hbad => ?_, fun hslot hact => ?_⟩
  · rcases hbad with h | h <;> simp [firstFail, h]
  · have hin : ¬7 < t.slot := Nat.not_lt.mpr hslot
    refine ⟨fun hmac => by simp [firstFail, hact, hin, hmac], fun hmac => ⟨fun hle => ?_, fun hlt => ?_⟩⟩
    · simp [firstFail, hact, hin, ← hmac, hle]
    · simp [firstFail, hact, hin, ← hmac, Nat.not_le.mpr hlt]

end Sys2Proof.Machine
end

section
/-! PROOFS. The layer cycle's commands (01), and what the head ports' moves leave alone (13). -/

namespace Sys2Proof.Machine

/-- A relation that every step of a fold keeps holds after the fold. -/
theorem foldl_related {β : Type} {R : State → State → Prop} (refl : ∀ s, R s s) (trans : ∀ {s t u}, R s t → R t u → R s u)
    {f : State → β → State} (hf : ∀ s b, R s (f s b)) (l : List β) (s : State) : R s (l.foldl f s) := by
  induction l generalizing s with
  | nil => exact refl s
  | cons b l ih => exact trans (hf s b) (ih (f s b))

/-- A completion changes the host interface and what is sent, and nothing else. -/
theorem Replied.exists_eq {s t : State} (h : Replied s t) : ∃ g x, t = { s with host := g, tx := x } := by
  obtain ⟨_, _, _, _, _, e⟩ := h
  exact ⟨_, _, e⟩

/-! The head ports. -/

/-- `t` is `s` but for the head ports and the tracks of their axes. -/
def Relinked (s t : State) : Prop := ∃ f g, t = { s with fbk := f, head := g }

theorem Relinked.refl (s : State) : Relinked s s := ⟨_, _, rfl⟩

theorem Relinked.trans {s t u : State} (h : Relinked s t) (g : Relinked t u) : Relinked s u := by
  obtain ⟨_, _, rfl⟩ := h
  obtain ⟨_, _, rfl⟩ := g
  exact ⟨_, _, rfl⟩

theorem State.startTracks_relinked (h : Nat) (declared : Nat → Bool) (s : State) : Relinked s (s.startTracks h declared) :=
  foldl_related Relinked.refl Relinked.trans (fun _ _ => ⟨_, _, rfl⟩) _ _

theorem State.portLeaves_relinked (h : Nat) (s : State) : Relinked s (s.portLeaves h) :=
  (s.startTracks_relinked h _).trans ⟨_, _, rfl⟩

theorem State.toAcquire_relinked (h : Nat) (s : State) : Relinked s (s.toAcquire h) := (s.portLeaves_relinked h).trans ⟨_, _, rfl⟩

theorem State.toDisabled_relinked (h : Nat) (s : State) : Relinked s (s.toDisabled h) := (s.portLeaves_relinked h).trans ⟨_, _, rfl⟩

theorem State.portFollow_relinked (h : Nat) (s : State) : Relinked s (s.portFollow h) := by
  unfold State.portFollow
  dsimp only
  split
  · exact s.toAcquire_relinked h
  · split
    · exact s.toDisabled_relinked h
    · exact .refl s

theorem State.portsFollow_relinked (s : State) : Relinked s s.portsFollow :=
  foldl_related Relinked.refl Relinked.trans (fun s h => s.portFollow_relinked h) _ _

theorem State.retrain_relinked (h : Nat) (s : State) : Relinked s (s.retrain h) := by
  unfold State.retrain
  split
  · exact s.toAcquire_relinked h
  · exact .refl s

@[simp] theorem Relinked.cyc_eq {s t : State} (h : Relinked s t) : t.cyc = s.cyc := by
  obtain ⟨_, _, rfl⟩ := h
  rfl

/-! The peer link. -/

/-- `t` is `s` but for the pair and what is sent. -/
def PeerTold (s t : State) : Prop := ∃ p x, t = { s with pair := p, tx := x }

theorem State.peerSend_told (type : Nat) (payload : List Byte) (s : State) : PeerTold s (s.peerSend type payload) := by
  unfold State.peerSend
  split
  · exact ⟨_, _, rfl⟩
  · exact ⟨_, _, rfl⟩

theorem PeerTold.trans {s t u : State} (h : PeerTold s t) (g : PeerTold t u) : PeerTold s u := by
  obtain ⟨_, _, rfl⟩ := h
  obtain ⟨_, _, rfl⟩ := g
  exact ⟨_, _, rfl⟩

theorem State.sendCap_told (s : State) : PeerTold s s.sendCap := .trans ⟨_, _, rfl⟩ (State.peerSend_told _ _ _)

theorem State.pairLink_told (s : State) : PeerTold s s.pairLink := by
  unfold State.pairLink
  dsimp only
  split
  · exact .trans ⟨_, _, rfl⟩ (State.sendCap_told _)
  · exact ⟨_, _, rfl⟩

theorem PeerTold.cyc_eq {s t : State} (h : PeerTold s t) : t.cyc = s.cyc := by
  obtain ⟨_, _, rfl⟩ := h
  rfl

/-! Profiles. -/

/-- Of the cycle, a profile in force changes the profile alone. -/
theorem State.selectProfile_cyc (q : Profile) (s : State) : (s.selectProfile q).cyc = { s.cyc with profile := q } := by
  unfold State.selectProfile
  extract_lets old s1 s2 s3 s4
  have h2 : s2.cyc = s1.cyc := by
    unfold s2
    split
    · rfl
    · exact (foldl_related Relinked.refl Relinked.trans (fun s h => s.retrain_relinked h) _ _).cyc_eq
  have h3 : s3.cyc = s2.cyc := s2.portsFollow_relinked.cyc_eq
  have h4 : s4.cyc = s3.cyc := by
    unfold s4
    split
    · rfl
    · rfl
  have selected : s4.cyc = { s.cyc with profile := q } := (h4.trans h3).trans h2
  split
  · exact s4.pairLink_told.cyc_eq.trans selected
  · exact selected

theorem profileSelect_reaches {p : Packet} {s : State} (h : startsNow profileSelectSpec p s = true) :
    Reaches (.profileSelect p) s fun t => t.cyc = { s.cyc with profile := fillProfile s.heads (readDescriptor p.params) } :=
  served_reach rfl h fun _ _ _ _ => State.selectProfile_cyc _ _

/-! Layer counts, phases and boundaries. -/

theorem State.waitAt_cyc (b : Boundary) (go : Bool) (s : State) :
    (s.waitAt b go).cyc = if go then { s.cyc with boundary := some b } else s.cyc := by
  unfold State.waitAt
  split <;> rfl

theorem State.cycleRun_counts (n : Nat) (s : State) :
    (s.cycleRun n).cyc.layersLeft = n ∧ (s.cyc.phase = .idle → 0 < n → (s.cycleRun n).cyc.phase = .load) := by
  unfold State.cycleRun
  dsimp only
  split
  · rw [State.waitAt_cyc]
    split <;> exact ⟨rfl, fun _ _ => rfl⟩
  · next h => exact ⟨rfl, fun hp hn => absurd ⟨hp, hn⟩ h⟩


/-- `t` is `s` but for the cameras, the axes, the emitter buses and what is sent: what the start of a phase asks of them. -/
def Triggered (s t : State) : Prop := ∃ i m e x, t = { s with img := i, mot := m, emd := e, tx := x }

theorem Triggered.refl (s : State) : Triggered s s := ⟨_, _, _, _, rfl⟩

theorem Triggered.trans {s t u : State} (h : Triggered s t) (g : Triggered t u) : Triggered s u := by
  obtain ⟨_, _, _, _, rfl⟩ := h
  obtain ⟨_, _, _, _, rfl⟩ := g
  exact ⟨_, _, _, _, rfl⟩

theorem Triggered.foldl {β : Type} {f : State → β → State} (hf : ∀ s b, Triggered s (f s b)) (l : List β) (s : State) :
    Triggered s (l.foldl f s) :=
  foldl_related Triggered.refl Triggered.trans hf l s

theorem State.triggerRole_triggered (role dt0 : Nat) (s : State) : Triggered s (s.triggerRole role dt0) := by
  refine .foldl (fun s p => ?_) _ _
  dsimp only
  split <;> exact ⟨_, _, _, _, rfl⟩

theorem State.lightTriggers_triggered (port roleBit : Nat) (dts : List Nat) (s : State) : Triggered s (s.lightTriggers port roleBit dts) := by
  refine .foldl (fun s b => ?_) _ _
  dsimp only
  split
  · exact ⟨_, _, _, _, rfl⟩
  · exact .refl s

theorem State.phaseTriggers_triggered (role : Nat) (s : State) : Triggered s (s.phaseTriggers role) :=
  (s.triggerRole_triggered role s.dt).trans (.foldl (fun _ _ => State.lightTriggers_triggered _ _ _ _) _ _)

theorem State.syncEvent_triggered (source : Nat) (ok : Nat → Bool) (s : State) : Triggered s (s.syncEvent source ok) := by
  refine .foldl (fun s o => ?_) _ _
  dsimp only
  split
  · exact ⟨_, _, _, _, rfl⟩
  · exact .refl s

theorem State.phaseEmd_triggered (code : Nat) (s : State) : Triggered s (s.phaseEmd code) :=
  .foldl (fun _ _ => ⟨_, _, _, _, rfl⟩) _ _

/-- A phase that begins changes the cycle by its phase alone. -/
theorem State.beginPhase_triggered (p : Phase) (s : State) :
    Triggered { s with cyc := { s.cyc with phase := p, phaseDone := false, asked := none } } (s.beginPhase p) := by
  refine .trans (.trans ?_ (State.syncEvent_triggered 1 (fun e => byteField e 2 1 == p.code) _)) (State.phaseEmd_triggered p.code _)
  cases p
  case kettle => exact .trans ⟨_, _, _, _, rfl⟩ (State.phaseTriggers_triggered _ _)
  case image => exact .trans ⟨_, _, _, _, rfl⟩ (State.phaseTriggers_triggered _ _)
  all_goals exact ⟨_, _, _, _, rfl⟩

theorem State.beginPhase_cyc (p : Phase) (s : State) :
    (s.beginPhase p).cyc = { s.cyc with phase := p, phaseDone := false, asked := none } := by
  obtain ⟨_, _, _, _, e⟩ := s.beginPhase_triggered p
  rw [e]

theorem State.beginPhase_gut (p : Phase) (s : State) : (s.beginPhase p).gut = s.gut := by
  obtain ⟨_, _, _, _, e⟩ := s.beginPhase_triggered p
  rw [e]

/-- A boundary that is released is waited at no more, and no loss is waited for (R32). -/
theorem State.release_boundary {s : State} (hb : s.cyc.boundary.isSome) : s.release.cyc.boundary = none ∧ s.release.gut.lossWait = false := by
  obtain ⟨b, hb⟩ := Option.isSome_iff_exists.mp hb
  unfold State.release
  rw [hb]
  dsimp only
  split
  · rw [State.beginPhase_cyc, State.beginPhase_gut]
    exact ⟨rfl, rfl⟩
  · exact ⟨rfl, rfl⟩

theorem State.cycleStop_layersLeft (s : State) : s.cycleStop.cyc.layersLeft = 0 := by
  unfold State.cycleStop
  dsimp only
  split <;> rfl

/-- A command that starts and is done at once leaves its run's state but for replies. -/
theorem served_done {c : CmdSpec} {p : Packet} {s u : State} {i : Instr} {st : Nat} {r : List Byte} {P : State → Prop} (hx : exec i s = serve c p s)
    (h : startsNow c p s = true) (hr : c.run s.host.nextAcc p (running c p s) = (u, .done st r))
    (hP : ∀ t, Replied u t → P { t with dt := max s.dt p.t, pending := s.pending }) : Reaches i s P := by
  have ran : runCmd c s.host.nextAcc p (taken p s) = u.complete s.host.nextAcc st r := by
    unfold runCmd
    dsimp only
    split
    all_goals next he => cases he.symm.trans hr <;> rfl
  exact ⟨_, (hx.trans (serve_startsNow h)).trans (by rw [ran]), hP _ (State.complete_replied _ _ _ u)⟩

/-- Settles O10: the run of each command, and what it does to the cycle (R32 to R34, R41, R44, R556). -/
theorem cycleCommandsAct : Obligations.CycleCommandsAct := by
  refine ⟨fun p s => ⟨profileSelect_reaches, fun h => served_of rfl h s fun _ _ => rfl⟩,
    fun p s => ⟨fun h => ?run, fun h hp => ?phase, fun h hb => ?release, fun h => ?stop⟩, fun p s h => ?reset⟩
  case run => exact served_reach rfl h fun _ _ _ _ => State.cycleRun_counts _ _
  case phase =>
    have hcode : Phase.ofCode (p.fld 0 1) = .expose := by rw [hp]; rfl
    refine served_reach rfl h fun _ _ _ _ => ?_
    simp only [cyclePhaseSpec, hcode]
    rfl
  case release => exact served_reach rfl h fun _ _ _ _ => State.release_boundary hb
  case stop => exact served_reach rfl h fun _ _ _ _ => State.cycleStop_layersLeft _
  case reset =>
    obtain ⟨g, q, hrun⟩ := running_eq deviceResetSpec p s
    refine served_done rfl h rfl fun t ht => ?_
    obtain ⟨_, _, _, _, _, rfl⟩ := ht
    rw [hrun]
    exact ⟨⟨_, _, _, rfl⟩, rfl⟩

end Sys2Proof.Machine
end

section
/-! PROOFS. Signature loads (02): from these O12. -/

namespace Sys2Proof.Machine

@[simp] theorem State.complete_sig (acc st : Nat) (r : List Byte) (s : State) : (s.complete acc st r).sig = s.sig := by
  obtain ⟨_, _, e⟩ := (State.complete_replied acc st r s).exists_eq
  rw [e]

@[simp] theorem State.retire_loading (id : Option Nat) (s : State) : (s.retire id).sig.loading = s.sig.loading := by
  cases id <;> rfl

@[simp] theorem State.loadAnswer_loading (l : Loading) (st : Nat) (r : List Byte) (s : State) :
    (s.loadAnswer l st r).sig.loading = s.sig.loading := by
  unfold State.loadAnswer
  split
  · rw [State.complete_sig]
  · split
    · split
      · rfl
      · rw [State.complete_sig]
    · rfl

@[simp] theorem State.setBank_loading (k : Nat) (f : Bank → Bank) (s : State) : (s.setBank k f).sig.loading = s.sig.loading := rfl

@[simp] theorem State.assignSegments_loading (s : State) : s.assignSegments.sig.loading = s.sig.loading := by
  unfold State.assignSegments
  split <;> rfl

/-- The free segments join those a bank has: a segment it has stays in its place (R70). -/
theorem State.assignSegments_segments {s : State} {k j : Nat} {x : Nat × Bool} (hj : (s.bank k).segments[j]? = some x) :
    (s.assignSegments.bank k).segments[j]? = some x := by
  unfold State.assignSegments
  split
  · exact hj
  · simp only [State.bank, State.setBank, updAt_getD]
    split
    · next h =>
      obtain ⟨rfl, -⟩ := h
      exact (List.getElem?_append_left (List.getElem?_eq_some_iff.mp hj).1).trans hj
    · exact hj

/-- A load starts into a bank with what its command or entry names (Table 02.17). -/
theorem State.startLoad_loading (k addr len : Nat) (quire : Option Nat) (acc : Nat) (s : State) :
    ∃ l, (s.startLoad k addr len quire acc).sig.loading = some l ∧ l.bank = k ∧ l.addr = addr ∧ l.len = len ∧ l.quire = quire := by
  unfold State.startLoad
  rw [State.assignSegments_loading]
  exact ⟨_, rfl, rfl, rfl, rfl, rfl⟩

theorem quireLoadStart_reaches {t k : Nat} {e : QuireEntry} {s : State} (hup : s.up = true)
    (hs : s.cyc.state = .ready ∨ s.cyc.state = .armed ∨ s.cyc.state = .hold) (hl : s.sig.loading = none) (hlong : s.long = false)
    (hn : s.nextLoad = some (e, k)) :
    Reaches (.quireLoadStart t) s fun u => ∃ l, u.sig.loading = some l ∧ l.bank = k ∧ l.addr = e.addr ∧ l.len = e.len ∧ l.quire = some e.id := by
  have starts : (s.at t).quireLoadStart = (s.at t).startLoad k e.addr e.len (some e.id) e.acc := by
    have hlong' : (s.at t).long = false := hlong
    have hn' : (s.at t).nextLoad = some (e, k) := hn
    unfold State.quireLoadStart
    rcases hs with h | h | h <;> simp [h, hl, hlong', hn']
  exact up_reaches rfl hup starts (State.startLoad_loading k e.addr e.len (some e.id) e.acc (s.at t))

/-- A load that ends is in progress no more, whether its image passes its checks or not (R62). -/
theorem State.loadEnd_loading {s : State} (hlong : s.long = false) : s.loadEnd.sig.loading = none := by
  unfold State.loadEnd
  split
  · next h => exact h
  · dsimp only
    split
    · split
      · rw [State.retire_loading]
      · rw [hlong]
        simp only [Bool.false_and, Bool.false_eq_true, if_false]
        split <;> (try rw [State.retire_loading]) <;> rw [State.loadAnswer_loading] <;> split <;> rfl
    · rw [State.retire_loading]

/-- A segment of the ACTIVE signature none of whose records is outstanding becomes free in EXPOSE (R71). -/
theorem State.segmentFree_frees {s : State} {k j n : Nat} (hk : s.activeBank = some k) (hlong : s.long = true) (hp : s.cyc.phase = .expose)
    (hl : k < s.sig.banks.length) (hj : (s.bank k).segments[j]? = some (n, false))
    (hout : ((s.outstandingRecords ++ (s.bank k).left).any fun i => i / 65536 == j) = false) :
    (s.segmentFree.bank k).segments[j]? = some (n, true) := by
  unfold State.segmentFree
  rw [hk, hlong]
  refine State.assignSegments_segments ?_
  simp only [State.bank, State.setBank, updAt_getD, hl, and_self, if_true, List.getElem?_map, List.getElem?_zipIdx]
  have hj' : (s.sig.banks.getD k {}).segments[j]? = some (n, false) := hj
  have hout' : ((s.outstandingRecords ++ (s.sig.banks.getD k {}).left).any fun i => i / 65536 == j) = false := hout
  simp only [hj', Option.map_some, Nat.zero_add, hp, hout']
  rfl

/-- Settles O12: what each event does to the load in progress and to the segments (R62, R71, R73). -/
theorem signatureEventsAct : Obligations.SignatureEventsAct := by
  refine fun t s hup => ⟨fun e k hs hl hlong hn => quireLoadStart_reaches hup hs hl hlong hn, fun _ hlong => ?_,
    fun k j n hk hlong hp hl hj hout => ?_⟩
  · exact event_of rfl hup (State.loadEnd_loading (s := s.at t) hlong)
  · exact event_of rfl hup (State.segmentFree_frees (s := s.at t) hk hlong hp hl hj hout)

end Sys2Proof.Machine
end

section
/-! PROOFS. Field-correction and ratio tables, the reads that store one image, and tables kept by layer (03, 05 to 07): O13 and O14. -/

namespace Sys2Proof.Machine

/-- `u` is a state in which the command of packet `p`, accepted in `s`, may run. -/
def Begun (p : Packet) (s u : State) : Prop :=
  ∃ g q, u = { s with
    dt := max s.dt p.t, tx := [], host := g, recorder := { s.recorder with journal := { s.recorder.journal with queue := q } } }

/-- What holds after the run of a command that starts, whatever serving its packet touches, is reached. -/
theorem served_begun {c : CmdSpec} {p : Packet} {s : State} {i : Instr} {P : State → Prop} (hx : exec i s = serve c p s)
    (h : startsNow c p s = true)
    (hP : ∀ u, Begun p s u → ∀ g x, P { (c.run s.host.nextAcc p u).1 with host := g, tx := x, dt := max s.dt p.t, pending := s.pending }) :
    Reaches i s P :=
  served_reach hx h fun g x hh q => hP _ ⟨hh, q, rfl⟩ g x

theorem State.setTrj_trj_same {s : State} {h : Nat} {f : TrjHead → TrjHead} (hl : h < s.head.trj.length) :
    (s.setTrj h f).trj h = f (s.trj h) := by
  simp only [State.trj, State.setTrj, updAt_getD, hl, and_self, if_true]

theorem State.setMps_mpsHead_same {s : State} {h : Nat} {f : MpsHead → MpsHead} (hl : h < s.mps.heads.length) :
    (s.setMps h f).mpsHead h = f (s.mpsHead h) := by
  simp only [State.mpsHead, State.setMps, updAt_getD, hl, and_self, if_true]

/-! A table is in force at once, or waits for KETTLE (R105, R178). -/

theorem trjFcLoad_now {p : Packet} {s : State} (h : startsNow trjFcLoadSpec p s = true) (hl : p.scope < s.head.trj.length)
    (hn : s.takesNow = true) :
    Reaches (.trjFcLoad p) s fun t => (t.trj p.scope).fc = some (fcOf (s.dramRead (tabAddr p) fcImageLen)) ∧ t.dram = s.dram := by
  refine served_begun rfl h fun u hu g x => ?_
  obtain ⟨hn, hl, hd⟩ : u.takesNow = true ∧ p.scope < u.head.trj.length ∧ u.dram = s.dram := by
    obtain ⟨_, _, rfl⟩ := hu
    exact ⟨hn, hl, rfl⟩
  have htab : u.dramRead (tabAddr p) fcImageLen = s.dramRead (tabAddr p) fcImageLen := by rw [State.dramRead, hd, State.dramRead]
  simp only [trjFcLoadSpec, hn, if_true]
  exact ⟨(congrArg TrjHead.fc (State.setTrj_trj_same hl)).trans (congrArg (some <| fcOf ·) htab), hd⟩

theorem trjFcLoad_later {p : Packet} {s : State} (h : startsNow trjFcLoadSpec p s = true) (hl : p.scope < s.head.trj.length)
    (hn : s.takesNow = false) :
    Reaches (.trjFcLoad p) s fun t =>
      (t.trj p.scope).fcLoad = some { acc := s.host.nextAcc, addr := tabAddr p } ∧ (t.trj p.scope).fc = (s.trj p.scope).fc := by
  refine served_begun rfl h fun u hu g x => ?_
  obtain ⟨hn, hl, ht⟩ : u.takesNow = false ∧ p.scope < u.head.trj.length ∧ u.trj p.scope = s.trj p.scope := by
    obtain ⟨_, _, rfl⟩ := hu
    exact ⟨hn, hl, rfl⟩
  simp only [trjFcLoadSpec, hn, Bool.false_eq_true, if_false]
  have loads := State.setTrj_trj_same (s := u) (f := fun x => { x with fcLoad := some { acc := s.host.nextAcc, addr := tabAddr p } }) hl
  exact ⟨congrArg TrjHead.fcLoad loads, (congrArg TrjHead.fc loads).trans (ht ▸ rfl)⟩

theorem mpsRatioLoad_now {p : Packet} {s : State} (h : startsNow mpsRatioLoadSpec p s = true) (hl : p.scope < s.mps.heads.length)
    (hn : s.takesNow = true) :
    Reaches (.mpsRatioLoad p) s fun t => (t.mpsHead p.scope).ratio =
      some { generation := field (s.dramRead (tabAddr p) 2176) 8 4, image := s.dramRead (tabAddr p) 2176 } ∧ t.dram = s.dram := by
  refine served_begun rfl h fun u hu g x => ?_
  obtain ⟨hn, hl, hd⟩ : u.takesNow = true ∧ p.scope < u.mps.heads.length ∧ u.dram = s.dram := by
    obtain ⟨_, _, rfl⟩ := hu
    exact ⟨hn, hl, rfl⟩
  have htab : u.dramRead (tabAddr p) 2176 = s.dramRead (tabAddr p) 2176 := by rw [State.dramRead, hd, State.dramRead]
  simp only [mpsRatioLoadSpec, hn, htab, if_true]
  exact ⟨congrArg MpsHead.ratio (State.setMps_mpsHead_same hl), hd⟩

theorem mpsRatioLoad_later {p : Packet} {s : State} (h : startsNow mpsRatioLoadSpec p s = true) (hl : p.scope < s.mps.heads.length)
    (hn : s.takesNow = false) :
    Reaches (.mpsRatioLoad p) s fun t => (t.mpsHead p.scope).ratioLoad = some { acc := s.host.nextAcc, addr := tabAddr p } := by
  refine served_begun rfl h fun u hu g x => ?_
  obtain ⟨hn, hl⟩ : u.takesNow = false ∧ p.scope < u.mps.heads.length := by
    obtain ⟨_, _, rfl⟩ := hu
    exact ⟨hn, hl⟩
  simp only [mpsRatioLoadSpec, hn, Bool.false_eq_true, if_false]
  exact congrArg MpsHead.ratioLoad (State.setMps_mpsHead_same hl)

/-! Reads of one image (R236, R413). -/

theorem trjFcRead_reaches {p : Packet} {s : State} (h : startsNow trjFcReadSpec p s = true) {f : FcTable} (hf : (s.trj p.scope).fc = some f) :
    Reaches (.trjFcRead p) s (Served p s (s.dramWrite (tabAddr p) (padTo fcImageLen (f.image.take fcImageLen)))) := by
  refine served_of rfl h _ fun g q => ?_
  simp only [trjFcReadSpec]
  split
  · next f' hf' => cases hf.symm.trans hf'; rfl
  · next hn => cases hf.symm.trans hn

theorem mpsRatioRead_reaches {p : Packet} {s : State} (h : startsNow mpsRatioReadSpec p s = true) {r : RatioTable}
    (hr : (s.mpsHead p.scope).ratio = some r) :
    Reaches (.mpsRatioRead p) s (Served p s (s.dramWrite (tabAddr p) (padTo 2176 (r.image.take 2176)))) := by
  refine served_of rfl h _ fun g q => ?_
  simp only [mpsRatioReadSpec]
  split
  · next r' hr' => cases hr.symm.trans hr'; rfl
  · next hn => cases hr.symm.trans hn

theorem loopCaptureRead_reaches {p : Packet} {s : State} (h : startsNow loopCaptureReadSpec p s = true) {c : Capture}
    (hc : s.captureOfLoop (p.fld 8 1) = some c) :
    Reaches (.loopCaptureRead p) s (Served p s
      (({ s with loop := { s.loop with captures := s.loop.captures.filter fun x => x.loop != c.loop } }).dramWrite (tabAddr p) c.image)) := by
  refine served_of rfl h _ fun g q => ?_
  simp only [loopCaptureReadSpec]
  split
  · next c' hc' => cases hc.symm.trans hc'; rfl
  · next hn => cases hc.symm.trans hn

/-- Settles O13: a load is in force at once or waits, and a read stores one image (R105, R178, R236, R413). -/
theorem imageTablesAct : Obligations.ImageTablesAct := by
  refine ⟨fun p s => ⟨fun h hl => ⟨trjFcLoad_now h hl, trjFcLoad_later h hl⟩, fun h hl => ⟨mpsRatioLoad_now h hl, mpsRatioLoad_later h hl⟩⟩,
    fun p s => ⟨fun h f hf => trjFcRead_reaches h hf, fun h r hr => mpsRatioRead_reaches h hr, fun h c hc => loopCaptureRead_reaches h hc,
      fun a b bs hb hw => ?_⟩⟩
  exact Mem.read_writeBytes_of_outside hw a bs b hb

/-- A table of length 0 or one without entries takes its layer's old one away. -/
theorem replaced_eq {α : Type} {c : Prop} [Decidable c] (others new : List α) :
    (if c then others else others ++ new) = others ++ if c then [] else new := by
  split
  · exact (List.append_nil others).symm
  · rfl

/-- Settles O14: each run is the change it names (R148, R168, R226, R233, R235, R494). -/
theorem layerTablesAct : Obligations.LayerTablesAct := by
  refine ⟨fun p s => ⟨fun h => ?replay, fun h => ?stitch, fun h => ?map, fun h => ?cross⟩, fun p s => ⟨fun h => ?inject, fun h => ?capture⟩⟩
  case stitch =>
    rw [← replaced_eq]
    exact served_of rfl h _ fun _ _ => rfl
  case cross =>
    rw [← replaced_eq]
    exact served_of rfl h _ fun _ _ => rfl
  all_goals exact served_of rfl h _ fun _ _ => rfl

end Sys2Proof.Machine
end

section
/-! PROOFS. The heat ledger (08): O15 and O16. -/

namespace Sys2Proof.Machine

@[simp] theorem State.complete_ledger (acc st : Nat) (r : List Byte) (s : State) : (s.complete acc st r).ledger = s.ledger := by
  obtain ⟨_, _, e⟩ := (State.complete_replied acc st r s).exists_eq
  rw [e]

@[simp] theorem State.complete_dram (acc st : Nat) (r : List Byte) (s : State) : (s.complete acc st r).dram = s.dram := by
  obtain ⟨_, _, e⟩ := (State.complete_replied acc st r s).exists_eq
  rw [e]

/-! Readouts. -/

theorem Ledger.setCell_readouts (l : Ledger) (c : LedgerCell) : (l.setCell c).readouts = l.readouts := by
  unfold Ledger.setCell
  split <;> rfl

theorem Ledger.sweepTo_readouts (u : Nat) (l : Ledger) : (l.sweepTo u).readouts = l.readouts := by
  unfold Ledger.sweepTo
  split <;> rfl

theorem Ledger.addHeat_readouts (dt idx heat : Nat) (l : Ledger) : (l.addHeat dt idx heat).1.readouts = l.readouts :=
  (Ledger.setCell_readouts _ _).trans (Ledger.sweepTo_readouts _ _)

/-- `t` is `s` but for the ledger, whose readouts are as they were. -/
def Deposited (s t : State) : Prop := ∃ l, t = { s with ledger := l } ∧ l.readouts = s.ledger.readouts

theorem Deposited.trans {s t u : State} (h : Deposited s t) (g : Deposited t u) : Deposited s u := by
  obtain ⟨_, rfl, hr⟩ := h
  obtain ⟨_, rfl, hr'⟩ := g
  exact ⟨_, rfl, hr'.trans hr⟩

theorem Deposited.refl (s : State) : Deposited s s := ⟨_, rfl, rfl⟩

/-- A deposit with the ledger that its heat leaves, `r`. -/
theorem deposit_deposited {s : State} {r : Ledger × Bool} (d : PeerDeposit) (h : r.1.readouts = s.ledger.readouts) :
    Deposited s { s with ledger := if r.2 && decide (d.head < 32) then { r.1 with sat := updAt r.1.sat d.head inc32 } else r.1 } := by
  refine ⟨_, rfl, ?_⟩
  split
  · exact h
  · exact h

theorem State.depositsTo_deposited (dt : Nat) (s : State) : Deposited s (s.depositsTo dt) := by
  unfold State.depositsTo
  split
  · exact .refl s
  · have due : Deposited s { s with ledger := { s.ledger with peer := s.ledger.peer.filter fun d => !(decide (d.key ≤ dt)) } } := ⟨_, rfl, rfl⟩
    exact due.trans (foldl_related Deposited.refl Deposited.trans
      (fun s d => deposit_deposited d (Ledger.addHeat_readouts d.key d.cell d.heat s.ledger)) _ _)

theorem ldgRead_reaches {p : Packet} {s : State} (h : startsNow ldgReadSpec p s = true) :
    Reaches (.ldgRead p) s fun t => ∃ r, t.ledger.readouts = s.ledger.readouts ++ [r] ∧ r.acc = s.host.nextAcc ∧ r.addr = tabAddr p ∧
      r.width = p.fld 12 2 ∧ r.height = p.fld 14 2 := by
  refine served_begun rfl h fun u hu g x => ?_
  obtain ⟨l, hd, hr⟩ := State.depositsTo_deposited u.dt u
  have kept : (u.depositsTo u.dt).ledger.readouts = s.ledger.readouts := by
    rw [hd]
    obtain ⟨_, _, rfl⟩ := hu
    exact hr
  refine ⟨_, congrArg (· ++ [_]) kept, ?_⟩
  split <;> exact ⟨rfl, rfl, rfl, rfl⟩

theorem readoutCopy_reaches {t i d : Nat} {r : Readout} {s : State} (hup : s.up = true) (hr : s.ledger.readouts[i]? = some r)
    (hd : r.at_ = some d) (hf : r.fence = false) :
    Reaches (.ldgReadoutCopy t i) s fun u =>
      u.ledger.readouts = s.ledger.readouts.eraseIdx i ∧ u.dram = s.dram.writeBytes dramDefault r.addr r.out := by
  have copies : (s.at t).readoutCopy i =
      (({ s.at t with ledger := { s.ledger with readouts := s.ledger.readouts.eraseIdx i } }).dramWrite r.addr r.out).complete r.acc stOk [] := by
    unfold State.readoutCopy
    simp only [State.at_ledger, hr, hd, hf, Bool.false_eq_true, if_false]
  refine up_reaches rfl hup copies ?_
  simp only [State.complete_ledger, State.complete_dram]
  exact ⟨rfl, rfl⟩

/-! Snapshots. -/

theorem snapshotLoad_reaches {p : Packet} {i : Nat} {s : State} (h : startsNow ldgSnapshotLoadSpec p s = true)
    (hs : s.snapSlot (leNat (s.dramRead (tabAddr p + 8) 4)) = some i) (hl : i < s.ledger.slots.length) :
    Reaches (.ldgSnapshotLoad p) s fun t =>
      (t.ledger.slots.getD i {}).state = .loading ∧ (t.ledger.slots.getD i {}).load = some (s.host.nextAcc, tabAddr p) := by
  refine served_begun rfl h fun u hu g x => ?_
  obtain ⟨hs, hl⟩ : u.snapSlot (leNat (u.dramRead (tabAddr p + 8) 4)) = some i ∧ i < u.ledger.slots.length := by
    obtain ⟨_, _, rfl⟩ := hu
    exact ⟨hs, hl⟩
  simp only [ldgSnapshotLoadSpec, hs, updAt_getD, hl, and_self, if_true]

/-- A snapshot that passes the checks of R253 and holds no poisoned line takes its slot. -/
theorem State.snapLoaded_valid {s : State} {i acc a : Nat} {x : SnapSlot}
    (hi : ((List.range 2).find? fun i => (s.ledger.slots.getD i {}).load.isSome) = some i) (hx : s.ledger.slots[i]? = some x)
    (hl : x.load = some (acc, a)) (hf : s.snapFail (s.dramRead a snapLen) = none) (hp : s.poisoned a snapLen = false) :
    (s.snapLoaded.ledger.slots.getD i {}).state = .valid ∧
      (s.snapLoaded.ledger.slots.getD i {}).layer = field (s.dramRead a snapLen) 8 4 := by
  have hlen : i < s.ledger.slots.length := (List.getElem?_eq_some_iff.mp hx).1
  have hx' : s.ledger.slots.getD i {} = x := by rw [List.getD_eq_getElem?_getD, hx, Option.getD_some]
  unfold State.snapLoaded
  rw [hi]
  dsimp only
  rw [hx', hl]
  dsimp only
  rw [hf, hp]
  simp only [Bool.false_eq_true, if_false, State.complete_ledger, updAt_getD, hlen, and_self, if_true]

/-! The sweeper. -/

theorem Ledger.sweepTo_sweptU {u : Nat} {l : Ledger} (hs : l.stopped = false) (hu : l.sweptU ≤ u) : (l.sweepTo u).sweptU = u := by
  unfold Ledger.sweepTo
  split
  · next h =>
    rcases h with h | h
    · exact absurd (h.symm.trans hs) (by decide)
    · exact Nat.le_antisymm hu h
  · rfl

theorem sweeperTick_reaches {t : Nat} {s : State} (hup : s.up = true) (ha : s.ldgAssisted = false) (hs : s.ledger.stopped = false)
    (hu : s.ledger.sweptU ≤ tickU t) (ht : s.dt ≤ t) : Reaches (.sweeperTick t) s fun u => u.ledger.sweptU = tickU t := by
  have hdt : (s.at t).dt = t := Nat.max_eq_right ht
  refine event_of (f := fun s => if s.ldgAssisted then s else { s with ledger := s.ledger.sweepTo (tickU s.dt) }) rfl hup ?_
  have ha' : (s.at t).ldgAssisted = false := ha
  dsimp only
  rw [ha', hdt]
  exact Ledger.sweepTo_sweptU hs hu

/-- Settles O15: a clear, a readout that waits, a slot that is taken (R244, R249, R251). -/
theorem ledgerCommandsAct : Obligations.LedgerCommandsAct := by
  refine ⟨fun p s h => ?clear, fun p s => ⟨ldgRead_reaches, fun h i hs hl => snapshotLoad_reaches h hs hl⟩⟩
  case clear => exact served_reach rfl h fun _ _ _ _ => ⟨rfl, rfl, rfl, rfl, _, rfl, rfl, rfl⟩

/-- Settles O16: a readout that is copied, a snapshot that is good, a sweep (R243, R249, R253). -/
theorem ledgerEventsAct : Obligations.LedgerEventsAct := by
  refine fun t s hup => ⟨fun i r d hr hd hf => readoutCopy_reaches hup hr hd hf, fun i x acc a hi hx hl hf hp => ?snap,
    fun ha hs hu ht => sweeperTick_reaches hup ha hs hu ht⟩
  case snap => exact event_of rfl hup (State.snapLoaded_valid (s := s.at t) hi hx hl hf hp)

end Sys2Proof.Machine
end

section
/-! PROOFS. What the operations of a state change touch: the log, the build record, the layer, the axes, the emission stage. -/

namespace Sys2Proof.Machine

/-! The recorder. -/

/-- `t` is `s` but for the recorder. -/
def Recorded (s t : State) : Prop := ∃ r, t = { s with recorder := r }

theorem Recorded.refl (s : State) : Recorded s s := ⟨_, rfl⟩

theorem Recorded.trans {s t u : State} (h : Recorded s t) (g : Recorded t u) : Recorded s u := by
  obtain ⟨_, rfl⟩ := h
  obtain ⟨_, rfl⟩ := g
  exact ⟨_, rfl⟩

theorem State.logOne_recorded (e : LogRec) (s : State) : Recorded s (s.logOne e).1 := by
  unfold State.logOne
  dsimp only
  repeat' split
  all_goals exact ⟨_, rfl⟩

/-- The end of a freeze changes the recorder alone (R511). -/
theorem State.unfreeze_recorded (s : State) : Recorded s s.unfreeze := by
  unfold State.unfreeze
  split
  · exact .refl s
  · refine Recorded.trans (foldl_related (R := Recorded) Recorded.refl Recorded.trans (fun s e => ?_) _ _) ⟨_, rfl⟩ |> Recorded.trans ⟨_, rfl⟩
    split
    · split
      · exact ⟨_, rfl⟩
      · dsimp only
        split
        · exact s.logOne_recorded e
        · exact (s.logOne_recorded e).trans ⟨_, rfl⟩
    · exact s.logOne_recorded e

/-! The emission stage. -/

/-- `t` is `s` but for what each head's emission stage has seen of its conditions (R137). -/
def EmitNoted (s t : State) : Prop := ∃ hs, t = { s with las := { s.las with heads := hs } }

theorem EmitNoted.trans {s t u : State} (h : EmitNoted s t) (g : EmitNoted t u) : EmitNoted s u := by
  obtain ⟨_, rfl⟩ := h
  obtain ⟨_, rfl⟩ := g
  exact ⟨_, rfl⟩

theorem State.noteEmit_noted (s : State) : EmitNoted s s.noteEmit := by
  refine foldl_related (R := EmitNoted) (fun s => ⟨s.las.heads, rfl⟩) EmitNoted.trans (fun s h => ?_) _ _
  exact ⟨_, rfl⟩

/-- A change of state sets the state and its cause, is recorded, and lets the emission stage follow (R35, R137). -/
theorem State.setState_eq (new : DevState) (cause : Nat) (s : State) :
    ∃ r hs, s.setState new cause = { s with
      cyc := { s.cyc with state := new, cause := cause }, recorder := r, las := { s.las with heads := hs } } := by
  obtain ⟨_, hr⟩ := s.unfreeze_recorded
  unfold State.setState
  dsimp only
  rw [hr]
  obtain ⟨_, he⟩ := State.noteEmit_noted _
  rw [he]
  exact ⟨_, _, rfl⟩

/-! The build record and the layer in exposure. -/

/-- `t` is `s` but for the layer, its gutters, the bank it is drawn from, and what the recorder and the stream of the build record keep of it. -/
def LayWritten (s t : State) : Prop :=
  ∃ l g sig r st m d, t = { s with lay := l, gut := g, sig := sig, recorder := r, streams := st, mem := m, dram := d }

theorem LayWritten.refl (s : State) : LayWritten s s := ⟨_, _, _, _, _, _, _, rfl⟩

theorem LayWritten.trans {s t u : State} (h : LayWritten s t) (g : LayWritten t u) : LayWritten s u := by
  obtain ⟨_, _, _, _, _, _, _, rfl⟩ := h
  obtain ⟨_, _, _, _, _, _, _, rfl⟩ := g
  exact ⟨_, _, _, _, _, _, _, rfl⟩

theorem LayWritten.ite {α : Type} {c : Prop} [Decidable c] {s : State} {a b : State × α} (ha : LayWritten s a.1) (hb : LayWritten s b.1) :
    LayWritten s (if c then a else b).1 := by
  split
  · exact ha
  · exact hb

theorem State.setStream_written (i : Nat) (f : Stream → Stream) (s : State) : LayWritten s (s.setStream i f) := ⟨_, _, _, _, _, _, _, rfl⟩

theorem State.ringPut_written (i : Nat) (bs : List Byte) (s : State) : LayWritten s (s.ringPut i bs) := ⟨_, _, _, _, _, _, _, rfl⟩

theorem State.append_written (i : Nat) (gap : Gap → List Byte) (keep : Bool) (bs : List Byte) (s : State) :
    LayWritten s (s.append i gap keep bs).1 :=
  .ite ((s.ringPut_written i _).trans (State.setStream_written i _ _)) (.ite (s.setStream_written i _) (s.setStream_written i _))

theorem State.buildEntry_written (type : Nat) (payload : List Byte) (s : State) : LayWritten s (s.buildEntry type payload) := by
  unfold State.buildEntry
  split
  · exact ⟨_, _, _, _, _, _, _, rfl⟩
  · exact (State.append_written 3 _ _ _ s).trans ⟨_, _, _, _, _, _, _, rfl⟩

theorem State.layOut_written (o : LayOut) (s : State) : LayWritten s (s.layOut o) := by
  cases o with
  | claim | interruption => exact State.buildEntry_written _ _ s
  | hold | wouldHold => exact .trans ⟨_, _, _, _, _, _, _, rfl⟩ (State.buildEntry_written _ _ _)
  | diverged => exact ⟨_, _, _, _, _, _, _, rfl⟩
  | unexposed =>
    refine .trans ?_ (State.buildEntry_written _ _ _)
    split <;> exact ⟨_, _, _, _, _, _, _, rfl⟩

theorem State.setLay_written (l : Lay) (s : State) : LayWritten s (s.setLay l) :=
  .trans ⟨_, _, _, _, _, _, _, rfl⟩ (foldl_related LayWritten.refl LayWritten.trans (fun s o => s.layOut_written o) _ _)

/-! The axes. -/

/-- `t` is `s` but for the axes, and for completions. -/
def Halted (s t : State) : Prop := ∃ m g x, t = { s with mot := m, host := g, tx := x }

theorem Halted.refl (s : State) : Halted s s := ⟨_, _, _, rfl⟩

theorem Halted.trans {s t u : State} (h : Halted s t) (g : Halted t u) : Halted s u := by
  obtain ⟨_, _, _, rfl⟩ := h
  obtain ⟨_, _, _, rfl⟩ := g
  exact ⟨_, _, _, rfl⟩

theorem Replied.halted {s t : State} (h : Replied s t) : Halted s t := by
  obtain ⟨_, _, rfl⟩ := h.exists_eq
  exact ⟨_, _, _, rfl⟩

theorem State.endMove_replied (acc : Option Nat) (st : Nat) (s : State) : Replied s (s.endMove acc st) := by
  unfold State.endMove
  split
  · exact State.complete_replied _ _ _ s
  · exact .refl s

theorem State.holdMotion_halted (s : State) : Halted s s.holdMotion := by
  refine .trans (foldl_related Halted.refl Halted.trans (fun s a => ?_) (List.range 8) s) ⟨_, _, _, rfl⟩
  dsimp only
  split
  · exact .trans ⟨_, _, _, rfl⟩ ((State.endMove_replied _ _ _).trans (State.endMove_replied _ _ _)).halted
  · exact .refl s

/-! HOLD. -/

/-- `t` is `s` in HOLD with `cause`: the cycle's other parts, device time, the parameters, the links and the imaging stand as they were. -/
def HoldEntered (cause : Nat) (s t : State) : Prop :=
  ∃ l g sig r st m d mo ho x p hs, t = { s with
    lay := l, gut := g, sig := sig, recorder := r, streams := st, mem := m, dram := d, mot := mo, host := ho, tx := x, pair := p
    las := { s.las with heads := hs }, cyc := { s.cyc with state := .hold, cause := cause } }

theorem State.holdNow_entered (cause : Nat) (s : State) : HoldEntered cause s (s.holdNow cause) := by
  have laid : LayWritten s (if s.exposing then s.setLay (s.lay.enterHold s.layEnv) else s) := by
    split
    · exact s.setLay_written _
    · exact .refl s
  obtain ⟨_, _, _, _, _, _, _, hl⟩ := laid
  obtain ⟨_, _, _, hh⟩ := State.holdMotion_halted (if s.exposing then s.setLay (s.lay.enterHold s.layEnv) else s)
  obtain ⟨_, _, hs⟩ := State.setState_eq .hold cause (if s.exposing then s.setLay (s.lay.enterHold s.layEnv) else s).holdMotion
  unfold State.holdNow
  dsimp only
  rw [hs, hh, hl]
  exact ⟨_, _, _, _, _, _, _, _, _, _, _, _, rfl⟩

theorem State.tellPeer_told (event cause : Nat) (s : State) : PeerTold s (s.tellPeer event cause) := by
  unfold State.tellPeer
  split
  · exact State.peerSend_told _ _ s
  · exact ⟨_, _, rfl⟩

theorem State.enterHold_entered {cause : Nat} {s : State} (ha : s.cyc.state = .armed) : HoldEntered cause s (s.enterHold cause) := by
  obtain ⟨_, _, _, _, _, _, _, _, _, _, _, _, hh⟩ := s.holdNow_entered cause
  obtain ⟨_, _, ht⟩ := (s.holdNow cause).tellPeer_told evHold cause
  unfold State.enterHold
  rw [if_pos ha, ht, hh]
  exact ⟨_, _, _, _, _, _, _, _, _, _, _, _, rfl⟩

theorem State.enterHold_elsewhere {cause : Nat} {s : State} (ha : s.cyc.state ≠ .armed) : s.enterHold cause = s := if_neg ha

end Sys2Proof.Machine
end

section
/-! PROOFS. The interlock (04): O17. -/

namespace Sys2Proof.Machine

/-- The emission stage of `y` stands as that of `x`, but for what its heads have seen. -/
def SameChannels (x y : LasState) : Prop := ∃ hs, y = { x with heads := hs }

/-- What the opening of a channel leaves in the emission stage, before its heads see it. -/
def LasState.opened (ch dt : Nat) (x : LasState) : LasState :=
  ({ x with
    aClosed := x.aClosed && ch != 0
    bClosed := x.bClosed && ch == 0
    aOpen := if ch = 0 then dt else x.aOpen
    bOpen := if ch = 0 then x.bOpen else dt
    trip := true
    trips := if x.trip then x.trips else inc32 x.trips } : LasState).noteDiffer dt

theorem LasState.noteDiffer_kept (dt : Nat) (x : LasState) : ∃ d c b, x.noteDiffer dt = { x with differ := d, discrepancy := c, bothOpen := b } := by
  unfold LasState.noteDiffer
  dsimp only
  split <;> exact ⟨_, _, _, rfl⟩

theorem SameChannels.trans {x y z : LasState} (h : SameChannels x y) (g : SameChannels y z) : SameChannels x z := by
  obtain ⟨_, rfl⟩ := h
  obtain ⟨_, rfl⟩ := g
  exact ⟨_, rfl⟩

/-- An armed device is stopped in HOLD; elsewhere nothing of the cycle moves (R37). -/
theorem State.enterHold_acts (cause : Nat) (s : State) :
    SameChannels s.las (s.enterHold cause).las ∧
      (s.cyc.state = .armed → (s.enterHold cause).cyc.state = .hold ∧ (s.enterHold cause).cyc.cause = cause) ∧
      (s.cyc.state ≠ .armed → (s.enterHold cause).cyc = s.cyc) := by
  by_cases ha : s.cyc.state = .armed
  · obtain ⟨_, _, _, _, _, _, _, _, _, _, _, _, hh⟩ := State.enterHold_entered (cause := cause) ha
    rw [hh]
    exact ⟨⟨_, rfl⟩, fun _ => ⟨rfl, rfl⟩, fun hn => absurd ha hn⟩
  · rw [State.enterHold_elsewhere ha]
    exact ⟨⟨_, rfl⟩, fun h => absurd h ha, fun _ => rfl⟩

/-- A channel that opens: the emission stage, and HOLD with cause INTERLOCK for an armed device (R131, R132). -/
theorem State.channelOpen_opens {ch : Nat} {s : State} (hc : (if ch = 0 then s.las.aClosed else s.las.bClosed) = true) :
    SameChannels (s.las.opened ch s.dt) (s.channelOpen ch).las ∧
      (s.cyc.state = .armed → (s.channelOpen ch).cyc.state = .hold ∧ (s.channelOpen ch).cyc.cause = 2) ∧
      (s.cyc.state ≠ .armed → (s.channelOpen ch).cyc = s.cyc) := by
  have opens : s.channelOpen ch = (({ s with las := s.las.opened ch s.dt } : State).interlockEvent.noteEmit).enterHold causeInterlock := if_pos hc
  obtain ⟨hs, he⟩ := State.noteEmit_noted ({ s with las := s.las.opened ch s.dt } : State).interlockEvent
  rw [opens]
  generalize ({ s with las := s.las.opened ch s.dt } : State).interlockEvent.noteEmit = v at he ⊢
  have hcyc : v.cyc = s.cyc := he ▸ rfl
  obtain ⟨hl, hold, stays⟩ := v.enterHold_acts causeInterlock
  exact ⟨.trans ⟨hs, he ▸ rfl⟩ hl, fun ha => hold (hcyc ▸ ha), fun hn => (stays (hcyc ▸ hn)).trans hcyc⟩

theorem interlockOpen_reaches {t ch : Nat} {s : State} (hup : s.up = true) (hc : (if ch = 0 then s.las.aClosed else s.las.bClosed) = true) :
    Reaches (.interlockOpen t ch) s fun u => u.las.aClosed = (s.las.aClosed && ch != 0) ∧ u.las.bClosed = (s.las.bClosed && ch == 0) ∧
      u.las.aOpen = (if ch = 0 then max s.dt t else s.las.aOpen) ∧ u.las.bOpen = (if ch = 0 then s.las.bOpen else max s.dt t) ∧
      u.las.trip = true ∧ (s.cyc.state = .armed → u.cyc.state = .hold ∧ u.cyc.cause = 2) ∧ (s.cyc.state ≠ .armed → u.cyc = s.cyc) := by
  obtain ⟨⟨hs, hl⟩, hold, stays⟩ := State.channelOpen_opens (s := s.at t) hc
  obtain ⟨d, c, b, hd⟩ := LasState.noteDiffer_kept (max s.dt t) { s.las with
    aClosed := s.las.aClosed && ch != 0, bClosed := s.las.bClosed && ch == 0
    aOpen := if ch = 0 then max s.dt t else s.las.aOpen, bOpen := if ch = 0 then s.las.bOpen else max s.dt t
    trip := true, trips := if s.las.trip then s.las.trips else inc32 s.las.trips }
  have hlas : ((s.at t).channelOpen ch).las = _ := hl.trans (congrArg (fun x : LasState => { x with heads := hs }) hd)
  refine event_of rfl hup ⟨?_, ?_, ?_, ?_, ?_, hold, stays⟩
  all_goals exact (congrArg _ hlas).trans rfl

theorem State.channelClose_closes (ch : Nat) (s : State) : ∃ hs d c b, s.channelClose ch = { s with las := { s.las with
    aClosed := s.las.aClosed || ch == 0, bClosed := s.las.bClosed || ch != 0
    aOpen := if ch = 0 then 0 else s.las.aOpen, bOpen := if ch = 0 then s.las.bOpen else 0
    heads := hs, differ := d, discrepancy := c, bothOpen := b } } := by
  unfold State.channelClose
  dsimp only
  obtain ⟨_, _, _, hd⟩ := LasState.noteDiffer_kept s.dt { s.las with
    aClosed := s.las.aClosed || ch == 0, bClosed := s.las.bClosed || ch != 0
    aOpen := if ch = 0 then 0 else s.las.aOpen, bOpen := if ch = 0 then s.las.bOpen else 0 }
  rw [hd]
  obtain ⟨_, he⟩ := State.noteEmit_noted _
  rw [he]
  exact ⟨_, _, _, _, rfl⟩

theorem interlockClose_reaches {t ch : Nat} {s : State} (hup : s.up = true) : Reaches (.interlockClose t ch) s fun u =>
    u.las.aClosed = (s.las.aClosed || ch == 0) ∧ u.las.bClosed = (s.las.bClosed || ch != 0) ∧ u.las.trip = s.las.trip ∧
      u.cyc = s.cyc ∧ u.dram = s.dram := by
  obtain ⟨_, _, _, _, hc⟩ := (s.at t).channelClose_closes ch
  exact up_reaches rfl hup hc ⟨rfl, rfl, rfl, rfl, rfl⟩

theorem intlkDiscrepancy_reaches {t : Nat} {s : State} (hup : s.up = true) (hne : s.las.aClosed ≠ s.las.bClosed)
    (hd : s.las.discrepancy = false) (hlong : s.las.differ + 16000000 * s.dparam 0x3004 < max s.dt t) :
    Reaches (.intlkDiscrepancy t) s fun u => u.las = { s.las with discrepancy := true, bothOpen := false } ∧ u.cyc = s.cyc ∧
      ∃ e, u.recorder.arriving = s.recorder.arriving ++ [e] ∧ e.code = 0x3002 := by
  have late : ¬ (s.las.aClosed = s.las.bClosed ∨ s.las.discrepancy = true ∨ max s.dt t ≤ s.las.differ + 16000000 * s.dparam 0x3004) := by
    simp only [hne, hd, Bool.false_eq_true, false_or]
    exact Nat.not_le.mpr hlong
  refine event_of (f := fun s => if s.las.aClosed = s.las.bClosed ∨ s.las.discrepancy ∨ s.dt ≤ s.las.differ + 16000000 * s.dparam 0x3004 then s
    else ({ s with las := { s.las with discrepancy := true, bothOpen := false } }).logEvent 0x3002 255 (bit s.las.aClosed) 0) rfl hup ?_
  dsimp only
  split
  · next h => exact absurd h late
  · exact ⟨rfl, rfl, _, rfl, rfl⟩

theorem lasHeadRestore_waits {p : Packet} {s : State} (h : startsNow lasHeadRestoreSpec p s = true) (hs : s.cyc.state = .armed ∨ s.cyc.state = .hold) :
    Reaches (.lasHeadRestore p) s (Served p s
      { s with las := { s.las with heads := updAt s.las.heads p.scope fun x => { x with restore := x.restore ++ [s.host.nextAcc] } } }) := by
  refine served_of rfl h _ fun g q => ?_
  simp only [lasHeadRestoreSpec, hs, if_true]
  rfl

theorem lasHeadRestore_clears {p : Packet} {s : State} (h : startsNow lasHeadRestoreSpec p s = true)
    (ha : s.cyc.state ≠ .armed) (hh : s.cyc.state ≠ .hold) :
    Reaches (.lasHeadRestore p) s fun t => t.las.stopped = putBit s.las.stopped p.scope false ∧ t.cyc = s.cyc := by
  refine served_begun rfl h fun u hu g x => ?_
  obtain ⟨hs, hc, hl⟩ : ¬ (u.cyc.state = .armed ∨ u.cyc.state = .hold) ∧ u.cyc = s.cyc ∧ u.las.stopped = s.las.stopped := by
    obtain ⟨_, _, rfl⟩ := hu
    exact ⟨not_or.mpr ⟨ha, hh⟩, rfl, rfl⟩
  have runs : lasHeadRestoreSpec.run s.host.nextAcc p u =
      (({ u with las := { u.las with stopped := putBit u.las.stopped p.scope false } } : State).noteEmit, .done stOk []) := if_neg hs
  obtain ⟨_, he⟩ := State.noteEmit_noted { u with las := { u.las with stopped := putBit u.las.stopped p.scope false } }
  rw [runs, he, ← hl, ← hc]
  exact ⟨rfl, rfl⟩

/-- Settles O17: an opening, a closing, a discrepancy, a head restored (R130 to R134, R138). -/
theorem interlockActs : Obligations.InterlockActs := by
  refine ⟨fun t s hup => ⟨fun hc => ?openA, fun hc => ?openB, ?closeA, ?closeB⟩, fun t s => intlkDiscrepancy_reaches,
    fun p s h => ⟨lasHeadRestore_waits h, lasHeadRestore_clears h⟩⟩
  case openA =>
    refine (interlockOpen_reaches (ch := 0) hup hc).imp fun u ⟨ha, hb, hao, _, ht, hold, stays⟩ => ?_
    simp only [bne_self_eq_false, Bool.and_false, beq_self_eq_true, Bool.and_true, if_true] at ha hb hao
    exact ⟨ha, hb, hao, ht, hold, stays⟩
  case openB =>
    refine (interlockOpen_reaches (ch := 1) hup hc).imp fun u ⟨ha, hb, _, hbo, ht, hold, stays⟩ => ?_
    exact ⟨hb.trans (Bool.and_false _), ha.trans (Bool.and_true _), hbo, ht, hold, stays⟩
  case closeA =>
    refine (interlockClose_reaches (ch := 0) hup).imp fun u ⟨ha, hb, ht, hc, hd⟩ => ?_
    exact ⟨ha.trans (Bool.or_true _), hb.trans (Bool.or_false _), ht, hc, hd⟩
  case closeB =>
    refine (interlockClose_reaches (ch := 1) hup).imp fun u ⟨ha, hb, ht, hc, hd⟩ => ?_
    exact ⟨hb.trans (Bool.or_true _), ha.trans (Bool.or_false _), ht, hc, hd⟩

end Sys2Proof.Machine
end

section
/-! PROOFS. Answers, stream fences, queue pairs and key slots (14): O31 and O32. -/

namespace Sys2Proof.Machine

/-! Where a command runs. -/

/-- The command runs in the state that took its packet, with its counter kept and itself in progress. -/
theorem running_taken (c : CmdSpec) (p : Packet) (s : State) : ∃ ks q, running c p s = { taken p s with
    host := { (taken p s).host with keys := ks, inProg := s.host.inProg ++ [{ acc := s.host.nextAcc, opcode := c.opcode, packet := p }] }
    recorder := { s.recorder with journal := { s.recorder.journal with queue := q } } } := by
  obtain ⟨ks, q, hc⟩ := State.acceptCounter_counted p (taken p s)
  obtain ⟨hr, hi⟩ : (taken p s).recorder = s.recorder ∧ (taken p s).host.inProg = s.host.inProg := by
    unfold taken State.setVersion
    dsimp only
    split <;> exact ⟨rfl, rfl⟩
  unfold running
  dsimp only
  rw [hc, hr, hi]
  exact ⟨_, _, rfl⟩

/-- Past its end a list reads as the default. -/
theorem getD_default {α : Type} {l : List α} {n : Nat} (d : α) (h : ¬ n < l.length) : l.getD n d = d := by
  rw [List.getD_eq_getElem?_getD, List.getElem?_eq_none (Nat.not_lt.mp h), Option.getD_none]

/-- Within its length a list reads as its element. -/
theorem getD_element {α : Type} {l : List α} {n : Nat} (d : α) (h : n < l.length) : l.getD n d = l[n] := by
  rw [List.getD_eq_getElem?_getD, List.getElem?_eq_getElem h, Option.getD_some]

/-- The queue or session of a packet that starts stands there (R376). -/
def State.hasOrigin (o : Origin) (s : State) : Prop :=
  match o with
  | .qp n => n < s.host.qps.length
  | .session n => (s.host.sessions.getD n none).isSome

theorem State.hasOrigin_congr {o : Origin} {s t : State} (hq : t.host.qps = s.host.qps) (hs : t.host.sessions = s.host.sessions)
    (h : s.hasOrigin o) : t.hasOrigin o := by
  unfold State.hasOrigin at h ⊢
  rw [hq, hs]
  exact h

theorem State.hasOrigin_of_originOk {o : Origin} {s : State} (h : s.originOk o = true) : s.hasOrigin o := by
  cases o with
  | qp n =>
    have enabled : (s.host.qps.getD n {}).enabled = true := by
      simp only [State.originOk, Bool.and_eq_true] at h
      exact h.1.1
    refine Classical.byContradiction fun hn => ?_
    rw [getD_default _ hn] at enabled
    cases enabled
  | session n => exact h

theorem hasOrigin_of_startsNow {c : CmdSpec} {p : Packet} {s : State} (h : startsNow c p s = true) : s.hasOrigin p.origin := by
  simp only [startsNow, Bool.and_eq_true] at h
  exact State.hasOrigin_congr rfl rfl (State.hasOrigin_of_originOk h.1.1.1.1.1.1.2)

theorem State.hasOrigin_setVersion {o : Origin} {v : Nat} {s : State} (h : s.hasOrigin o) : (s.setVersion o v).hasOrigin o := by
  cases o with
  | qp n => exact Nat.lt_of_lt_of_eq h (updAt_length _ _ _).symm
  | session n =>
    obtain ⟨x, hx⟩ := Option.isSome_iff_exists.mp (show (s.host.sessions.getD n none).isSome from h)
    simp only [State.hasOrigin, State.setVersion, updAt_getD]
    split
    · rw [hx]; rfl
    · exact h

theorem State.versionOf_setVersion {o : Origin} {v : Nat} {s : State} (h : s.hasOrigin o) : (s.setVersion o v).versionOf o = v := by
  cases o with
  | qp n =>
    have hn : n < s.host.qps.length := h
    simp only [State.versionOf, State.setVersion, updAt_getD, hn, and_self, if_true, Option.getD_some]
  | session n =>
    have hn : (s.host.sessions.getD n none).isSome := h
    obtain ⟨x, hx⟩ := Option.isSome_iff_exists.mp hn
    have hlen : n < s.host.sessions.length := by
      refine Classical.byContradiction fun hl => ?_
      rw [getD_default _ hl] at hx
      cases hx
    simp only [State.versionOf, State.setVersion, updAt_getD, hlen, hx, and_self, if_true, Option.map_some, Option.getD_some]

theorem running_hasOrigin {c : CmdSpec} {p : Packet} {s : State} (h : startsNow c p s = true) : (running c p s).hasOrigin p.origin := by
  obtain ⟨_, _, hr⟩ := running_taken c p s
  rw [hr]
  exact State.hasOrigin_congr (s := taken p s) rfl rfl
    (State.hasOrigin_setVersion (State.hasOrigin_congr (s := s) rfl rfl (hasOrigin_of_startsNow h)))

theorem running_versionOf {c : CmdSpec} {p : Packet} {s : State} (h : startsNow c p s = true) :
    (running c p s).versionOf p.origin = versionFor p s := by
  obtain ⟨_, _, hr⟩ := running_taken c p s
  have kept : (running c p s).versionOf p.origin = (taken p s).versionOf p.origin := by
    rw [hr]
    unfold State.versionOf
    split <;> rfl
  exact kept.trans (State.versionOf_setVersion (s := { s.at p.t with host := { (s.at p.t).host with nextAcc := s.host.nextAcc + 1 } })
    (State.hasOrigin_congr (s := s) rfl rfl (hasOrigin_of_startsNow h)))

/-- The command itself is what stands in progress under its acceptance number. -/
theorem running_find {c : CmdSpec} {p : Packet} {s : State} (h : startsNow c p s = true) :
    (running c p s).host.inProg.find? (fun i => i.acc == s.host.nextAcc) = some { acc := s.host.nextAcc, opcode := c.opcode, packet := p } := by
  have none_before : s.host.inProg.find? (fun i => i.acc == s.host.nextAcc) = none := by
    simp only [startsNow, Bool.and_eq_true, List.all_eq_true] at h
    refine List.find?_eq_none.mpr fun i hi he => ?_
    have := h.1.1.1.2 i hi
    simp_all
  obtain ⟨_, _, hr⟩ := running_taken c p s
  rw [hr]
  simp [List.find?_append, none_before]

/-! What is on its way to the host stays on its way. -/

/-- Entries that wait for a queue in `s`, and what `s` sends, do so in `t`. -/
def Sends (s t : State) : Prop := (∀ e ∈ s.host.cqWait, e ∈ t.host.cqWait) ∧ ∀ x ∈ s.tx, x ∈ t.tx

theorem Sends.refl (s : State) : Sends s s := ⟨fun _ h => h, fun _ h => h⟩

theorem Sends.trans {s t u : State} (h : Sends s t) (g : Sends t u) : Sends s u :=
  ⟨fun e he => g.1 e (h.1 e he), fun x hx => g.2 x (h.2 x hx)⟩

theorem State.reply_sends (o : Origin) (addr : Nat) (m : Bool) (bs : List Byte) (s : State) : Sends s (s.reply o addr m bs) := by
  unfold State.reply
  split
  · exact ⟨fun e he => List.mem_append_left _ he, fun _ hx => hx⟩
  · split
    · exact ⟨fun _ he => he, fun x hx => List.mem_append_left _ hx⟩
    · exact .refl s

theorem State.answer_sends (p : Packet) (op : Nat) (final : Bool) (st : Nat) (r : List Byte) (s : State) : Sends s (s.answer p op final st r) := by
  have replied : Sends s (if final && st == stOk && p.flags.testBit 3 then s
      else s.reply p.origin p.resultAddr false (statusPacket op (s.versionOf p.origin) 0 p.tag p.scope st r)) := by
    split
    · exact .refl s
    · exact s.reply_sends _ _ _ _
  unfold State.answer
  dsimp only
  split
  · exact replied
  · split
    · exact replied
    · exact replied

theorem State.finish_sends (acc st : Nat) (r : List Byte) (s : State) : Sends s (s.finish acc st r) := by
  unfold State.finish
  split
  · exact .refl s
  · dsimp only
    split
    · exact .refl s
    · exact .trans (t := { s with host := { s.host with inProg := s.host.inProg.filter fun j => j.acc != acc } }) (.refl s) (State.answer_sends _ _ _ _ _ _)

theorem State.settleDeletes_sends (n : Nat) (s : State) : Sends s (State.settleDeletes n s) := by
  induction n generalizing s with
  | zero => exact .refl s
  | succ n ih =>
    unfold State.settleDeletes
    split
    · exact .refl s
    · exact .trans (.trans (t := { s with host := { s.host with qps := updAt s.host.qps _ fun _ => {} } }) (.refl s) (State.finish_sends _ _ _ _)) (ih _)

theorem Answered.sends {p : Packet} {bs : List Byte} {s t : State} (h : Answered p bs s) (g : Sends s t) : Answered p bs t := by
  unfold Answered at h ⊢
  split at h
  · obtain ⟨e, he, hq⟩ := h
    exact ⟨e, g.1 e he, hq⟩
  · obtain ⟨src, port, hx⟩ := h
    exact ⟨src, port, g.2 _ hx⟩

/-- An answer that NO_REPLY does not suppress stands on its way (R383). -/
theorem State.answer_answered {p : Packet} {op st : Nat} {final : Bool} {r : List Byte} {s : State} (ho : s.hasOrigin p.origin)
    (hf : p.flags.testBit 3 = false) :
    Answered p (statusPacket op (s.versionOf p.origin) 0 p.tag p.scope st r) (s.answer p op final st r) := by
  unfold State.answer Answered
  rw [hf, Bool.and_false]
  dsimp only
  cases hp : p.origin with
  | qp n => exact ⟨_, List.mem_append_right _ (List.mem_singleton_self _), rfl, rfl, rfl⟩
  | session n =>
    rw [hp] at ho
    obtain ⟨x, hx⟩ := Option.isSome_iff_exists.mp (show (s.host.sessions.getD n none).isSome from ho)
    have sent : s.reply (.session n) p.resultAddr false (statusPacket op (s.versionOf (.session n)) 0 p.tag p.scope st r) =
        s.send (.udp x.src x.port (statusPacket op (s.versionOf (.session n)) 0 p.tag p.scope st r)) := by
      unfold State.reply
      dsimp only
      rw [hx]
    refine ⟨x.src, x.port, ?_⟩
    simp only [Bool.false_eq_true, if_false, sent]
    split <;> exact List.mem_append_right _ (List.mem_singleton_self _)

/-- A command that only answers: nothing changes, and its status packet with OK goes out unless NO_REPLY is set (R383, R384). -/
theorem query_reaches {c : CmdSpec} {p : Packet} {s : State} {i : Instr} {r : List Byte} (hx : exec i s = serve c p s)
    (h : startsNow c p s = true) (hr : c.run s.host.nextAcc p (running c p s) = (running c p s, .done stOk r)) :
    Reaches i s fun t => Served p s s t ∧ (p.flags.testBit 3 = false → Answered p (statusOf c p s stOk r) t) := by
  have ran : runCmd c s.host.nextAcc p (taken p s) = (running c p s).complete s.host.nextAcc stOk r := by
    unfold runCmd
    dsimp only
    split
    all_goals next he => cases he.symm.trans hr <;> rfl
  refine ⟨_, (hx.trans (serve_startsNow h)).trans (by rw [ran]), ?_, fun hf => ?_⟩
  · obtain ⟨_, _, hc⟩ := ((running c p s).complete_replied s.host.nextAcc stOk r).exists_eq
    obtain ⟨_, _, hs⟩ := running_eq c p s
    rw [hc, hs]
    exact ⟨_, _, _, rfl⟩
  · obtain ⟨u, hu⟩ : ∃ u : State, u = { running c p s with host := { (running c p s).host with
      inProg := (running c p s).host.inProg.filter fun j => j.acc != s.host.nextAcc } } := ⟨_, rfl⟩
    have finished : (running c p s).finish s.host.nextAcc stOk r = u.answer p c.opcode true stOk r := by
      unfold State.finish
      rw [running_find h, hu]
      rfl
    have here : u.hasOrigin p.origin := State.hasOrigin_congr (s := running c p s) (hu ▸ rfl) (hu ▸ rfl) (running_hasOrigin h)
    have version : u.versionOf p.origin = versionFor p s := by
      rw [← running_versionOf h, hu]
      unfold State.versionOf
      split <;> rfl
    have sent := State.answer_answered (op := c.opcode) (st := stOk) (final := true) (r := r) here hf
    rw [version, ← finished] at sent
    exact Answered.sends sent (State.settleDeletes_sends 64 _)

/-- A command that starts leaves its run's state but for replies. -/
theorem served_ran {c : CmdSpec} {p : Packet} {s : State} {i : Instr} {P : State → Prop} (hx : exec i s = serve c p s) (h : startsNow c p s = true)
    (hP : ∀ t, Replied (c.run s.host.nextAcc p (running c p s)).1 t → P { t with dt := max s.dt p.t, pending := s.pending }) : Reaches i s P := by
  refine ⟨_, hx.trans (serve_startsNow h), hP _ ?_⟩
  have ran : runCmd c s.host.nextAcc p (taken p s) =
      (match c.run s.host.nextAcc p (running c p s) with
      | (s2, .done st res) => s2.complete s.host.nextAcc st res
      | (s2, .sent) => s2
      | (s2, .accepted) => s2.answer p c.opcode false stAccepted []
      | (s2, .later) => { s2 with host := { s2.host with inProg := s2.host.inProg.map fun i => if i.acc = s.host.nextAcc then { i with silent := true } else i } }) := rfl
  rw [ran]
  rcases c.run s.host.nextAcc p (running c p s) with ⟨u, a⟩
  cases a with
  | done st res => exact State.complete_replied _ _ _ u
  | accepted => exact State.answer_replied _ _ _ _ _ u
  | later => exact ⟨_, _, _, _, _, rfl⟩
  | sent => exact .refl u

/-- What taking a packet touches of the host interface. -/
theorem running_host (c : CmdSpec) (p : Packet) (s : State) : ∃ ks q qp se ip, running c p s = { s with
    dt := max s.dt p.t, tx := []
    host := { s.host with nextAcc := s.host.nextAcc + 1, keys := ks, qps := qp, sessions := se, inProg := ip }
    recorder := { s.recorder with journal := { s.recorder.journal with queue := q } } } := by
  obtain ⟨_, _, hr⟩ := running_taken c p s
  rw [hr]
  unfold taken State.setVersion
  dsimp only
  split <;> exact ⟨_, _, _, _, _, rfl⟩

/-! Stream fences (R392). -/

/-- `t` is `s` but for what `LayWritten` names, and the melt-pool sensing. -/
def Streamed (s t : State) : Prop :=
  ∃ l g sig r st m d v, t = { s with lay := l, gut := g, sig := sig, recorder := r, streams := st, mem := m, dram := d, mps := v }

theorem LayWritten.streamed {s t : State} (h : LayWritten s t) : Streamed s t := by
  obtain ⟨_, _, _, _, _, _, _, rfl⟩ := h
  exact ⟨_, _, _, _, _, _, _, _, rfl⟩

theorem Streamed.refl (s : State) : Streamed s s := (LayWritten.refl s).streamed

theorem Streamed.trans {s t u : State} (h : Streamed s t) (g : Streamed t u) : Streamed s u := by
  obtain ⟨_, _, _, _, _, _, _, _, rfl⟩ := h
  obtain ⟨_, _, _, _, _, _, _, _, rfl⟩ := g
  exact ⟨_, _, _, _, _, _, _, _, rfl⟩

theorem Streamed.of_mps (s : State) (m : MpsState) : Streamed s { s with mps := m } := ⟨_, _, _, _, _, _, _, _, rfl⟩

theorem Streamed.host_eq {s t : State} (h : Streamed s t) : t.host = s.host := by
  obtain ⟨_, _, _, _, _, _, _, _, rfl⟩ := h
  rfl

theorem State.closeMpsGap_streamed (s : State) : Streamed s s.closeMpsGap := by
  unfold State.closeMpsGap
  split
  · exact .refl s
  · exact .trans ⟨_, _, _, _, _, _, _, _, rfl⟩ (State.buildEntry_written _ _ _).streamed

theorem State.writeGroup_streamed (dt : Nat) (recs marks : List (List Byte)) (s : State) : Streamed s (s.writeGroup dt recs marks) := by
  unfold State.writeGroup
  dsimp only
  split
  · exact .refl s
  · split
    · exact s.closeMpsGap_streamed.trans (.of_mps _ _)
    · exact .of_mps s _

theorem State.writeRecords_streamed (n : Nat) (s : State) : Streamed s (State.writeRecords n s) := by
  induction n generalizing s with
  | zero => exact .refl s
  | succ n ih =>
    unfold State.writeRecords
    split
    · exact .of_mps s _
    · dsimp only
      split
      · exact .of_mps s _
      · exact (((Streamed.of_mps s _).trans (State.writeGroup_streamed _ _ _ _)).trans (.of_mps _ _)).trans (ih _)

theorem State.statsEntry_written (keep : Bool) (bs : List Byte) (s : State) : LayWritten s (s.statsEntry keep bs) := by
  unfold State.statsEntry
  split
  · exact s.append_written _ _ _ _
  · exact s.setStream_written _ _

theorem State.streamEvent_written (keep : Bool) (bs : List Byte) (s : State) : LayWritten s (s.streamEvent keep bs) := by
  unfold State.streamEvent
  split
  · exact s.append_written _ _ _ _
  · exact .refl s

theorem State.markStreams_streamed (tf tag number : Nat) (s : State) : Streamed s (s.markStreams tf tag number) :=
  (((Streamed.of_mps s _).trans (State.writeRecords_streamed _ _)).trans (State.statsEntry_written _ _ _).streamed).trans
    ((State.buildEntry_written _ _ _).streamed.trans (State.streamEvent_written _ _ _).streamed)

theorem Replied.fenceNumber_eq {s t : State} (h : Replied s t) : t.host.fenceNumber = s.host.fenceNumber := by
  obtain ⟨_, _, _, _, _, rfl⟩ := h
  rfl

/-- A fence outside EXPOSE takes the next number (R392). -/
theorem State.fenceAt_fenceNumber (tf : Nat) (p : Packet) (s : State) : (s.fenceAt tf p).1.host.fenceNumber = s.host.fenceNumber + 1 := by
  have marked := (State.markStreams_streamed tf p.tag (s.host.fenceNumber + 1)
    { s with host := { s.host with fenceNumber := s.host.fenceNumber + 1 } }).host_eq
  have replied : ∀ (l : List Origin) u, Replied u (l.foldl (fun t o => t.markQueue o (fenceResult (s.host.fenceNumber + 1) tf)) u) :=
    foldl_related Replied.refl Replied.trans fun t _ => State.reply_replied _ _ _ _ t
  unfold State.fenceAt
  exact (replied _ _).fenceNumber_eq.trans (congrArg HostIf.fenceNumber marked)

theorem fenceRun_now {acc : Nat} {p : Packet} {s : State} (he : s.exposing = false) :
    fenceRun acc p s = ((s.fenceAt s.dt p).1, .done stOk (s.fenceAt s.dt p).2) := by
  unfold fenceRun
  rw [he]
  rfl

theorem streamFence_now {p : Packet} {s : State} (h : startsNow streamFenceSpec p s = true) (he : s.exposing = false) :
    Reaches (.streamFence p) s fun t => t.host.fenceNumber = s.host.fenceNumber + 1 := by
  refine served_ran rfl h fun t ht => ?_
  obtain ⟨he, hn⟩ : (running streamFenceSpec p s).exposing = false ∧
      (running streamFenceSpec p s).host.fenceNumber = s.host.fenceNumber := by
    obtain ⟨_, _, _, _, _, hr⟩ := running_host streamFenceSpec p s
    rw [hr]
    exact ⟨he, rfl⟩
  have ran : streamFenceSpec.run s.host.nextAcc p (running streamFenceSpec p s) = _ := fenceRun_now he
  rw [ran] at ht
  exact (ht.fenceNumber_eq.trans (State.fenceAt_fenceNumber _ _ _)).trans (congrArg (· + 1) hn)

theorem streamFence_waits {p : Packet} {s : State} (h : startsNow streamFenceSpec p s = true) (he : s.exposing = true) :
    Reaches (.streamFence p) s fun t => Served p s s t ∧ t.host.fenceNumber = s.host.fenceNumber ∧
      t.host.fences = s.host.fences ++ [(s.host.nextAcc, max s.dt p.t)] := by
  refine served_ran rfl h fun t ht => ?_
  obtain ⟨_, _, _, _, _, hr⟩ := running_host streamFenceSpec p s
  have he : (running streamFenceSpec p s).exposing = true := by
    rw [hr]
    exact he
  have ran : streamFenceSpec.run s.host.nextAcc p (running streamFenceSpec p s) = _ := if_pos he
  rw [ran, hr] at ht
  obtain ⟨_, _, _, _, _, rfl⟩ := ht
  exact ⟨⟨_, _, _, rfl⟩, rfl, rfl⟩

/-! Key slots under the command that runs (R394). -/

/-- `l` is key slot `k` with its counter moved on, and perhaps a lease asked for. -/
def CounterMoved (k l : KeySlot) : Prop := ∃ n w, l = { k with last := n, wanted := w } ∧ k.last ≤ n

theorem State.askLease_key (slot l i : Nat) (s : State) : ∃ w, (s.askLease slot l).key i = { s.key i with wanted := w } := by
  unfold State.askLease
  dsimp only
  split
  · exact ⟨_, rfl⟩
  · simp only [State.key, State.journalAsk, updAt_getD]
    split
    · next h => exact ⟨_, by rw [h.1]⟩
    · exact ⟨_, rfl⟩

theorem State.acceptCounter_key {p : Packet} {s : State} (hc : ∀ t, p.trailer = some t → (s.key t.slot).last ≤ t.counter) (i : Nat) :
    CounterMoved (s.key i) ((s.acceptCounter p).key i) := by
  unfold State.acceptCounter
  split
  · exact ⟨_, _, rfl, Nat.le_refl _⟩
  · next t ht =>
    have moved : CounterMoved (s.key i)
        (({ s with host := { s.host with keys := updAt s.host.keys t.slot fun k => { k with last := t.counter } } } : State).key i) := by
      simp only [State.key, updAt_getD]
      split
      · next h => exact ⟨_, _, by rw [h.1], h.1 ▸ hc t ht⟩
      · exact ⟨_, _, rfl, Nat.le_refl _⟩
    dsimp only
    split
    · obtain ⟨w, hw⟩ := State.askLease_key t.slot (leaseFor t.counter) i
        { s with host := { s.host with keys := updAt s.host.keys t.slot fun k => { k with last := t.counter } } }
      obtain ⟨n, w', hn, hle⟩ := moved
      rw [hw, hn]
      exact ⟨_, _, rfl, hle⟩
    · exact moved

theorem firstFail_none {l : List (Bool × Nat)} (h : firstFail l = none) : ∀ x ∈ l, x.1 = false := by
  induction l with
  | nil => exact fun _ hx => nomatch hx
  | cons a l ih =>
    obtain ⟨b, st⟩ := a
    cases b with
    | true => cases h
    | false =>
      intro x hx
      rcases List.mem_cons.mp hx with rfl | hx
      · rfl
      · exact ih h x hx

theorem authFail_counter {op acc : Nat} {crit : Bool} {p : Packet} {s : State} (h : authFail op acc crit p s = none) (t : Trailer)
    (ht : p.trailer = some t) : (s.key t.slot).last < t.counter := by
  unfold authFail at h
  rw [ht] at h
  have fresh := firstFail_none h (decide (t.counter ≤ (s.key t.slot).last), stReplay) (by simp [State.key])
  exact Nat.not_le.mp (of_decide_eq_false fresh)

theorem authFail_of_checkFail {c : CmdSpec} {acc v : Nat} {p : Packet} {s : State} (h : checkFail c acc v p s = none) :
    authFail c.opcode acc (c.critical p s) p s = none := by
  unfold checkFail at h
  dsimp only at h
  split at h
  · cases h
  · split at h
    · cases h
    · split at h
      · cases h
      · next ha => exact ha

theorem running_key {c : CmdSpec} {p : Packet} {s : State} (h : startsNow c p s = true) (i : Nat) :
    CounterMoved (s.key i) ((running c p s).key i) := by
  have same : ∀ i, (taken p s).key i = s.key i := by
    intro i
    unfold taken State.setVersion
    dsimp only
    split <;> rfl
  have passes : checkFail c s.host.nextAcc (versionFor p s) p (taken p s) = none := by
    simp only [startsNow, Bool.and_eq_true, Option.isNone_iff_eq_none] at h
    exact h.1.2
  exact same i ▸ State.acceptCounter_key (fun t ht => Nat.le_of_lt (authFail_counter (authFail_of_checkFail passes) t ht)) i

/-- Settles O31: three commands answer from the state in which they run; a fence takes its number, or waits (R392, R394, R403). -/
theorem hostQueriesAct : Obligations.HostQueriesAct := by
  refine ⟨fun p s => ⟨fun h => ?identify, fun h => query_reaches rfl h rfl, fun h => ?counters⟩,
    fun p s h => ⟨streamFence_now h, streamFence_waits h⟩⟩
  case identify =>
    obtain ⟨_, _, hr⟩ := running_eq devIdentifySpec p s
    refine query_reaches rfl h ?_
    rw [hr]
    rfl
  case counters =>
    refine query_reaches rfl h ?_
    have state : ∀ i, ((running counterReadSpec p s).key i).state = (s.key i).state := by
      intro i
      obtain ⟨_, _, hk, _⟩ := running_key h i
      rw [hk]
    simp only [counterReadSpec] at state ⊢
    simp only [state]

/-! Queue pairs (R381). -/

/-- The queue pairs and the commands without a final status stand in `t` as in `s`. -/
def SameQueues (s t : State) : Prop :=
  t.host.qps = s.host.qps ∧ t.host.inProg = s.host.inProg ∧ t.host.waiting = s.host.waiting

theorem State.reply_queues (o : Origin) (addr : Nat) (m : Bool) (bs : List Byte) (s : State) : SameQueues s (s.reply o addr m bs) := by
  unfold State.reply
  split
  · exact ⟨rfl, rfl, rfl⟩
  · split <;> exact ⟨rfl, rfl, rfl⟩

theorem State.answer_queues (p : Packet) (op : Nat) (final : Bool) (st : Nat) (r : List Byte) (s : State) : SameQueues s (s.answer p op final st r) := by
  have replied : SameQueues s (if final && st == stOk && p.flags.testBit 3 then s
      else s.reply p.origin p.resultAddr false (statusPacket op (s.versionOf p.origin) 0 p.tag p.scope st r)) := by
    split
    · exact ⟨rfl, rfl, rfl⟩
    · exact s.reply_queues _ _ _ _
  unfold State.answer
  dsimp only
  split
  · exact replied
  · split
    · exact replied
    · exact replied

theorem State.finish_qps (acc st : Nat) (r : List Byte) (s : State) : (s.finish acc st r).host.qps = s.host.qps := by
  unfold State.finish
  split
  · rfl
  · dsimp only
    split
    · rfl
    · exact (State.answer_queues _ _ _ _ _ _).1

/-- A pair that waits for its deletion is deleted or stays; every other pair stays. -/
theorem State.settleDeletes_qp (n q : Nat) (s : State) :
    (State.settleDeletes n s).qp q = s.qp q ∨ ((s.qp q).deleting.isSome ∧ (State.settleDeletes n s).qp q = {}) := by
  induction n generalizing s with
  | zero => exact .inl rfl
  | succ n ih =>
    unfold State.settleDeletes
    split
    · exact .inl rfl
    · next q' hq =>
      have del : (s.qp q').deleting.isSome := by
        have := List.find?_some hq
        simp only [Bool.and_eq_true] at this
        exact this.1
      dsimp only
      have cleared : (({ s with host := { s.host with qps := updAt s.host.qps q' fun _ => {} } } : State).finish
          (((s.host.qps.getD q' {}).deleting).getD 0) stOk []).qp q = if q = q' ∧ q' < s.host.qps.length then {} else s.qp q := by
        simp only [State.qp, State.finish_qps, updAt_getD]
      rcases ih (({ s with host := { s.host with qps := updAt s.host.qps q' fun _ => {} } } : State).finish
          (((s.host.qps.getD q' {}).deleting).getD 0) stOk []) with h | ⟨hd, h⟩
      · rw [h, cleared]
        split
        · next heq => exact .inr ⟨heq.1 ▸ del, rfl⟩
        · exact .inl rfl
      · rw [cleared] at hd
        split at hd
        · cases hd
        · exact .inr ⟨hd, h⟩

theorem State.settleDeletes_qp_same {n q : Nat} {s : State} (h : (s.qp q).deleting = none) : (State.settleDeletes n s).qp q = s.qp q := by
  rcases s.settleDeletes_qp n q with he | ⟨hd, _⟩
  · exact he
  · rw [h] at hd
    cases hd

/-- The run of QUEUE_DELETE before pairs settle. -/
def deleteAsked (p : Packet) (s : State) : State :=
  ((running queueDeleteSpec p s).answer p 0x0041 false stAccepted []).setQp (p.fld 0 1) fun x => { x with deleting := some s.host.nextAcc }

theorem queueDelete_ran {p : Packet} {s : State} {P : State → Prop} (h : startsNow queueDeleteSpec p s = true)
    (hP : P { State.settleDeletes 64 (deleteAsked p s) with dt := max s.dt p.t, pending := s.pending }) : Reaches (.queueDelete p) s P :=
  ⟨_, serve_startsNow h, hP⟩

theorem taken_qp_other {p : Packet} {s : State} {q : Nat} (h : p.origin ≠ .qp q) : (taken p s).qp q = s.qp q := by
  unfold taken State.setVersion
  dsimp only
  split
  · next n hn =>
    have hne : q ≠ n := fun he => h (he ▸ hn)
    simp only [State.qp, updAt_getD, hne, false_and, if_false]
    rfl
  · rfl

theorem running_qps (c : CmdSpec) (p : Packet) (s : State) : (running c p s).host.qps = (taken p s).host.qps := by
  obtain ⟨_, _, hr⟩ := running_taken c p s
  rw [hr]

theorem taken_deleting {p : Packet} {s : State} (q : Nat) : ((taken p s).qp q).deleting = (s.qp q).deleting := by
  unfold taken State.setVersion
  dsimp only
  split
  · next n hn =>
    simp only [State.qp, updAt_getD]
    split
    · next he => rw [he.1]; rfl
    · rfl
  · rfl

theorem taken_qps_length (p : Packet) (s : State) : (taken p s).host.qps.length = s.host.qps.length := by
  unfold taken State.setVersion
  dsimp only
  split
  · exact updAt_length _ _ _
  · rfl

theorem queueCreate_reaches {p : Packet} {s : State} (h : startsNow queueCreateSpec p s = true) (hl : p.fld 0 1 < s.host.qps.length) :
    Reaches (.queueCreate p) s fun t => t.qp (p.fld 0 1) =
      { enabled := true, sizeExp := p.fld 1 1, vector := p.fld 2 1, sqBase := p.fld 8 8, cqBase := p.fld 16 8 } := by
  refine ⟨_, serve_startsNow h, ?_⟩
  obtain ⟨u, hu⟩ : ∃ u, u = (running queueCreateSpec p s).setQp (p.fld 0 1) fun _ =>
      { enabled := true, sizeExp := p.fld 1 1, vector := p.fld 2 1, sqBase := p.fld 8 8, cqBase := p.fld 16 8 } := ⟨_, rfl⟩
  have made : u.qp (p.fld 0 1) =
      { enabled := true, sizeExp := p.fld 1 1, vector := p.fld 2 1, sqBase := p.fld 8 8, cqBase := p.fld 16 8 } := by
    simp only [hu, State.qp, State.setQp, updAt_getD, running_qps, taken_qps_length, hl, and_self, if_true]
  have finished : (u.finish s.host.nextAcc stOk []).qp (p.fld 0 1) = u.qp (p.fld 0 1) := by
    unfold State.qp
    rw [State.finish_qps]
  have ran : runCmd queueCreateSpec s.host.nextAcc p (taken p s) = u.complete s.host.nextAcc stOk [] := by
    rw [hu]
    rfl
  rw [ran]
  exact (State.settleDeletes_qp_same (by rw [finished, made])).trans (finished.trans made)

/-- What the checks of QUEUE_DELETE say: its pair is one of 1 to 63, and not the one the command came on (R381). -/
theorem queueDelete_checks {p : Packet} {s : State} (h : startsNow queueDeleteSpec p s = true) :
    p.fld 0 1 < 64 ∧ p.origin ≠ .qp (p.fld 0 1) := by
  obtain ⟨-, hc, -⟩ := checks_of h
  have range := firstFail_none hc (_, stRange) (List.mem_cons_of_mem _ (List.mem_cons_self ..))
  simp only [Bool.or_eq_false_iff, decide_eq_false_iff_not, not_or, beq_eq_false_iff_ne] at range
  exact ⟨Nat.lt_succ_of_le (Nat.not_lt.mp range.1.1.2), range.1.2⟩

theorem deleteAsked_qp {p : Packet} {s : State} (h : startsNow queueDeleteSpec p s = true) (hl : p.fld 0 1 < s.host.qps.length) :
    (deleteAsked p s).qp (p.fld 0 1) = { s.qp (p.fld 0 1) with deleting := some s.host.nextAcc } := by
  have hq := (State.answer_queues p 0x0041 false stAccepted [] (running queueDeleteSpec p s)).1
  have same := taken_qp_other (s := s) (queueDelete_checks h).2
  unfold State.qp at same ⊢
  simp only [deleteAsked, State.setQp, updAt_getD, hq, running_qps, taken_qps_length, hl, and_self, if_true, same]

theorem deleteAsked_other {p : Packet} {s : State} {q : Nat} (hne : q ≠ p.fld 0 1) :
    ((deleteAsked p s).qp q).deleting = (s.qp q).deleting := by
  have hq := (State.answer_queues p 0x0041 false stAccepted [] (running queueDeleteSpec p s)).1
  refine Eq.trans ?_ (taken_deleting (p := p) q)
  simp only [deleteAsked, State.qp, State.setQp, updAt_getD, hq, running_qps, hne, false_and, if_false]

theorem deleteAsked_outstanding {p : Packet} {s : State} (h : startsNow queueDeleteSpec p s = true) :
    (deleteAsked p s).outstanding (.qp (p.fld 0 1)) = s.outstanding (.qp (p.fld 0 1)) := by
  obtain ⟨-, hi, hw⟩ := State.answer_queues p 0x0041 false stAccepted [] (running queueDeleteSpec p s)
  obtain ⟨_, _, hr⟩ := running_taken queueDeleteSpec p s
  have waits : (running queueDeleteSpec p s).host.waiting = s.host.waiting := by
    obtain ⟨_, _, _, _, _, hr⟩ := running_host queueDeleteSpec p s
    rw [hr]
  have progress : (running queueDeleteSpec p s).host.inProg =
      s.host.inProg ++ [{ acc := s.host.nextAcc, opcode := queueDeleteSpec.opcode, packet := p }] := by rw [hr]
  have elsewhere : (p.origin == Origin.qp (p.fld 0 1)) = false := beq_eq_false_iff_ne.mpr (queueDelete_checks h).2
  unfold State.outstanding deleteAsked
  simp only [State.setQp, hi, hw, waits, progress, List.filter_append, elsewhere, Bool.false_and, List.filter_cons_of_neg, Bool.false_eq_true,
    not_false_iff, List.filter_nil, List.append_nil]

/-- A pair that may be deleted at once. -/
def deletable (u : State) (q : Nat) : Bool := (u.host.qps.getD q {}).deleting.isSome && u.outstanding (.qp q) == 0

/-- Of the pairs, only the one whose deletion is asked for may be deleted. -/
theorem deletable_asked {p : Packet} {s : State} {q : Nat} (hd : ∀ q, (s.qp q).deleting = none) (hq : deletable (deleteAsked p s) q = true) :
    q = p.fld 0 1 := by
  refine Classical.byContradiction fun hne => ?_
  have other : ((deleteAsked p s).host.qps.getD q {}).deleting = none := (deleteAsked_other hne).trans (hd q)
  simp only [deletable, other, Option.isSome_none, Bool.false_and, Bool.false_eq_true] at hq

theorem queueDelete_asks {p : Packet} {s : State} (h : startsNow queueDeleteSpec p s = true) (hl : p.fld 0 1 < s.host.qps.length) :
    Reaches (.queueDelete p) s fun t => (t.qp (p.fld 0 1)).deleting = some s.host.nextAcc ∨ (t.qp (p.fld 0 1)).enabled = false := by
  refine queueDelete_ran h ?_
  rcases (deleteAsked p s).settleDeletes_qp 64 (p.fld 0 1) with he | ⟨-, he⟩
  · exact .inl (congrArg QueuePair.deleting (he.trans (deleteAsked_qp h hl)))
  · exact .inr (congrArg QueuePair.enabled he)

theorem queueDelete_deletes {p : Packet} {s : State} (h : startsNow queueDeleteSpec p s = true) (hl : p.fld 0 1 < s.host.qps.length)
    (hd : ∀ q, (s.qp q).deleting = none) (h0 : s.outstanding (.qp (p.fld 0 1)) = 0) : Reaches (.queueDelete p) s fun t => t.qp (p.fld 0 1) = {} := by
  refine queueDelete_ran h ?_
  have may : deletable (deleteAsked p s) (p.fld 0 1) = true := by
    have asked : ((deleteAsked p s).host.qps.getD (p.fld 0 1) {}).deleting = some s.host.nextAcc := congrArg QueuePair.deleting (deleteAsked_qp h hl)
    simp only [deletable, asked, deleteAsked_outstanding h, h0, Option.isSome_some, beq_self_eq_true, Bool.and_self]
  obtain ⟨q, hq⟩ := Option.isSome_iff_exists.mp
    (List.find?_isSome.mpr ⟨p.fld 0 1, List.mem_range.mpr (queueDelete_checks h).1, may⟩)
  have only := deletable_asked hd (List.find?_some hq)
  obtain ⟨u, hu⟩ : ∃ u, u = (({ deleteAsked p s with host := { (deleteAsked p s).host with qps := updAt (deleteAsked p s).host.qps q fun _ => {} } } :
      State).finish ((((deleteAsked p s).host.qps.getD q {}).deleting).getD 0) stOk []) := ⟨_, rfl⟩
  have settled : State.settleDeletes 64 (deleteAsked p s) = State.settleDeletes 63 u := by
    rw [hu]
    unfold State.settleDeletes
    split
    · next hn => cases hq.symm.trans hn
    · next q' hq' => cases hq.symm.trans hq'; rfl
  have length : (deleteAsked p s).host.qps.length = s.host.qps.length := by
    have hq := (State.answer_queues p 0x0041 false stAccepted [] (running queueDeleteSpec p s)).1
    simp only [deleteAsked, State.setQp, updAt_length, hq, running_qps, taken_qps_length]
  have gone : u.qp (p.fld 0 1) = {} := by
    simp only [hu, State.qp, State.finish_qps, updAt_getD, only, length, hl, and_self, if_true]
  rw [settled]
  exact (State.settleDeletes_qp_same (congrArg QueuePair.deleting gone)).trans gone

theorem queueDelete_waits {p : Packet} {s : State} (h : startsNow queueDeleteSpec p s = true) (hl : p.fld 0 1 < s.host.qps.length)
    (hd : ∀ q, (s.qp q).deleting = none) (h0 : s.outstanding (.qp (p.fld 0 1)) ≠ 0) :
    Reaches (.queueDelete p) s fun t => t.qp (p.fld 0 1) = { s.qp (p.fld 0 1) with deleting := some s.host.nextAcc } := by
  refine queueDelete_ran h ?_
  have none_may : (List.range 64).find? (deletable (deleteAsked p s)) = none := by
    refine List.find?_eq_none.mpr fun q _ hq => ?_
    have only := deletable_asked hd hq
    simp only [deletable, only, deleteAsked_outstanding h, Bool.and_eq_true, beq_iff_eq] at hq
    exact h0 hq.2
  have settled : State.settleDeletes 64 (deleteAsked p s) = deleteAsked p s := by
    unfold State.settleDeletes
    split
    · rfl
    · next q' hq' => cases none_may.symm.trans hq'
  rw [settled]
  exact deleteAsked_qp h hl

/-! Key slots (R396, R397). -/

theorem Replied.key_eq {s t : State} (h : Replied s t) (i : Nat) : t.key i = s.key i := by
  obtain ⟨_, _, _, _, _, rfl⟩ := h
  rfl

theorem State.setKey_key_same {s : State} {k : Nat} {f : KeySlot → KeySlot} (hl : k < s.host.keys.length) : (s.setKey k f).key k = f (s.key k) := by
  simp only [State.key, State.setKey, updAt_getD, hl, and_self, if_true]

theorem State.storeKey_key (acc slot i : Nat) (s : State) : (s.storeKey acc slot).key i = s.key i := rfl

theorem State.acceptCounter_keys_length (p : Packet) (s : State) : (s.acceptCounter p).host.keys.length = s.host.keys.length := by
  unfold State.acceptCounter
  split
  · rfl
  · dsimp only
    split
    · unfold State.askLease
      dsimp only
      split
      · exact updAt_length _ _ _
      · exact (updAt_length _ _ _).trans (updAt_length _ _ _)
    · exact updAt_length _ _ _

theorem running_keys_length (c : CmdSpec) (p : Packet) (s : State) : (running c p s).host.keys.length = s.host.keys.length := by
  refine (State.acceptCounter_keys_length p (taken p s)).trans ?_
  unfold taken State.setVersion
  dsimp only
  split <;> rfl

theorem running_loadedKey {c : CmdSpec} {p : Packet} {s : State} (h : startsNow c p s = true) : (running c p s).loadedKey p = s.loadedKey p := by
  unfold State.loadedKey
  split
  · rfl
  · split
    · next t _ =>
      obtain ⟨_, _, hm, _⟩ := running_key h t.slot
      rw [hm]
    · rfl

theorem keyLoad_reaches {p : Packet} {s : State} {k : List Byte} (h : startsNow keyLoadSpec p s = true) (hl : p.fld 0 1 < s.host.keys.length)
    (hk : s.loadedKey p = some k) : Reaches (.keyLoad p) s fun t =>
      (t.key (p.fld 0 1)).state = .active ∧ (t.key (p.fld 0 1)).key = k ∧ (s.key (p.fld 0 1)).last ≤ (t.key (p.fld 0 1)).last ∧
        (s.key (p.fld 0 1)).lease - 1 ≤ (t.key (p.fld 0 1)).last := by
  refine served_ran rfl h fun t ht => ?_
  have loaded : (running keyLoadSpec p s).loadedKey p = some k := (running_loadedKey h).trans hk
  have set := State.setKey_key_same (s := running keyLoadSpec p s) (k := p.fld 0 1)
    (f := fun k => { k with state := .active, key := ((running keyLoadSpec p s).loadedKey p).getD [], last := max k.last (k.lease - 1) })
    (Nat.lt_of_lt_of_eq hl (running_keys_length _ _ _).symm)
  have ran : ((keyLoadSpec.run s.host.nextAcc p (running keyLoadSpec p s)).1).key (p.fld 0 1) = { (running keyLoadSpec p s).key (p.fld 0 1) with
      state := .active, key := ((running keyLoadSpec p s).loadedKey p).getD []
      last := max ((running keyLoadSpec p s).key (p.fld 0 1)).last (((running keyLoadSpec p s).key (p.fld 0 1)).lease - 1) } := by
    simp only [keyLoadSpec]
    split
    · exact set
    · exact set
  obtain ⟨n, w, hm, hle⟩ := running_key h (p.fld 0 1)
  rw [loaded, hm] at ran
  have final := (ht.key_eq (p.fld 0 1)).trans ran
  refine ⟨congrArg KeySlot.state final, congrArg KeySlot.key final, ?_, ?_⟩
  · exact Nat.le_trans (Nat.le_trans hle (Nat.le_max_left _ _)) (Nat.le_of_eq (congrArg KeySlot.last final).symm)
  · exact Nat.le_trans (Nat.le_max_right n _) (Nat.le_of_eq (congrArg KeySlot.last final).symm)

theorem keyRetire_reaches {p : Packet} {s : State} (h : startsNow keyRetireSpec p s = true) (hl : p.fld 0 1 < s.host.keys.length) :
    Reaches (.keyRetire p) s fun t => (t.key (p.fld 0 1)).state = .retired ∧ (t.key (p.fld 0 1)).retiredAt = s.host.nextAcc := by
  refine served_ran rfl h fun t ht => ?_
  have set := State.setKey_key_same (s := running keyRetireSpec p s) (k := p.fld 0 1)
    (f := fun k => { k with state := .retired, retiredAt := s.host.nextAcc })
    (Nat.lt_of_lt_of_eq hl (running_keys_length _ _ _).symm)
  have ran : ((keyRetireSpec.run s.host.nextAcc p (running keyRetireSpec p s)).1).key (p.fld 0 1) =
      { (running keyRetireSpec p s).key (p.fld 0 1) with state := .retired, retiredAt := s.host.nextAcc } := by
    simp only [keyRetireSpec]
    split
    · exact set
    · exact set
  have final := (ht.key_eq (p.fld 0 1)).trans ran
  exact ⟨congrArg KeySlot.state final, congrArg KeySlot.retiredAt final⟩

/-- Settles O32: a pair's deletion and a key slot's change (R381, R396, R397). That KEY_LOAD acts at its start, before its journal entry is
written, is the model's choice (log entry 16). -/
theorem queuesAndKeysAct : Obligations.QueuesAndKeysAct := by
  refine ⟨fun p s hl => ⟨fun h => queueCreate_reaches h hl, fun h => ⟨queueDelete_asks h hl, queueDelete_deletes h hl, queueDelete_waits h hl⟩⟩,
    fun p s hl => ⟨fun h k hk => keyLoad_reaches h hl hk, fun h => keyRetire_reaches h hl⟩⟩

end Sys2Proof.Machine
end

section
/-! PROOFS. DMA_CHANNEL_CTRL and the course of a DMA chain (16): O40 and O42. -/

namespace Sys2Proof.Machine

/-! What a channel's steps touch. -/

/-- `t` is `s` but for the DMA channels, the interrupt controller, the host interface and what is sent. -/
def DmaMoved (s t : State) : Prop := ∃ d i g x, t = { s with dma := d, int := i, host := g, tx := x }

theorem DmaMoved.refl (s : State) : DmaMoved s s := ⟨_, _, _, _, rfl⟩

theorem DmaMoved.trans {s t u : State} (h : DmaMoved s t) (g : DmaMoved t u) : DmaMoved s u := by
  obtain ⟨_, _, _, _, rfl⟩ := h
  obtain ⟨_, _, _, _, rfl⟩ := g
  exact ⟨_, _, _, _, rfl⟩

theorem DmaMoved.dram_eq {s t : State} (h : DmaMoved s t) : t.dram = s.dram := by
  obtain ⟨_, _, _, _, rfl⟩ := h
  rfl

theorem Replied.dmaMoved {s t : State} (h : Replied s t) : DmaMoved s t := by
  obtain ⟨_, _, rfl⟩ := h.exists_eq
  exact ⟨_, _, _, _, rfl⟩

theorem State.setChan_moved (c : Nat) (f : DmaChannel → DmaChannel) (s : State) : DmaMoved s (s.setChan c f) := ⟨_, _, _, _, rfl⟩

theorem State.sourceLevel_moved (n : Nat) (b : Bool) (s : State) : DmaMoved s (s.sourceLevel n b) := by
  unfold State.sourceLevel
  split <;> exact ⟨_, _, _, _, rfl⟩

theorem State.messageDue_moved (v : Nat) (s : State) : DmaMoved s (s.messageDue v) := by
  unfold State.messageDue
  dsimp only
  split
  · exact ⟨_, _, _, _, rfl⟩
  · split <;> exact ⟨_, _, _, _, rfl⟩

theorem State.countEntry_moved (v : Nat) (s : State) : DmaMoved s (s.countEntry v) := by
  unfold State.countEntry
  dsimp only
  split
  · exact .trans ⟨_, _, _, _, rfl⟩ (State.messageDue_moved _ _)
  · exact ⟨_, _, _, _, rfl⟩

theorem State.hostEntry_moved (v : Nat) (writes : List (Nat × List Byte)) (s : State) : DmaMoved s (s.hostEntry v writes) := by
  unfold State.hostEntry
  split
  · exact .trans ⟨_, _, _, _, rfl⟩ (State.countEntry_moved _ _)
  · exact ⟨_, _, _, _, rfl⟩

theorem State.dmaEntry_moved (c tag count status : Nat) (s : State) : DmaMoved s (s.dmaEntry c tag count status) :=
  (s.hostEntry_moved _ _).trans (State.setChan_moved _ _ _)

theorem State.dmaHalted_moved (c : Nat) (s : State) : DmaMoved s (s.dmaHalted c) :=
  ((s.setChan_moved c _).trans (State.sourceLevel_moved _ _ _)).trans (State.completeAll_replied _ _ _).dmaMoved

theorem State.dmaHalt_moved (c tag count status : Nat) (s : State) : DmaMoved s (s.dmaHalt c tag count status) := by
  unfold State.dmaHalt
  split
  · exact (s.dmaEntry_moved _ _ _ _).trans (State.dmaHalted_moved _ _)
  · exact s.dmaHalted_moved c

theorem State.dmaAfter_moved (c : Nat) (s : State) : DmaMoved s (s.dmaAfter c) := by
  unfold State.dmaAfter
  dsimp only
  split
  · exact s.setChan_moved _ _
  · split
    · exact s.dmaHalt_moved _ _ _ _
    · split
      · exact s.setChan_moved _ _
      · exact .refl s

/-! The channel after its steps. -/

theorem State.chan_congr {s t : State} (h : t.dma = s.dma) (c : Nat) : t.chan c = s.chan c := congrArg (fun d => d.channels.getD c {}) h

theorem State.dmaEntry_chan_same {s : State} {c : Nat} (tag count status : Nat) (hl : c < s.dma.channels.length) :
    ∃ tail phase used, (s.dmaEntry c tag count status).chan c = { s.chan c with tail := tail, phase := phase, used := used } := by
  unfold State.dmaEntry
  dsimp only
  rw [State.setChan_chan_same (by rw [State.hostEntry_dma]; exact hl), State.chan_congr (State.hostEntry_dma _ _ s)]
  exact ⟨_, _, _, rfl⟩

theorem State.dmaEntry_length (c tag count status : Nat) (s : State) :
    (s.dmaEntry c tag count status).dma.channels.length = s.dma.channels.length := by
  unfold State.dmaEntry
  exact (updAt_length _ _ _).trans (congrArg (fun d => d.channels.length) (State.hostEntry_dma _ _ s))

theorem State.dmaHalted_chan {s : State} {c : Nat} (hl : c < s.dma.channels.length) :
    ((s.dmaHalted c).chan c).mode = .halted ∧ ((s.dmaHalted c).chan c).stops = [] := by
  have dma : (s.dmaHalted c).dma = (s.setChan c fun ch => { ch with mode := .halted, dbPending := false, stops := [], held := [] }).dma :=
    (State.completeAll_dma _ _ _).trans (State.sourceLevel_dma _ _ _)
  rw [State.chan_congr dma, State.setChan_chan_same hl]
  exact ⟨rfl, rfl⟩

/-- A channel that halts is HALTED, with no STOP waiting (R427, R443). -/
theorem State.dmaHalt_chan {s : State} {c : Nat} (tag count status : Nat) (hl : c < s.dma.channels.length) :
    ((s.dmaHalt c tag count status).chan c).mode = .halted ∧ ((s.dmaHalt c tag count status).chan c).stops = [] := by
  unfold State.dmaHalt
  split
  · exact State.dmaHalted_chan (Nat.lt_of_lt_of_eq hl (s.dmaEntry_length _ _ _ _).symm)
  · exact State.dmaHalted_chan hl

/-! DMA_CHANNEL_CTRL (R441 to R443). -/

theorem served_ran_chan {c : CmdSpec} {p : Packet} {s : State} {i : Instr} {n : Nat} {P : DmaChannel → Prop} (hx : exec i s = serve c p s)
    (h : startsNow c p s = true) (hP : P ((c.run s.host.nextAcc p (running c p s)).1.chan n)) : Reaches i s fun t => P (t.chan n) :=
  served_ran hx h fun _ ht => Eq.subst (motive := P) (State.chan_congr ht.dma_eq n).symm hP

theorem dmaCtrl_mode {op : Nat} {mode : DmaMode} {run : Nat → Nat → State → State × Answer} {p : Packet} {s : State}
    (h : startsNow (dmaCtrlSpec op mode run) p s = true) : (s.chan (p.fld 0 1)).mode = mode := by
  obtain ⟨-, hc, -⟩ := checks_of h
  have stands := firstFail_none hc (_, stDmaState) (List.mem_cons_of_mem _ (List.mem_cons_of_mem _ (List.mem_cons_self ..)))
  have same : (taken p s).dma = s.dma := by
    obtain ⟨_, ht⟩ := taken_eq p s
    rw [ht]
  rw [← State.chan_congr same]
  exact bne_eq_false_iff_eq.mp stands

/-- What the run of a channel command reads of the state is as it was. -/
theorem running_chan (c : CmdSpec) (p : Packet) (s : State) (n : Nat) :
    (running c p s).dma = s.dma ∧ (running c p s).inBurst n = s.inBurst n ∧ (running c p s).chanChain n = s.chanChain n := by
  obtain ⟨_, _, _, _, _, hr⟩ := running_host c p s
  rw [hr]
  exact ⟨rfl, rfl, rfl⟩

theorem dmaStop_reaches {p : Packet} {s : State} (hl : p.fld 0 1 < s.dma.channels.length) (h : startsNow dmaStopSpec p s = true) :
    (s.inBurst (p.fld 0 1) = true → Reaches (.dmaStop p) s fun t =>
      (t.chan (p.fld 0 1)).mode = .running ∧ (t.chan (p.fld 0 1)).stops = (s.chan (p.fld 0 1)).stops ++ [s.host.nextAcc]) ∧
    (s.inBurst (p.fld 0 1) = false → Reaches (.dmaStop p) s fun t =>
      (t.chan (p.fld 0 1)).mode = .halted ∧ (t.chan (p.fld 0 1)).stops = []) := by
  obtain ⟨hd, hb, -⟩ := running_chan dmaStopSpec p s (p.fld 0 1)
  have hl' : p.fld 0 1 < (running dmaStopSpec p s).dma.channels.length := by rw [hd]; exact hl
  refine ⟨fun hbs => ?_, fun hbs => ?_⟩
  · refine served_ran_chan (P := fun ch => ch.mode = .running ∧ ch.stops = (s.chan (p.fld 0 1)).stops ++ [s.host.nextAcc]) rfl h ?_
    have ran : dmaStopSpec.run s.host.nextAcc p (running dmaStopSpec p s) = _ := if_pos (hb.trans hbs)
    rw [ran, State.setChan_chan_same hl', State.chan_congr hd]
    exact ⟨dmaCtrl_mode h, rfl⟩
  · refine served_ran_chan (P := fun ch => ch.mode = .halted ∧ ch.stops = []) rfl h ?_
    have ran : dmaStopSpec.run s.host.nextAcc p (running dmaStopSpec p s) = _ := if_neg (by rw [hb, hbs]; exact Bool.false_ne_true)
    rw [ran]
    split
    · exact State.dmaHalt_chan _ _ _ (Nat.lt_of_lt_of_eq hl' (updAt_length _ _ _).symm)
    · exact State.dmaHalt_chan _ _ _ (Nat.lt_of_lt_of_eq hl' ((updAt_length _ _ _).trans (updAt_length _ _ _)).symm)

theorem dmaRetry_reaches {p : Packet} {s : State} (hl : p.fld 0 1 < s.dma.channels.length) (h : startsNow dmaRetrySpec p s = true) :
    ((s.chan (p.fld 0 1)).addr = s.chanChain (p.fld 0 1) → Reaches (.dmaRetry p) s fun t =>
      (t.chan (p.fld 0 1)).mode = .running ∧ (t.chan (p.fld 0 1)).step = .decide ∧ (t.chan (p.fld 0 1)).dbPending = false) ∧
    ((s.chan (p.fld 0 1)).addr ≠ s.chanChain (p.fld 0 1) → Reaches (.dmaRetry p) s fun t =>
      (t.chan (p.fld 0 1)).mode = .running ∧ (t.chan (p.fld 0 1)).step = .fetch ∧ (t.chan (p.fld 0 1)).next = (s.chan (p.fld 0 1)).addr) := by
  obtain ⟨hd, -, hc⟩ := running_chan dmaRetrySpec p s (p.fld 0 1)
  have hl' : p.fld 0 1 < (running dmaRetrySpec p s).dma.channels.length := by rw [hd]; exact hl
  have ha : ((running dmaRetrySpec p s).chan (p.fld 0 1)).addr = (s.chan (p.fld 0 1)).addr := by rw [State.chan_congr hd]
  refine ⟨fun he => ?_, fun hne => ?_⟩
  · refine served_ran_chan (P := fun ch => ch.mode = .running ∧ ch.step = .decide ∧ ch.dbPending = false) rfl h ?_
    have ran : dmaRetrySpec.run s.host.nextAcc p (running dmaRetrySpec p s) = _ := if_pos ((ha.trans he).trans hc.symm)
    rw [ran, State.dmaDecide_chan_same hl']
    exact ⟨rfl, rfl, rfl⟩
  · refine served_ran_chan (P := fun ch => ch.mode = .running ∧ ch.step = .fetch ∧ ch.next = (s.chan (p.fld 0 1)).addr) rfl h ?_
    have ran : dmaRetrySpec.run s.host.nextAcc p (running dmaRetrySpec p s) = _ := if_neg fun he => hne ((ha.symm.trans he).trans hc)
    rw [ran, State.chan_congr (State.sourceLevel_dma _ _ _), State.setChan_chan_same hl']
    exact ⟨rfl, rfl, ha⟩

theorem dmaSkip_reaches {p : Packet} {s : State} (hl : p.fld 0 1 < s.dma.channels.length) (h : startsNow dmaSkipSpec p s = true) :
    Reaches (.dmaSkip p) s fun t => (t.chan (p.fld 0 1)).mode = .running ∧ (t.chan (p.fld 0 1)).step = .decide ∧
      (t.chan (p.fld 0 1)).addr = (s.chan (p.fld 0 1)).addr := by
  obtain ⟨hd, -, -⟩ := running_chan dmaSkipSpec p s (p.fld 0 1)
  have hl' : p.fld 0 1 < (running dmaSkipSpec p s).dma.channels.length := by rw [hd]; exact hl
  refine served_ran_chan (P := fun ch => ch.mode = .running ∧ ch.step = .decide ∧ ch.addr = (s.chan (p.fld 0 1)).addr) rfl h ?_
  have ran : dmaSkipSpec.run s.host.nextAcc p (running dmaSkipSpec p s) = ((running dmaSkipSpec p s).dmaDecide (p.fld 0 1) false, .done stOk []) := rfl
  rw [ran, State.dmaDecide_chan_same hl', State.chan_congr hd]
  exact ⟨rfl, rfl, rfl⟩

/-- Settles O40: STOP, RETRY and SKIP on their channel (R441 to R443). That RETRY on the anchor makes its end decision again, as the anchor is
never executed, is the model's choice (log entry 67). -/
theorem dmaCommandsAct : Obligations.DmaCommandsAct := by
  rintro p s c rfl hl
  exact ⟨dmaStop_reaches hl, dmaRetry_reaches hl, dmaSkip_reaches hl⟩

/-! The course of a chain (R422 to R427, R435). -/

theorem dmaEvent_reaches {i : Instr} {s : State} {t c : Nat} {f : State → State} {P : State → Prop}
    (hx : exec i s = s.event t fun s => if c < 16 then f s else s) (hup : s.up = true) (hc : c < 16)
    (h : P { f (s.at t) with dt := max s.dt t, pending := s.pending }) : Reaches i s P :=
  up_reaches hx hup (if_pos hc) h

/-- The channel when the bytes of its next descriptor have come. -/
def DmaChannel.fetched (bytes : List Byte) (ch : DmaChannel) : DmaChannel :=
  { ch with addr := ch.next, desc := bytes, moved := 0, held := [], splitUsed := false, short := false, mismatch := false }

theorem State.dmaFetched_checked {c : Nat} {bytes : List Byte} {s : State} (hm : (s.chan c).mode = .running) (hs : (s.chan c).step = .fetch)
    (hb : bytes.length = 64) (hr : s.ringFree c = true) (hw : s.mayWrite = true) (hl : c < s.dma.channels.length) :
    s.dmaFetched c bytes = match descCheck c ((s.chan c).fetched bytes) s with
      | some st => (s.setChan c (DmaChannel.fetched bytes)).dmaHalt c (((s.chan c).fetched bytes).dField 40 8) 0 st
      | none => (s.setChan c (DmaChannel.fetched bytes)).setChan c fun ch => { ch with step := if ch.op = 3 ∨ ch.length = 0 then .ending else .move } := by
  have takes : ((s.chan c).mode != .running || (s.chan c).step != .fetch || bytes.length != 64 || !s.ringFree c || !s.mayWrite) = false := by
    simp [hm, hs, hb, hr, hw]
  have same : (s.setChan c (DmaChannel.fetched bytes)).chan c = (s.chan c).fetched bytes := State.setChan_chan_same hl
  have fetches : s.dmaFetched c bytes = match descCheck c ((s.setChan c (DmaChannel.fetched bytes)).chan c) s with
      | some st => (s.setChan c (DmaChannel.fetched bytes)).dmaHalt c (((s.setChan c (DmaChannel.fetched bytes)).chan c).dField 40 8) 0 st
      | none => (s.setChan c (DmaChannel.fetched bytes)).setChan c fun ch => { ch with step := if ch.op = 3 ∨ ch.length = 0 then .ending else .move } :=
    if_neg (by rw [takes]; exact Bool.false_ne_true)
  rw [fetches, same]

theorem descriptorFetch_reaches {t c : Nat} {bytes : List Byte} {s : State} (hup : s.up = true) (hc : c < 16) (hl : c < s.dma.channels.length)
    (hm : (s.chan c).mode = .running) (hs : (s.chan c).step = .fetch) (hb : bytes.length = 64) (hr : s.ringFree c = true) (hw : s.mayWrite = true) :
    (descCheck c ((s.chan c).fetched bytes) s = none → Reaches (.dmaDescriptorFetch t c bytes) s fun u =>
      (u.chan c).mode = .running ∧ (u.chan c).desc = bytes ∧
        (u.chan c).step = (if ((s.chan c).fetched bytes).op = 3 ∨ ((s.chan c).fetched bytes).length = 0 then DmaStep.ending else .move)) ∧
    (∀ st, descCheck c ((s.chan c).fetched bytes) s = some st → Reaches (.dmaDescriptorFetch t c bytes) s fun u =>
      (u.chan c).mode = .halted ∧ u.dram = s.dram) := by
  have fetches := State.dmaFetched_checked (s := s.at t) hm hs hb hr hw hl
  have hl' : c < ((s.at t).setChan c (DmaChannel.fetched bytes)).dma.channels.length := Nat.lt_of_lt_of_eq hl (updAt_length _ _ _).symm
  refine ⟨fun hok => dmaEvent_reaches rfl hup hc ?_, fun st hst => dmaEvent_reaches rfl hup hc ?_⟩
  · have hok' : descCheck c (((s.at t).chan c).fetched bytes) (s.at t) = none := hok
    rw [hok'] at fetches
    dsimp only at fetches
    have chan : ((s.at t).dmaFetched c bytes).chan c = { (s.chan c).fetched bytes with
        step := if ((s.chan c).fetched bytes).op = 3 ∨ ((s.chan c).fetched bytes).length = 0 then .ending else .move } := by
      rw [fetches, State.setChan_chan_same hl', State.setChan_chan_same (s := s.at t) hl]
      rfl
    exact ⟨(congrArg DmaChannel.mode chan).trans hm, congrArg DmaChannel.desc chan, congrArg DmaChannel.step chan⟩
  · have hst' : descCheck c (((s.at t).chan c).fetched bytes) (s.at t) = some st := hst
    rw [hst'] at fetches
    dsimp only at fetches
    rw [fetches]
    exact ⟨(State.dmaHalt_chan _ _ _ hl').1, (State.dmaHalt_moved _ _ _ _ _).dram_eq⟩

/-- Bytes written to a DRAM destination (R424). -/
theorem State.dmaWrite_dram {c : Nat} {ch : DmaChannel} {bytes : List Byte} {s : State} (hd : ch.dstSpace = 0) :
    (s.dmaWrite c ch bytes).dram = s.dram.writeBytes dramDefault (ch.dst + ch.moved) bytes := by
  unfold State.dmaWrite
  dsimp only
  rw [if_pos hd]
  rfl

theorem State.dmaBurst_fill {c : Nat} {src dst : List Byte} {s : State} (hb : s.inBurst c = true) (hd : (s.chan c).dstSpace = 0)
    (ho : (s.chan c).op = 1) : (s.dmaBurst c src dst).dram =
      s.dram.writeBytes dramDefault ((s.chan c).dst + (s.chan c).moved) (fillBytes ((s.chan c).dField 32 8) (s.chan c).burst) := by
  unfold State.dmaBurst
  simp only [hb, ho, Bool.true_or, Bool.not_true, Bool.false_eq_true, if_false, bne_self_eq_false, Bool.false_and, Nat.reduceBEq, Bool.or_self, if_true]
  rw [(State.dmaAfter_moved _ _).dram_eq]
  exact (State.setChan_dram _ _ _).trans (State.dmaWrite_dram hd)

theorem State.dmaBurst_copy {c : Nat} {src dst : List Byte} {s : State} (hb : s.inBurst c = true) (hd : (s.chan c).dstSpace = 0)
    (ho : (s.chan c).op = 0) (hs : (s.chan c).srcSpace = 0) (hp : s.poisoned ((s.chan c).src + (s.chan c).moved) (s.chan c).burst = false) :
    (s.dmaBurst c src dst).dram = s.dram.writeBytes dramDefault ((s.chan c).dst + (s.chan c).moved)
      (s.dramRead ((s.chan c).src + (s.chan c).moved) (s.chan c).burst) := by
  have reads : s.sideBytes (s.chan c).srcSpace ((s.chan c).src + (s.chan c).moved) (s.chan c).burst src =
      some (s.dramRead ((s.chan c).src + (s.chan c).moved) (s.chan c).burst) := if_pos hs
  unfold State.dmaBurst
  dsimp only
  rw [reads]
  simp only [hb, ho, hp, Bool.true_or, Bool.not_true, Bool.false_eq_true, if_false, Bool.and_false, Nat.reduceBEq, Bool.false_and, Bool.or_self,
    if_true, Nat.reduceEqDiff]
  rw [(State.dmaAfter_moved _ _).dram_eq]
  exact (State.setChan_dram _ _ _).trans (State.dmaWrite_dram hd)

theorem burstEnd_reaches {t c : Nat} {src dst : List Byte} {s : State} (hup : s.up = true) (hc : c < 16) (hb : s.inBurst c = true)
    (hd : (s.chan c).dstSpace = 0) :
    ((s.chan c).op = 1 → Reaches (.dmaBurstEnd t c src dst) s fun u =>
      u.dram = s.dram.writeBytes dramDefault ((s.chan c).dst + (s.chan c).moved) (fillBytes ((s.chan c).dField 32 8) (s.chan c).burst)) ∧
    ((s.chan c).op = 0 → (s.chan c).srcSpace = 0 → s.poisoned ((s.chan c).src + (s.chan c).moved) (s.chan c).burst = false →
      Reaches (.dmaBurstEnd t c src dst) s fun u => u.dram = s.dram.writeBytes dramDefault ((s.chan c).dst + (s.chan c).moved)
        (s.dramRead ((s.chan c).src + (s.chan c).moved) (s.chan c).burst)) :=
  ⟨fun ho => dmaEvent_reaches rfl hup hc (State.dmaBurst_fill (s := s.at t) hb hd ho),
    fun ho hs hp => dmaEvent_reaches rfl hup hc (State.dmaBurst_copy (s := s.at t) hb hd ho hs hp)⟩

theorem State.dmaEntry_when {s : State} {c : Nat} (wants : Bool) (tag count status : Nat) (hl : c < s.dma.channels.length) :
    ((if wants then s.dmaEntry c tag count status else s).chan c).completed = (s.chan c).completed ∧
      c < (if wants then s.dmaEntry c tag count status else s).dma.channels.length := by
  cases wants with
  | false => exact ⟨rfl, hl⟩
  | true =>
    simp only [if_true]
    obtain ⟨_, _, _, he⟩ := State.dmaEntry_chan_same tag count status hl
    exact ⟨by rw [he], Nat.lt_of_lt_of_eq hl (s.dmaEntry_length _ _ _ _).symm⟩

/-- A descriptor that ends is counted, and the LINK word is read (R426, R427, R435). -/
theorem State.dmaEnd_chan {c : Nat} {s : State} (hl : c < s.dma.channels.length) (hm : (s.chan c).mode = .running)
    (hs : (s.chan c).step = .ending) (hw : s.mayWrite = true) :
    ((s.dmaEnd c).chan c).completed = satNat (2 ^ 64 - 1) ((s.chan c).completed + 1) ∧
      ((s.dmaEnd c).chan c).mode = .running ∧ ((s.dmaEnd c).chan c).step = .decide := by
  unfold State.dmaEnd
  simp only [hm, hs, hw, bne_self_eq_false, Bool.not_true, Bool.or_self, Bool.false_eq_true, if_false]
  obtain ⟨hcomp, hlen⟩ := State.dmaEntry_when (((s.chan c).dField 11 1).testBit 0 || (s.chan c).short || (s.chan c).mismatch)
    ((s.chan c).dField 40 8) (s.chan c).moved stOk hl
  rw [State.dmaDecide_chan_same (Nat.lt_of_lt_of_eq hlen (updAt_length _ _ _).symm), State.setChan_chan_same hlen, hcomp]
  exact ⟨rfl, rfl, rfl⟩

theorem descriptorEnd_reaches {t c : Nat} {s : State} (hup : s.up = true) (hc : c < 16) (hl : c < s.dma.channels.length)
    (hm : (s.chan c).mode = .running) (hs : (s.chan c).step = .ending) (hw : s.mayWrite = true) :
    Reaches (.dmaDescriptorEnd t c) s fun u => (u.chan c).completed = satNat (2 ^ 64 - 1) ((s.chan c).completed + 1) ∧
      (u.chan c).mode = .running ∧ (u.chan c).step = .decide :=
  dmaEvent_reaches rfl hup hc (State.dmaEnd_chan (s := s.at t) hl hm hs hw)

/-- The LINK word decides: the channel follows NEXT, reads again, or parks (R435). -/
theorem State.dmaLink_decides {c w : Nat} {s : State} (hm : (s.chan c).mode = .running) (hs : (s.chan c).step = .decide) (hw : s.mayWrite = true) :
    s.dmaLink c w = if w.testBit 0 = false then s.setChan c fun ch => { ch with next := w / 64 * 64 % 2 ^ 64, step := .fetch, belled := false }
      else if (s.chan c).dbPending then s.setChan c fun ch => { ch with dbPending := false }
      else s.setChan c fun ch =>
        { ch with mode := .parked, parkedBells := if ch.belled then inc32 ch.parkedBells else ch.parkedBells, belled := false } := by
  unfold State.dmaLink
  simp only [hm, hs, hw, bne_self_eq_false, Bool.not_true, Bool.or_self, Bool.false_eq_true, if_false, Bool.not_eq_true']

theorem linkRead_reaches {t c w : Nat} {s : State} (hup : s.up = true) (hc : c < 16) (hl : c < s.dma.channels.length)
    (hm : (s.chan c).mode = .running) (hs : (s.chan c).step = .decide) (hw : s.mayWrite = true) :
    (w.testBit 0 = false → Reaches (.dmaLinkReadReturn t c w) s fun u =>
      (u.chan c).step = .fetch ∧ (u.chan c).next = w / 64 * 64 % 2 ^ 64 ∧ (u.chan c).mode = .running) ∧
    (w.testBit 0 = true → (s.chan c).dbPending = true → Reaches (.dmaLinkReadReturn t c w) s fun u =>
      (u.chan c).mode = .running ∧ (u.chan c).step = .decide ∧ (u.chan c).dbPending = false) ∧
    (w.testBit 0 = true → (s.chan c).dbPending = false → Reaches (.dmaLinkReadReturn t c w) s fun u => (u.chan c).mode = .parked) := by
  have decides := State.dmaLink_decides (s := s.at t) (w := w) hm hs hw
  refine ⟨fun h0 => ?follows, fun h1 hp => ?again, fun h1 hp => ?parks⟩
  case follows =>
    rw [if_pos h0] at decides
    refine dmaEvent_reaches rfl hup hc ?_
    have chan := (congrArg (State.chan · c) decides).trans (State.setChan_chan_same (s := s.at t) hl)
    exact ⟨congrArg DmaChannel.step chan, congrArg DmaChannel.next chan, (congrArg DmaChannel.mode chan).trans hm⟩
  case again =>
    have hp' : ((s.at t).chan c).dbPending = true := hp
    rw [if_neg (by rw [h1]; decide), if_pos hp'] at decides
    refine dmaEvent_reaches rfl hup hc ?_
    have chan := (congrArg (State.chan · c) decides).trans (State.setChan_chan_same (s := s.at t) hl)
    exact ⟨(congrArg DmaChannel.mode chan).trans hm, (congrArg DmaChannel.step chan).trans hs, congrArg DmaChannel.dbPending chan⟩
  case parks =>
    have hp' : ¬ ((s.at t).chan c).dbPending = true := Bool.eq_false_iff.mp hp
    rw [if_neg (by rw [h1]; decide), if_neg hp'] at decides
    refine dmaEvent_reaches rfl hup hc ?_
    exact congrArg DmaChannel.mode ((congrArg (State.chan · c) decides).trans (State.setChan_chan_same (s := s.at t) hl))

theorem State.setChan_readFails (c : Nat) (f : DmaChannel → DmaChannel) (s : State) : (s.setChan c f).dma.readFails = s.dma.readFails := rfl

theorem State.dmaEntry_readFails (c tag count status : Nat) (s : State) : (s.dmaEntry c tag count status).dma.readFails = s.dma.readFails := by
  unfold State.dmaEntry
  dsimp only
  rw [State.setChan_readFails, State.hostEntry_dma]

theorem State.dmaHalt_readFails (c tag count status : Nat) (s : State) : (s.dmaHalt c tag count status).dma.readFails = s.dma.readFails := by
  unfold State.dmaHalt State.dmaHalted
  rw [State.completeAll_dma, State.sourceLevel_dma]
  split
  · exact s.dmaEntry_readFails c tag count status
  · rfl

theorem State.dmaReadFail_halts {c : Nat} {s : State} (tag count status : Nat) (hl : c < s.dma.channels.length) :
    ((s.dmaReadFail c tag count status).chan c).mode = .halted ∧ (s.dmaReadFail c tag count status).dma.readFails = inc32 s.dma.readFails ∧
      (s.dmaReadFail c tag count status).dram = s.dram := by
  obtain ⟨u, hu⟩ : ∃ u : State, u = { s with dma := { s.dma with readFails := inc32 s.dma.readFails } } := ⟨_, rfl⟩
  have halts : s.dmaReadFail c tag count status = u.dmaHalt c tag count status := hu ▸ rfl
  rw [halts, State.dmaHalt_readFails, (State.dmaHalt_moved _ _ _ _ _).dram_eq]
  exact ⟨(State.dmaHalt_chan _ _ _ (hu ▸ hl)).1, hu ▸ rfl, hu ▸ rfl⟩

theorem State.dmaReadFailed_move {c : Nat} {s : State} (hc : c < 16) (hm : (s.chan c).mode = .running) (hs : (s.chan c).step = .move)
    (hr : (s.chan c).readsHost = true) (hb : s.inBurst c = true) :
    s.dmaReadFailed c = s.dmaReadFail c ((s.chan c).dField 40 8) (s.chan c).countWritten stReadFailed := by
  have writes : s.mayWrite = true := by
    simp only [State.inBurst, Nat.not_le.mpr hc, decide_false, Bool.false_or, Bool.and_eq_true] at hb
    exact hb.1.2
  unfold State.dmaReadFailed
  simp only [hm, hs, hr, hb, writes, bne_self_eq_false, Bool.not_true, Bool.or_self, Bool.false_eq_true, if_false, Bool.and_self, if_true]

theorem readFailed_reaches {t c : Nat} {s : State} (hup : s.up = true) (hc : c < 16) (hl : c < s.dma.channels.length)
    (hm : (s.chan c).mode = .running) (hs : (s.chan c).step = .move) (hr : (s.chan c).readsHost = true) (hb : s.inBurst c = true) :
    Reaches (.dmaReadFailed t c) s fun u => (u.chan c).mode = .halted ∧ u.dma.readFails = inc32 s.dma.readFails ∧ u.dram = s.dram := by
  refine dmaEvent_reaches rfl hup hc ?_
  rw [State.dmaReadFailed_move (s := s.at t) hc hm hs hr hb]
  exact State.dmaReadFail_halts (s := s.at t) _ _ _ hl

/-- Settles O42: the steps of a channel, one by one (R422 to R427, R435). -/
theorem dmaChannelsMove : Obligations.DmaChannelsMove := by
  refine fun t c s hup hc hl hm => ⟨?fetch, ?burst, fun hs hw => descriptorEnd_reaches hup hc hl hm hs hw,
    fun w hs hw => linkRead_reaches hup hc hl hm hs hw, fun hs hr hb => readFailed_reaches hup hc hl hm hs hr hb⟩
  case fetch =>
    rintro bytes ch hs hb hr hw rfl
    exact descriptorFetch_reaches hup hc hl hm hs hb hr hw
  case burst =>
    rintro src dst n rfl hb hd
    exact burstEnd_reaches hup hc hb hd

end Sys2Proof.Machine
end

section
/-! PROOFS. The stores and the DDR5 channels (17): O44 and O45. -/

namespace Sys2Proof.Machine

/-- An event that acts only where `c` does not hold. -/
theorem event_unless {i : Instr} {s : State} {t : Nat} {c : State → Prop} [∀ s, Decidable (c s)] {f : State → State} {P : State → Prop}
    (hx : exec i s = s.event t fun s => if c s then s else f s) (hup : s.up = true) (hc : ¬ c (s.at t))
    (h : P { f (s.at t) with dt := max s.dt t, pending := s.pending }) : Reaches i s P :=
  up_reaches hx hup (if_neg hc) h

/-- An event that acts only where `c` holds. -/
theorem event_where {i : Instr} {s : State} {t : Nat} {c : State → Prop} [∀ s, Decidable (c s)] {f : State → State} {P : State → Prop}
    (hx : exec i s = s.event t fun s => if c s then f s else s) (hup : s.up = true) (hc : c (s.at t))
    (h : P { f (s.at t) with dt := max s.dt t, pending := s.pending }) : Reaches i s P :=
  up_reaches hx hup (if_pos hc) h

/-! Association lists and sorted insertion. -/

theorem alGet_alSet_same (k v : Nat) (l : List (Nat × Nat)) : alGet k (alSet k v l) = some v := by
  induction l with
  | nil => simp [alSet, alGet]
  | cons e l ih =>
    obtain ⟨j, w⟩ := e
    simp only [alSet]
    split
    · simp [alGet]
    · split
      · simp [alGet]
      · next hne => simpa only [alGet, Ne.symm hne, if_false] using ih

/-- Of the elements that satisfy `q`, the one that is inserted is the first where no other is there. -/
theorem find?_insertBy {α : Type} {less : α → α → Bool} {q : α → Bool} {a : α} {l : List α} (ha : q a = true) (hl : ∀ x ∈ l, q x = false) :
    (insertBy less a l).find? q = some a := by
  induction l with
  | nil => simp [insertBy, ha]
  | cons b l ih =>
    simp only [insertBy]
    split
    · simp [ha]
    · rw [List.find?_cons_of_neg (by rw [hl b (List.mem_cons_self ..)]; exact Bool.false_ne_true)]
      exact ih fun x hx => hl x (List.mem_cons_of_mem _ hx)

/-! The memory of the state. -/

theorem State.setStore_store_same {s : State} {n : Nat} {f : Store → Store} (hl : n < s.mem.stores.length) : (s.setStore n f).store n = f (s.store n) := by
  simp only [State.store, State.setStore, State.setMem, updAt_getD, hl, and_self, if_true]

theorem State.setDchan_dchan_same {s : State} {c : Nat} {f : Channel → Channel} (hl : c < s.mem.channels.length) :
    (s.setDchan c f).dchan c = f (s.dchan c) := by
  simp only [State.dchan, State.setDchan, State.setMem, updAt_getD, hl, and_self, if_true]

theorem State.setDchan_length (c : Nat) (f : Channel → Channel) (s : State) : (s.setDchan c f).mem.channels.length = s.mem.channels.length :=
  updAt_length _ _ _

/-! Stores (R456 to R458). -/

theorem Store.needRepair_due (row : Nat) (x : Store) : row ∈ (x.needRepair row).due := by
  unfold Store.needRepair
  split
  · next h => exact List.contains_iff_mem.mp h
  · exact List.mem_append_right _ (List.mem_singleton_self _)

theorem Store.correct_passErrors (row : Nat) (x : Store) : (x.correct row).passErrors = alSet row ((alGet row x.passErrors).getD 0 + 1) x.passErrors := by
  unfold Store.correct Store.needRepair
  dsimp only
  split
  · split <;> rfl
  · rfl

theorem Store.repair_due (n row : Nat) (x : Store) : row ∉ (x.repair n row).due := by
  have gone : row ∉ x.due.filter fun r => r != row := fun h => by simpa using (List.mem_filter.mp h).2
  unfold Store.repair
  dsimp only
  split <;> exact gone

theorem Store.repair_used {n row : Nat} {x : Store} (h : x.usedIn (tileOf n row) < sparesOf n) :
    (x.repair n row).usedIn (tileOf n row) = x.usedIn (tileOf n row) + 1 := by
  unfold Store.repair
  dsimp only
  rw [if_pos h]
  exact congrArg (·.getD 0) (alGet_alSet_same _ _ _)

theorem Store.repair_sparesOut {n row : Nat} {x : Store} (h : sparesOf n ≤ x.usedIn (tileOf n row)) : (x.repair n row).sparesOut = true := by
  unfold Store.repair
  dsimp only
  rw [if_neg (Nat.not_lt.mpr h)]

theorem storeCorrectable_reaches {t n offset : Nat} {s : State} (hup : s.up = true) (hn : n < 4) (hl : n < s.mem.stores.length)
    (ho : n = 3 ∨ offset < storeBytes) : Reaches (.storeCorrectable t n offset) s fun u =>
      u.mem.corrected = inc64 s.mem.corrected ∧ u.mem.uncorrectable = s.mem.uncorrectable ∧
        alGet (storeRow offset) (u.store n).passErrors = some ((alGet (storeRow offset) (s.store n).passErrors).getD 0 + 1) := by
  have inside : ¬ (4 ≤ n ∨ (n < 3 ∧ storeBytes ≤ offset)) := by
    rintro (h | ⟨h, h'⟩)
    · omega
    · rcases ho with ho | ho
      · omega
      · exact Nat.not_le.mpr ho h'
  refine event_unless (rfl : _ = execStoreCorrectable t n offset s) hup inside ?_
  refine ⟨rfl, rfl, ?_⟩
  have chan : ((s.at t).setStore n (Store.correct (storeRow offset))).store n = _ := State.setStore_store_same (s := s.at t) hl
  have errors := (congrArg Store.passErrors chan).trans (Store.correct_passErrors _ _)
  exact (congrArg (alGet (storeRow offset)) errors).trans (alGet_alSet_same _ _ _)

theorem storeUncorrectable_reaches {t offset reader : Nat} {s : State} (hup : s.up = true) (hl : 3 < s.mem.stores.length) :
    Reaches (.storeUncorrectable t 3 offset reader .other) s fun u =>
      u.mem.uncorrectable = inc64 s.mem.uncorrectable ∧ storeRow offset ∈ (u.store 3).due ∧
        ∃ e, u.recorder.arriving = s.recorder.arriving ++ [e] ∧ e.code = 0xD001 ∧ e.source = 3 := by
  have inside : ¬ (4 ≤ 3 ∨ (3 < 3 ∧ storeBytes ≤ offset)) := by omega
  refine event_unless (rfl : _ = execStoreUncorrectable t 3 offset reader .other s) hup inside ?_
  refine ⟨rfl, ?_, _, rfl, rfl, rfl⟩
  have chan := State.setStore_store_same (f := Store.needRepair (storeRow offset))
    (s := (s.at t).setMem fun m => { m with uncorrectable := inc64 m.uncorrectable }) hl
  exact (congrArg Store.due chan).symm ▸ Store.needRepair_due _ _

/-- The scrubber reads the next row of a store, or begins another pass (R457). -/
theorem State.scrubRead_store {n : Nat} {s : State} (hn : n < 3) (hl : n < s.mem.stores.length) : (s.scrubRead n).store n =
    if storeRows ≤ (s.store n).scrubRow + 1 then
      { s.store n with scrubRow := 0, passSince := s.dt, passErrors := [], threshold := s.dparam 0xD003 }
    else { s.store n with scrubRow := (s.store n).scrubRow + 1 } := by
  unfold State.scrubRead
  dsimp only
  rw [State.setStore_store_same hl, if_neg (Nat.ne_of_lt hn)]
  simp only [decide_eq_true_eq]

theorem scrubRead_reaches {t n : Nat} {s : State} (hup : s.up = true) (hn : n < 3) (hl : n < s.mem.stores.length) :
    ((s.store n).scrubRow + 1 < storeRows → Reaches (.scrubRead t n) s fun u =>
      (u.store n).scrubRow = (s.store n).scrubRow + 1 ∧ (u.store n).passErrors = (s.store n).passErrors) ∧
    (storeRows ≤ (s.store n).scrubRow + 1 → Reaches (.scrubRead t n) s fun u =>
      (u.store n).scrubRow = 0 ∧ (u.store n).passErrors = [] ∧ (u.store n).passSince = max s.dt t ∧ (u.store n).threshold = s.dparam 0xD003) := by
  have reads := State.scrubRead_store (s := s.at t) hn hl
  refine ⟨fun h => ?_, fun h => ?_⟩
  · have before : ¬ storeRows ≤ ((s.at t).store n).scrubRow + 1 := Nat.not_le.mpr h
    rw [if_neg before] at reads
    exact event_where (rfl : _ = execScrubRead t n s) hup (Nat.lt_succ_of_lt hn) 
      ⟨congrArg Store.scrubRow reads, (congrArg Store.passErrors reads :)⟩
  · have past : storeRows ≤ ((s.at t).store n).scrubRow + 1 := h
    rw [if_pos past] at reads
    exact event_where (rfl : _ = execScrubRead t n s) hup (Nat.lt_succ_of_lt hn) ⟨congrArg Store.scrubRow reads, congrArg Store.passErrors reads,
      congrArg Store.passSince reads, congrArg Store.threshold reads⟩

theorem rowRepair_reaches {t n row : Nat} {s : State} (hup : s.up = true) (hn : n < 4) (hl : n < s.mem.stores.length) (hd : row ∈ (s.store n).due) :
    Reaches (.rowRepair t n row) s fun u => row ∉ (u.store n).due ∧
      ((s.store n).usedIn (tileOf n row) < sparesOf n → (u.store n).usedIn (tileOf n row) = (s.store n).usedIn (tileOf n row) + 1) ∧
      (sparesOf n ≤ (s.store n).usedIn (tileOf n row) → (u.store n).sparesOut = true) := by
  have turn : ¬ (4 ≤ n ∨ (!(s.store n).due.contains row) = true) := by
    simp [hd, hn]
  refine event_unless (rfl : _ = execRowRepair t n row s) hup turn ?_
  have repaired : ∀ u : State, u.mem.stores = ((s.at t).setStore n (Store.repair n row)).mem.stores → row ∉ (u.store n).due ∧
      ((s.store n).usedIn (tileOf n row) < sparesOf n → (u.store n).usedIn (tileOf n row) = (s.store n).usedIn (tileOf n row) + 1) ∧
      (sparesOf n ≤ (s.store n).usedIn (tileOf n row) → (u.store n).sparesOut = true) := by
    intro u hu
    have store : u.store n = (s.store n).repair n row :=
      (congrArg (fun l => l.getD n {}) hu).trans (State.setStore_store_same (s := s.at t) hl)
    rw [store]
    exact ⟨Store.repair_due _ _ _, Store.repair_used, Store.repair_sparesOut⟩
  refine repaired _ ?_
  dsimp only
  split
  · rfl
  · split <;> rfl

/-- Settles O44: what each event does to its store (R456 to R458). -/
theorem storesAct : Obligations.StoresAct := by
  refine fun t n s hup hn hl => ⟨fun offset ho => storeCorrectable_reaches hup hn hl ho, fun offset reader h3 => ?_,
    fun h3 => (scrubRead_reaches hup h3 hl).1, fun h3 => (scrubRead_reaches hup h3 hl).2, fun row hd => rowRepair_reaches hup hn hl hd⟩
  subst h3
  exact storeUncorrectable_reaches hup hl

/-! DDR5 channels (R464, R467 to R473). -/

/-- A channel that degrades keeps all but DEGRADED and the start of its map-out. -/
theorem State.degrade_dchan {c : Nat} {s : State} (hl : c < s.mem.channels.length) :
    ∃ m, (s.degrade c).dchan c = { s.dchan c with degraded := true, migrating := m } := by
  have marks : ∀ x : Channel, x.degraded = true → x = { x with degraded := true, migrating := x.migrating } := by
    intro x h
    rw [← h]
  unfold State.degrade
  split
  · next h => exact ⟨_, marks _ h⟩
  · dsimp only
    split
    · unfold State.startMapout
      have chan := State.setDchan_dchan_same (s := s.setDchan c fun x => { x with degraded := true }) (f := fun x => { x with migrating := true })
        (Nat.lt_of_lt_of_eq hl (s.setDchan_length c _).symm)
      rw [State.setDchan_dchan_same hl] at chan
      exact ⟨true, chan⟩
    · exact ⟨(s.dchan c).migrating, State.setDchan_dchan_same hl⟩

theorem State.degrade_dram (c : Nat) (s : State) : (s.degrade c).dram = s.dram := by
  unfold State.degrade
  split
  · rfl
  · dsimp only
    split <;> rfl

theorem State.lineCorrected_counts {c d : Nat} {s : State} (hl : c < s.mem.channels.length) :
    ((s.lineCorrected c d).dchan c).corrected = alSet d (inc32 ((alGet d (s.dchan c).corrected).getD 0)) (s.dchan c).corrected ∧
      (s.lineCorrected c d).dram = s.dram := by
  unfold State.lineCorrected
  dsimp only
  have chan := State.setDchan_dchan_same (s := s) (f := fun x => { x with
    corrected := alSet d (inc32 ((alGet d x.corrected).getD 0)) x.corrected
    recent := (d, s.dt) :: x.recent.filter fun e => decide (s.dt < e.2 + hour) }) hl
  split
  · obtain ⟨m, hm⟩ := State.degrade_dchan (s := s.setDchan c fun x => { x with
      corrected := alSet d (inc32 ((alGet d x.corrected).getD 0)) x.corrected
      recent := (d, s.dt) :: x.recent.filter fun e => decide (s.dt < e.2 + hour) }) (Nat.lt_of_lt_of_eq hl (s.setDchan_length c _).symm)
    rw [hm, chan]
    exact ⟨rfl, State.degrade_dram _ _⟩
  · rw [chan]
    exact ⟨rfl, rfl⟩

theorem dramCorrected_reaches {t c rank sub dev : Nat} {s : State} (hup : s.up = true) (hc : c < 4) (hl : c < s.mem.channels.length)
    (hr : rank < 2) (hs : sub < 2) (hd : dev < 10) (hi : (s.dchan c).inService = true) :
    Reaches (.dramCorrected t c rank sub dev) s fun u =>
      alGet (20 * rank + 10 * sub + dev) (u.dchan c).corrected = some (inc32 ((alGet (20 * rank + 10 * sub + dev) (s.dchan c).corrected).getD 0)) ∧
        u.dram = s.dram := by
  obtain ⟨counted, hdram⟩ := State.lineCorrected_counts (s := s.at t) (d := 20 * rank + 10 * sub + dev) hl
  refine event_where (rfl : _ = execDramCorrected t c rank sub dev s) hup ⟨hc, hr, hs, hd, hi⟩ ?_
  exact ⟨(congrArg (alGet _) counted).trans (alGet_alSet_same _ _ _), hdram⟩

theorem mem_addLines {ls add : List Nat} {a : Nat} (h : a ∈ add) : a ∈ addLines ls add := by
  unfold addLines
  by_cases hl : a ∈ ls
  · exact List.mem_append_left _ hl
  · exact List.mem_append_right _ (List.mem_filter.mpr ⟨h, by simp [hl]⟩)

/-- The state in which a pair of lines has been poisoned and recorded (R464). -/
def State.pairPoisoned (a : Nat) (s : State) : State :=
  ((s.setDchan (s.placeOf a).1 fun x => { x with uncorrectable := satNat 18446744073709551615 (x.uncorrectable + 2) }).setMem fun m =>
    { m with poison := addLines m.poison [a / 128 * 128, a / 128 * 128 + 64] }).logEvent 0xD002 (s.placeOf a).1 0 (beside (a / 128 * 128) 8 0)

theorem State.dramPoison_visible {a : Nat} {s : State} (hb : dramBase ≤ a) (hi : a < dramBase + s.installed) (hr : a < s.reservedBase) :
    (s.dramPoison a).mem = (s.pairPoisoned a).mem ∧ (s.dramPoison a).dram = (s.pairPoisoned a).dram ∧
      (s.dramPoison a).recorder = (s.pairPoisoned a).recorder := by
  have inside : ¬ (a < dramBase ∨ dramBase + s.installed ≤ a) := not_or.mpr ⟨Nat.not_lt.mpr hb, Nat.not_le.mpr hi⟩
  have visible : ¬ s.reservedBase ≤ a := Nat.not_le.mpr hr
  unfold State.dramPoison
  rw [if_neg inside]
  simp only [if_neg visible]
  split
  · split <;> exact ⟨rfl, rfl, rfl⟩
  · exact ⟨rfl, rfl, rfl⟩

theorem dramPoison_reaches {t a : Nat} {s : State} (hup : s.up = true) (hb : dramBase ≤ a) (hi : a < dramBase + s.installed) (hr : a < s.reservedBase) :
    Reaches (.dramPoison t a) s fun u => a / 128 * 128 ∈ u.mem.poison ∧ a / 128 * 128 + 64 ∈ u.mem.poison ∧ u.dram = s.dram ∧
      ∃ e, u.recorder.arriving = s.recorder.arriving ++ [e] ∧ e.code = 0xD002 := by
  have installed : (s.at t).installed = s.installed := by simp only [State.installed, State.at_mem]
  have reserved : (s.at t).reservedBase = s.reservedBase := by simp only [State.reservedBase, installed]
  obtain ⟨hm, hd, hrec⟩ := State.dramPoison_visible (s := s.at t) hb (installed.symm ▸ hi) (reserved.symm ▸ hr)
  refine event_of (rfl : _ = execDramPoison t a s) hup ?_
  have poison : ((s.at t).dramPoison a).mem.poison = addLines s.mem.poison [a / 128 * 128, a / 128 * 128 + 64] := congrArg MemState.poison hm
  refine ⟨?_, ?_, hd, ?_⟩
  · exact poison ▸ mem_addLines (List.mem_cons_self ..)
  · exact poison ▸ mem_addLines (List.mem_cons_of_mem _ (List.mem_cons_self ..))
  · exact ⟨_, congrArg Recorder.arriving hrec, rfl⟩

theorem refreshDue_reaches {t c rank stall : Nat} {s : State} (hup : s.up = true) (hc : c < 4) (hl : c < s.mem.channels.length) (hr : rank < 2)
    (hi : (s.dchan c).inService = true) (burst : Bool) :
    Reaches (.refreshDue t c rank burst stall) s fun u => u.dchan c = (s.dchan c).refresh rank burst stall :=
  event_where (rfl : _ = execRefreshDue t c rank burst stall s) hup ⟨hc, hr, hi⟩ (State.setDchan_dchan_same (s := s.at t) hl)

theorem retrainPause_reaches {t c margin stall : Nat} {s : State} (hup : s.up = true) (hc : c < 4) (hl : c < s.mem.channels.length)
    (hi : (s.dchan c).inService = true) : Reaches (.retrainPause t c margin stall) s fun u =>
      (u.dchan c).owed = [0, 0] ∧ (u.dchan c).margin = margin % 256 ∧ (u.dchan c).pauses = inc32 (s.dchan c).pauses ∧
        (margin % 256 < s.dparam 0xD006 → (u.dchan c).degraded = true) := by
  have chan := State.setDchan_dchan_same (s := s.at t) (f := Channel.pause (margin % 256) stall) hl
  refine event_where (rfl : _ = execRetrainPause t c margin stall s) hup ⟨hc, hi⟩ ?_
  unfold State.pause
  dsimp only
  split
  · obtain ⟨m, hm⟩ := State.degrade_dchan (s := (s.at t).setDchan c (Channel.pause (margin % 256) stall))
      (Nat.lt_of_lt_of_eq hl ((s.at t).setDchan_length c _).symm)
    rw [chan] at hm
    exact ⟨congrArg Channel.owed hm, congrArg Channel.margin hm, congrArg Channel.pauses hm, fun _ => congrArg Channel.degraded hm⟩
  · next hm => exact ⟨congrArg Channel.owed chan, congrArg Channel.margin chan, congrArg Channel.pauses chan, fun h => absurd h hm⟩

/-! Row-hammer tables (R469, R470). -/

theorem Channel.table_place (x : Channel) (rank bank : Nat) : (x.table rank bank).rank = rank ∧ (x.table rank bank).bank = bank := by
  unfold Channel.table
  cases hf : x.banks.find? fun b => b.rank == rank && b.bank == bank with
  | none => exact ⟨rfl, rfl⟩
  | some b =>
    have here := List.find?_some hf
    simp only [Bool.and_eq_true, beq_iff_eq] at here
    exact here

theorem Channel.setTable_table {b : BankTable} {x : Channel} {rank bank : Nat} (hr : b.rank = rank) (hb : b.bank = bank) :
    (x.setTable b).table rank bank = b := by
  subst hr hb
  unfold Channel.table Channel.setTable
  dsimp only
  rw [find?_insertBy (a := b)]
  · rfl
  · simp
  · intro y hy
    exact Bool.not_eq_true' _ ▸ (List.mem_filter.mp hy).2

theorem BankTable.activate_place (threshold row : Nat) (b : BankTable) :
    (b.activate threshold row).1.rank = b.rank ∧ (b.activate threshold row).1.bank = b.bank := by
  unfold BankTable.activate
  dsimp only
  split <;> exact ⟨rfl, rfl⟩

theorem BankTable.activates_place (threshold : Nat) (rows : List Nat) (b : BankTable) :
    (b.activates threshold rows).1.rank = b.rank ∧ (b.activates threshold rows).1.bank = b.bank := by
  unfold BankTable.activates
  generalize (0 : Nat) = n
  induction rows generalizing b n with
  | nil => exact ⟨rfl, rfl⟩
  | cons row rows ih =>
    obtain ⟨hr, hb⟩ := b.activate_place threshold (row % 65536)
    obtain ⟨hr', hb'⟩ := ih (b.activate threshold (row % 65536)).1 (n + (b.activate threshold (row % 65536)).2)
    exact ⟨hr'.trans hr, hb'.trans hb⟩

theorem neighbourRefresh_reaches {t c rank bank : Nat} {acts : List Nat} {s : State} (hup : s.up = true) (hc : c < 4) (hl : c < s.mem.channels.length)
    (hr : rank < 2) (hb : bank < 32) (hi : (s.dchan c).inService = true) : Reaches (.neighbourRefresh t c rank bank acts) s fun u =>
      (u.dchan c).table rank bank = (((s.dchan c).table rank bank).activates (s.dparam 0xD005) acts).1 := by
  refine event_where (rfl : _ = execNeighbourRefresh t c rank bank acts s) hup ⟨hc, hr, hb, hi⟩ ?_
  have chan := State.setDchan_dchan_same (s := s.at t) (f := Channel.hammered (s.dparam 0xD005) rank bank acts) hl
  obtain ⟨hr', hb'⟩ := (s.dchan c).table_place rank bank
  obtain ⟨har, hab⟩ := ((s.dchan c).table rank bank).activates_place (s.dparam 0xD005) acts
  exact (congrArg (·.table rank bank) chan).trans (Channel.setTable_table (har.trans hr') (hab.trans hb'))

theorem rfmIssue_reaches {t c rank bank raaimt stall : Nat} {forced : Bool} {s : State} (hup : s.up = true) (hc : c < 4)
    (hl : c < s.mem.channels.length) (hr : rank < 2) (hb : bank < 32) (hi : (s.dchan c).inService = true) (h0 : raaimt ≠ 0)
    (hle : raaimt ≤ ((s.dchan c).table rank bank).rolling) : Reaches (.rfmIssue t c rank bank raaimt forced stall) s fun u =>
      ((u.dchan c).table rank bank).rolling = ((s.dchan c).table rank bank).rolling - raaimt := by
  refine event_where (rfl : _ = execRfmIssue t c rank bank raaimt forced stall s) hup ⟨hc, hr, hb, hi⟩ ?_
  have chan := State.setDchan_dchan_same (s := s.at t) (f := Channel.rfm rank bank raaimt forced stall) hl
  obtain ⟨hr', hb'⟩ := (s.dchan c).table_place rank bank
  have due : ¬ (raaimt = 0 ∨ ((s.dchan c).table rank bank).rolling < raaimt) := not_or.mpr ⟨h0, Nat.not_lt.mpr hle⟩
  have issued : ((s.dchan c).rfm rank bank raaimt forced stall).table rank bank =
      { (s.dchan c).table rank bank with rolling := ((s.dchan c).table rank bank).rolling - raaimt } := by
    unfold Channel.rfm
    dsimp only
    rw [if_neg due]
    split <;> exact Channel.setTable_table hr' hb'
  exact congrArg BankTable.rolling ((congrArg (·.table rank bank) chan).trans issued)

theorem refreshWindowClear_reaches {t c : Nat} {s : State} (hup : s.up = true) (hc : c < 4) (hl : c < s.mem.channels.length) :
    Reaches (.refreshWindowClear t c) s fun u => ∀ b ∈ (u.dchan c).banks, b.rows = [] := by
  refine event_where (rfl : _ = execRefreshWindowClear t c s) hup hc ?_
  have chan := State.setDchan_dchan_same (s := s.at t)
    (f := fun x => { x with banks := x.banks.map fun b => { b with rows := [] } }) hl
  intro b hb
  have hb' : b ∈ ((s.at t).dchan c).banks.map fun b => { b with rows := [] } := by
    have banks := congrArg Channel.banks chan
    exact Eq.mp (congrArg (b ∈ ·) banks) hb
  obtain ⟨x, -, rfl⟩ := List.mem_map.mp hb'
  rfl

/-! Map-out (R471 to R473). -/

theorem memChannelMapout_reaches {p : Packet} {s : State} (h : startsNow memChannelMapoutSpec p s = true) (hl : p.fld 0 1 < s.mem.channels.length) :
    Reaches (.memChannelMapout p) s fun u => u.mem.mapout = some (p.fld 0 1) ∧ u.mem.pointer = 0 ∧ (u.dchan (p.fld 0 1)).migrating = true ∧
      u.mem.acc = some s.host.nextAcc := by
  refine served_begun rfl h fun u hu g x => ?_
  have hl' : p.fld 0 1 < u.mem.channels.length := by
    obtain ⟨_, _, rfl⟩ := hu
    exact hl
  exact ⟨rfl, rfl, congrArg Channel.migrating (State.setDchan_dchan_same (f := fun x => { x with migrating := true }) hl'), rfl⟩

theorem State.migrateBlock_copied {c : Nat} {s : State} (hm : s.mem.mapout = some c) (hg : (s.dchan c).migrating = true)
    (hp : s.mem.pointer < s.blocks) : s.migrateBlock true = s.setMem fun m => { m with pointer := m.pointer + 1 } := by
  unfold State.migrateBlock
  simp only [hm, hg, Bool.not_true, Bool.false_or, decide_eq_true_eq, Nat.not_le.mpr hp, if_false, if_true]

theorem migrationBlock_reaches {t c : Nat} {s : State} (hup : s.up = true) (hm : s.mem.mapout = some c) (hg : (s.dchan c).migrating = true)
    (hp : s.mem.pointer < s.blocks) : Reaches (.migrationBlock t true) s fun u => u.mem = { s.mem with pointer := s.mem.pointer + 1 } :=
  up_reaches (rfl : _ = execMigrationBlock t true s) hup (State.migrateBlock_copied (s := s.at t) hm hg hp) rfl

theorem Replied.mem_eq {s u : State} (h : Replied s u) : u.mem = s.mem := by
  obtain ⟨_, _, rfl⟩ := h.exists_eq
  rfl

theorem State.migrateEnd_mem {c : Nat} {s : State} (hm : s.mem.mapout = some c) (hg : (s.dchan c).migrating = true)
    (hp : s.blocks ≤ s.mem.pointer) : s.migrateEnd.mem =
      { (s.setDchan c fun x => { x with migrating := false, mappedOut := true, inService := false }).mem with unreported := 0, acc := none } := by
  unfold State.migrateEnd
  simp only [hm, hg, Bool.not_true, Bool.false_or, decide_eq_true_eq, Nat.not_lt.mpr hp, if_false]
  split
  · rw [(State.complete_replied _ _ _ _).mem_eq]
    split <;> rfl
  · split <;> rfl

theorem migrationEnd_reaches {t c : Nat} {s : State} (hup : s.up = true) (hl : c < s.mem.channels.length) (hm : s.mem.mapout = some c)
    (hg : (s.dchan c).migrating = true) (hp : s.blocks ≤ s.mem.pointer) : Reaches (.migrationEnd t) s fun u =>
      (u.dchan c).mappedOut = true ∧ (u.dchan c).inService = false ∧ (u.dchan c).migrating = false ∧ u.mem.acc = none := by
  have ended := State.migrateEnd_mem (s := s.at t) hm hg hp
  have chan : (s.at t).migrateEnd.dchan c = { s.dchan c with migrating := false, mappedOut := true, inService := false } :=
    (congrArg (fun m => m.channels.getD c {}) ended).trans (State.setDchan_dchan_same (s := s.at t) hl)
  exact event_of (rfl : _ = execMigrationEnd t s) hup ⟨congrArg Channel.mappedOut chan, congrArg Channel.inService chan,
    congrArg Channel.migrating chan, congrArg MemState.acc ended⟩

/-- Settles O45: what each event does to its channel (R464, R467 to R473). That a poisoned line writes its event record at once, and that an
RFM lowers the rolling count by RAAIMT, are the model's choices (log entries 28 and 53). -/
theorem dramChannelsAct : Obligations.DramChannelsAct := by
  refine fun t c s hup hc hl => ⟨fun rank sub dev hr hs hd hi => dramCorrected_reaches hup hc hl hr hs hd hi,
    fun a hb hi hr => dramPoison_reaches hup hb hi hr, fun rank stall hr hi ho => ?refresh,
    fun margin stall hi => retrainPause_reaches hup hc hl hi, fun rank bank acts hr hb hi => neighbourRefresh_reaches hup hc hl hr hb hi,
    fun rank bank raaimt forced stall hr hb hi h0 hle => rfmIssue_reaches hup hc hl hr hb hi h0 hle,
    refreshWindowClear_reaches hup hc hl, fun p h hp => ?mapout, fun hm hg => ⟨migrationBlock_reaches hup hm hg, migrationEnd_reaches hup hl hm hg⟩⟩
  case refresh =>
    refine ⟨?_, fun h => ?_, fun h => ?_⟩
    · exact (refreshDue_reaches hup hc hl hr hi false).imp fun u hu => congrArg Channel.owed hu
    · refine (refreshDue_reaches hup hc hl hr hi true).imp fun u hu => ?_
      rw [hu]
      simp only [Channel.refresh, Bool.not_true, Bool.false_eq_true, if_false, if_pos h]
    · refine (refreshDue_reaches hup hc hl hr hi true).imp fun u hu => ?_
      rw [hu]
      simp only [Channel.refresh, Bool.not_true, Bool.false_eq_true, if_false, if_neg (Nat.not_lt.mpr h), and_self]
  case mapout =>
    subst hp
    exact memChannelMapout_reaches h hl

end Sys2Proof.Machine
end

section
/-! PROOFS. The recorder, the build record and the journal (19): O49 and O50. -/

namespace Sys2Proof.Machine

/-! The log. -/

/-- `t` is `s` but for the log's records and what it has lost. -/
def Logged (s t : State) : Prop := ∃ l n f, t = { s with recorder := { s.recorder with log := l, lost := n, full := f } }

theorem Logged.refl (s : State) : Logged s s := ⟨_, _, _, rfl⟩

theorem Logged.trans {s t u : State} (h : Logged s t) (g : Logged t u) : Logged s u := by
  obtain ⟨_, _, _, rfl⟩ := h
  obtain ⟨_, _, _, rfl⟩ := g
  exact ⟨_, _, _, rfl⟩

theorem State.logOne_logged (e : LogRec) (s : State) : Logged s (s.logOne e).1 := by
  unfold State.logOne
  dsimp only
  repeat' split
  all_goals exact ⟨_, _, _, rfl⟩

/-- An event that does not fold into the newest record takes a slot of its own while one is left (R505, R506). -/
theorem State.logOne_fits {e : LogRec} {s : State} (hl : s.recorder.log.length + 1 < s.otp.grade.slots)
    (hf : ∀ n ∈ s.recorder.log.head?, foldsInto s.otp.grade e n = false) : (s.logOne e).1.recorder.log = e :: s.recorder.log := by
  unfold State.logOne
  dsimp only
  split
  · next n rest hlog =>
    have apart : foldsInto s.otp.grade e n = false := hf n (by rw [hlog]; rfl)
    rw [apart, if_neg Bool.false_ne_true, if_neg (by omega), if_neg (by omega), hlog]
  · next hlog => rw [hlog]

/-- A held event written at the end of a freeze (R511). -/
def State.putHeld (s : State) (e : LogRec) : State :=
  match s.recorder.log with
  | n :: rest =>
    if foldsInto s.otp.grade e n then
      { s with recorder := { s.recorder with log := { n with
          repeats := add32 n.repeats (e.repeats + 1), lastDt := if e.repeats = 0 then e.dt else e.lastDt, flags := n.flags ||| 1 } :: rest } }
    else if (s.logOne e).2 then (s.logOne e).1
    else { (s.logOne e).1 with recorder := { (s.logOne e).1.recorder with lost := (s.logOne e).1.recorder.lost + e.repeats } }
  | [] => (s.logOne e).1

theorem State.putHeld_logged (s : State) (e : LogRec) : Logged s (s.putHeld e) := by
  unfold State.putHeld
  split
  · split
    · exact ⟨_, _, _, rfl⟩
    · split
      · exact s.logOne_logged e
      · exact (s.logOne_logged e).trans ⟨_, _, _, rfl⟩
  · exact s.logOne_logged e

/-- The end of a freeze: the held events go to the log, and nothing is held (R511). -/
theorem State.unfreeze_thaws {s : State} (h : s.recorder.frozen.isSome) : s.unfreeze.recorder.frozen = none ∧ s.unfreeze.recorder.held = [] := by
  have thaws : s.unfreeze = _ := if_neg (by rw [Option.isNone_eq_false_iff.mpr h]; exact Bool.false_ne_true)
  obtain ⟨_, _, _, hf⟩ := foldl_related Logged.refl Logged.trans State.putHeld_logged s.recorder.held.reverse
    { s with recorder := { s.recorder with frozen := none, held := [], heldOver := 0 } }
  have put : s.unfreeze = { s.recorder.held.reverse.foldl State.putHeld
      { s with recorder := { s.recorder with frozen := none, held := [], heldOver := 0 } } with recorder := { (s.recorder.held.reverse.foldl State.putHeld
      { s with recorder := { s.recorder with frozen := none, held := [], heldOver := 0 } }).recorder with lost := (s.recorder.held.reverse.foldl State.putHeld
      { s with recorder := { s.recorder with frozen := none, held := [], heldOver := 0 } }).recorder.lost + s.recorder.heldOver } } := thaws
  rw [put, hf]
  exact ⟨rfl, rfl⟩

/-! The recorder's commands (R509 to R512, R520, R521). -/

theorem Replied.recorder_eq {s t : State} (h : Replied s t) : t.recorder = s.recorder := by
  obtain ⟨_, _, rfl⟩ := h.exists_eq
  rfl

theorem recRead_reaches {p : Packet} {s : State} (h : startsNow recReadSpec p s = true) : Reaches (.recRead p) s fun t =>
    t.recorder.log = s.recorder.log ∧ t.recorder.nextSeq = s.recorder.nextSeq ∧ (recAddr p = 0 → t.dram = s.dram) ∧
      (recAddr p ≠ 0 → t.dram = s.dram.writeBytes dramDefault (recAddr p)
        ((s.readLog (p.fld 8 8) (recMax p)).2 ++ (s.readLog (p.fld 8 8) (recMax p)).1.flatMap LogRec.bytes)) := by
  refine served_begun rfl h fun u hu g x => ?_
  obtain ⟨hr, hd, hl, hn⟩ : u.readLog (p.fld 8 8) (recMax p) = s.readLog (p.fld 8 8) (recMax p) ∧ u.dram = s.dram ∧
      u.recorder.log = s.recorder.log ∧ u.recorder.nextSeq = s.recorder.nextSeq := by
    obtain ⟨_, _, rfl⟩ := hu
    exact ⟨rfl, rfl, rfl, rfl⟩
  simp only [recReadSpec]
  rw [← hr, ← hd]
  generalize u.readLog (p.fld 8 8) (recMax p) = r
  split
  · next h0 => exact ⟨hl, hn, fun _ => rfl, fun hne => absurd h0 hne⟩
  · next hne => exact ⟨hl, hn, fun h0 => absurd h0 hne, fun _ => rfl⟩

theorem recUnfreeze_reaches {p : Packet} {s : State} (h : startsNow recUnfreezeSpec p s = true) (hf : s.recorder.frozen.isSome) :
    Reaches (.recUnfreeze p) s fun t => t.recorder.frozen = none ∧ t.recorder.held = [] ∧ t.cyc = s.cyc := by
  refine served_begun rfl h fun u hu g x => ?_
  obtain ⟨hf, hc⟩ : u.recorder.frozen.isSome ∧ u.cyc = s.cyc := by
    obtain ⟨_, _, rfl⟩ := hu
    exact ⟨hf, rfl⟩
  obtain ⟨hn, hh⟩ := State.unfreeze_thaws hf
  obtain ⟨_, he⟩ := u.unfreeze_recorded
  exact ⟨hn, hh, (congrArg State.cyc he).trans hc⟩

theorem fst_ite {α β : Type} {c : Prop} [Decidable c] {a b : α × β} {P : α → Prop} (ha : P a.1) (hb : P b.1) : P (if c then a else b).1 := by
  split
  · exact ha
  · exact hb

/-- An entry of a stream leaves the recorder as it was. -/
theorem State.append_recorder (i : Nat) (gap : Gap → List Byte) (keep : Bool) (bs : List Byte) (s : State) :
    (s.append i gap keep bs).1.recorder = s.recorder :=
  fst_ite (P := fun t : State => t.recorder = s.recorder) rfl (fst_ite (P := fun t : State => t.recorder = s.recorder) rfl rfl)

/-- An entry of the build record keeps the build's identity (R519). -/
theorem State.buildEntry_build (type : Nat) (payload : List Byte) (s : State) :
    ∃ f : Build → Build, (s.buildEntry type payload).recorder.build = s.recorder.build.map f ∧ ∀ b, (f b).id = b.id ∧ (f b).begun = b.begun := by
  unfold State.buildEntry
  split
  · exact ⟨id, (Option.map_id_fun ▸ rfl), fun _ => ⟨rfl, rfl⟩⟩
  · dsimp only
    rw [State.append_recorder]
    exact ⟨_, rfl, fun _ => ⟨rfl, rfl⟩⟩

theorem recBuildBegin_reaches {p : Packet} {s : State} (h : startsNow recBuildBeginSpec p s = true) : Reaches (.recBuildBegin p) s fun t =>
    ∃ b, t.recorder.build = some b ∧ b.id = p.fld 0 8 ∧ b.begun = max s.dt p.t ∧ b.entries = 0 := by
  refine served_begun rfl h fun u hu g x => ?_
  have hdt : u.dt = max s.dt p.t := by
    obtain ⟨_, _, rfl⟩ := hu
    rfl
  obtain ⟨f, hf, hk⟩ := State.buildEntry_build 1 (leBytes 8 (p.fld 0 8) ++ leBytes 4 u.idRegister ++ leBytes 4 u.fwVersion ++ leBytes 8 u.otp.serial ++
    leBytes 4 u.net.rel.generation ++ zeros 4) { u with recorder := { u.recorder with build := some { id := p.fld 0 8, begun := u.dt } } }
  obtain ⟨hid, hb⟩ := hk { id := p.fld 0 8, begun := u.dt }
  refine ⟨{ f { id := p.fld 0 8, begun := u.dt } with entries := 0 }, ?_, hid, hb.trans hdt, rfl⟩
  exact congrArg (Option.map fun b : Build => { b with entries := 0 }) hf

theorem State.endBuild_build (slot counter : Nat) (s : State) : (s.endBuild slot counter).1.recorder.build = none := by
  unfold State.endBuild
  dsimp only
  split
  · next h => exact h
  · rfl

theorem recBuildEnd_reaches {p : Packet} {s : State} (h : startsNow recBuildEndSpec p s = true) :
    (s.cyc.phase = .idle → Reaches (.recBuildEnd p) s fun t => t.recorder.build = none) ∧
    (s.cyc.phase ≠ .idle → Reaches (.recBuildEnd p) s fun t =>
      t.recorder.build = s.recorder.build ∧ ∃ slot counter, t.recorder.buildEnd = some (s.host.nextAcc, slot, counter)) := by
  refine ⟨fun hi => served_begun rfl h fun u hu g x => ?_, fun hi => served_begun rfl h fun u hu g x => ?_⟩
  · have hp : u.cyc.phase = .idle := by
      obtain ⟨_, _, rfl⟩ := hu
      exact hi
    simp only [recBuildEndSpec, hp, beq_self_eq_true, if_true]
    exact State.endBuild_build _ _ u
  · have hp : (u.cyc.phase == .idle) = false := by
      obtain ⟨_, _, rfl⟩ := hu
      exact beq_eq_false_iff_ne.mpr hi
    simp only [recBuildEndSpec, hp, Bool.false_eq_true, if_false]
    obtain ⟨_, _, rfl⟩ := hu
    exact ⟨rfl, _, _, rfl⟩

/-- Settles O49: the runs of the recorder's commands (R509 to R512, R520, R521). -/
theorem recorderCommandsAct : Obligations.RecorderCommandsAct := by
  refine fun p s => ⟨recRead_reaches, fun h => served_of rfl h _ fun _ _ => rfl, recUnfreeze_reaches, fun h => ?clear, recBuildBegin_reaches,
    recBuildEnd_reaches⟩
  case clear => exact served_reach rfl h fun _ _ _ _ => ⟨rfl, rfl, rfl, _, rfl, rfl, rfl, rfl⟩

/-! Events, journal entries and compactions (R502, R511, R523, R526). -/

theorem State.streamEvent_recorder (keep : Bool) (bs : List Byte) (s : State) : (s.streamEvent keep bs).recorder = s.recorder := by
  unfold State.streamEvent
  split
  · exact s.append_recorder _ _ _ _
  · rfl

theorem State.holdOne_kept (e : LogRec) (s : State) :
    (s.holdOne e).1.recorder.arriving = s.recorder.arriving ∧ (s.holdOne e).1.recorder.nextSeq = s.recorder.nextSeq := by
  unfold State.holdOne
  dsimp only
  repeat' split
  all_goals exact ⟨rfl, rfl⟩

theorem State.receive_kept (e : LogRec) (s : State) :
    (s.receive e).recorder.arriving = s.recorder.arriving ∧ (s.receive e).recorder.nextSeq = s.recorder.nextSeq + 1 := by
  unfold State.receive
  dsimp only
  rw [State.streamEvent_recorder]
  split
  · exact State.holdOne_kept _ _
  · obtain ⟨_, _, _, hl⟩ := State.logOne_logged { e with seq := s.recorder.nextSeq }
      { s with recorder := { s.recorder with nextSeq := s.recorder.nextSeq + 1 } }
    rw [hl]
    exact ⟨rfl, rfl⟩

/-- An event that fits and does not fold is the newest record, under the next SEQ (R502, R505). -/
theorem State.receive_log {e : LogRec} {s : State} (hf : s.recorder.frozen = none) (hl : s.recorder.log.length + 1 < s.otp.grade.slots)
    (hn : ∀ n ∈ s.recorder.log.head?, foldsInto s.otp.grade e n = false) :
    (s.receive e).recorder.log = { e with seq := s.recorder.nextSeq } :: s.recorder.log := by
  unfold State.receive
  dsimp only
  rw [State.streamEvent_recorder, if_neg (by rw [hf]; exact Bool.false_ne_true)]
  exact State.logOne_fits (e := { e with seq := s.recorder.nextSeq })
    (s := { s with recorder := { s.recorder with nextSeq := s.recorder.nextSeq + 1 } }) hl hn

theorem eventArrival_reaches {t i : Nat} {e : LogRec} {s : State} (hup : s.up = true) (he : s.recorder.arriving[i]? = some e) :
    Reaches (.eventArrival t i) s fun u =>
      u.recorder.arriving = s.recorder.arriving.eraseIdx i ∧ u.recorder.nextSeq = s.recorder.nextSeq + 1 ∧
        (s.recorder.frozen = none → s.recorder.log.length + 1 < s.otp.grade.slots → (∀ n ∈ s.recorder.log.head?, foldsInto s.otp.grade e n = false) →
          u.recorder.log = { e with seq := s.recorder.nextSeq } :: s.recorder.log) := by
  have arrives : (s.at t).eventArrival i =
      ({ s.at t with recorder := { s.recorder with arriving := s.recorder.arriving.eraseIdx i } } : State).receive e := by
    unfold State.eventArrival
    rw [show (s.at t).recorder.arriving[i]? = some e from he]
    rfl
  obtain ⟨ha, hn⟩ := State.receive_kept e { s.at t with recorder := { s.recorder with arriving := s.recorder.arriving.eraseIdx i } }
  exact up_reaches (rfl : _ = execEventArrival t i s) hup arrives ⟨ha, hn, fun hf hl hn =>
    State.receive_log (s := { s.at t with recorder := { s.recorder with arriving := s.recorder.arriving.eraseIdx i } }) hf hl hn⟩

theorem freezeTimeout_reaches {t d : Nat} {s : State} (hup : s.up = true) (hf : s.recorder.frozen = some d)
    (hd : d + 16000000000 * s.dparam 0xE109 ≤ max s.dt t) : Reaches (.freezeTimeout t) s fun u => u.recorder.frozen = none ∧ u.recorder.held = [] := by
  refine event_of (rfl : _ = execFreezeTimeout t s) hup ?_
  simp only [State.at_recorder, hf]
  split
  · exact State.unfreeze_thaws (s := s.at t) (hf ▸ rfl)
  · next h => exact absurd hd h

theorem State.jCompact_kept (s : State) : s.jCompact.recorder.journal.queue = s.recorder.journal.queue ∧
    s.jCompact.recorder.journal.nextSeq = s.recorder.journal.nextSeq ∧ s.jCompact.recorder.journal.failed = s.recorder.journal.failed ∧
      s.jCompact.flash = s.flash := by
  unfold State.jCompact
  split <;> exact ⟨rfl, rfl, rfl, rfl⟩

/-- The journal's entry in hand is written and read back, or its attempt fails (R523). -/
theorem State.journalEnd_made {r : JournalReq} {rest : List JournalReq} {s : State} (hq : s.recorder.journal.queue = r :: rest)
    (hc : s.recorder.journal.compacting = false) (hb : s.recorder.journal.bad = false) :
    ∃ u, s.journalEnd true = (u, some (r.use, true)) ∧ u.recorder.journal.queue = rest ∧
      u.recorder.journal.nextSeq = s.recorder.journal.nextSeq + 1 ∧
      u.flash = s.flash.writeBytes flashErased (s.jBase s.recorder.journal.bank + s.recorder.journal.pos)
        (journalEntry r.type s.recorder.journal.nextSeq r.payload) := by
  unfold State.journalEnd
  rw [hq]
  simp only [hc, hb, Bool.or_self, Bool.false_eq_true, if_false, if_true]
  refine ⟨_, rfl, ?_⟩
  rw [(State.jCompact_kept _).1, (State.jCompact_kept _).2.1, (State.jCompact_kept _).2.2.2]
  simp only [State.setJournal, State.flashWrite, and_self]

theorem State.journalEnd_retried {r : JournalReq} {rest : List JournalReq} {s : State} (hq : s.recorder.journal.queue = r :: rest)
    (hc : s.recorder.journal.compacting = false) (hb : s.recorder.journal.bad = false) (ha : r.attempts < 2) :
    ∃ u, s.journalEnd false = (u, none) ∧ u.recorder.journal.queue = { r with attempts := r.attempts + 1 } :: rest ∧
      u.recorder.journal.failed = inc32 s.recorder.journal.failed := by
  unfold State.journalEnd
  rw [hq]
  simp only [hc, hb, Bool.or_self, Bool.false_eq_true, if_false, ha, if_true]
  refine ⟨_, rfl, ?_⟩
  rw [(State.jCompact_kept _).1, (State.jCompact_kept _).2.2.1]
  exact ⟨rfl, rfl⟩

/-- What follows an entry that was made leaves the recorder and the flash as they are. -/
theorem State.journalResult_made (use : JournalUse) (s : State) :
    (s.journalResult use true).recorder = s.recorder ∧ (s.journalResult use true).flash = s.flash := by
  have completed : ∀ acc, (s.complete acc stOk []).recorder = s.recorder ∧ (s.complete acc stOk []).flash = s.flash := by
    intro acc
    obtain ⟨_, _, hc⟩ := (State.complete_replied acc stOk [] s).exists_eq
    rw [hc]
    exact ⟨rfl, rfl⟩
  cases use with
  | keySlot acc slot => exact completed acc
  | bootSelect acc => exact completed acc
  | trimSet acc fe => exact completed acc
  | trim | lease | capture | imported | header => exact ⟨rfl, rfl⟩

/-- The journal's event for an entry that is not a lease. -/
def State.journalStep (ok : Bool) (s : State) : State :=
  match s.journalEnd ok with
  | (s1, some (use, good)) => s1.journalResult use good
  | (s1, none) => s1

theorem journalWriteEnd_reaches {t : Nat} {ok : Bool} {r : JournalReq} {rest : List JournalReq} {s : State} {P : State → Prop} (hup : s.up = true)
    (hq : s.recorder.journal.queue = r :: rest) (hl : ∀ slot, r.use ≠ .lease slot)
    (h : P { (s.at t).journalStep ok with dt := max s.dt t, pending := s.pending }) : Reaches (.journalWriteEnd t ok) s P := by
  refine event_of (rfl : _ = execJournalWriteEnd t ok s) hup ?_
  obtain ⟨type, payload, use, since, attempts⟩ := r
  simp only [State.at_recorder, hq]
  cases use with
  | lease slot => exact absurd rfl (hl slot)
  | keySlot | bootSelect | trimSet | trim | capture | imported | header => exact h

theorem journalMade_reaches {t : Nat} {r : JournalReq} {rest : List JournalReq} {s : State} (hup : s.up = true)
    (hq : s.recorder.journal.queue = r :: rest) (hl : ∀ slot, r.use ≠ .lease slot) (hc : s.recorder.journal.compacting = false)
    (hb : s.recorder.journal.bad = false) :
    Reaches (.journalWriteEnd t true) s fun u => u.recorder.journal.queue = rest ∧ u.recorder.journal.nextSeq = s.recorder.journal.nextSeq + 1 ∧
      u.flash = s.flash.writeBytes flashErased (s.jBase s.recorder.journal.bank + s.recorder.journal.pos)
        (journalEntry r.type s.recorder.journal.nextSeq r.payload) := by
  obtain ⟨u, hu, hq', hs', hf'⟩ := State.journalEnd_made (s := s.at t) hq hc hb
  obtain ⟨hr, hf⟩ := u.journalResult_made r.use
  have steps : (s.at t).journalStep true = u.journalResult r.use true := by
    unfold State.journalStep
    rw [hu]
  refine journalWriteEnd_reaches hup hq hl ?_
  rw [steps, hr, hf]
  exact ⟨hq', hs', hf'⟩

theorem journalRetried_reaches {t : Nat} {r : JournalReq} {rest : List JournalReq} {s : State} (hup : s.up = true)
    (hq : s.recorder.journal.queue = r :: rest) (hl : ∀ slot, r.use ≠ .lease slot) (hc : s.recorder.journal.compacting = false)
    (hb : s.recorder.journal.bad = false) (ha : r.attempts < 2) :
    Reaches (.journalWriteEnd t false) s fun u => u.recorder.journal.queue = { r with attempts := r.attempts + 1 } :: rest ∧
      u.recorder.journal.failed = inc32 s.recorder.journal.failed := by
  obtain ⟨u, hu, hq', hx'⟩ := State.journalEnd_retried (s := s.at t) hq hc hb ha
  have steps : (s.at t).journalStep false = u := by
    unfold State.journalStep
    rw [hu]
  refine journalWriteEnd_reaches hup hq hl ?_
  rw [steps]
  exact ⟨hq', hx'⟩

/-- Entries written one after another change the flash alone. -/
theorem writeEntries_recorder (es : List JEntry) : ∀ (a seq : Nat) (s : State), (writeEntries a seq es s).1.recorder = s.recorder := by
  induction es with
  | nil => exact fun _ _ _ => rfl
  | cons e es ih => exact fun a seq s => ih _ _ _

theorem compactionEnd_reaches {t : Nat} {s : State} (hup : s.up = true) (hc : s.recorder.journal.compacting = true) :
    Reaches (.compactionEnd t) s fun u => u.recorder.journal.compacting = false ∧ u.recorder.journal.bank = 1 - s.recorder.journal.bank ∧
      u.recorder.journal.generation = s.recorder.journal.generation + 1 := by
  refine event_where (rfl : _ = execCompactionEnd t s) hup hc ⟨rfl, rfl, ?_⟩
  exact congrArg (fun r : Recorder => r.journal.generation + 1) (writeEntries_recorder _ _ _ ((s.at t).flashErase _ _))

/-- Settles O50: arrivals, the end of a freeze, journal entries and a compaction (R502, R511, R523, R526). -/
theorem recorderEventsAct : Obligations.RecorderEventsAct := by
  refine fun t s hup => ⟨fun i e he => eventArrival_reaches hup he, fun d hf hd => freezeTimeout_reaches hup hf hd,
    fun r rest hq hl hc hb => ⟨journalMade_reaches hup hq hl hc hb, journalRetried_reaches hup hq hl hc hb⟩, compactionEnd_reaches hup⟩

end Sys2Proof.Machine
end

section
/-! PROOFS. Bed motion (10): O27 and O28. -/

namespace Sys2Proof.Machine

/-! What the axes' operations touch. -/

/-- `t` is `s` but for the motion state, events, and completions; the tick is the same. -/
def Driven (s t : State) : Prop := ∃ m r g x, t = { s with mot := m, recorder := r, host := g, tx := x } ∧ m.tick = s.mot.tick

theorem Driven.refl (s : State) : Driven s s := ⟨_, _, _, _, rfl, rfl⟩

theorem Driven.trans {s t u : State} (h : Driven s t) (g : Driven t u) : Driven s u := by
  obtain ⟨_, _, _, _, rfl, hm⟩ := h
  obtain ⟨_, _, _, _, rfl, hm'⟩ := g
  exact ⟨_, _, _, _, rfl, hm'.trans hm⟩

theorem Driven.foldl {β : Type} {f : State → β → State} (hf : ∀ s b, Driven s (f s b)) (l : List β) (s : State) : Driven s (l.foldl f s) :=
  foldl_related Driven.refl Driven.trans hf l s

theorem Driven.ite {c : Prop} [Decidable c] {s a b : State} (ha : Driven s a) (hb : Driven s b) : Driven s (if c then a else b) := by
  split
  · exact ha
  · exact hb

theorem Replied.driven {s t : State} (h : Replied s t) : Driven s t := by
  obtain ⟨_, _, rfl⟩ := h.exists_eq
  exact ⟨_, _, _, _, rfl, rfl⟩

theorem State.setAxis_driven (a : Nat) (f : Axis → Axis) (s : State) : Driven s (s.setAxis a f) := ⟨_, _, _, _, rfl, rfl⟩

theorem State.endMove_driven (acc : Option Nat) (st : Nat) (s : State) : Driven s (s.endMove acc st) := (s.endMove_replied acc st).driven

theorem State.logEvent_driven (code source key detail : Nat) (s : State) : Driven s (s.logEvent code source key detail) := ⟨_, _, _, _, rfl, rfl⟩

theorem State.syncEvent_driven (source : Nat) (ok : Nat → Bool) (s : State) : Driven s (s.syncEvent source ok) := by
  refine .foldl (fun s o => ?_) _ _
  dsimp only
  split
  · exact ⟨_, _, _, _, rfl, rfl⟩
  · exact .refl s

theorem State.abortMove_driven (a : Nat) (s : State) : Driven s (s.abortMove a) :=
  ((s.setAxis_driven a _).trans (State.endMove_driven _ _ _)).trans (State.endMove_driven _ _ _)

theorem State.failStep_driven (a : Nat) (s : State) : Driven s (s.failStep a) := by
  unfold State.failStep
  split
  · exact ⟨_, _, _, _, rfl, rfl⟩
  · exact .refl s

theorem State.quickStop_driven (a : Nat) (s : State) : Driven s (s.quickStop a) := by
  unfold State.quickStop
  split
  · exact .refl s
  · exact (((s.failStep_driven a).trans (State.abortMove_driven a _)).trans (State.setAxis_driven a _ _)).trans (State.logEvent_driven _ _ _ _ _)

theorem State.axisFault_driven (cause a : Nat) (s : State) : Driven s (s.axisFault cause a) := by
  unfold State.axisFault
  split
  · exact .refl s
  · exact ((s.quickStop_driven a).trans (State.setAxis_driven a _ _)).trans (State.logEvent_driven _ _ _ _ _)

theorem State.syncAxis_driven (source a : Nat) (s : State) : Driven s (s.syncAxis source a) := s.syncEvent_driven _ _

theorem State.beginMove_driven (a : Nat) (m : AxisMove) (s : State) : Driven s (s.beginMove a m) := by
  unfold State.beginMove
  dsimp only
  exact (((s.endMove_driven _ _).trans (State.endMove_driven _ _ _)).trans (State.setAxis_driven a _ _)).trans (State.syncAxis_driven _ _ _)

theorem State.startStep_driven (i : Nat) (s : State) : Driven s (s.startStep i) := by
  unfold State.startStep
  dsimp only
  split
  · exact (s.beginMove_driven _ _).trans ⟨_, _, _, _, rfl, rfl⟩
  · exact ⟨_, _, _, _, rfl, rfl⟩

theorem State.releaseWaits_driven (tick : Nat) (s : State) : Driven s (s.releaseWaits tick) := by
  refine (Driven.foldl (fun s a => ?_) _ s).trans (Driven.foldl (fun s i => ?_) _ _)
  · dsimp only
    split
    · exact .ite (.ite ((s.setAxis_driven a _).trans (State.beginMove_driven _ _ _))
        ((s.setAxis_driven a _).trans (State.complete_replied _ _ _ _).driven)) (.refl s)
    · exact .refl s
  · dsimp only
    split
    · exact .ite (s.startStep_driven i) (.refl s)
    · exact .refl s

theorem State.setStream_driven (st : MotStream) (s : State) : Driven s { s with mot := { s.mot with stream := st } } := ⟨_, _, _, _, rfl, rfl⟩

theorem State.streamFault_driven (s : State) : Driven s s.streamFault := by
  unfold State.streamFault
  dsimp only
  exact ((s.setStream_driven _).trans (Driven.foldl (fun s a => s.axisFault_driven 3 a) _ _)).trans (State.endMove_driven _ _ _)

theorem State.motFill_driven {tick n : Nat} {s t : State} (h : State.motFill n tick s = some t) : Driven s t := by
  induction n generalizing s with
  | zero => exact Option.some.inj h ▸ .refl s
  | succ n ih =>
    unfold State.motFill at h
    dsimp only at h
    split at h
    · exact Option.some.inj h ▸ .refl s
    · split at h
      · refine .trans ?_ (ih h)
        exact ⟨_, _, _, _, rfl, rfl⟩
      · cases h

theorem State.streamTick_driven (tick : Nat) (s : State) : Driven s (s.streamTick tick) := by
  unfold State.streamTick
  dsimp only
  split
  · exact .refl s
  · split
    · exact .refl s
    · split
      · exact s.streamFault_driven
      · next s1 hf =>
        have filled := State.motFill_driven hf
        have placed : ∀ (f : State → Nat → Axis → Axis), Driven s1 ((List.range 8).foldl (fun s a => if s.axisOn a then s.setAxis a (f s a) else s) s1) := by
          refine fun f => Driven.foldl (fun s a => ?_) _ _
          split
          · exact s.setAxis_driven a _
          · exact .refl s
        refine filled.trans ?_
        split
        · exact .refl s1
        · split
          · exact s1.streamFault_driven
          · split
            · exact (placed _).trans ⟨_, _, _, _, rfl, rfl⟩
            · split
              · exact .refl s1
              · exact placed _

theorem State.axisTick_driven (tick a : Nat) (s : State) : Driven s (s.axisTick tick a) := by
  unfold State.axisTick
  split
  · exact .refl s
  · extract_lets x acc dec x1 hist pf timing es stopped onLimit inv s1 s2 crossed s3
    have moved : Driven s s3 :=
      ((s.setAxis_driven a _).trans (Driven.foldl (fun _ _ => ⟨_, _, _, _, rfl, rfl⟩) es.1 _)).trans (State.syncEvent_driven _ _ _)
    exact .ite (moved.trans (State.axisFault_driven _ _ _)) moved

theorem State.streamEnd_driven (s : State) : Driven s s.streamEnd := by
  unfold State.streamEnd
  dsimp only
  split
  · exact (s.setStream_driven _).trans (State.endMove_driven _ _ _)
  · exact .refl s

theorem Driven.tick_eq {s t : State} (h : Driven s t) : t.mot.tick = s.mot.tick := by
  obtain ⟨_, _, _, _, rfl, hm⟩ := h
  exact hm

/-- A tick that begins is taken (R285). -/
theorem State.motionTick_tick {s : State} (h : s.mot.tick < s.dt / 16000) : s.motionTick.mot.tick = s.dt / 16000 := by
  unfold State.motionTick
  dsimp only
  rw [if_neg fun hn => absurd hn.1 (Nat.not_le.mpr h)]
  exact ((((State.releaseWaits_driven _ _).trans (State.streamTick_driven _ _)).trans
    (Driven.foldl (fun s a => s.axisTick_driven _ a) _ _)).trans (State.streamEnd_driven _)).tick_eq

/-! One axis. -/

theorem State.setAxis_axis_same {a : Nat} {s : State} (f : Axis → Axis) (h : a < s.mot.axes.length) : (s.setAxis a f).axis a = f (s.axis a) := by
  simp only [State.setAxis, State.axis, updAt_getD]
  exact if_pos ⟨trivial, h⟩

theorem State.setAxis_axis_other {a b : Nat} (f : Axis → Axis) (s : State) (h : a ≠ b) : (s.setAxis b f).axis a = s.axis a := by
  simp only [State.setAxis, State.axis, updAt_getD]
  exact if_neg fun g => h g.1

/-- `t` is a state the axes' operations bring from `s`, in which axis `a` stands as it was. -/
def AxisKept (a : Nat) (s t : State) : Prop := Driven s t ∧ t.mot.axes.length = s.mot.axes.length ∧ t.axis a = s.axis a

theorem AxisKept.refl (a : Nat) (s : State) : AxisKept a s s := ⟨.refl s, rfl, rfl⟩

theorem AxisKept.trans {a : Nat} {s t u : State} (h : AxisKept a s t) (g : AxisKept a t u) : AxisKept a s u :=
  ⟨h.1.trans g.1, g.2.1.trans h.2.1, g.2.2.trans h.2.2⟩

theorem Replied.axisKept {s t : State} (a : Nat) (h : Replied s t) : AxisKept a s t := by
  obtain ⟨_, _, rfl⟩ := h.exists_eq
  exact ⟨⟨_, _, _, _, rfl, rfl⟩, rfl, rfl⟩

theorem State.endMove_kept (a : Nat) (acc : Option Nat) (st : Nat) (s : State) : AxisKept a s (s.endMove acc st) := (s.endMove_replied acc st).axisKept a

theorem State.logEvent_kept (a code source key detail : Nat) (s : State) : AxisKept a s (s.logEvent code source key detail) :=
  ⟨s.logEvent_driven _ _ _ _, rfl, rfl⟩

theorem State.failStep_kept (a b : Nat) (s : State) : AxisKept a s (s.failStep b) := by
  refine ⟨s.failStep_driven b, ?_⟩
  unfold State.failStep
  split <;> exact ⟨rfl, rfl⟩

theorem State.syncAxis_kept (a source b : Nat) (s : State) : AxisKept a s (s.syncAxis source b) := by
  refine foldl_related (AxisKept.refl a) AxisKept.trans (fun s o => ?_) _ s
  dsimp only
  split
  · exact ⟨⟨_, _, _, _, rfl, rfl⟩, rfl, rfl⟩
  · exact .refl a s

theorem State.setAxis_kept {a b : Nat} (f : Axis → Axis) (s : State) (h : a ≠ b) : AxisKept a s (s.setAxis b f) :=
  ⟨s.setAxis_driven b f, updAt_length _ _ _, s.setAxis_axis_other f h⟩

theorem State.quickStop_kept {a b : Nat} (s : State) (h : a ≠ b) : AxisKept a s (s.quickStop b) := by
  unfold State.quickStop
  split
  · exact .refl a s
  · exact (((((s.failStep_kept a b).trans (State.setAxis_kept _ _ h)).trans (State.endMove_kept a _ _ _)).trans (State.endMove_kept a _ _ _)).trans
      (State.setAxis_kept _ _ h)).trans (State.logEvent_kept a _ _ _ _ _)

theorem AxisKept.axisOn {a : Nat} {s t : State} (h : AxisKept a s t) : t.axisOn a = s.axisOn a := by
  obtain ⟨⟨_, _, _, _, rfl, -⟩, -⟩ := h
  rfl

/-- What a quick stop leaves of an axis `x` (R293). -/
def Axis.Stopped (x y : Axis) : Prop := y.v = 0 ∧ y.move = none ∧ y.wait = none ∧ y.quickStops = inc32 x.quickStops ∧ y.pinLow = x.pinLow

theorem State.quickStop_axis {a : Nat} {s : State} (h : a < s.mot.axes.length) (hon : s.axisOn a = true) :
    (s.axis a).Stopped ((s.quickStop a).axis a) ∧ (s.quickStop a).mot.axes.length = s.mot.axes.length := by
  unfold State.quickStop
  rw [hon, if_neg (by decide)]
  obtain ⟨-, hlf, hxf⟩ := s.failStep_kept a a
  have aborted : ((s.failStep a).abortMove a).mot.axes.length = s.mot.axes.length ∧
      ((s.failStep a).abortMove a).axis a = { s.axis a with
        move := none, wait := none, ramp := false, mode := if (s.axis a).mode == .moving then .idle else (s.axis a).mode } := by
    obtain ⟨-, hl1, hx1⟩ := (State.endMove_kept a (((s.failStep a).axis a).move.bind (·.acc)) stAborted ((s.failStep a).setAxis a fun x => { x with
      move := none, wait := none, ramp := false, mode := if x.mode == .moving then .idle else x.mode })).trans
      (State.endMove_kept a (((s.failStep a).axis a).wait.map (·.acc)) stAborted _)
    refine ⟨(hl1.trans (updAt_length _ _ _)).trans hlf, hx1.trans ?_⟩
    rw [State.setAxis_axis_same _ (hlf.symm ▸ h), hxf]
  obtain ⟨hl, hx⟩ := aborted
  refine ⟨?_, (updAt_length _ _ _).trans hl⟩
  have stopped := State.setAxis_axis_same (s := (s.failStep a).abortMove a) (a := a) (fun x => { x with
    p := (s.axis a).issued * stepUnit, v := 0, pf := (s.axis a).issued * stepUnit, pfSpeed := 0, hist := x.hist.map fun _ => (s.axis a).issued * stepUnit
    posValid := x.posValid && decide ((s.axis a).pfSpeed.natAbs * 1000000 ≤ s.param 0x9008 a * 4294967296)
    waitZero := if (s.axisChannel a).isSome then some 0 else none
    quickStops := inc32 x.quickStops }) (hl.symm ▸ h)
  rw [hx] at stopped
  exact stopped ▸ ⟨rfl, rfl, rfl, rfl, rfl⟩

theorem State.axisFault_axis {cause a : Nat} {s : State} (h : a < s.mot.axes.length) (hon : s.axisOn a = true) (hm : (s.axis a).mode ≠ .fault) :
    ((s.axisFault cause a).axis a).mode = .fault ∧ ((s.axisFault cause a).axis a).cause = cause ∧
      ((s.axisFault cause a).axis a).pinLow = (s.axis a).pinLow ∧ ((s.axisFault cause a).axis a).v = 0 := by
  obtain ⟨⟨hv, -, -, -, hp⟩, hl⟩ := State.quickStop_axis h hon
  have faulted : s.axisFault cause a = _ := if_neg (by rw [hon, beq_eq_false_iff_ne.mpr hm]; decide)
  have set := State.setAxis_axis_same (s := s.quickStop a) (fun x => { x with mode := .fault, cause := cause }) (hl.symm ▸ h)
  rw [faulted, ((State.logEvent_kept a _ _ _ _ _).2.2), set]
  exact ⟨rfl, rfl, hp, hv⟩

theorem State.beginMove_axis {a : Nat} (m : AxisMove) {s : State} (h : a < s.mot.axes.length) :
    ((s.beginMove a m).axis a).move = some m ∧ ((s.beginMove a m).axis a).mode = .moving ∧ ((s.beginMove a m).axis a).wait = none := by
  obtain ⟨-, hl, -⟩ := (s.endMove_kept a ((s.axis a).move.bind (·.acc)) stAborted).trans (State.endMove_kept a ((s.axis a).wait.map (·.acc)) stAborted _)
  unfold State.beginMove
  dsimp only
  rw [(State.syncAxis_kept a _ _ _).2.2, State.setAxis_axis_same _ (hl.symm ▸ h)]
  exact ⟨rfl, rfl, rfl⟩

/-! The events of motion (R285 to R303). -/

/-- What an event leaves of an axis is what its function leaves of it. -/
theorem event_axis {i : Instr} {s u : State} {t a : Nat} {f : State → State} {P : Axis → Prop} (hx : exec i s = s.event t f) (hup : s.up = true)
    (hf : f (s.at t) = u) (h : P (u.axis a)) : Reaches i s fun u => P (u.axis a) :=
  up_reaches hx hup hf h

/-- Where the move of an axis has arrived it ends; a speed mode that still moves goes on without its command (R292). -/
theorem State.moveEnds_axis {a : Nat} {s : State} {m : AxisMove} (hl : a < s.mot.axes.length) (hr : s.moveReached a = true)
    (hm : (s.axis a).move = some m) (hn : m.recoat = none) :
    ((s.moveEnds a).axis a).inPosition = !m.speedMode ∧
      ((s.moveEnds a).axis a).move = if !m.speedMode || decide ((s.axis a).v = 0) then none else some { m with acc := none } := by
  have kept : ∀ s0 : State, AxisKept a s0 (if m.speedMode then s0.endMove m.acc stOk else (s0.endMove m.acc stOk).syncAxis 3 a) := by
    intro s0
    split
    · exact s0.endMove_kept a _ _
    · exact (s0.endMove_kept a _ _).trans (State.syncAxis_kept a _ _ _)
  unfold State.moveEnds
  rw [hr, if_neg (by decide)]
  simp only [hm, hn]
  rw [(kept _).2.2, State.setAxis_axis_same _ hl]
  exact ⟨rfl, rfl⟩

theorem moveInPosition_reaches {t a : Nat} {s : State} {m : AxisMove} (hup : s.up = true) (hl : a < s.mot.axes.length)
    (hr : (s.at t).moveReached a = true) (hm : (s.axis a).move = some m) (hn : m.recoat = none) :
    (m.speedMode = false → Reaches (.moveInPosition t a) s fun u => (u.axis a).inPosition = true ∧ (u.axis a).move = none) ∧
    (m.speedMode = true → (s.axis a).v ≠ 0 → Reaches (.moveInPosition t a) s fun u =>
      (u.axis a).inPosition = false ∧ (u.axis a).move = some { m with acc := none }) := by
  obtain ⟨hp, hmove⟩ := State.moveEnds_axis (s := s.at t) hl hr hm hn
  refine ⟨fun hs => event_axis (P := fun x => x.inPosition = true ∧ x.move = none) rfl hup rfl ?_,
    fun hs hv => event_axis (P := fun x => x.inPosition = false ∧ x.move = some { m with acc := none }) rfl hup rfl ?_⟩
  · exact ⟨hp.trans (by rw [hs]; rfl), hmove.trans (by rw [hs]; rfl)⟩
  · have moves : ((s.at t).axis a).v ≠ 0 := hv
    exact ⟨hp.trans (by rw [hs]; rfl), hmove.trans (by rw [hs, decide_eq_false moves]; rfl)⟩

theorem positionReestablish_reaches {t a d : Nat} {s : State} {f : Int} (hup : s.up = true) (hl : a < s.mot.axes.length)
    (hw : (s.axis a).waitZero = some d) (hd : 10000 ≤ d) (hf : s.feedback a = some f) : Reaches (.positionReestablish t a) s fun u =>
      (u.axis a).issued = f ∧ (u.axis a).posValid = true ∧ (u.axis a).source = 2 ∧ (u.axis a).waitZero = none := by
  have hw' : ((s.at t).axis a).waitZero = some d := hw
  have hf' : (s.at t).feedback a = some f := hf
  have placed := State.setAxis_axis_same (s := s.at t) (fun x => { x with
    p := f * stepUnit, v := 0, pf := f * stepUnit, pfSpeed := 0, hist := x.hist.map fun _ => f * stepUnit, issued := f
    posValid := true, source := 2, waitZero := none }) hl
  refine event_axis (u := (s.at t).placeAxis a f 2) (P := fun x => x.issued = f ∧ x.posValid = true ∧ x.source = 2 ∧ x.waitZero = none)
    (rfl : _ = execPositionReestablish t a s) hup ?_ (placed ▸ ⟨rfl, rfl, rfl, rfl⟩)
  simp only [hw', hf']
  exact if_pos hd

theorem motFaultPin_reaches {t a : Nat} {s : State} (hup : s.up = true) (hl : a < s.mot.axes.length) :
    ((s.axis a).mode ≠ .fault → s.axisOn a = true → Reaches (.motFaultPin t a true) s fun u =>
      (u.axis a).mode = .fault ∧ (u.axis a).cause = 1 ∧ (u.axis a).pinLow = true ∧ (u.axis a).v = 0) ∧
    (Reaches (.motFaultPin t a false) s fun u => u = { s with
      dt := max s.dt t, tx := [], mot := { s.mot with axes := updAt s.mot.axes a fun x => { x with pinLow := false } } }) := by
  refine ⟨fun hm hon => ?_, up_reaches (rfl : _ = execMotFaultPin t a false s) hup rfl rfl⟩
  have low := State.setAxis_axis_same (s := s.at t) (fun x => { x with pinLow := true }) hl
  obtain ⟨hmode, hcause, hpin, hv⟩ := State.axisFault_axis (cause := 1) (s := (s.at t).setAxis a fun x => { x with pinLow := true })
    (Nat.lt_of_lt_of_eq hl (updAt_length _ _ _).symm) hon (by rw [low]; exact hm)
  exact event_axis (P := fun x => x.mode = .fault ∧ x.cause = 1 ∧ x.pinLow = true ∧ x.v = 0)
    (rfl : _ = execMotFaultPin t a true s) hup rfl ⟨hmode, hcause, hpin.trans (by rw [low]), hv⟩

/-- The latches of the emitter buses that wait for an input leave the motion state (R342). -/
theorem State.syncInEmd_mot (i : Nat) (s : State) : (s.syncInEmd i).mot = s.mot := by
  unfold State.syncInEmd
  exact foldl_related (R := fun s t => t.mot = s.mot) (fun _ => rfl) (fun h g => g.trans h) (fun s b => State.setBus_mot b _ s) _ s

/-- A move that waits for the input has its edge (R303). -/
theorem State.syncInMotion_wait {i a : Nat} {s : State} {w : AxisWait} (hl : a < s.mot.axes.length) (hw : (s.axis a).wait = some w)
    (hi : w.input = i) (he : w.edge = none) : ((s.syncInMotion i).axis a).wait = some { w with edge := some s.dt } := by
  have hx : s.axis a = s.mot.axes[a] := getD_element _ hl
  rw [hx] at hw
  unfold State.syncInMotion State.axis
  dsimp only
  rw [getD_element _ ((List.length_map _).symm ▸ hl), List.getElem_map, hw, Option.map_some, if_pos ⟨hi, by rw [he]; rfl⟩]

theorem syncInEdge_reaches {t a i : Nat} {s : State} (hup : s.up = true) (hl : a < s.mot.axes.length) (hi : i < s.mot.syncIn.length) :
    Reaches (.syncInEdge t i) s fun u => u.mot.syncIn.getD i 0 = roundNat (max s.dt t) 20 * 20 ∧
      ∀ w, (s.axis a).wait = some w → w.input = i → w.edge = none →
        (u.axis a).wait = some { w with edge := some (roundNat (max s.dt t) 20 * 20) } := by
  have moved : ∀ v : State, ((v.syncInMotion i).syncInEmd i).mot = (v.syncInMotion i).mot := fun _ => State.syncInEmd_mot _ _
  refine up_reaches (rfl : _ = execSyncInEdge t i s) hup rfl ⟨?_, fun w hw hwi hwe => ?_⟩
  · refine (congrArg (fun m => m.syncIn.getD i 0) (moved _)).trans ?_
    simp only [State.syncInMotion, updAt_getD]
    exact if_pos ⟨trivial, hi⟩
  · refine (congrArg (fun m => (m.axes.getD a {}).wait) (moved _)).trans ?_
    exact State.syncInMotion_wait (s := { s.at t with dt := roundNat (max s.dt t) 20 * 20 }) hl hw hwi hwe

/-- Settles O28. -/
theorem motionEventsAct : Obligations.MotionEventsAct := by
  intro t a s hup hl
  obtain ⟨pinLow, pinHigh⟩ := motFaultPin_reaches (t := t) hup hl
  exact ⟨fun h => event_of rfl hup (State.motionTick_tick (s := s.at t) h), fun m hr hm hn => moveInPosition_reaches hup hl hr hm hn,
    fun d f hw hd hf => positionReestablish_reaches hup hl hw hd hf, pinLow, pinHigh, fun i hi => syncInEdge_reaches hup hl hi⟩

/-! The motion commands (R286 to R307). -/

/-- What the run of a motion command reads of the state is as it was. -/
theorem running_axes (c : CmdSpec) (p : Packet) (s : State) : (running c p s).mot = s.mot ∧ (running c p s).dt = max s.dt p.t ∧
    (∀ a, (running c p s).axisOn a = s.axisOn a) ∧ ∀ n, packetMove n p (running c p s) = packetMove n p s := by
  obtain ⟨_, _, _, _, _, hr⟩ := running_host c p s
  rw [hr]
  exact ⟨rfl, rfl, fun _ => rfl, fun _ => rfl⟩

theorem State.axis_congr {s t : State} (h : t.mot = s.mot) (a : Nat) : t.axis a = s.axis a := congrArg (fun m => m.axes.getD a {}) h

/-- A command that starts leaves an axis as its run does. -/
theorem served_ran_axis {c : CmdSpec} {p : Packet} {s : State} {i : Instr} {a : Nat} {P : Axis → Prop} (hx : exec i s = serve c p s)
    (h : startsNow c p s = true) (hP : P ((c.run s.host.nextAcc p (running c p s)).1.axis a)) : Reaches i s fun t => P (t.axis a) :=
  served_ran hx h fun _ ht => Eq.subst (motive := P) (ht.axisKept a).2.2.symm hP

theorem motMove_reaches {p : Packet} {s : State} (h : startsNow motMoveSpec p s = true) (hl : p.scope < s.mot.axes.length) :
    (p.fld 1 1 = 0 → Reaches (.motMove p) s fun t => (t.axis p.scope).move = some (packetMove s.host.nextAcc p s) ∧
      (t.axis p.scope).mode = .moving ∧ (t.axis p.scope).wait = none) ∧
    (p.fld 1 1 ≠ 0 → Reaches (.motMove p) s fun t => (t.axis p.scope).move = (s.axis p.scope).move ∧
      ∃ w, (t.axis p.scope).wait = some w ∧ w.input = p.fld 1 1 - 1 ∧ w.edge = none ∧ w.acc = s.host.nextAcc ∧ w.speed = p.fld 8 4) := by
  obtain ⟨hm, -, -, hp⟩ := running_axes motMoveSpec p s
  have hl' : p.scope < (running motMoveSpec p s).mot.axes.length := hm.symm ▸ hl
  refine ⟨fun h0 => served_ran_axis (P := fun x => x.move = some (packetMove s.host.nextAcc p s) ∧ x.mode = .moving ∧ x.wait = none) rfl h ?_,
    fun h0 => served_ran_axis (P := fun x => x.move = (s.axis p.scope).move ∧
      ∃ w, x.wait = some w ∧ w.input = p.fld 1 1 - 1 ∧ w.edge = none ∧ w.acc = s.host.nextAcc ∧ w.speed = p.fld 8 4) rfl h ?_⟩
  · have ran : motMoveSpec.run s.host.nextAcc p (running motMoveSpec p s) = _ := if_pos h0
    rw [ran, ← hp]
    exact State.beginMove_axis _ hl'
  · have ran : motMoveSpec.run s.host.nextAcc p (running motMoveSpec p s) = _ := if_neg h0
    rw [ran, (State.endMove_kept _ _ _ _).2.2, State.setAxis_axis_same _ hl', State.axis_congr hm]
    exact ⟨rfl, _, rfl, rfl, rfl, rfl, rfl⟩

/-- The stop of a stream leaves an axis it spares (R307). -/
theorem State.stopStream_kept {a : Nat} {f : Nat → Bool} (s : State) (h : f a = true) : AxisKept a s (s.stopStream f) := by
  unfold State.stopStream
  split
  · exact .refl a s
  · extract_lets acc m st s1
    have ended : AxisKept a s s1 := ⟨s.setStream_driven _, rfl, rfl⟩
    refine .trans (ended.trans (foldl_related (AxisKept.refl a) AxisKept.trans (fun s b => ?_) _ s1)) (State.endMove_kept a acc stAborted _)
    split
    · next hb =>
      refine State.setAxis_kept _ _ fun e => ?_
      rw [← e, h] at hb
      simp at hb
    · exact .refl a s

/-- An axis is stopped once when all are (R293). -/
theorem State.stopAllAxes_axis {a : Nat} {s : State} (ha : a < 8) (hl : a < s.mot.axes.length) (hon : s.axisOn a = true) :
    (s.axis a).Stopped (s.stopAllAxes.axis a) := by
  unfold State.stopAllAxes
  dsimp only
  rw [(State.endMove_kept a _ _ _).2.2]
  obtain ⟨l, r, split8⟩ := List.append_of_mem (List.mem_range.mpr ha)
  have once : (l ++ a :: r).Nodup := split8 ▸ List.nodup_range
  obtain ⟨-, hr, apart⟩ := List.nodup_append.mp once
  have kept : ∀ (l : List Nat) (s : State), (∀ b ∈ l, a ≠ b) → AxisKept a s (l.foldl (fun s a => s.quickStop a) s) := by
    intro l
    induction l with
    | nil => exact fun s _ => .refl a s
    | cons b l ih => exact fun s hb => (s.quickStop_kept (hb b (List.mem_cons_self ..))).trans (ih _ fun c hc => hb c (List.mem_cons_of_mem _ hc))
  rw [split8, List.foldl_append, List.foldl_cons, (kept r _ fun b hb e => (List.nodup_cons.mp hr).1 (e ▸ hb)).2.2]
  obtain ⟨v, hv⟩ : ∃ v : State, v = { s with mot := { s.mot with stream := { s.mot.stream with running := false, acc := none } } } := ⟨_, rfl⟩
  have before : AxisKept a s (l.foldl (fun s a => s.quickStop a) v) :=
    .trans (hv ▸ ⟨⟨_, _, _, _, rfl, rfl⟩, rfl, rfl⟩) (kept l v fun b hb e => apart b hb a (List.mem_cons_self ..) e.symm)
  rw [← hv, ← before.2.2]
  exact (State.quickStop_axis (before.2.1.symm ▸ hl) (before.axisOn.trans hon)).1

theorem motStop_reaches {p : Packet} {s : State} (h : startsNow motStopSpec p s = true) : Reaches (.motStop p) s fun t =>
    ∀ a, (a = p.scope ∨ p.scope = 0xFFFF) → a < 8 → a < s.mot.axes.length → s.axisOn a = true →
      (t.axis a).v = 0 ∧ (t.axis a).move = none ∧ (t.axis a).wait = none ∧ (t.axis a).quickStops = inc32 (s.axis a).quickStops := by
  obtain ⟨hm, -, hon, -⟩ := running_axes motStopSpec p s
  refine served_ran rfl h fun t ht a ha ha8 hl hax => ?_
  have kept : t.axis a = _ := (ht.axisKept a).2.2
  have stops : ((running motStopSpec p s).axis a).Stopped ((motStopSpec.run s.host.nextAcc p (running motStopSpec p s)).1.axis a) := by
    by_cases hs : p.scope = 0xFFFF
    · have ran : motStopSpec.run s.host.nextAcc p (running motStopSpec p s) = _ := if_pos hs
      rw [ran]
      have spared := (running motStopSpec p s).stopStream_kept (a := a) (f := fun _ => true) rfl
      rw [← spared.2.2]
      exact State.stopAllAxes_axis ha8 (spared.2.1.symm ▸ hm.symm ▸ hl) (spared.axisOn.trans ((hon a).trans hax))
    · have ran : motStopSpec.run s.host.nextAcc p (running motStopSpec p s) = _ := if_neg hs
      have he : a = p.scope := ha.resolve_right hs
      subst he
      rw [ran]
      have spared := (running motStopSpec p s).stopStream_kept (a := p.scope) (f := fun a => a == p.scope) (beq_self_eq_true _)
      rw [← spared.2.2]
      exact (State.quickStop_axis (spared.2.1.symm ▸ hm.symm ▸ hl) (spared.axisOn.trans ((hon _).trans hax))).1
  obtain ⟨hv, hmove, hw, hq, -⟩ := stops
  rw [State.axis_congr hm] at hq
  exact ⟨(congrArg Axis.v kept).trans hv, (congrArg Axis.move kept).trans hmove, (congrArg Axis.wait kept).trans hw,
    (congrArg Axis.quickStops kept).trans hq⟩

theorem motSetPosition_reaches {p : Packet} {s : State} (h : startsNow motSetPositionSpec p s = true) (hl : p.scope < s.mot.axes.length) :
    Reaches (.motSetPosition p) s fun t => (t.axis p.scope).issued = toSigned 32 (p.fld 0 4) ∧ (t.axis p.scope).posValid = true ∧
      (t.axis p.scope).source = 1 ∧ (t.axis p.scope).v = 0 := by
  obtain ⟨hm, -⟩ := running_axes motSetPositionSpec p s
  have hl' : p.scope < (running motSetPositionSpec p s).mot.axes.length := hm.symm ▸ hl
  refine served_ran_axis (P := fun x => x.issued = toSigned 32 (p.fld 0 4) ∧ x.posValid = true ∧ x.source = 1 ∧ x.v = 0) rfl h ?_
  generalize running motSetPositionSpec p s = v at hl' ⊢
  unfold motSetPositionSpec
  dsimp only
  rw [State.setAxis_axis_same _ (Nat.lt_of_lt_of_eq hl' (updAt_length _ _ _).symm)]
  unfold State.placeAxis
  rw [State.setAxis_axis_same _ hl']
  exact ⟨rfl, rfl, rfl, rfl⟩

theorem motFaultClear_reaches {p : Packet} {s : State} (h : startsNow motFaultClearSpec p s = true) (hl : p.scope < s.mot.axes.length) :
    ((s.axis p.scope).mode = .fault → (s.axis p.scope).pinLow = false → Reaches (.motFaultClear p) s fun t =>
      (t.axis p.scope).mode = .idle ∧ (t.axis p.scope).cause = 0) ∧
    ((s.axis p.scope).mode ≠ .fault → Reaches (.motFaultClear p) s (Served p s s)) := by
  obtain ⟨hm, -⟩ := running_axes motFaultClearSpec p s
  have hx := State.axis_congr hm p.scope
  refine ⟨fun hf hp => served_ran_axis (P := fun x => x.mode = .idle ∧ x.cause = 0) rfl h ?_, fun hf => served_ran rfl h fun t ht => ?_⟩
  · have ran : motFaultClearSpec.run s.host.nextAcc p (running motFaultClearSpec p s) = _ := if_pos ((congrArg Axis.mode hx).trans hf)
    rw [ran, if_neg (by rw [hx, hp]; decide), State.setAxis_axis_same _ (hm.symm ▸ hl)]
    exact ⟨rfl, rfl⟩
  · have ran : motFaultClearSpec.run s.host.nextAcc p (running motFaultClearSpec p s) = _ := if_neg fun hr => hf ((congrArg Axis.mode hx).symm.trans hr)
    obtain ⟨_, _, _, _, _, hr⟩ := running_host motFaultClearSpec p s
    rw [ran, hr] at ht
    obtain ⟨_, _, _, _, _, rfl⟩ := ht
    exact ⟨_, _, _, rfl⟩

theorem motStreamStart_reaches {p : Packet} {s : State} (h : startsNow motStreamStartSpec p s = true) : Reaches (.motStreamStart p) s fun t =>
    t.mot.stream.running = true ∧ t.mot.stream.acc = some s.host.nextAcc ∧
      t.mot.stream.due = (max s.dt p.t + 16000000 + 15999) / 16000 ∧ t.mot.axes = s.mot.axes := by
  obtain ⟨hm, hd, -⟩ := running_axes motStreamStartSpec p s
  refine served_ran rfl h fun t ht => ?_
  have started : t.mot = (motStreamStartSpec.run s.host.nextAcc p (running motStreamStartSpec p s)).1.mot := by
    obtain ⟨_, _, _, _, _, rfl⟩ := ht
    rfl
  refine ⟨congrArg (·.stream.running) started, congrArg (·.stream.acc) started, (congrArg (·.stream.due) started).trans ?_,
    (congrArg (·.axes) started).trans (congrArg (·.axes) hm)⟩
  rw [← hd]
  rfl

/-- Settles O27. -/
theorem motionCommandsAct : Obligations.MotionCommandsAct := fun _ _ =>
  ⟨motMove_reaches, motStop_reaches, motSetPosition_reaches, motFaultClear_reaches, motStreamStart_reaches⟩

end Sys2Proof.Machine
end

section
/-! PROOFS. Position and speed feedback (11): O29. -/

namespace Sys2Proof.Machine

/-! A channel under the pulse divider, its events and its count. -/

theorem State.setChannel_channel_same {c : Nat} {s : State} (f : FbkChannel → FbkChannel) (h : c < s.fbk.channels.length) :
    (s.setChannel c f).channel c = f (s.channel c) := by
  simp only [State.setChannel, State.channel, updAt_getD]
  exact if_pos ⟨trivial, h⟩

theorem State.channel_congr {s t : State} (h : t.fbk = s.fbk) (c : Nat) : t.channel c = s.channel c := congrArg (fun f => f.channels.getD c {}) h

/-- `y` is channel `x` but for the divider's fields and the latched errors. -/
def FbkChannel.Divided (x y : FbkChannel) : Prop :=
  ∃ k o st nx oa ob, y = { x with track := { x.track with sticky := k }, o := o, steps := st, nextAt := nx, oa := oa, ob := ob }

theorem FbkChannel.Divided.refl (x : FbkChannel) : x.Divided x := ⟨_, _, _, _, _, _, rfl⟩

theorem FbkChannel.Divided.trans {x y z : FbkChannel} (h : x.Divided y) (g : y.Divided z) : x.Divided z := by
  obtain ⟨_, _, _, _, _, _, rfl⟩ := h
  obtain ⟨_, _, _, _, _, _, rfl⟩ := g
  exact ⟨_, _, _, _, _, _, rfl⟩

/-- A write of the divider's fields alone, whether the channel is there or not. -/
theorem State.setChannel_divided {c : Nat} {f : FbkChannel → FbkChannel} (s : State) (hf : ∀ x, FbkChannel.Divided x (f x)) :
    (s.channel c).Divided ((s.setChannel c f).channel c) := by
  simp only [State.setChannel, State.channel, updAt_getD]
  split
  · exact hf _
  · exact .refl _

theorem State.dividerStep_divided (c : Nat) (up : Bool) (s : State) : (s.channel c).Divided ((s.dividerStep c up).channel c) := by
  unfold State.dividerStep
  dsimp only
  split
  · exact s.setChannel_divided fun _ => ⟨_, _, _, _, _, _, rfl⟩
  · exact s.setChannel_divided fun _ => ⟨_, _, _, _, _, _, rfl⟩

/-- The divider keeps the count, the levels, the latch and the frame of its channel (R320). -/
theorem State.divide_divided (c : Nat) (s : State) : (s.channel c).Divided ((s.divide c).channel c) := by
  unfold State.divide
  split
  · exact .refl _
  · have stepped := foldl_related (R := fun s t : State => (s.channel c).Divided (t.channel c)) (fun _ => .refl _) .trans
      (fun s (_ : Nat) => s.dividerStep_divided c (decide ((s.channel c).o < s.dividerO c)))
    refine FbkChannel.Divided.trans ?_ (State.setChannel_divided _ fun x => ?_)
    · refine FbkChannel.Divided.trans (s.setChannel_divided (f := fun x => { x with steps := x.steps.filter fun d => decide (s.dt < d) })
        fun _ => ⟨_, _, _, _, _, _, rfl⟩) ?_
      exact foldl_related (R := fun s t : State => (s.channel c).Divided (t.channel c)) (fun _ => .refl _) .trans
        (fun v (_ : Nat) => v.dividerStep_divided c _) _ _
    · dsimp only
      split <;> exact ⟨_, _, _, _, _, _, rfl⟩

theorem State.dividerSet_divided (c : Nat) (s : State) : (s.channel c).Divided ((s.dividerSet c).channel c) :=
  s.setChannel_divided fun _ => ⟨_, _, _, _, _, _, rfl⟩

/-- The errors of a channel and the fault of its axes leave the channels as they are (R318). -/
theorem State.trackDone_fbk (c fresh : Nat) (was : Bool) (s : State) : (s.trackDone c fresh was).fbk = s.fbk := by
  have driven : Driven s (s.trackDone c fresh was) := by
    unfold State.trackDone State.trackEvents
    have told : Driven s ((List.range 12).foldl (fun s b => if fresh.testBit b then s.logEvent 0xA001 c b 0 else s) s) :=
      Driven.foldl (fun s b => .ite (s.logEvent_driven _ _ _ _) (.refl s)) _ s
    exact .ite (told.trans (Driven.foldl (fun s a => s.axisFault_driven 2 a) _ _)) told
  obtain ⟨_, _, _, _, hd, -⟩ := driven
  rw [hd]

/-- A channel that is written, its errors told, and its divider run: all but the divider's fields is as written. -/
theorem State.tracked_channel {c fresh : Nat} {was : Bool} {f : FbkChannel → FbkChannel} {s : State} (h : c < s.fbk.channels.length) :
    (f (s.channel c)).Divided ((((s.setChannel c f).trackDone c fresh was).divide c).channel c) := by
  have divided := State.divide_divided c ((s.setChannel c f).trackDone c fresh was)
  rwa [State.channel_congr (State.trackDone_fbk _ _ _ _), State.setChannel_channel_same f h] at divided

/-- Setting the count moves the bound axes' offsets, and of the channel its count, its speed's history and the divider (R325). -/
theorem State.setCount_channel {c : Nat} {v : Int} {s : State} (h : c < s.fbk.channels.length) :
    ∃ p, FbkChannel.Divided { s.channel c with hist := [], track := { (s.channel c).track with r := v, c := v, lost := false, p := p } }
      ((s.setCount c v).channel c) := by
  have divided := State.dividerSet_divided c (s.setChannel c fun x => { x with
    hist := []
    track := { x.track with r := v, c := v, lost := false, p := if byteField (s.param 0xA000 c) 0 1 = 1
      then v * (2 ^ (12 - byteField (s.param 0xA000 c) 2 1) : Nat) + x.track.p % (2 ^ (12 - byteField (s.param 0xA000 c) 2 1) : Nat) else x.track.p } })
  rw [State.setChannel_channel_same _ h] at divided
  refine ⟨_, Eq.subst (motive := FbkChannel.Divided _) (State.channel_congr ?_ c).symm divided⟩
  unfold State.setCount
  refine foldl_related (R := fun s t : State => t.fbk = s.fbk) (fun _ => rfl) (fun h g => g.trans h) (fun u e => ?_) _ _
  split <;> rfl

/-! The command and the events (R311 to R325). -/

theorem fbkSetCount_reaches {p : Packet} {s : State} (h : startsNow fbkSetCountSpec p s = true) (hl : p.scope < s.fbk.channels.length) :
    Reaches (.fbkSetCount p) s fun t => (t.channel p.scope).track.r = toSigned 32 (p.fld 0 4) ∧
      (t.channel p.scope).track.c = toSigned 32 (p.fld 0 4) ∧ (t.channel p.scope).track.lost = false := by
  refine served_ran rfl h fun t ht => ?_
  have hf : (running fbkSetCountSpec p s).fbk = s.fbk := by
    obtain ⟨_, _, _, _, _, hr⟩ := running_host fbkSetCountSpec p s
    rw [hr]
  obtain ⟨_, _, _, _, _, _, _, hc⟩ := State.setCount_channel (v := toSigned 32 (p.fld 0 4)) (s := running fbkSetCountSpec p s) (hf.symm ▸ hl)
  have kept : t.fbk = ((running fbkSetCountSpec p s).setCount p.scope (toSigned 32 (p.fld 0 4))).fbk := by
    obtain ⟨_, _, _, _, _, rfl⟩ := ht
    rfl
  have left := (State.channel_congr kept p.scope).trans hc
  exact ⟨congrArg (·.track.r) left, congrArg (·.track.c) left, congrArg (·.track.lost) left⟩

/-- What an event leaves of a channel is what its function leaves of it. -/
theorem event_channel {i : Instr} {s u : State} {t c : Nat} {f : State → State} {P : FbkChannel → Prop} (hx : exec i s = s.event t f)
    (hup : s.up = true) (hf : f (s.at t) = u) (h : P (u.channel c)) : Reaches i s fun u => P (u.channel c) :=
  up_reaches hx hup hf h

theorem sincosConversion_reaches {t c sc cc : Nat} {s : State} (hup : s.up = true) (hl : c < s.fbk.channels.length) (hm : s.fbkMode c = 1) :
    Reaches (.sincosConversion t c sc cc) s fun u => (u.channel c).lastDt = max s.dt t ∧
      (u.channel c).track.r = ((s.channel c).track.convert (({ s with svc := { s.svc with
        frontEnds := updAt s.svc.frontEnds (s.frontOf c) fun x => { x with slewDone := min 1024 (x.slewDone + 1) } } } : State).channelCal c) sc cc).1.r := by
  have converts : (s.at t).sinCos c sc cc = _ := if_neg (not_not_intro hm)
  refine event_channel (P := fun x => x.lastDt = max s.dt t ∧ x.track.r = _) rfl hup converts ?_
  obtain ⟨_, _, _, _, _, _, hc⟩ := State.tracked_channel (c := c)
    (fresh := ((s.channel c).track.convert (({ s with svc := { s.svc with
        frontEnds := updAt s.svc.frontEnds (s.frontOf c) fun x => { x with slewDone := min 1024 (x.slewDone + 1) } } } : State).channelCal c) sc cc).2)
    (was := (s.channel c).track.lost)
    (f := fun x => { x with lastDt := max s.dt t, track := ((s.channel c).track.convert (({ s with svc := { s.svc with
        frontEnds := updAt s.svc.frontEnds (s.frontOf c) fun x => { x with slewDone := min 1024 (x.slewDone + 1) } } } : State).channelCal c) sc cc).1 })
    (s := { s.at t with svc := { s.svc with
        frontEnds := updAt s.svc.frontEnds (s.frontOf c) fun x => { x with slewDone := min 1024 (x.slewDone + 1) } } }) hl
  exact ⟨congrArg (·.lastDt) hc, congrArg (·.track.r) hc⟩

theorem quadEdge_reaches {t c : Nat} {a b : Bool} {s : State} (hup : s.up = true) (hl : c < s.fbk.channels.length) (hm : s.fbkMode c = 2) :
    Reaches (.quadEdge t c a b) s fun u => (u.channel c).a = a ∧ (u.channel c).b = b ∧ (u.channel c).lastDt = max s.dt t ∧
      (a ≠ (s.channel c).a → b ≠ (s.channel c).b → (u.channel c).track.lost = true ∧ (u.channel c).track.r = (s.channel c).track.r) ∧
      (a = (s.channel c).a ∨ b = (s.channel c).b → (byteField (s.param 0xA000 c) 1 1).testBit 0 = false →
        (u.channel c).track.r = (s.channel c).track.r + quadStep (s.channel c).a (s.channel c).b a b) := by
  obtain ⟨k, hk⟩ : ∃ k, k = if (a != (s.channel c).a) && (b != (s.channel c).b) then ({ (s.channel c).track with lost := true }).errorsNow fbQuad
      else ((s.channel c).track.follow ((s.channel c).track.r + (if (byteField (s.param 0xA000 c) 1 1).testBit 0
        then -quadStep (s.channel c).a (s.channel c).b a b else quadStep (s.channel c).a (s.channel c).b a b))).errorsNow 0 := ⟨_, rfl⟩
  obtain ⟨_, _, _, _, _, _, hc⟩ := State.tracked_channel (c := c) (fresh := k.2) (was := (s.channel c).track.lost)
    (f := fun x => { x with track := k.1, a := a, b := b, lastDt := max s.dt t }) (s := s.at t) hl
  have edges : (s.at t).quadEdge c a b = (((s.at t).setChannel c fun x => { x with track := k.1, a := a, b := b, lastDt := max s.dt t }).trackDone c k.2
      (s.channel c).track.lost).divide c := by
    rw [hk]
    exact if_neg (not_not_intro hm)
  refine up_reaches rfl hup edges ⟨congrArg (·.a) hc, congrArg (·.b) hc, congrArg (·.lastDt) hc, fun ha hb => ?_, fun hab hinv => ?_⟩
  · rw [if_pos (by rw [bne_iff_ne.mpr ha, bne_iff_ne.mpr hb]; rfl)] at hk
    exact ⟨(congrArg (·.track.lost) hc).trans (congrArg (·.1.lost) hk), (congrArg (·.track.r) hc).trans (congrArg (·.1.r) hk)⟩
  · have one : ((a != (s.channel c).a) && (b != (s.channel c).b)) = false := by
      rcases hab with h | h <;> simp [h]
    rw [if_neg (by rw [one]; decide), if_neg (by rw [hinv]; decide)] at hk
    exact (congrArg (·.track.r) hc).trans (congrArg (·.1.r) hk)

theorem quadIndex_reaches {t c : Nat} {s : State} (hup : s.up = true) (hl : c < s.fbk.channels.length) (hm : s.fbkMode c = 2)
    (hi : byteField (s.param 0xA000 c) 4 1 ≠ 0) : Reaches (.quadIndex t c) s fun u =>
      (u.channel c).latchC = (s.channel c).track.c ∧ (u.channel c).latchDt = max s.dt t ∧
        (byteField (s.param 0xA000 c) 4 1 = 2 → (u.channel c).track.c = toSigned 32 (byteField (s.param 0xA000 c) 8 4)) := by
  have latched := State.setChannel_channel_same (s := s.at t) (fun x => { x with latchC := x.track.c, latchDt := max s.dt t }) hl
  obtain ⟨v, hv⟩ : ∃ v, v = (s.at t).setChannel c fun x => { x with latchC := x.track.c, latchDt := max s.dt t } := ⟨_, rfl⟩
  rw [← hv] at latched
  have indexed : (s.at t).quadIndex c = if byteField (s.param 0xA000 c) 4 1 = 2
      then (v.setCount c (toSigned 32 (byteField (s.param 0xA000 c) 8 4))).setParam 0xA000 c (s.param 0xA000 c - 2 ^ 32) else v :=
    hv ▸ if_neg (not_or.mpr ⟨not_not_intro hm, hi⟩)
  by_cases h2 : byteField (s.param 0xA000 c) 4 1 = 2
  · have hl' : c < v.fbk.channels.length := by
      rw [hv]
      exact Nat.lt_of_lt_of_eq hl (updAt_length _ _ _).symm
    obtain ⟨_, _, _, _, _, _, _, hc⟩ := State.setCount_channel (v := toSigned 32 (byteField (s.param 0xA000 c) 8 4)) hl'
    rw [latched] at hc
    rw [if_pos h2] at indexed
    have left := (State.channel_congr (State.setParam_fbk 0xA000 c (s.param 0xA000 c - 2 ^ 32) _) c).trans hc
    generalize s.param 0xA000 c - 2 ^ 32 = n at indexed left
    exact up_reaches rfl hup indexed ⟨congrArg (·.latchC) left, congrArg (·.latchDt) left, fun _ => congrArg (·.track.c) left⟩
  · rw [if_neg h2] at indexed
    exact up_reaches rfl hup indexed ⟨congrArg (·.latchC) latched, congrArg (·.latchDt) latched, fun h => absurd h h2⟩

/-- A good SSI frame is taken (R315). -/
theorem State.ssiFrame_good {c : Nat} (raw extra latch : Nat) {s : State} (hm : s.fbkMode c = 3) :
    ∃ k fresh was e, s.ssiFrame c raw extra true latch =
      ((s.setChannel c fun x => { x with track := k, ssiFails := 0, ssiStarted := true, extra := e, lastDt := latch }).trackDone c fresh was).divide c :=
  ⟨_, _, _, _, (if_neg (not_not_intro hm)).trans (if_neg (by decide))⟩

theorem ssiFrameEnd_reaches {t c raw extra latch : Nat} {s : State} (hup : s.up = true) (hl : c < s.fbk.channels.length) (hm : s.fbkMode c = 3) :
    (Reaches (.ssiFrameEnd t c raw extra false latch) s fun u =>
      (u.channel c).ssiFails = (s.channel c).ssiFails + 1 ∧ (u.channel c).track.c = (s.channel c).track.c) ∧
    (Reaches (.ssiFrameEnd t c raw extra true latch) s fun u =>
      (u.channel c).ssiFails = 0 ∧ (u.channel c).lastDt = latch ∧ (u.channel c).ssiStarted = true) := by
  refine ⟨?_, ?_⟩
  · have fails : (s.at t).ssiFrame c raw extra false latch = _ := (if_neg (not_not_intro hm)).trans (if_pos rfl)
    have failed := State.setChannel_channel_same (s := s.at t) (fun x => { x with
      track := ((s.channel c).track.errorsNow fbSsi).1, ssiFails := x.ssiFails + 1 }) hl
    have left := (State.channel_congr (State.trackDone_fbk c ((s.channel c).track.errorsNow fbSsi).2 (s.channel c).track.lost _) c).trans failed
    exact up_reaches rfl hup fails ⟨congrArg (·.ssiFails) left, congrArg (·.track.c) left⟩
  · obtain ⟨k, fresh, was, e, good⟩ := State.ssiFrame_good raw extra latch (s := s.at t) hm
    obtain ⟨_, _, _, _, _, _, hc⟩ := State.tracked_channel (c := c) (fresh := fresh) (was := was)
      (f := fun x => { x with track := k, ssiFails := 0, ssiStarted := true, extra := e, lastDt := latch }) (s := s.at t) hl
    exact up_reaches rfl hup good ⟨congrArg (·.ssiFails) hc, congrArg (·.lastDt) hc, congrArg (·.ssiStarted) hc⟩

/-- Settles O29. -/
theorem feedbackActs : Obligations.FeedbackActs :=
  ⟨fun _ _ => fbkSetCount_reaches, fun _ _ _ hup hl => ⟨fun _ _ => sincosConversion_reaches hup hl, fun _ _ => quadEdge_reaches hup hl,
    quadIndex_reaches hup hl, fun _ _ _ hm => ssiFrameEnd_reaches hup hl hm⟩⟩

end Sys2Proof.Machine
end

section
/-! PROOFS. Tempering and lighting (12): O30. -/

namespace Sys2Proof.Machine

/-! Buses and pages under writes. -/

theorem State.setBus_bus_same {b : Nat} {s : State} (f : EmdBus → EmdBus) (h : b < s.emd.length) : (s.setBus b f).bus b = f (s.bus b) := by
  simp only [State.setBus, State.bus, updAt_getD]
  exact if_pos ⟨trivial, h⟩

theorem State.setBus_bus_other {a b : Nat} (f : EmdBus → EmdBus) (s : State) (h : a ≠ b) : (s.setBus b f).bus a = s.bus a := by
  simp only [State.setBus, State.bus, updAt_getD]
  exact if_neg fun g => h g.1

theorem State.bus_congr {s t : State} (h : t.emd = s.emd) (b : Nat) : t.bus b = s.bus b := congrArg (fun l => l.getD b {}) h

theorem State.setBus_emd_length (b : Nat) (f : EmdBus → EmdBus) (s : State) : (s.setBus b f).emd.length = s.emd.length := updAt_length _ _ _

theorem State.setPage_page_same {b k : Nat} {s : State} (f : EmdPage → EmdPage) (hb : b < s.emd.length) (hk : k < (s.bus b).pages.length) :
    ((s.setPage b k f).bus b).page k = f ((s.bus b).page k) := by
  unfold State.setPage
  rw [State.setBus_bus_same _ hb]
  simp only [EmdBus.page, updAt_getD]
  exact if_pos ⟨trivial, hk⟩

theorem State.setPage_page_other {b j k : Nat} {s : State} (f : EmdPage → EmdPage) (hb : b < s.emd.length) (h : k ≠ j) :
    ((s.setPage b j f).bus b).page k = (s.bus b).page k := by
  unfold State.setPage
  rw [State.setBus_bus_same _ hb]
  simp only [EmdBus.page, updAt_getD]
  exact if_neg fun g => h g.1

theorem State.setPage_pages_length {b k : Nat} {s : State} (f : EmdPage → EmdPage) (hb : b < s.emd.length) :
    ((s.setPage b k f).bus b).pages.length = (s.bus b).pages.length := by
  unfold State.setPage
  rw [State.setBus_bus_same _ hb]
  exact updAt_length _ _ _

theorem State.emdSend_emd (b : Nat) (bs : List Byte) (s : State) : (s.emdSend b bs).emd = s.emd := by
  unfold State.emdSend
  split <;> rfl

theorem State.emdSends_emd (b : Nat) (ps : List (List Byte)) (s : State) : (s.emdSends b ps).emd = s.emd := by
  unfold State.emdSends
  split <;> rfl

theorem State.buildEntry_emd (type : Nat) (payload : List Byte) (s : State) : (s.buildEntry type payload).emd = s.emd := by
  obtain ⟨_, _, _, _, _, _, _, h⟩ := State.buildEntry_written type payload s
  rw [h]

theorem Replied.emd_eq {s t : State} (h : Replied s t) : t.emd = s.emd := by
  obtain ⟨_, _, rfl⟩ := h.exists_eq
  rfl

/-- A transfer that starts takes a DIRTY page and no other (R337). -/
theorem State.emdKick_page {b k : Nat} {s : State} (hb : b < s.emd.length) (hk : k < (s.bus b).pages.length) :
    ((s.emdKick b).bus b).page k = (s.bus b).page k ∨
    ((s.bus b).page k).content = .dirty ∧ ((s.emdKick b).bus b).page k = { (s.bus b).page k with content := .transferring } := by
  unfold State.emdKick
  dsimp only
  split
  · exact .inl rfl
  · split
    · exact .inl rfl
    · next j hj =>
      rw [State.bus_congr (State.emdSends_emd _ _ _)]
      by_cases hkj : k = j
      · subst hkj
        have found := List.find?_some hj
        simp only [Bool.and_eq_true, beq_iff_eq] at found
        exact .inr ⟨found.1, State.setPage_page_same _ hb hk⟩
      · exact .inl (State.setPage_page_other _ hb hkj)

theorem State.emdKick_dram (b : Nat) (s : State) : (s.emdKick b).dram = s.dram := by
  unfold State.emdKick State.emdSends
  dsimp only
  split
  · rfl
  · split
    · rfl
    · split <;> rfl

/-! The emitter commands (R336, R342, R344). -/

theorem running_emd (c : CmdSpec) (p : Packet) (s : State) : (running c p s).emd = s.emd ∧ (running c p s).dram = s.dram := by
  obtain ⟨_, _, _, _, _, hr⟩ := running_host c p s
  rw [hr]
  exact ⟨rfl, rfl⟩

theorem running_dramRead (c : CmdSpec) (p : Packet) (s : State) (a n : Nat) : (running c p s).dramRead a n = s.dramRead a n := by
  unfold State.dramRead
  rw [(running_emd c p s).2]

theorem emdFrameLoad_reaches {p : Packet} {s : State} (h : startsNow emdFrameLoadSpec p s = true) (hb : p.scope < s.emd.length)
    (hk : p.fld 8 1 < (s.bus p.scope).pages.length) : Reaches (.emdFrameLoad p) s fun t =>
      ((t.bus p.scope).page (p.fld 8 1)).buffer =
          ((s.bus p.scope).page (p.fld 8 1)).buffer.writeBytes 0#8 (p.fld 12 4) (s.dramRead (p.fld 0 8) (p.fld 16 4)) ∧
        ((t.bus p.scope).page (p.fld 8 1)).content ≠ .loaded ∧
        ((t.bus p.scope).page (p.fld 8 1)).loads = ((s.bus p.scope).page (p.fld 8 1)).loads ++ [s.host.nextAcc] ∧ t.dram = s.dram := by
  obtain ⟨he, hd⟩ := running_emd emdFrameLoadSpec p s
  obtain ⟨v, hv⟩ : ∃ v, v = (running emdFrameLoadSpec p s).setPage p.scope (p.fld 8 1) fun x => { x with
    buffer := x.buffer.writeBytes 0#8 (p.fld 12 4) (s.dramRead (p.fld 0 8) (p.fld 16 4)), loads := x.loads ++ [s.host.nextAcc] } := ⟨_, rfl⟩
  have ran : (emdFrameLoadSpec.run s.host.nextAcc p (running emdFrameLoadSpec p s)).1 =
      (v.setPage p.scope (p.fld 8 1) fun p => { p with content := .dirty }).emdKick p.scope := by
    rw [hv, ← running_dramRead emdFrameLoadSpec p s]
    rfl
  have hb0 : p.scope < (running emdFrameLoadSpec p s).emd.length := he.symm ▸ hb
  have hk0 : p.fld 8 1 < ((running emdFrameLoadSpec p s).bus p.scope).pages.length := by rwa [State.bus_congr he]
  have hb1 : p.scope < v.emd.length := by
    rw [hv]
    exact Nat.lt_of_lt_of_eq hb0 (State.setBus_emd_length _ _ _).symm
  have hk1 : p.fld 8 1 < (v.bus p.scope).pages.length := by rwa [hv, State.setPage_pages_length _ hb0]
  have written : (v.bus p.scope).page (p.fld 8 1) = _ :=
    (congrArg (fun u : State => (u.bus p.scope).page (p.fld 8 1)) hv).trans (State.setPage_page_same _ hb0 hk0)
  rw [State.bus_congr he] at written
  obtain ⟨u, hu⟩ : ∃ u, u = v.setPage p.scope (p.fld 8 1) fun p => { p with content := .dirty } := ⟨_, rfl⟩
  rw [← hu] at ran
  have dirty : (u.bus p.scope).page (p.fld 8 1) = _ :=
    (congrArg (fun u : State => (u.bus p.scope).page (p.fld 8 1)) hu).trans (State.setPage_page_same _ hb1 hk1)
  rw [written] at dirty
  have hb2 : p.scope < u.emd.length := by
    rw [hu]
    exact Nat.lt_of_lt_of_eq hb1 (State.setBus_emd_length _ _ _).symm
  have hk2 : p.fld 8 1 < (u.bus p.scope).pages.length := by rwa [hu, State.setPage_pages_length _ hb1]
  refine served_ran rfl h fun t ht => ?_
  have hpage : (t.bus p.scope).page (p.fld 8 1) = ((u.emdKick p.scope).bus p.scope).page (p.fld 8 1) := by
    rw [State.bus_congr ht.emd_eq, ran]
  have hdram : t.dram = s.dram := by
    rw [ht.dmaMoved.dram_eq, ran, State.emdKick_dram, hu, hv]
    exact hd
  rcases State.emdKick_page hb2 hk2 with kept | ⟨-, started⟩
  · have left := hpage.trans (kept.trans dirty)
    refine ⟨congrArg (·.buffer) left, fun hc => ?_, congrArg (·.loads) left, hdram⟩
    exact nomatch (congrArg (·.content) left).symm.trans hc
  · rw [dirty] at started
    have left := hpage.trans started
    refine ⟨congrArg (·.buffer) left, fun hc => ?_, congrArg (·.loads) left, hdram⟩
    exact nomatch (congrArg (·.content) left).symm.trans hc

theorem emdLatch_reaches {p : Packet} {s : State} (h : startsNow emdLatchSpec p s = true) :
    Reaches (.emdLatch p) s (Served p s { s with emd := updAt s.emd p.scope fun x =>
      { x with latch := some { page := p.fld 0 1, when_ := packetWhen p (s.at p.t), acc := s.host.nextAcc } } }) := by
  refine served_ran rfl h fun t ht => ?_
  obtain ⟨_, _, _, _, _, hr⟩ := running_host emdLatchSpec p s
  rw [hr] at ht
  obtain ⟨_, _, _, _, _, rfl⟩ := ht
  exact ⟨_, _, _, rfl⟩

theorem State.endLatch_bus_other {a b : Nat} (st : Nat) (res : List Byte) (s : State) (h : a ≠ b) : (s.endLatch b st res).bus a = s.bus a := by
  unfold State.endLatch
  split
  · exact (State.bus_congr (State.complete_replied _ _ _ _).emd_eq a).trans (State.setBus_bus_other _ _ h)
  · rfl

/-- A latch that ends leaves its bus without one. -/
theorem State.endLatch_bus_same {b : Nat} {s : State} (st : Nat) (res : List Byte) (h : b < s.emd.length) :
    (s.endLatch b st res).bus b = { s.bus b with latch := none } := by
  unfold State.endLatch
  split
  · exact (State.bus_congr (State.complete_replied _ _ _ _).emd_eq b).trans (State.setBus_bus_same _ h)
  · next hn => rw [← hn]

theorem State.endLatch_emd_length (b st : Nat) (res : List Byte) (s : State) : (s.endLatch b st res).emd.length = s.emd.length := by
  unfold State.endLatch
  split
  · rw [(State.complete_replied _ _ _ _).emd_eq]
    exact State.setBus_emd_length _ _ _
  · rfl

/-- DARK sends its packet and leaves the buses as its writes do. -/
theorem State.emdDark_emd (b : Nat) (s : State) : (s.emdDark b).emd = ((s.endLatch b stAborted []).setBus b fun x => { x with active := none, seq := [] }).emd := by
  unfold State.emdDark
  dsimp only
  split
  · exact State.emdSend_emd _ _ _
  · rfl

theorem State.emdDark_length (b : Nat) (s : State) : (s.emdDark b).emd.length = s.emd.length := by
  rw [State.emdDark_emd]
  exact (State.setBus_emd_length _ _ _).trans (State.endLatch_emd_length _ _ _ _)

theorem State.emdDark_bus_same {b : Nat} {s : State} (h : b < s.emd.length) :
    (s.emdDark b).bus b = { s.bus b with active := none, latch := none, seq := [] } := by
  rw [State.bus_congr (State.emdDark_emd b s), State.setBus_bus_same _ (Nat.lt_of_lt_of_eq h (State.endLatch_emd_length _ _ _ _).symm),
    State.endLatch_bus_same _ _ h]

theorem State.emdDark_bus_other {a b : Nat} (s : State) (h : a ≠ b) : (s.emdDark b).bus a = s.bus a := by
  rw [State.bus_congr (State.emdDark_emd b s), State.setBus_bus_other _ _ h, State.endLatch_bus_other _ _ _ h]

/-- A bus on which nothing is shown and nothing waits (R344). -/
def EmdBus.IsDark (x : EmdBus) : Prop := x.active = none ∧ x.latch = none ∧ x.seq = []

/-- DARK on a list of buses leaves each of them dark. -/
theorem State.emdDarks_dark {b : Nat} {l : List Nat} {s : State} (hb : b < s.emd.length) (hd : b ∈ l ∨ (s.bus b).IsDark) :
    ((l.foldl (fun (s : State) (b : Nat) => s.emdDark b) s).bus b).IsDark := by
  induction l generalizing s with
  | nil => exact hd.resolve_left List.not_mem_nil
  | cons a l ih =>
    refine ih (Nat.lt_of_lt_of_eq hb (State.emdDark_length a s).symm) ?_
    by_cases hab : b = a
    · subst hab
      refine .inr ?_
      rw [State.emdDark_bus_same hb]
      exact ⟨rfl, rfl, rfl⟩
    · refine hd.imp (fun hm => (List.mem_cons.mp hm).resolve_left hab) fun hx => ?_
      rwa [State.emdDark_bus_other s hab]

theorem emdDark_reaches {p : Packet} {s : State} (h : startsNow emdDarkSpec p s = true) : Reaches (.emdDark p) s fun t =>
    ∀ b, (b = p.scope ∨ p.scope = 0xFFFF) → b < 4 → b < s.emd.length → (t.bus b).active = none ∧ (t.bus b).latch = none ∧ (t.bus b).seq = [] := by
  obtain ⟨he, -⟩ := running_emd emdDarkSpec p s
  refine served_ran rfl h fun t ht b hs hb4 hb => ?_
  have dark : ((emdDarkSpec.run s.host.nextAcc p (running emdDarkSpec p s)).1.bus b).IsDark := by
    rw [← he] at hb
    change ((if p.scope = 0xFFFF then (List.range 4).foldl (fun (s : State) (b : Nat) => s.emdDark b) (running emdDarkSpec p s)
      else (running emdDarkSpec p s).emdDark p.scope).bus b).IsDark
    split
    · exact State.emdDarks_dark hb (.inl (List.mem_range.mpr hb4))
    · next hn =>
      rw [hs.resolve_right hn] at hb ⊢
      rw [State.emdDark_bus_same hb]
      exact ⟨rfl, rfl, rfl⟩
  rw [← State.bus_congr ht.emd_eq] at dark
  exact dark

/-! The events of a bus (R334 to R345). -/

theorem State.latchNow_bus {b k at_ : Nat} {s : State} (h : b < s.emd.length) :
    (s.latchNow b k at_).bus b = { s.bus b with active := some k, lastLatch := at_ } :=
  (State.bus_congr (State.emdSend_emd _ _ _) b).trans (State.setBus_bus_same _ h)

/-- A latch that is due, alone on its bus, is the command's (R339). -/
theorem State.latchDue_command {b d : Nat} {l : EmdLatch} {s : State} (hon : s.emdOn b = true) (hl : (s.bus b).latch = some l) (hw : l.when_ = .at_ d)
    (hd : d ≤ s.dt) (hq : (s.bus b).seq = []) (hgap : (s.bus b).active.isSome → (s.bus b).lastLatch + latchGap ≤ s.dt) :
    s.latchDue b = s.commandLatch b d := by
  have due : (s.bus b).due = some d := by
    unfold EmdBus.due
    rw [hl, Option.bind_some, hw]
  have free : (!s.emdOn b || ((s.bus b).active.isSome && decide (s.dt < (s.bus b).lastLatch + latchGap))) = false := by
    rw [hon]
    cases ha : (s.bus b).active.isSome with
    | false => rfl
    | true => exact decide_eq_false (Nat.not_lt.mpr (hgap ha))
  unfold State.latchDue
  dsimp only
  rw [free, if_neg (by decide)]
  simp only [hq, List.foldl_nil, due]
  exact if_pos hd

/-- The latch of a loaded page makes the page active and ends (R339). -/
theorem State.commandLatch_bus {b d : Nat} {l : EmdLatch} {s : State} (hb : b < s.emd.length) (hl : (s.bus b).latch = some l)
    (hc : ((s.bus b).page l.page).content = .loaded) :
    ((s.commandLatch b d).bus b).active = some l.page ∧ ((s.commandLatch b d).bus b).lastLatch = s.dt ∧ ((s.commandLatch b d).bus b).latch = none := by
  have hb1 : b < (s.latchNow b l.page s.dt).emd.length :=
    Nat.lt_of_lt_of_eq hb ((congrArg List.length (State.emdSend_emd _ _ _)).trans (State.setBus_emd_length _ _ _)).symm
  unfold State.commandLatch
  simp only [hl, hc]
  split
  · rw [State.endLatch_bus_same _ _ (Nat.lt_of_lt_of_eq hb1 (State.setBus_emd_length _ _ _).symm), State.setBus_bus_same _ hb1, State.latchNow_bus hb]
    exact ⟨rfl, rfl, rfl⟩
  · rw [State.endLatch_bus_same _ _ hb1, State.latchNow_bus hb]
    exact ⟨rfl, rfl, rfl⟩

theorem emdLatchDue_reaches {t b d : Nat} {l : EmdLatch} {s : State} (hup : s.up = true) (hb : b < s.emd.length) (hon : s.emdOn b = true)
    (hl : (s.bus b).latch = some l) (hw : l.when_ = .at_ d) (hd : d ≤ max s.dt t) (hq : (s.bus b).seq = []) (hc : ((s.bus b).page l.page).content = .loaded)
    (hgap : (s.bus b).active.isSome → (s.bus b).lastLatch + 16000 ≤ max s.dt t) : Reaches (.emdLatchDue t b) s fun u =>
      (u.bus b).active = some l.page ∧ (u.bus b).lastLatch = max s.dt t ∧ (u.bus b).latch = none :=
  up_reaches rfl hup (State.latchDue_command (s := s.at t) hon hl hw hd hq hgap) (State.commandLatch_bus (s := s.at t) hb hl hc)

theorem emdRefreshLatch_reaches {t b k due : Nat} {s : State} (hup : s.up = true) (hb : b < s.emd.length) (hon : s.emdOn b = true)
    (ha : (s.bus b).active = some k) (hq : (s.bus b).seq = []) (hl : (s.bus b).latch = none)
    (hdue : due = (s.bus b).lastLatch + ceilDiv 48000000 (max 1 (s.matrixDt b)) * max 1 (s.matrixDt b)) (hd : due ≤ max s.dt t) :
    Reaches (.emdRefreshLatch t b) s fun u => (u.bus b).active = some k ∧ (u.bus b).lastLatch = due := by
  have refreshed : (s.at t).refreshLatch b = (s.at t).latchNow b k due := by
    have ha' : ((s.at t).bus b).active = some k := ha
    have hq' : ((s.at t).bus b).seq = [] := hq
    have none_ : ((s.at t).bus b).due = none := by
      have hl' : ((s.at t).bus b).latch = none := hl
      unfold EmdBus.due
      rw [hl', Option.bind_none]
    have hdue' : ((s.at t).bus b).lastLatch + ceilDiv 48000000 (max 1 ((s.at t).matrixDt b)) * max 1 ((s.at t).matrixDt b) = due := hdue.symm
    unfold State.refreshLatch
    simp only [ha', hq', none_, hdue', List.any_nil]
    refine if_pos ?_
    have hon' : (s.at t).emdOn b = true := hon
    rw [hon', decide_eq_true (p := due ≤ (s.at t).dt) hd]
    rfl
  refine up_reaches rfl hup refreshed ?_
  have left := State.latchNow_bus (k := k) (at_ := due) (s := s.at t) hb
  exact ⟨congrArg (·.active) left, congrArg (·.lastLatch) left⟩

/-- What the replies of drivers leave of the buses: the pages stand. -/
def PagesKept (b : Nat) (s t : State) : Prop := t.emd.length = s.emd.length ∧ (t.bus b).pages = (s.bus b).pages

theorem PagesKept.refl (b : Nat) (s : State) : PagesKept b s s := ⟨rfl, rfl⟩

theorem PagesKept.trans {b : Nat} {s t u : State} (h : PagesKept b s t) (g : PagesKept b t u) : PagesKept b s u := ⟨g.1.trans h.1, g.2.trans h.2⟩

theorem PagesKept.of_emd {b : Nat} {s t : State} (h : t.emd = s.emd) : PagesKept b s t := ⟨by rw [h], by rw [State.bus_congr h]⟩

theorem State.setBus_pagesKept {b : Nat} {f : EmdBus → EmdBus} (s : State) (hf : ∀ x, (f x).pages = x.pages) : PagesKept b s (s.setBus b f) := by
  refine ⟨State.setBus_emd_length _ _ _, ?_⟩
  simp only [State.setBus, State.bus, updAt_getD]
  split
  · exact hf _
  · rfl

/-- What a reply with a good check leaves of its driver, before the bus is judged (R335, R345). -/
def State.driverHeard (s : State) (b d w : Nat) : State :=
  let y := (s.bus b).drivers.getD d {}
  let s1 := s.setBus b fun x => { x with drivers := updAt x.drivers d fun _ => { word := w } }
  let s2 := if driverWatched w ≠ driverWatched y.word then s1.logEvent 0xB001 b (beside d 1 1) w else s1
  if w.testBit 1 && !y.word.testBit 1 && (s.bus b).active.isSome then s2.buildEntry 0x51 (leBytes 1 b ++ leBytes 1 d ++ zeros 6) else s2

theorem State.driverHeard_emd (s : State) (b d w : Nat) :
    (s.driverHeard b d w).emd = (s.setBus b fun x => { x with drivers := updAt x.drivers d fun _ => { word := w } }).emd := by
  unfold State.driverHeard
  dsimp only
  split
  · rw [State.buildEntry_emd]
    split <;> rfl
  · split <;> rfl

theorem State.judgeDrivers_pagesKept (b : Nat) (s : State) : PagesKept b s (s.judgeDrivers b) := s.setBus_pagesKept fun _ => rfl

theorem State.driverReply_pagesKept (b d : Nat) (r : List Byte) (s : State) : PagesKept b s (s.driverReply b d r) := by
  unfold State.driverReply
  dsimp only
  refine .trans ?_ (State.judgeDrivers_pagesKept b _)
  split
  · refine .trans (s.setBus_pagesKept (f := fun x => { x with drivers := updAt x.drivers d fun y =>
      { y with misses := y.misses + 1, missing := y.missing || decide (2 ≤ y.misses) } }) fun _ => rfl) ?_
    split
    · exact .of_emd rfl
    · exact .refl b _
  · next w _ _ =>
    change PagesKept b s (s.driverHeard b d w)
    exact .trans (s.setBus_pagesKept (f := fun x => { x with drivers := updAt x.drivers d fun _ => { word := w } }) fun _ => rfl)
      (.of_emd (s.driverHeard_emd b d w))

theorem State.judgeDrivers_drivers (b d : Nat) (s : State) : ((s.judgeDrivers b).bus b).drivers.getD d {} = (s.bus b).drivers.getD d {} := by
  simp only [State.judgeDrivers, State.setBus, State.bus, updAt_getD]
  split <;> rfl

theorem emdStatusPoll_reaches {t b d w c : Nat} {reply : List Byte} {s : State} (hup : s.up = true) (hb : b < s.emd.length) (hon : s.emdOn b = true)
    (hm : (s.emdMask b).contains d = true) (hd : d < (s.bus b).drivers.length) (hr : emdReplyOf reply = some (w, c)) :
    Reaches (.emdStatusPoll t b d reply) s fun u => ((u.bus b).drivers.getD d {}).word = w ∧ ((u.bus b).drivers.getD d {}).misses = 0 := by
  have hon' : (s.at t).emdOn b = true := hon
  have hm' : ((s.at t).emdMask b).contains d = true := hm
  obtain ⟨v, hv⟩ : ∃ v, v = (s.at t).emdSend b (emdStatusPacket d ((((s.at t).bus b).active).getD 0)) := ⟨_, rfl⟩
  have he : v.emd = s.emd := by
    rw [hv]
    exact State.emdSend_emd _ _ _
  refine event_where (rfl : _ = execEmdStatusPoll t b d reply s) hup (by rw [hon', hm']; rfl) ?_
  rw [← hv]
  have heard : v.driverReply b d reply = (v.driverHeard b d w).judgeDrivers b := by
    unfold State.driverReply
    simp only [hr]
    rfl
  have left : ((v.driverReply b d reply).bus b).drivers.getD d {} = { word := w } := by
    rw [heard, State.judgeDrivers_drivers, State.bus_congr (State.driverHeard_emd _ _ _ _), State.setBus_bus_same _ (he.symm ▸ hb)]
    simp only [updAt_getD]
    exact if_pos ⟨trivial, by rwa [State.bus_congr he]⟩
  exact ⟨congrArg (·.word) left, congrArg (·.misses) left⟩

theorem State.finishLoads_page {b k : Nat} {s : State} (st : Nat) (hb : b < s.emd.length) (hk : k < (s.bus b).pages.length) :
    ((s.finishLoads b k st).bus b).page k = { (s.bus b).page k with loads := [] } ∧
      (s.finishLoads b k st).emd.length = s.emd.length ∧ ((s.finishLoads b k st).bus b).pages.length = (s.bus b).pages.length := by
  have kept : (s.finishLoads b k st).emd = (s.setPage b k fun p => { p with loads := [] }).emd := (State.completeAll_replied _ _ _).emd_eq
  rw [State.bus_congr kept, State.setPage_page_same _ hb hk, State.setPage_pages_length _ hb, kept]
  exact ⟨rfl, State.setBus_emd_length _ _ _, rfl⟩

theorem State.endLatch_pagesKept {b : Nat} {s : State} (st : Nat) (res : List Byte) (hb : b < s.emd.length) : PagesKept b s (s.endLatch b st res) :=
  ⟨State.endLatch_emd_length _ _ _ _, by rw [State.endLatch_bus_same _ _ hb]⟩

theorem PagesKept.page_eq {b : Nat} {s t : State} (h : PagesKept b s t) (k : Nat) : (t.bus b).page k = (s.bus b).page k :=
  congrArg (fun l => l.getD k {}) h.2

/-- A transfer that ends leaves its page LOADED or FAULT, and no load waits for it (R337). -/
theorem State.transferEnd_page {b k : Nat} {replies : List (Nat × List (List Byte))} {s : State} (hb : b < s.emd.length)
    (hf : ((List.range 2).find? fun k => ((s.bus b).page k).content == .transferring) = some k) (hk : k < (s.bus b).pages.length) :
    (((s.transferEnd b replies).bus b).page k).content = (if (s.asked b k).all fun d =>
      (verifyDriver (crc16 (((s.bus b).page k).buffer.readBytes 0#8 (2048 * d) 2048 ++ leBytes 32 (s.emdLevels b k)))
        (((replies.find? fun e => e.1 == d).map (·.2)).getD [])).2 then .loaded else .fault) ∧
      (((s.transferEnd b replies).bus b).page k).loads = [] := by
  unfold State.transferEnd
  split
  · next hn => exact nomatch hn.symm.trans hf
  next j hj =>
  obtain rfl : j = k := Option.some.inj (hj.symm.trans hf)
  extract_lets table buf ask rs out okAll s1 s2 s3 s4 s5
  have kept1 : PagesKept b s s1 := s.setBus_pagesKept fun _ => rfl
  have hb1 : b < s1.emd.length := kept1.1.symm ▸ hb
  have hk1 : j < (s1.bus b).pages.length := kept1.2.symm ▸ hk
  have kept3 : PagesKept b s2 (s3.judgeDrivers b) := by
    refine .trans (foldl_related (PagesKept.refl b) .trans (fun s d => ?_) _ _) (State.judgeDrivers_pagesKept b _)
    exact foldl_related (PagesKept.refl b) .trans (fun s r => s.driverReply_pagesKept b d r) _ _
  have hb3 : b < (s3.judgeDrivers b).emd.length := by
    rw [kept3.1]
    exact Nat.lt_of_lt_of_eq hb1 (State.setBus_emd_length _ _ _).symm
  have hk3 : j < ((s3.judgeDrivers b).bus b).pages.length := by rwa [kept3.2, State.setPage_pages_length _ hb1]
  obtain ⟨hp4, hl4, hn4⟩ := State.finishLoads_page (if okAll then stOk else 0xB001) hb3 hk3
  rw [kept3.page_eq, State.setPage_page_same _ hb1 hk1] at hp4
  have kept5 : PagesKept b s4 s5 := by
    unfold s5
    split
    · split
      · exact State.endLatch_pagesKept _ _ (hl4.symm ▸ hb3)
      · exact .refl b _
    · exact .refl b _
  have left : (s5.bus b).page j = _ := (kept5.page_eq j).trans hp4
  have judged : okAll = ask.all fun d => (verifyDriver (crc16 (buf.readBytes 0#8 (2048 * d) 2048 ++ leBytes 32 table)) (rs d)).2 := List.all_map ..
  have ended : ((s5.emdKick b).bus b).page j = (s5.bus b).page j := by
    refine (State.emdKick_page ?_ ?_).resolve_right fun ⟨hd, _⟩ => ?_
    · exact Nat.lt_of_lt_of_eq hb3 (kept5.1.trans hl4).symm
    · exact Nat.lt_of_lt_of_eq hk3 ((congrArg List.length kept5.2).trans hn4).symm
    · rw [left] at hd
      dsimp only at hd
      split at hd <;> exact nomatch hd
  rw [ended, left]
  refine ⟨?_, rfl⟩
  rw [← judged]

theorem emdTransferEnd_reaches {t b k : Nat} {replies : List (Nat × List (List Byte))} {ok : Bool} {s : State} (hup : s.up = true)
    (hb : b < s.emd.length) (hf : ((List.range 2).find? fun k => ((s.bus b).page k).content == .transferring) = some k)
    (hk : k < (s.bus b).pages.length)
    (hok : ok = ((s.asked b k).all fun d => (verifyDriver (crc16 (((s.bus b).page k).buffer.readBytes 0#8 (2048 * d) 2048 ++ leBytes 32 (s.emdLevels b k)))
      (((replies.find? fun e => e.1 == d).map (·.2)).getD [])).2)) : Reaches (.emdTransferEnd t b replies) s fun u =>
        ((u.bus b).page k).content = (if ok then .loaded else .fault) ∧ ((u.bus b).page k).loads = [] :=
  event_of rfl hup (hok ▸ State.transferEnd_page (s := s.at t) hb hf hk)

/-- Settles O30. -/
theorem emittersAct : Obligations.EmittersAct :=
  ⟨fun _ _ => ⟨emdFrameLoad_reaches, emdLatch_reaches, emdDark_reaches⟩, fun _ _ _ hup hb hon => ⟨
    fun _ _ hl hw hd hq hc hgap => emdLatchDue_reaches hup hb hon hl hw hd hq hc hgap,
    fun _ _ ha hq hl hdue hd => emdRefreshLatch_reaches hup hb hon ha hq hl hdue hd,
    fun _ _ _ hf hk hok => emdTransferEnd_reaches hup hb hf hk hok,
    fun _ _ _ _ hm hd hr => emdStatusPoll_reaches hup hb hon hm hd hr⟩⟩

end Sys2Proof.Machine
end

section
/-! PROOFS. Layer imaging (09): O24 and O25. -/

namespace Sys2Proof.Machine

/-! A port under writes. -/

theorem State.setPort_port_same {p : Nat} {s : State} (f : ImgPort → ImgPort) (h : p < s.img.ports.length) : (s.setPort p f).port p = f (s.port p) := by
  simp only [State.setPort, State.port, updAt_getD]
  exact if_pos ⟨trivial, h⟩

theorem State.setPort_length (p : Nat) (f : ImgPort → ImgPort) (s : State) : (s.setPort p f).img.ports.length = s.img.ports.length := updAt_length _ _ _

theorem State.port_congr {s t : State} (h : t.img = s.img) (p : Nat) : t.port p = s.port p := congrArg (fun i => i.ports.getD p {}) h

/-- `y` is port `x` but for its control queue and its settings. -/
def ImgPort.Set (x y : ImgPort) : Prop :=
  ∃ q pd pc g fc gs fo, y = { x with queue := q, pend := pd, pendCam := pc, gen := g, fCommit := fc, gens := gs, force := fo }

/-- `t` is a state to which the control queue and the settings of port `p` bring `s`. -/
def PortSet (p : Nat) (s t : State) : Prop :=
  (∃ i x, t = { s with img := i, tx := x } ∧ i.ports.length = s.img.ports.length) ∧ (s.port p).Set (t.port p)

theorem PortSet.refl (p : Nat) (s : State) : PortSet p s s := ⟨⟨_, _, rfl, rfl⟩, _, _, _, _, _, _, _, rfl⟩

theorem ImgPort.Set.trans {x y z : ImgPort} (h : x.Set y) (g : y.Set z) : x.Set z := by
  obtain ⟨_, _, _, _, _, _, _, rfl⟩ := h
  obtain ⟨_, _, _, _, _, _, _, rfl⟩ := g
  exact ⟨_, _, _, _, _, _, _, rfl⟩

theorem PortSet.trans {p : Nat} {s t u : State} (h : PortSet p s t) (g : PortSet p t u) : PortSet p s u := by
  obtain ⟨⟨_, _, rfl, hl⟩, hp⟩ := h
  obtain ⟨⟨_, _, rfl, hm⟩, hq⟩ := g
  exact ⟨⟨_, _, rfl, hm.trans hl⟩, hp.trans hq⟩

theorem State.setPort_portSet {p : Nat} {f : ImgPort → ImgPort} (s : State) (hf : ∀ x, ImgPort.Set x (f x)) : PortSet p s (s.setPort p f) := by
  refine ⟨⟨_, _, rfl, updAt_length _ _ _⟩, ?_⟩
  simp only [State.setPort, State.port, updAt_getD]
  split
  · exact hf _
  · exact ⟨_, _, _, _, _, _, _, rfl⟩

theorem State.camKick_portSet (p : Nat) (s : State) : PortSet p s (s.camKick p) := by
  unfold State.camKick
  dsimp only
  split
  · next c rest _ =>
    split
    · exact .trans (s.setPort_portSet (f := fun x => { x with queue := { c with attempts := 1, since := s.dt } :: rest })
        fun _ => ⟨_, _, _, _, _, _, _, rfl⟩) ⟨⟨_, _, rfl, rfl⟩, _, _, _, _, _, _, _, rfl⟩
    · exact .refl p s
  · exact .refl p s

theorem State.camPop_portSet (p : Nat) (s : State) : PortSet p s (s.camPop p) :=
  (s.setPort_portSet fun _ => ⟨_, _, _, _, _, _, _, rfl⟩).trans (State.camKick_portSet p _)

theorem State.commitIfQuiet_portSet (p : Nat) (s : State) : PortSet p s (s.commitIfQuiet p) := by
  unfold State.commitIfQuiet
  dsimp only
  split
  · exact (s.setPort_portSet fun _ => ⟨_, _, _, _, _, _, _, rfl⟩).trans (State.camKick_portSet p _)
  · exact .refl p s

theorem State.settingsWritten_portSet (p : Nat) (cam : Bool) (s : State) : PortSet p s (s.settingsWritten p cam) :=
  (s.setPort_portSet fun _ => ⟨_, _, _, _, _, _, _, rfl⟩).trans (State.commitIfQuiet_portSet p _)

theorem PortSet.dram_eq {p : Nat} {s t : State} (h : PortSet p s t) : t.dram = s.dram := by
  obtain ⟨⟨_, _, ht, -⟩, -⟩ := h
  rw [ht]

/-! The imaging commands (R260 to R281). -/

theorem running_img (c : CmdSpec) (p : Packet) (s : State) : (running c p s).img = s.img ∧ (running c p s).dram = s.dram ∧ (running c p s).cyc = s.cyc := by
  obtain ⟨_, _, _, _, _, hr⟩ := running_host c p s
  rw [hr]
  exact ⟨rfl, rfl, rfl⟩

theorem Replied.img_eq {s t : State} (h : Replied s t) : t.img = s.img ∧ t.cyc = s.cyc := by
  obtain ⟨_, _, rfl⟩ := h.exists_eq
  exact ⟨rfl, rfl⟩

/-- A transaction that joins the queue is its last, sent at once or not (R260). -/
theorem State.camKick_last {p : Nat} {c : CamCtl} {s : State} (hl : p < s.img.ports.length) (hc : (s.port p).queue.getLast? = some c) :
    ∃ d, ((s.camKick p).port p).queue.getLast? = some d ∧ d.acc = c.acc ∧ d.addr = c.addr ∧ d.len = c.len ∧ d.dram = c.dram ∧ d.write = c.write := by
  have stands : ∃ d, (s.port p).queue.getLast? = some d ∧ d.acc = c.acc ∧ d.addr = c.addr ∧ d.len = c.len ∧ d.dram = c.dram ∧ d.write = c.write :=
    ⟨c, hc, rfl, rfl, rfl, rfl, rfl⟩
  unfold State.camKick
  dsimp only
  split
  · next e rest hq =>
    split
    · have sent := State.setPort_port_same (s := s) (fun x => { x with queue := { e with attempts := 1, since := s.dt } :: rest }) hl
      rw [hq] at hc
      cases rest with
      | nil =>
        cases hc
        exact ⟨_, congrArg (fun x : ImgPort => x.queue.getLast?) sent, rfl, rfl, rfl, rfl, rfl⟩
      | cons f rest => exact ⟨c, (congrArg (fun x : ImgPort => x.queue.getLast?) sent).trans hc, rfl, rfl, rfl, rfl, rfl⟩
    · exact stands
  · exact stands

theorem imgControl_reaches {p : Packet} {s : State} (hl : p.scope < s.img.ports.length) (h : startsNow imgControlSpec p s = true) :
    Reaches (.imgControl p) s fun t => ∃ c, (t.port p.scope).queue.getLast? = some c ∧ c.acc = some s.host.nextAcc ∧ c.addr = p.fld 4 4 ∧
      c.len = p.fld 8 2 ∧ c.dram = p.fld 16 8 ∧ (c.write = true ↔ p.fld 0 1 = 1) := by
  obtain ⟨hi, -⟩ := running_img imgControlSpec p s
  obtain ⟨v, hv⟩ : ∃ v, v = running imgControlSpec p s := ⟨_, rfl⟩
  rw [← hv] at hi
  have hl' : p.scope < v.img.ports.length := hi.symm ▸ hl
  obtain ⟨c, hc⟩ : ∃ c : CamCtl, c = { write := p.fld 0 1 == 1, addr := p.fld 4 4, len := p.fld 8 2, dram := p.fld 16 8, acc := some s.host.nextAcc, gen := 0
                                       data := if p.fld 0 1 = 1 then v.dramRead (p.fld 16 8) (p.fld 8 2) else [] } := ⟨_, rfl⟩
  have joined := State.setPort_port_same (s := v) (fun x => { x with queue := x.queue ++ [c] }) hl'
  have ran : (imgControlSpec.run s.host.nextAcc p v).1 = (v.setPort p.scope fun x => { x with queue := x.queue ++ [c] }).camKick p.scope := by
    rw [hc]
    rfl
  obtain ⟨d, hd, hacc, haddr, hlen, hdram, hw⟩ := State.camKick_last (c := c) (Nat.lt_of_lt_of_eq hl' (State.setPort_length _ _ _).symm)
    (by rw [joined]; exact List.getLast?_concat ..)
  rw [← ran] at hd
  refine served_ran rfl h fun t ht => ?_
  rw [← hv] at ht
  subst hc
  refine ⟨d, (congrArg (fun x : ImgPort => x.queue.getLast?) (State.port_congr ht.img_eq.1 p.scope)).trans hd, hacc, haddr, hlen, hdram, ?_⟩
  rw [hw]
  exact beq_iff_eq

theorem State.lightTriggers_img (port role : Nat) (dts : List Nat) (s : State) :
    (s.lightTriggers port role dts).img = s.img ∧ (s.lightTriggers port role dts).cyc = s.cyc := by
  unfold State.lightTriggers
  refine foldl_related (R := fun s t : State => t.img = s.img ∧ t.cyc = s.cyc) (fun _ => ⟨rfl, rfl⟩)
    (fun h g => ⟨g.1.trans h.1, g.2.trans h.2⟩) (fun s b => ?_) _ s
  dsimp only
  split <;> exact ⟨rfl, rfl⟩

/-- A trigger that goes out stays in its port's list (R261). -/
theorem State.triggerDue_triggers {p : Nat} {s : State} (hl : p < s.img.ports.length) :
    ((s.triggerDue p).port p).triggers.length = (s.port p).triggers.length ∧ (s.triggerDue p).cyc = s.cyc := by
  unfold State.triggerDue
  dsimp only
  split
  · exact ⟨rfl, rfl⟩
  · next i _ =>
    have sent := State.setPort_port_same (s := s) (fun x => { x with triggers := updAt x.triggers i fun t => { t with sent := true } }) hl
    have same := (congrArg (fun x : ImgPort => x.triggers.length) sent).trans (updAt_length _ _ _)
    split <;> exact ⟨same, rfl⟩

theorem imgSnap_reaches {p : Packet} {s : State} (hl : p.scope < s.img.ports.length) (h : startsNow imgSnapSpec p s = true) :
    Reaches (.imgSnap p) s fun t => (t.port p.scope).triggers.length = (s.port p.scope).triggers.length + 1 ∧ t.cyc = s.cyc := by
  obtain ⟨hi, -, hc⟩ := running_img imgSnapSpec p s
  obtain ⟨v, hv⟩ : ∃ v, v = running imgSnapSpec p s := ⟨_, rfl⟩
  rw [← hv] at hi hc
  have hl' : p.scope < v.img.ports.length := hi.symm ▸ hl
  have added := State.setPort_port_same (s := v) (fun x => { x with triggers := x.triggers ++ [{ due := v.dt, role := 0, index := 0, layer := v.cyc.layer }] }) hl'
  obtain ⟨hn, hdc⟩ := State.triggerDue_triggers (Nat.lt_of_lt_of_eq hl' (State.setPort_length p.scope
    (fun x => { x with triggers := x.triggers ++ [{ due := v.dt, role := 0, index := 0, layer := v.cyc.layer }] }) v).symm)
  refine served_ran rfl h fun t ht => ?_
  rw [← hv] at ht
  have ran : (imgSnapSpec.run s.host.nextAcc p v).1 = v.snap p.scope := rfl
  rw [ran] at ht
  obtain ⟨hli, hlc⟩ := State.lightTriggers_img p.scope 2 [v.dt] ((v.setPort p.scope fun x => { x with
    triggers := x.triggers ++ [{ due := v.dt, role := 0, index := 0, layer := v.cyc.layer }] }).triggerDue p.scope)
  refine ⟨?_, ht.img_eq.2.trans (hlc.trans (hdc.trans hc))⟩
  calc (t.port p.scope).triggers.length = _ := congrArg (fun x : ImgPort => x.triggers.length) (State.port_congr (ht.img_eq.1.trans hli) p.scope)
    _ = _ := hn
    _ = _ := congrArg (fun x : ImgPort => x.triggers.length) added
    _ = (v.port p.scope).triggers.length + 1 := List.length_append
    _ = (s.port p.scope).triggers.length + 1 := by rw [State.port_congr hi]

theorem imgToneLoad_reaches {p : Packet} {s : State} (hl : p.scope < s.img.ports.length) (h : startsNow imgToneLoadSpec p s = true) :
    Reaches (.imgToneLoad p) s fun t => t.dram = s.dram ∧
      (t.port p.scope).tones = (List.range 4096).map fun i => field (s.dramRead (p.fld 0 8) 8192) (2 * i) 2 := by
  obtain ⟨hi, hd, -⟩ := running_img imgToneLoadSpec p s
  have hread := running_dramRead imgToneLoadSpec p s (p.fld 0 8) 8192
  obtain ⟨v, hv⟩ : ∃ v, v = running imgToneLoadSpec p s := ⟨_, rfl⟩
  rw [← hv] at hi hd hread
  obtain ⟨tones, htones⟩ : ∃ l, l = (List.range 4096).map fun i => field (v.dramRead (p.fld 0 8) 8192) (2 * i) 2 := ⟨_, rfl⟩
  have ran : (imgToneLoadSpec.run s.host.nextAcc p v).1 = (v.setPort p.scope fun x => { x with tones := tones }).settingsWritten p.scope false := by
    rw [htones]
    rfl
  have loaded := State.setPort_port_same (s := v) (fun x => { x with tones := tones }) (hi.symm ▸ hl)
  have written := State.settingsWritten_portSet p.scope false (v.setPort p.scope fun x => { x with tones := tones })
  refine served_ran rfl h fun t ht => ?_
  rw [← hv, ran] at ht
  obtain ⟨_, _, _, _, _, _, _, hp⟩ := written.2
  refine ⟨(ht.dmaMoved.dram_eq.trans written.dram_eq).trans hd, ?_⟩
  rw [← hread, ← htones]
  exact ((congrArg (·.tones) (State.port_congr ht.img_eq.1 p.scope)).trans (congrArg (·.tones) hp)).trans (congrArg (·.tones) loaded)

theorem imgPortReset_reaches {p : Packet} {s : State} (hl : p.scope < s.img.ports.length) (h : startsNow imgPortResetSpec p s = true) :
    Reaches (.imgPortReset p) s fun t =>
      (t.port p.scope).link = (if camEnable (s.port p.scope).cfg then .discovery else .disabled) ∧ (t.port p.scope).inFrame = false ∧
        (t.port p.scope).frames = (s.port p.scope).frames.filter (·.ended) := by
  obtain ⟨hi, -⟩ := running_img imgPortResetSpec p s
  obtain ⟨v, hv⟩ : ∃ v, v = running imgPortResetSpec p s := ⟨_, rfl⟩
  rw [← hv] at hi
  refine served_ran rfl h fun t ht => ?_
  rw [← hv] at ht
  have left : t.port p.scope = _ := (State.port_congr ht.img_eq.1 p.scope).trans (State.setPort_port_same _ (hi.symm ▸ hl))
  rw [State.port_congr hi] at left
  exact ⟨congrArg (·.link) left, congrArg (·.inFrame) left, congrArg (·.frames) left⟩

/-- Settles O24. -/
theorem imagingCommandsAct : Obligations.ImagingCommandsAct := fun _ _ hl =>
  ⟨imgControl_reaches hl, imgSnap_reaches hl, imgToneLoad_reaches hl, imgPortReset_reaches hl⟩

/-! Frames in progress when a link is lost (R258). -/

/-- `t` is a state to which the frames of the ports bring `s`: the time stands, and so does the number of ports. -/
def FramesMoved (s t : State) : Prop := t.dt = s.dt ∧ t.img.ports.length = s.img.ports.length

theorem FramesMoved.refl (s : State) : FramesMoved s s := ⟨rfl, rfl⟩

theorem FramesMoved.trans {s t u : State} (h : FramesMoved s t) (g : FramesMoved t u) : FramesMoved s u := ⟨g.1.trans h.1, g.2.trans h.2⟩

theorem State.setPort_framesMoved (p : Nat) (f : ImgPort → ImgPort) (s : State) : FramesMoved s (s.setPort p f) := ⟨rfl, updAt_length _ _ _⟩

theorem LayWritten.framesMoved {s t : State} (h : LayWritten s t) : FramesMoved s t := by
  obtain ⟨_, _, _, _, _, _, _, rfl⟩ := h
  exact .refl _

theorem State.dramWrite_framesMoved (a : Nat) (bs : List Byte) (s : State) : FramesMoved s (s.dramWrite a bs) := ⟨rfl, rfl⟩

theorem State.outputLines_framesMoved (p n upto : Nat) (s : State) : FramesMoved s (s.outputLines p n upto) := by
  unfold State.outputLines
  dsimp only
  split
  · exact .refl s
  · refine .trans ?_ (State.setPort_framesMoved p _ _)
    split
    · exact foldl_related FramesMoved.refl .trans (fun s r => s.dramWrite_framesMoved _ _) _ s
    · exact .refl s

theorem State.finishFrame_framesMoved (p n : Nat) (s : State) : FramesMoved s (s.finishFrame p n) := by
  unfold State.finishFrame
  extract_lets x w h fill s1
  have output : FramesMoved s s1 := (s.setPort_framesMoved p _).trans (State.outputLines_framesMoved p n h _)
  split
  · exact output
  · extract_lets payload stats s2 s3 keep
    have told : FramesMoved s1 s2 := by
      unfold s2
      split
      · exact .refl s1
      · exact (State.statsEntry_written _ _ _).framesMoved
    exact ((output.trans told).trans (State.statsEntry_written _ _ _).framesMoved).trans (State.setPort_framesMoved p _ _)

theorem State.finishEnded_framesMoved (p k : Nat) (s : State) : FramesMoved s (State.finishEnded p k s) := by
  induction k generalizing s with
  | zero => exact .refl s
  | succ k ih =>
    unfold State.finishEnded
    split
    · next f rest _ =>
      split
      · refine .trans (s.finishFrame_framesMoved p f.number) (.trans ?_ (ih _))
        split <;> exact ⟨rfl, rfl⟩
      · exact .refl s
    · exact .refl s

theorem State.pipeTake_framesMoved (s : State) : FramesMoved s s.pipeTake := by
  unfold State.pipeTake
  extract_lets s0
  have finished : FramesMoved s s0 := foldl_related FramesMoved.refl .trans
    (fun s p => (s.setPort_framesMoved p _).trans (State.finishEnded_framesMoved p 4 _)) _ s
  clear_value s0
  split
  · exact finished
  · split
    · exact finished
    · exact finished.trans ⟨rfl, rfl⟩

theorem State.frameReceived_framesMoved (p n : Nat) (s : State) : FramesMoved s (s.frameReceived p n) := s.setPort_framesMoved p _

theorem State.frameEnds_framesMoved (p : Nat) (s : State) : FramesMoved s (s.frameEnds p) := by
  unfold State.frameEnds
  split
  · exact .refl s
  · extract_lets x s1 close
    have marked : FramesMoved s s1 := by
      unfold s1
      split
      · exact s.setPort_framesMoved p _
      · exact .refl s
    exact ((marked.trans (s1.setPort_framesMoved p _)).trans (State.frameReceived_framesMoved p _ _)).trans (State.pipeTake_framesMoved _)

/-! The camera links (R257, R258, R260). -/

/-- What an event leaves of a port is what its function leaves of it. -/
theorem event_port {i : Instr} {s u : State} {t p : Nat} {f : State → State} {P : ImgPort → Prop} (hx : exec i s = s.event t f)
    (hup : s.up = true) (hf : f (s.at t) = u) (h : P (u.port p)) : Reaches i s fun u => P (u.port p) :=
  up_reaches hx hup hf h

theorem cxpDiscovery_reaches {t p speed : Nat} {s : State} (hup : s.up = true) (hl : p < s.img.ports.length) (hloop : s.looped 3 p = false)
    (hd : (s.port p).link = .discovery) :
    (Reaches (.cxpDiscovery t p true speed) s fun u => (u.port p).link = .up ∧ (u.port p).speed = min speed (camMaxSpeed (s.port p).cfg)) ∧
    (Reaches (.cxpDiscovery t p false speed) s fun u => (u.port p).link = .down ∧ (u.port p).tried = max s.dt t) := by
  have hloop' : (s.at t).looped 3 p = false := hloop
  have hd' : ((s.at t).port p).link = .discovery := hd
  have ends : ∀ ok, (s.at t).discovered p ok speed =
      if ok then ((s.at t).setPort p fun x => { x with link := .up, speed := min speed (camMaxSpeed x.cfg), tried := max s.dt t }).camKick p
      else (s.at t).setPort p fun x => { x with link := .down, tried := max s.dt t } := fun ok =>
    (if_neg (by rw [hloop']; decide)).trans (if_pos (by rw [hd']; rfl))
  refine ⟨event_port (P := fun x => x.link = .up ∧ x.speed = min speed (camMaxSpeed (s.port p).cfg)) rfl hup (ends true) ?_,
    event_port (P := fun x => x.link = .down ∧ x.tried = max s.dt t) rfl hup (ends false) ?_⟩
  · obtain ⟨-, _, _, _, _, _, _, _, hk⟩ := State.camKick_portSet p ((s.at t).setPort p fun x =>
      { x with link := .up, speed := min speed (camMaxSpeed x.cfg), tried := max s.dt t })
    rw [State.setPort_port_same (s := s.at t) _ hl] at hk
    exact ⟨congrArg (·.link) hk, congrArg (·.speed) hk⟩
  · have left := State.setPort_port_same (s := s.at t) (fun x => { x with link := .down, tried := max s.dt t }) hl
    exact ⟨congrArg (·.link) left, congrArg (·.tried) left⟩

theorem cxpLinkLoss_reaches {t p : Nat} {s : State} (hup : s.up = true) (hl : p < s.img.ports.length) (hu : (s.port p).link = .up) :
    Reaches (.cxpLinkLoss t p) s fun u => (u.port p).link = .down ∧ (u.port p).tried = max s.dt t := by
  obtain ⟨v, hv⟩ : ∃ v, v = if ((s.at t).port p).inFrame then (s.at t).frameEnds p else s.at t := ⟨_, rfl⟩
  have moved : FramesMoved (s.at t) v := by
    rw [hv]
    split
    · exact State.frameEnds_framesMoved p _
    · exact .refl _
  have lost : (s.at t).cxpLost p = v.setPort p fun x => { x with link := .down, tried := (s.at t).dt } := by
    have hu' : ((s.at t).port p).link = .up := hu
    rw [hv]
    exact if_pos (by rw [hu']; rfl)
  have left := State.setPort_port_same (s := v) (fun x => { x with link := .down, tried := (s.at t).dt }) (Nat.lt_of_lt_of_eq hl moved.2.symm)
  exact event_port (P := fun x => x.link = .down ∧ x.tried = max s.dt t) rfl hup lost ⟨congrArg (·.link) left, congrArg (·.tried) left⟩

theorem cxpEventPacket_reaches {t p : Nat} {bytes : List Byte} {s : State} (hup : s.up = true) (hl : p < s.img.ports.length)
    (hu : (s.port p).link = .up) : Reaches (.cxpEventPacket t p bytes) s fun u => (u.port p).events = inc32 (s.port p).events ∧
      ∃ e, u.recorder.arriving = s.recorder.arriving ++ [e] ∧ e.code = 0x8001 ∧ e.source = p := by
  have hu' : ((s.at t).port p).link = .up := hu
  have left := State.setPort_port_same (s := s.at t) (fun x => { x with events := inc32 x.events }) hl
  exact event_where (rfl : _ = execCxpEventPacket t p bytes s) hup (by rw [hu']; rfl) ⟨congrArg (·.events) left, _, rfl, rfl, rfl⟩

/-- The heartbeat of one port, where it is UP (R257). -/
def State.beat (s : State) (p : Nat) : State := if (s.port p).link == .up then s.send (.heartbeat p (s.dt / 16)) else s

theorem State.beat_img (s : State) (p : Nat) : (s.beat p).img = s.img ∧ (s.beat p).dt = s.dt := by
  unfold State.beat
  split <;> exact ⟨rfl, rfl⟩

theorem State.beat_tx (s : State) (p : Nat) : s.tx ⊆ (s.beat p).tx := by
  unfold State.beat
  split
  · exact List.subset_append_left ..
  · exact List.Subset.refl _

theorem State.beats_kept (l : List Nat) (s : State) :
    s.tx ⊆ (l.foldl State.beat s).tx ∧ (l.foldl State.beat s).img = s.img ∧ (l.foldl State.beat s).dt = s.dt :=
  foldl_related (R := fun s t : State => s.tx ⊆ t.tx ∧ t.img = s.img ∧ t.dt = s.dt) (fun _ => ⟨List.Subset.refl _, rfl, rfl⟩)
    (fun h g => ⟨List.Subset.trans h.1 g.1, g.2.1.trans h.2.1, g.2.2.trans h.2.2⟩) (fun s p => ⟨s.beat_tx p, s.beat_img p⟩) l s

/-- A heartbeat goes to each UP port of a list (R257). -/
theorem State.beats_tx {p : Nat} {l : List Nat} {s : State} (hp : p ∈ l) (hu : (s.port p).link = .up) :
    Tx.heartbeat p (s.dt / 16) ∈ (l.foldl State.beat s).tx := by
  obtain ⟨a, b, rfl⟩ := List.append_of_mem hp
  rw [List.foldl_append, List.foldl_cons]
  obtain ⟨-, hi, hd⟩ := State.beats_kept a s
  refine (State.beats_kept b _).1 ?_
  have sent : (a.foldl State.beat s).beat p = (a.foldl State.beat s).send (.heartbeat p ((a.foldl State.beat s).dt / 16)) :=
    if_pos (by rw [State.port_congr hi, hu]; rfl)
  rw [sent, hd]
  exact List.mem_append_right _ (List.mem_singleton.mpr rfl)

/-- The heartbeats of all ports (R257). -/
def State.beatAll (s : State) : State := (List.range 8).foldl State.beat { s with img := { s.img with beat := s.dt } }

theorem State.beatAll_tx {p : Nat} {s : State} (hp : p < 8) (hu : (s.port p).link = .up) : Tx.heartbeat p (s.dt / 16) ∈ s.beatAll.tx :=
  State.beats_tx (s := { s with img := { s.img with beat := s.dt } }) (List.mem_range.mpr hp) hu

theorem cxpHeartbeat_reaches {t p : Nat} {s : State} (hup : s.up = true) (hb : s.img.beat + 16000000 ≤ max s.dt t) (hp : p < 8) :
    Reaches (.cxpHeartbeat t) s fun u => u.img.beat = max s.dt t ∧ ((s.port p).link = .up → Tx.heartbeat p (max s.dt t / 16) ∈ u.tx) := by
  have beats : exec (.cxpHeartbeat t) s = s.event t fun s => if s.img.beat + msDt ≤ s.dt then s.beatAll else s := rfl
  have comes : (s.at t).img.beat + msDt ≤ (s.at t).dt := hb
  obtain ⟨v, hv⟩ : ∃ v, v = (s.at t).beatAll := ⟨_, rfl⟩
  have counted : v.img.beat = (s.at t).dt := hv ▸ congrArg (·.beat) (State.beats_kept (List.range 8) _).2.1
  have sent : (s.port p).link = .up → Tx.heartbeat p ((s.at t).dt / 16) ∈ v.tx := hv ▸ State.beatAll_tx (s := s.at t) hp
  exact up_reaches beats hup ((if_pos comes).trans hv.symm) ⟨counted, sent⟩

/-- A transaction that is answered leaves the memory as its answer does: a read stores its data (R260). -/
theorem State.camAck_dram {p a : Nat} {c : CamCtl} {rest : List CamCtl} {data : List Byte} {s : State} (hq : (s.port p).queue = c :: rest)
    (hn : c.attempts ≠ 0) (ha : c.acc = some a) :
    (s.camAck p true 0 data).dram = if c.write then s.dram else s.dram.writeBytes dramDefault c.dram (padTo c.len (data.take c.len)) := by
  unfold State.camAck
  simp only [hq, ha]
  rw [if_neg hn, if_neg (by decide), (State.commitIfQuiet_portSet p _).dram_eq, (State.camPop_portSet p _).dram_eq, if_neg (by decide),
    (State.complete_replied _ _ _ _).dmaMoved.dram_eq]
  split <;> rfl

theorem cxpControlAck_reaches {t p a : Nat} {c : CamCtl} {rest : List CamCtl} {data : List Byte} {s : State} (hup : s.up = true)
    (hq : (s.port p).queue = c :: rest) (hn : c.attempts ≠ 0) (ha : c.acc = some a) : Reaches (.cxpControlAck t p true 0 data) s fun u =>
      u.dram = if c.write then s.dram else s.dram.writeBytes dramDefault c.dram (padTo c.len (data.take c.len)) :=
  event_of rfl hup (State.camAck_dram (s := s.at t) hq hn ha)

theorem cxpControlTimeout_reaches {t p : Nat} {c : CamCtl} {rest : List CamCtl} {s : State} (hup : s.up = true) (hl : p < s.img.ports.length)
    (hq : (s.port p).queue = c :: rest) (hn : c.attempts ≠ 0) (h3 : c.attempts < 3) (hd : c.since + 16000000 * s.dparam 0x8011 ≤ max s.dt t) :
    Reaches (.cxpControlTimeout t p) s fun u => (u.port p).queue = { c with attempts := c.attempts + 1, since := max s.dt t } :: rest ∧
      u.tx = [.camControl p c.write c.addr c.data c.len] := by
  have hq' : ((s.at t).port p).queue = c :: rest := hq
  have again : (s.at t).camTimeout p = ((s.at t).setPort p fun x => { x with
      queue := { c with attempts := c.attempts + 1, since := max s.dt t } :: rest }).send (.camControl p c.write c.addr c.data c.len) := by
    unfold State.camTimeout State.camRetry
    simp only [hq']
    exact (if_pos ⟨hn, hd⟩).trans (if_pos h3)
  have left := State.setPort_port_same (s := s.at t) (fun x => { x with queue := { c with attempts := c.attempts + 1, since := max s.dt t } :: rest }) hl
  exact up_reaches rfl hup again ⟨congrArg (·.queue) left, rfl⟩

/-- Settles O25. -/
theorem cameraLinksAct : Obligations.CameraLinksAct := fun _ _ _ hup hl =>
  ⟨fun _ hloop hd => cxpDiscovery_reaches hup hl hloop hd, cxpLinkLoss_reaches hup hl, fun _ => cxpEventPacket_reaches hup hl,
    cxpHeartbeat_reaches hup, fun _ _ _ _ hq hn hw ha => (cxpControlAck_reaches hup hq hn ha).imp fun _ hd => hd.trans (if_neg (by rw [hw]; decide)),
    fun _ _ _ _ hq hn hw ha => (cxpControlAck_reaches hup hq hn ha).imp fun _ hd => hd.trans (if_pos hw),
    fun _ _ hq hn h3 hd => cxpControlTimeout_reaches hup hl hq hn h3 hd⟩

end Sys2Proof.Machine
end

section
/-! PROOFS. The Ethernet ports, the time relation and the reference inputs (18): O46. -/

namespace Sys2Proof.Machine

/-! Frames and links of a port (R475, R476). -/

theorem State.setEthPort_ethPort_same {p : Nat} {s : State} (f : EthPort → EthPort) (h : p < s.net.ports.length) :
    (s.setEthPort p f).ethPort p = f (s.ethPort p) := by
  simp only [State.setEthPort, State.setNet, State.ethPort, updAt_getD]
  exact if_pos ⟨trivial, h⟩

theorem State.setEthPort_length (p : Nat) (f : EthPort → EthPort) (s : State) : (s.setEthPort p f).net.ports.length = s.net.ports.length :=
  updAt_length _ _ _

/-- A counter of a port that is counted, and the others (R476). -/
theorem State.ethCount_counts {p n : Nat} {s : State} (h : p < s.net.ports.length) : ((s.ethCount p n).ethPort p).counts =
    updAt (s.ethPort p).counts n fun c => satNat (2 ^ 64 - 1) (c + 1) :=
  congrArg (·.counts) (State.setEthPort_ethPort_same (fun x => { x with counts := updAt x.counts n fun c => satNat (2 ^ 64 - 1) (c + 1) }) h)

/-- A frame with a bad check sequence is counted twice and goes no further (R476). -/
theorem State.frameIn_bad {p : Nat} {frame : List Byte} {s : State} (hu : s.ethUp p = true) (hn : 14 ≤ frame.length) :
    s.frameIn p false frame = (s.ethCount p 0).ethCount p 2 :=
  (if_neg (by rw [hu, decide_eq_false (Nat.not_lt.mpr hn)]; decide)).trans (if_pos rfl)

theorem ethFrame_reaches {t p : Nat} {frame : List Byte} {s : State} (hup : s.up = true) (hp : p < 4) (hl : p < s.net.ports.length)
    (hu : s.ethUp p = true) (hn : 14 ≤ frame.length) (hc : (s.ethPort p).counts.length = 6) : Reaches (.ethFrame t p false frame) s fun u =>
      u.tx = [] ∧ u.net.fdb = s.net.fdb ∧
        (u.ethPort p).counts.getD 2 0 = satNat (2 ^ 64 - 1) ((s.ethPort p).counts.getD 2 0 + 1) ∧
        (u.ethPort p).counts.getD 0 0 = satNat (2 ^ 64 - 1) ((s.ethPort p).counts.getD 0 0 + 1) := by
  have hl' : p < ((s.at t).ethCount p 0).net.ports.length := Nat.lt_of_lt_of_eq hl (State.setEthPort_length _ _ _).symm
  have counts : ((((s.at t).ethCount p 0).ethCount p 2).ethPort p).counts = _ := State.ethCount_counts hl'
  rw [State.ethCount_counts (s := s.at t) hl] at counts
  refine up_reaches (rfl : _ = execEthFrame t p false frame s) hup ((if_pos hp).trans (State.frameIn_bad (s := s.at t) hu hn)) ⟨rfl, rfl, ?_, ?_⟩
  · refine (congrArg (fun l : List Nat => l.getD 2 0) counts).trans ?_
    simp only [updAt_getD, updAt_length]
    rw [if_pos ⟨trivial, Nat.lt_of_lt_of_eq (by decide) hc.symm⟩, if_neg fun h => absurd h.1 (by decide)]
    rfl
  · refine (congrArg (fun l : List Nat => l.getD 0 0) counts).trans ?_
    simp only [updAt_getD]
    rw [if_neg fun h => absurd h.1 (by decide), if_pos ⟨trivial, Nat.lt_of_lt_of_eq (by decide) hc.symm⟩]
    rfl

theorem ethPortLinkChange_reaches {t p : Nat} {lock : Bool} {s : State} (hup : s.up = true) (hp : p < 4) (hl : p < s.net.ports.length) :
    Reaches (.ethPortLinkChange t p lock) s fun u => u.net.fdb = s.net.fdb ∧
      (lock = false → (u.ethPort p).lock = false ∧ (u.ethPort p).fec = false) ∧
      (lock = true → s.ethEnabled p = true → s.looped 2 p = false → s.islandIn islandNetwork = true → s.cyc.state ≠ .boot →
        (u.ethPort p).lock = true) := by
  obtain ⟨b, hb⟩ : ∃ b, b = (lock && s.ethEnabled p && !s.looped 2 p && s.islandIn islandNetwork && s.cyc.state != .boot) := ⟨_, rfl⟩
  have changed : (s.at t).ethLink p lock = (s.at t).setEthPort p fun x => { x with lock := b, fec := b && (s.param 0xE000 p).testBit 1 } := by
    rw [hb]
    rfl
  have left := State.setEthPort_ethPort_same (s := s.at t) (fun x => { x with lock := b, fec := b && (s.param 0xE000 p).testBit 1 }) hl
  refine up_reaches (rfl : _ = execEthPortLinkChange t p lock s) hup ((if_pos hp).trans changed) ⟨rfl, fun h => ?_, fun h he hlo hi hs => ?_⟩
  · rw [h] at hb
    exact ⟨(congrArg (·.lock) left).trans hb, (congrArg (·.fec) left).trans (by rw [hb]; rfl)⟩
  · rw [h, he, hlo, hi, bne_iff_ne.mpr hs] at hb
    exact (congrArg (·.lock) left).trans hb

/-! The time relation (R481, R483). -/

theorem PeerTold.net_eq {s t : State} (h : PeerTold s t) : t.net = s.net := by
  obtain ⟨_, _, rfl⟩ := h
  rfl

theorem State.newRelation_net (r : TimeRel) (s : State) :
    (s.newRelation r).net = { s.net with rel := { r with generation := (s.net.rel.generation + 1) % 4294967296 } } := by
  unfold State.newRelation
  dsimp only
  split
  · exact (State.peerSend_told _ _ _).net_eq
  · rfl

theorem LayWritten.net_eq {s t : State} (h : LayWritten s t) : t.net = s.net := by
  obtain ⟨_, _, _, _, _, _, _, rfl⟩ := h
  rfl

/-- An offset measurement begins a new relation at this device time (R481). -/
theorem State.offsetMeasured_net (o : Int) (s : State) : (s.offsetMeasured o).net.lastOffset = o ∧ (s.offsetMeasured o).net.rel.dt0 = s.dt ∧
    (s.offsetMeasured o).net.rel.generation = (s.net.rel.generation + 1) % 4294967296 := by
  unfold State.offsetMeasured
  extract_lets old cfg slew r free rate step tai offsets new s1
  have related : s1.net = _ := State.newRelation_net new _
  have told : (if step then (s1.logEvent 0xE001 255 0 (ofSigned 64 o)).timeEntry else s1).net = s1.net := by
    split
    · exact (State.buildEntry_written _ _ _).net_eq
    · rfl
  rw [told, related]
  exact ⟨rfl, rfl, rfl⟩

theorem ptpMessage_reaches {t p master : Nat} {utc : Int} {s : State} (hup : s.up = true) (hp : p < 4) (hlock : (s.ethPort p).lock = true)
    (hprofile : byteField (s.dparam 0xE010) 0 1 ≠ 0) (hpeer : s.net.rel.state ≠ .peer) :
    (Reaches (.ptpMessage t p master utc none) s fun u =>
      u.net.master = master % 2 ^ 64 ∧ u.net.portInUse = p ∧ u.net.rel = { s.net.rel with utc := satSigned 16 utc }) ∧
    (∀ o, Reaches (.ptpMessage t p master utc (some o)) s fun u => u.net.lastOffset = o ∧ u.net.rel.dt0 = max s.dt t ∧
      u.net.rel.generation = (s.net.rel.generation + 1) % 4294967296) := by
  have hears : ¬ (4 ≤ p ∨ (!(s.net.ports.getD p {}).lock) = true ∨ byteField (s.dparam 0xE010) 0 1 = 0 ∨ s.net.rel.state = .peer) := by
    rintro (h | h | h | h)
    · exact absurd h (Nat.not_le.mpr hp)
    · have lock : (s.net.ports.getD p {}).lock = true := hlock
      rw [lock] at h
      exact absurd h (by decide)
    · exact hprofile h
    · exact hpeer h
  refine ⟨?_, fun o => ?_⟩
  · exact event_unless (c := fun s : State => 4 ≤ p ∨ (!(s.net.ports.getD p {}).lock) = true ∨ byteField (s.dparam 0xE010) 0 1 = 0 ∨ s.net.rel.state = .peer)
      (rfl : _ = execPtpMessage t p master utc none s) hup hears ⟨rfl, rfl, rfl⟩
  · exact event_unless (c := fun s : State => 4 ≤ p ∨ (!(s.net.ports.getD p {}).lock) = true ∨ byteField (s.dparam 0xE010) 0 1 = 0 ∨ s.net.rel.state = .peer)
      (rfl : _ = execPtpMessage t p master utc (some o) s) hup hears (State.offsetMeasured_net o _)

theorem timeHoldover_reaches {t : Nat} {s : State} (hup : s.up = true) (h : s.net.rel.state = .locked ∨ s.net.rel.state = .acquiring) :
    Reaches (.timeHoldover t) s fun u => u.net.rel = { s.net.rel with state := .holdover } ∧ u.net.offsets = [] := by
  have held : (s.at t).holdover false = (s.at t).setNet fun x => { x with rel := { x.rel with state := .holdover }, offsets := [] } := by
    unfold State.holdover
    dsimp only
    rcases h with h | h <;> simp only [State.at_net, h] <;> rfl
  exact up_reaches (rfl : _ = execTimeHoldover t s) hup held ⟨rfl, rfl⟩

/-! The reference inputs (R484, R485). -/

/-- An event that acts while the device is powered. -/
theorem eventPowered_reaches {i : Instr} {s u : State} {t : Nat} {f : State → State} {P : State → Prop}
    (hx : exec i s = s.eventPowered t f) (hup : s.up = true) (hf : f (s.at t) = u)
    (h : P { u with dt := max s.dt t, pending := s.pending }) : Reaches i s P := by
  have on : s.cyc.state ≠ .off := fun h => absurd hup (by simp [State.up, h])
  exact ⟨_, hx.trans (if_neg on), hf.symm ▸ h⟩

theorem State.refEvent_net (k : Nat) (s : State) : (s.refEvent k).net = s.net := by
  unfold State.refEvent
  split <;> rfl

theorem State.refSwitch_net (i : Nat) (s : State) :
    (s.refSwitch i).net.good = s.net.good ∧ (s.refSwitch i).net.selected = i ∧ (s.refSwitch i).net.bothLost = false := by
  unfold State.refSwitch
  dsimp only
  rw [State.refEvent_net]
  exact ⟨rfl, rfl, rfl⟩

theorem refclkBad_reaches {t i : Nat} {s : State} (hup : s.up = true) (hi : i < 2) (hg : s.net.good.getD i false = true) :
    Reaches (.refclkBad t i) s fun u => u.net.good = s.net.good.set i false ∧
      (s.net.selected = i → s.net.good.getD (1 - i) false = true → u.net.selected = 1 - i) := by
  have other : (s.net.good.set i false).getD (1 - i) false = s.net.good.getD (1 - i) false := by
    simp only [List.getD_eq_getElem?_getD]
    rw [List.getElem?_set_ne (by omega)]
  have stands : ¬ (!s.net.good.getD i false) = true := by rw [hg]; decide
  refine eventPowered_reaches (rfl : _ = execRefclkBad t i s) hup ((if_pos hi).trans (if_neg stands)) ?_
  dsimp only
  split
  · next hs => exact ⟨rfl, fun h => absurd h hs⟩
  · split
    · obtain ⟨hgood, hsel, -⟩ := State.refSwitch_net (1 - i) ((s.at t).setNet fun x => { x with good := x.good.set i false })
      exact ⟨hgood, fun _ _ => hsel⟩
    · next hn =>
      refine ⟨congrArg (·.good) (State.refEvent_net _ _), fun _ h => absurd (other.trans h) hn⟩

theorem refclkGood_reaches {t i : Nat} {s : State} (hup : s.up = true) (hi : i < 2) (hg : s.net.good.getD i false = false) :
    Reaches (.refclkGood t i) s fun u => u.net.good = s.net.good.set i true ∧
      (s.net.bothLost = true → u.net.selected = i ∧ u.net.bothLost = false) := by
  have stands : ¬ s.net.good.getD i false = true := by rw [hg]; decide
  refine eventPowered_reaches (rfl : _ = execRefclkGood t i s) hup ((if_pos hi).trans (if_neg stands)) ?_
  dsimp only
  split
  · obtain ⟨hgood, hsel, hboth⟩ := State.refSwitch_net i ((s.at t).setNet fun x => { x with good := x.good.set i true })
    exact ⟨hgood, fun _ => ⟨hsel, hboth⟩⟩
  · next hn =>
    refine ⟨rfl, fun hb => absurd ?_ hn⟩
    have lost : (s.at t).net.bothLost = true := hb
    rw [lost]
    rfl

/-- Settles O46. -/
theorem networkEventsAct : Obligations.NetworkEventsAct := fun _ _ _ hup hp hl =>
  ⟨fun _ hu hn hc => ethFrame_reaches hup hp hl hu hn hc, fun _ => ethPortLinkChange_reaches hup hp hl,
    fun _ _ hlock hprofile hpeer => ptpMessage_reaches hup hp hlock hprofile hpeer, timeHoldover_reaches hup,
    fun _ hi _ => ⟨refclkBad_reaches hup hi, refclkGood_reaches hup hi⟩⟩

end Sys2Proof.Machine
end

section
/-! PROOFS. The peer's messages, the pair link and the pair (18): O47 and O48. -/

namespace Sys2Proof.Machine

/-! Messages sent. -/

/-- `t` is `s` but for the message numbers, the messages known, and what is sent. -/
def PairSaid (s t : State) : Prop := ∃ q u x, t = { s with pair := { s.pair with seq := q, unacked := u }, tx := x }

theorem PairSaid.refl (s : State) : PairSaid s s := ⟨_, _, _, rfl⟩

theorem State.peerSend_said (type : Nat) (payload : List Byte) (s : State) : PairSaid s (s.peerSend type payload) := by
  unfold State.peerSend
  split <;> exact ⟨_, _, _, rfl⟩

/-- On a link that is up, a message goes out with the next number (R486). -/
theorem State.peerSend_tx {type : Nat} {payload : List Byte} {s : State} (hl : s.pair.link = true) (hr : s.role ≠ 0) :
    (s.peerSend type payload).tx = s.tx ++ [.peer (framed (peerMessage type s.pair.seq s.dt payload))] := by
  have open_ : ¬ (!s.pair.link || s.role == 0) = true := by rw [hl, beq_eq_false_iff_ne.mpr hr]; decide
  unfold State.peerSend
  rw [if_neg open_]
  rfl

/-- Once both checks hold the pair is PAIRED; the relation is told or follows (Table 18.7). -/
def PairTried (s t : State) : Prop := ∃ q u x n m c, t = { s with
  net := n, tx := x, pair := { s.pair with seq := q, unacked := u, mode := m, cause := c } }

theorem State.pairTry_tried (s : State) : PairTried s s.pairTry := by
  have up : ∃ m c, s.pairUp = { s with pair := { s.pair with mode := m, cause := c } } := by
    unfold State.pairUp
    split <;> exact ⟨_, _, rfl⟩
  obtain ⟨_, _, hu⟩ := up
  unfold State.pairTry
  dsimp only
  rw [hu]
  split
  · exact ⟨_, _, _, _, _, _, rfl⟩
  · split
    · exact ⟨_, _, _, _, _, _, rfl⟩
    · obtain ⟨_, _, _, hs⟩ := State.peerSend_said 6 s.net.rel.bytes { s with pair := { s.pair with mode := _, cause := _ } }
      exact ⟨_, _, _, _, _, _, hs⟩

theorem State.pairTry_paired {s : State} (hm : s.pair.mode = .linking) (hl : s.pair.link = true) (hc : s.pair.capOk = true) (ho : s.pair.offsetOk = true) :
    s.pairTry.pair.mode = .paired := by
  have up : s.pairUp = { s with pair := { s.pair with mode := .paired, cause := 0 } } := if_pos (by rw [hm, hl, hc, ho]; rfl)
  unfold State.pairTry State.isPaired
  dsimp only
  rw [up, hm]
  split
  · next h => exact (Bool.false_ne_true h).elim
  split
  · rfl
  · obtain ⟨_, _, _, hs⟩ := State.peerSend_said 6 s.net.rel.bytes { s with pair := { s.pair with mode := .paired, cause := 0 } }
    exact congrArg (fun t : State => t.pair.mode) hs

/-! Messages received (R486). -/

/-- The state in which a message received for the first time acts. -/
def State.hearing (s : State) (c : List Byte) : State := s.setPair fun x => { x with got := (field c 4 4 :: x.got).take 64 }

/-- A good message of its row acts. -/
theorem State.peerMsg_acts {type : Nat} {len : Option Nat} {frame c : List Byte} {f : List Byte → State → State} {s : State}
    (h : goodMessage type s frame c) (hn : len.getD (c.drop 16).length = (c.drop 16).length) : s.peerMsg type len frame f = f (c.drop 16) (s.hearing c) := by
  obtain ⟨-, hl, hr, hf, h0, h1, h2, hg⟩ := h
  have open_ : ¬ (!s.pair.link || s.role == 0) = true := by rw [hl, beq_eq_false_iff_ne.mpr hr]; decide
  unfold State.peerMsg
  rw [if_neg open_]
  simp only [hf]
  have taken : ¬ (field c 0 1 ≠ 0x12 ∨ field c 1 1 ≠ type ∨ field c 2 2 ≠ (c.drop 16).length ∨ len.getD (c.drop 16).length ≠ (c.drop 16).length) :=
    fun h => h.elim (absurd h0) fun h => h.elim (absurd h1) fun h => h.elim (absurd h2) (absurd hn)
  rw [if_neg taken, if_neg (by rw [hg]; decide)]
  rfl

/-- A row of messages: what a good message reaches is what its function makes of the state that hears it. -/
theorem message_reaches {i : Instr} {type t : Nat} {len : Option Nat} {frame c : List Byte} {f : List Byte → State → State} {s : State} {P : State → Prop}
    (hx : exec i s = s.event t (State.peerMsg type len frame f)) (h : goodMessage type s frame c)
    (hn : len.getD (c.drop 16).length = (c.drop 16).length)
    (hP : P { f (c.drop 16) ((s.at t).hearing c) with dt := max s.dt t, pending := s.pending }) : Reaches i s P :=
  up_reaches hx h.1 (State.peerMsg_acts (s := s.at t) h hn) hP

/-! CAP (R489). -/

theorem PairSaid.pair_eq {s t : State} (h : PairSaid s t) : ∃ q u, t.pair = { s.pair with seq := q, unacked := u } := by
  obtain ⟨_, _, _, rfl⟩ := h
  exact ⟨_, _, rfl⟩

theorem PairTried.pair_eq {s t : State} (h : PairTried s t) : ∃ q u m c, t.pair = { s.pair with seq := q, unacked := u, mode := m, cause := c } := by
  obtain ⟨_, _, _, _, _, _, rfl⟩ := h
  exact ⟨_, _, _, _, rfl⟩

theorem State.sendEcho_pair (s : State) : ∃ q u, s.sendEcho.pair = { s.pair with lastEcho := s.dt, seq := q, unacked := u } :=
  (State.peerSend_said _ _ _).pair_eq

theorem State.capGot_refused {b : List Byte} {s : State} (hm : s.pair.mode = .linking) :
    (field b 3 1 / 16 ≠ 1 → s.capGot b = s.setPair fun x => { x with peerCap := b, cause := 2, capOk := false }) ∧
    (field b 3 1 / 16 = 1 → s.capAgrees b = false → s.capGot b = s.setPair fun x => { x with peerCap := b, cause := 1, capOk := false }) := by
  refine ⟨fun hv => ?_, fun hv ha => ?_⟩
  · exact (if_neg (not_not_intro hm)).trans (if_pos hv)
  · exact (if_neg (not_not_intro hm)).trans ((if_neg (not_not_intro hv)).trans (if_pos (by rw [ha]; rfl)))

/-- A CAP that agrees passes the check; the pair is up where the offset holds too (R489, Table 18.7). -/
theorem State.capGot_agreed {b : List Byte} {s : State} (hm : s.pair.mode = .linking) (hl : s.pair.link = true) (hv : field b 3 1 / 16 = 1)
    (ha : s.capAgrees b = true) : (s.capGot b).pair.capOk = true ∧ (s.capGot b).pair.peerCap = b ∧
      (s.pair.offsetOk = true → (s.capGot b).pair.mode = .paired) := by
  obtain ⟨v, hvv⟩ : ∃ v, v = s.setPair fun x => { x with peerCap := b, cause := 0, capOk := true } := ⟨_, rfl⟩
  have agreed : s.capGot b = if s.role == 2 && !s.pair.capOk then v.pairTry.sendEcho else v.pairTry := by
    rw [hvv]
    exact (if_neg (not_not_intro hm)).trans ((if_neg (not_not_intro hv)).trans (if_neg (by rw [ha]; decide)))
  have tried : v.pairTry.pair.capOk = true ∧ v.pairTry.pair.peerCap = b := by
    obtain ⟨_, _, _, _, hp⟩ := v.pairTry_tried.pair_eq
    rw [hp, hvv]
    exact ⟨rfl, rfl⟩
  have paired : s.pair.offsetOk = true → v.pairTry.pair.mode = .paired := by
    rw [hvv]
    exact fun ho => State.pairTry_paired hm hl rfl ho
  rw [agreed]
  split
  · obtain ⟨_, _, hp⟩ := v.pairTry.sendEcho_pair
    rw [hp]
    exact ⟨tried.1, tried.2, paired⟩
  · exact ⟨tried.1, tried.2, paired⟩

theorem peerCap_reaches {t : Nat} {s : State} {frame c : List Byte} (h : goodMessage 1 s frame c) (hn : (c.drop 16).length = 32)
    (hm : s.pair.mode = .linking) :
    (field (c.drop 16) 3 1 / 16 ≠ 1 → Reaches (.peerCap t frame) s fun u => u.pair.cause = 2 ∧ u.pair.capOk = false ∧ u.pair.mode = .linking) ∧
    (field (c.drop 16) 3 1 / 16 = 1 → s.capAgrees (c.drop 16) = false → Reaches (.peerCap t frame) s fun u =>
      u.pair.cause = 1 ∧ u.pair.capOk = false ∧ u.pair.mode = .linking) ∧
    (field (c.drop 16) 3 1 / 16 = 1 → s.capAgrees (c.drop 16) = true → Reaches (.peerCap t frame) s fun u =>
      u.pair.capOk = true ∧ u.pair.peerCap = c.drop 16 ∧ (s.pair.offsetOk = true → u.pair.mode = .paired)) := by
  obtain ⟨other, disagrees⟩ := State.capGot_refused (b := c.drop 16) (s := (s.at t).hearing c) hm
  refine ⟨fun hv => ?_, fun hv ha => ?_, fun hv ha => ?_⟩
  · refine message_reaches (rfl : _ = execPeerCap t frame s) h hn.symm ?_
    rw [other hv]
    exact ⟨rfl, rfl, hm⟩
  · refine message_reaches (rfl : _ = execPeerCap t frame s) h hn.symm ?_
    rw [disagrees hv ha]
    exact ⟨rfl, rfl, hm⟩
  · exact message_reaches (rfl : _ = execPeerCap t frame s) h hn.symm (State.capGot_agreed (s := (s.at t).hearing c) hm h.2.1 hv ha)

/-! ECHO (R490). -/

theorem State.offsetRun_running (d : Int) (s : State) : (s.offsetRun d).pair.running = (d :: s.pair.running).take 1024 := by
  unfold State.offsetRun
  dsimp only
  split <;> rfl

theorem peerEcho_reaches {t : Nat} {s : State} {frame c : List Byte} (h : goodMessage 2 s frame c) (hn : (c.drop 16).length = 24) :
    (s.role = 1 → field (c.drop 16) 16 8 = 0 → Reaches (.peerEcho t frame) s fun u => u.tx = [.peer (framed (peerMessage 2 s.pair.seq (max s.dt t)
      (leBytes 8 (field (c.drop 16) 0 8) ++ leBytes 8 (max s.dt t) ++ leBytes 8 (max s.dt t))))]) ∧
    (s.role = 2 → field (c.drop 16) 16 8 ≠ 0 → s.pair.mode = .paired → Reaches (.peerEcho t frame) s fun u =>
      u.pair.running = (roundDiv (((field (c.drop 16) 8 8 : Int) - field (c.drop 16) 0 8) + ((field (c.drop 16) 16 8 : Int) - (max s.dt t : Nat))) 2 ::
        s.pair.running).take 1024) := by
  refine ⟨fun hr h3 => ?_, fun hr h3 hm => ?_⟩
  · refine message_reaches (rfl : _ = execPeerEcho t frame s) h hn.symm ?_
    have answers : State.echoGot (c.drop 16) ((s.at t).hearing c) = _ := (if_pos hr).trans (if_pos h3)
    have sent := State.peerSend_tx (type := 2) (payload := leBytes 8 (field (c.drop 16) 0 8) ++ leBytes 8 (max s.dt t) ++ leBytes 8 (max s.dt t))
      (s := (s.at t).hearing c) h.2.1 h.2.2.1
    rw [answers]
    exact sent
  · refine message_reaches (rfl : _ = execPeerEcho t frame s) h hn.symm ?_
    have paired : ((s.at t).hearing c).isPaired = true := by
      unfold State.isPaired
      exact beq_iff_eq.mpr hm
    have linking : ¬ (((s.at t).hearing c).pair.mode = .linking ∧ (!((s.at t).hearing c).pair.offsetOk) = true) := by
      rintro ⟨hl, -⟩
      exact nomatch hm.symm.trans hl
    have takes : State.echoGot (c.drop 16) ((s.at t).hearing c) = _ :=
      (if_neg (show ¬ s.role = 1 by rw [hr]; decide)).trans ((if_neg h3).trans ((if_neg linking).trans (if_pos paired)))
    rw [takes]
    exact State.offsetRun_running _ _

/-! CYCLE (R493, R494). -/

/-- What the pair makes of READY_TO_EXPOSE keeps what it knows of IMAGE. -/
theorem State.pairStart_imageGot (s : State) : s.pairStart.pair.imageGot = s.pair.imageGot := by
  unfold State.pairStart
  split
  · split
    · split <;> rfl
    · split
      · split <;> rfl
      · split
        · obtain ⟨_, _, hp⟩ := (State.peerSend_said 3 _ _).pair_eq
          exact congrArg (·.imageGot) hp
        · rfl
  · rfl

theorem peerCycle_reaches {t : Nat} {s : State} {frame c : List Byte} (h : goodMessage 3 s frame c) (hn : (c.drop 16).length = 1048)
    (hm : s.pair.mode = .paired) :
    (field (c.drop 16) 4 1 = evHold → s.cyc.state = .armed → Reaches (.peerCycle t frame) s fun u =>
      u.cyc.state = .hold ∧ u.cyc.cause = field (c.drop 16) 5 1) ∧
    (field (c.drop 16) 4 1 = evImage → Reaches (.peerCycle t frame) s fun u => u.pair.imageGot = true) ∧
    (field (c.drop 16) 4 1 = evStart → s.role = 2 → Reaches (.peerCycle t frame) s fun u =>
      u.pair.start = some (ceilDiv ((field (c.drop 16) 8 8 : Int) - s.pair.delta).toNat 16000 * 16000)) := by
  have paired : ¬ (!((s.at t).hearing c).isPaired) = true := by
    have hp : ((s.at t).hearing c).isPaired = true := beq_iff_eq.mpr hm
    rw [hp]
    decide
  refine ⟨fun he ha => ?_, fun he => ?_, fun he hr => ?_⟩
  · refine message_reaches (rfl : _ = execPeerCycle t frame s) h hn.symm ?_
    have holds : State.cycleGot (c.drop 16) ((s.at t).hearing c) = ((s.at t).hearing c).holdNow (field (c.drop 16) 5 1) := by
      unfold State.cycleGot
      simp only [he]
      exact (if_neg paired).trans (if_pos ha)
    obtain ⟨_, _, _, _, _, _, _, _, _, _, _, _, hh⟩ := State.holdNow_entered (field (c.drop 16) 5 1) ((s.at t).hearing c)
    rw [holds, hh]
    exact ⟨rfl, rfl⟩
  · refine message_reaches (rfl : _ = execPeerCycle t frame s) h hn.symm ?_
    have comes : State.cycleGot (c.drop 16) ((s.at t).hearing c) = (((s.at t).hearing c).setPair fun x => { x with imageGot := true }).pairStart := by
      unfold State.cycleGot
      simp only [he]
      exact if_neg paired
    rw [comes]
    exact State.pairStart_imageGot _
  · refine message_reaches (rfl : _ = execPeerCycle t frame s) h hn.symm ?_
    have starts : State.cycleGot (c.drop 16) ((s.at t).hearing c) = ((s.at t).hearing c).startGot (field (c.drop 16) 8 8) := by
      unfold State.cycleGot
      simp only [he]
      exact (if_neg paired).trans (if_pos hr)
    rw [starts]
    rfl

/-! CLAIM, RELEASE, RELATION (R491, R494). -/

/-- Ahead of the exposure a message waits for it (R494). -/
theorem State.crossArrived_early {type : Nat} {b : List Byte} {s : State} (he : s.exposing = false) (hm : s.pair.mode = .paired) (hr : s.role ≠ 0) :
    (s.crossArrived type b).pair.early = s.pair.early ++ [(type, b)] := by
  have role : s.pairRole ≠ 0 := by
    unfold State.pairRole
    rw [hm]
    exact hr
  have waits : s.crossArrived type b = _ := (if_neg (by rw [he]; decide)).trans (if_neg role)
  rw [waits]
  rfl

theorem peerRelation_reaches {t : Nat} {s : State} {frame c : List Byte} (h : goodMessage 6 s frame c) (hn : (c.drop 16).length = 32)
    (hm : s.pair.mode = .paired) (hr : s.role = 2) :
    Reaches (.peerRelation t frame) s fun u => u.net.rel.state = .peer ∧ u.net.rel.tai0 = toSigned 64 (field (c.drop 16) 8 8) ∧
      u.net.rel.dt0 = ((field (c.drop 16) 0 8 : Int) - s.pair.delta).toNat := by
  refine message_reaches (rfl : _ = execPeerRelation t frame s) h hn.symm ?_
  have paired : ((s.at t).hearing c).isPaired = true := beq_iff_eq.mpr hm
  have acts : ((s.at t).hearing c).isPaired ∧ ((s.at t).hearing c).role = 2 := ⟨paired, hr⟩
  dsimp only
  rw [if_pos acts]
  have related : (((s.at t).hearing c).relationGot (c.drop 16)).net = _ := State.newRelation_net _ _
  exact ⟨congrArg (·.rel.state) related, congrArg (·.rel.tai0) related, congrArg (·.rel.dt0) related⟩

theorem peerCap_discards {t : Nat} {s : State} {frame : List Byte} (hup : s.up = true) (hl : s.pair.link = true) (hr : s.role ≠ 0)
    (hf : unframe frame = none) :
    Reaches (.peerCap t frame) s fun u => u.pair = { s.pair with discarded := inc32 s.pair.discarded } ∧ u.cyc = s.cyc := by
  have bad : (s.at t).peerMsg 1 (some 32) frame State.capGot = (s.at t).peerDiscard := by
    have open_ : ¬ (!(s.at t).pair.link || (s.at t).role == 0) = true := by
      have hr' : (s.at t).role ≠ 0 := hr
      rw [State.at_pair, hl, beq_eq_false_iff_ne.mpr hr']
      decide
    unfold State.peerMsg
    rw [if_neg open_]
    simp only [hf]
  exact up_reaches (rfl : _ = execPeerCap t frame s) hup bad ⟨rfl, rfl⟩

/-- Settles O47. The layouts of CAP, CYCLE, CLAIM and RELEASE are the model's choice (log entries 40, 41 and 44). -/
theorem peerMessagesAct : Obligations.PeerMessagesAct := fun t _ frame _ =>
  ⟨peerCap_reaches, peerEcho_reaches, peerCycle_reaches,
    fun h hn he hm => message_reaches (rfl : _ = execPeerClaim t frame _) h hn.symm (State.crossArrived_early he hm h.2.2.1),
    fun h hn he hm => message_reaches (rfl : _ = execPeerRelease t frame _) h rfl (by
      dsimp only
      rw [if_pos hn]
      exact State.crossArrived_early he hm h.2.2.1),
    peerRelation_reaches, peerCap_discards⟩

end Sys2Proof.Machine
end

section
/-! PROOFS. The entry to STANDBY (01), the pair link and the witness (18): O48. -/

namespace Sys2Proof.Machine

/-! STANDBY. -/

/-- `t` is `s` but for the signature banks, and for completions. -/
def BanksDropped (s t : State) : Prop := ∃ g h x, t = { s with sig := g, host := h, tx := x }

theorem BanksDropped.trans {s t u : State} (h : BanksDropped s t) (g : BanksDropped t u) : BanksDropped s u := by
  obtain ⟨_, _, _, rfl⟩ := h
  obtain ⟨_, _, _, rfl⟩ := g
  exact ⟨_, _, _, rfl⟩

theorem Replied.banksDropped {s t : State} (h : Replied s t) : BanksDropped s t := by
  obtain ⟨_, _, rfl⟩ := h.exists_eq
  exact ⟨_, _, _, rfl⟩

theorem State.loadAnswer_dropped (l : Loading) (st : Nat) (r : List Byte) (s : State) : BanksDropped s (s.loadAnswer l st r) := by
  unfold State.loadAnswer
  split
  · exact (State.complete_replied _ _ _ s).banksDropped
  · split
    · split
      · exact ⟨_, _, _, rfl⟩
      · exact .trans ⟨_, _, _, rfl⟩ (State.complete_replied _ _ _ _).banksDropped
    · exact ⟨_, _, _, rfl⟩

theorem State.failSet_dropped (k : Nat) (b : Bool) (s : State) : BanksDropped s (s.failSet k b) := by
  unfold State.failSet
  split <;> exact ⟨_, _, _, rfl⟩

theorem State.abandonLoad_dropped (st stage : Nat) (s : State) : BanksDropped s (s.abandonLoad st stage) := by
  unfold State.abandonLoad
  split
  · exact ⟨_, _, _, rfl⟩
  · dsimp only
    exact .trans (.trans (.trans ⟨_, _, _, rfl⟩ (State.failSet_dropped _ _ _)) (State.loadAnswer_dropped _ _ _ _)) ⟨_, _, _, rfl⟩

theorem State.dropBanks_dropped (s : State) : BanksDropped s s.dropBanks :=
  ((s.abandonLoad_dropped _ _).trans ⟨_, _, _, rfl⟩).trans ⟨_, _, _, rfl⟩

/-- The pair begins again; its link, and how often it was lost, stand (Table 18.7). -/
theorem State.pairLink_pair (s : State) : s.pairLink.pair.mode = .linking ∧ s.pairLink.pair.link = s.pair.link ∧
    s.pairLink.pair.downs = s.pair.downs ∧ (s.pair.link = true → s.pairLink.pair.lastCap = s.dt) := by
  unfold State.pairLink
  dsimp only
  split
  · obtain ⟨_, _, hp⟩ := (State.peerSend_said 1 _ _).pair_eq
    unfold State.sendCap
    rw [hp]
    exact ⟨rfl, rfl, rfl, fun _ => rfl⟩
  · next hl => exact ⟨rfl, rfl, rfl, fun h => absurd h hl⟩

/-- `t` is `s` in STANDBY with `cause`: device time, the parameters, memory, motion and imaging stand as they were. -/
def StandbyEntered (cause : Nat) (s t : State) : Prop :=
  ∃ g h x r l gu f he p, t = { s with
    sig := g, host := h, tx := x, recorder := r, las := l, gut := gu, fbk := f, head := he, pair := p
    cyc := { s.cyc with state := .standby, cause := cause } } ∧ p.link = s.pair.link ∧ p.downs = s.pair.downs

theorem State.enterStandby_entered (cause : Nat) (s : State) : StandbyEntered cause s (s.enterStandby cause) := by
  obtain ⟨_, _, hs⟩ := s.setState_eq .standby cause
  obtain ⟨_, _, _, hd⟩ := (s.setState .standby cause).dropBanks_dropped
  unfold State.enterStandby
  extract_lets s1 las gut s2
  have h1 : s1 = (s.setState .standby cause).dropBanks := rfl
  obtain ⟨_, hn⟩ := State.noteEmit_noted { s1 with las := { s1.las with stopped := 0 }, gut := { s1.gut with begun := [], replays := [] } }
  obtain ⟨_, _, hf⟩ := (State.noteEmit { s1 with las := { s1.las with stopped := 0 }, gut := { s1.gut with begun := [], replays := [] } }).portsFollow_relinked
  have entered : StandbyEntered cause s s2 := by
    have h2 : s2 = _ := hf
    rw [h2, hn, h1, hd, hs]
    exact ⟨_, _, _, _, _, _, _, _, _, rfl, rfl, rfl⟩
  have linked : StandbyEntered cause s s2.pairLink := by
    obtain ⟨-, hl, hn, -⟩ := s2.pairLink_pair
    obtain ⟨_, _, hp⟩ := s2.pairLink_told
    obtain ⟨_, _, _, _, _, _, _, _, _, he, hl', hn'⟩ := entered
    rw [hp] at hl hn ⊢
    rw [he] at hl hn ⊢
    exact ⟨_, _, _, _, _, _, _, _, _, rfl, hl.trans hl', hn.trans hn'⟩
  split
  · exact linked
  · split
    · exact linked
    · exact entered

/-! PEER_SLOT frames (R487, R496). -/

theorem State.depositsTo_pair (dt : Nat) (s : State) : (s.depositsTo dt).pair = s.pair := by
  obtain ⟨_, hd, -⟩ := State.depositsTo_deposited dt s
  rw [hd]

/-- A border deposit moves the ledger alone (R255). -/
theorem State.borderGot_pair (b : List Byte) (s : State) : (s.borderGot b).pair = s.pair := by
  unfold State.borderGot
  split
  · rfl
  · dsimp only
    refine (apply_ite State.pair _ _ _).trans ?_
    rw [State.depositsTo_pair]
    exact ite_self _

theorem peerSlot_good {t n m : Nat} {frame c : List Byte} {s : State} (hup : s.up = true) (hl : s.pair.link = true) (hr : s.role ≠ 0)
    (hf : unframe frame = some c) (hn : n = field c 12 1) (hm : m = field c 13 1) (h0 : field c 0 1 = 0x11) (hn32 : n ≤ 32) (hm32 : m ≤ 32)
    (hlen : c.length = 16 + 8 * n + 16 * m) : Reaches (.peerSlot t frame) s fun u =>
      u.pair.slotSeq = some (field c 2 2) ∧ u.pair.lostRun = 0 ∧ u.pair.points.length = n := by
  have open_ : ¬ (!(s.at t).pair.link || (s.at t).role == 0) = true := by
    have hr' : (s.at t).role ≠ 0 := hr
    rw [State.at_pair, hl, beq_eq_false_iff_ne.mpr hr']
    decide
  subst hn hm
  have taken : (s.at t).slotArrived frame = (s.at t).slotGot c := by
    unfold State.slotArrived
    rw [if_neg open_]
    simp only [hf]
    exact if_neg fun h => h.elim (absurd h0) fun h => h.elim (Nat.not_lt.mpr hn32) fun h => h.elim (Nat.not_lt.mpr hm32) (absurd hlen)
  refine up_reaches (rfl : _ = execPeerSlot t frame s) hup taken ?_
  have kept : ∀ (l : List Nat) (f : Nat → List Byte) (u : State), (l.foldl (fun (s : State) (i : Nat) => s.borderGot (f i)) u).pair = u.pair :=
    fun l f => foldl_related (R := fun s t : State => t.pair = s.pair) (fun _ => rfl) (fun h g => g.trans h) (fun s _ => s.borderGot_pair _) l
  unfold State.slotGot
  dsimp only
  rw [kept]
  exact ⟨rfl, rfl, (List.length_map _).trans List.length_range⟩

theorem peerSlot_bad {t : Nat} {frame : List Byte} {s : State} (hup : s.up = true) (hl : s.pair.link = true) (hr : s.role ≠ 0)
    (hf : unframe frame = none) (hrun : s.pair.lostRun < 3) : Reaches (.peerSlot t frame) s fun u =>
      u.pair = { s.pair with discarded := inc32 s.pair.discarded, lostRun := s.pair.lostRun + 1 } := by
  have open_ : ¬ (!(s.at t).pair.link || (s.at t).role == 0) = true := by
    have hr' : (s.at t).role ≠ 0 := hr
    rw [State.at_pair, hl, beq_eq_false_iff_ne.mpr hr']
    decide
  have few : ¬ 4 ≤ s.pair.lostRun + 1 := by omega
  have lost : (s.at t).slotArrived frame = (s.at t).peerDiscard.setPair fun x => { x with lostRun := x.lostRun + 1 } := by
    unfold State.slotArrived
    rw [if_neg open_]
    simp only [hf]
    exact if_neg few
  exact up_reaches (rfl : _ = execPeerSlot t frame s) hup lost rfl

/-! What the link sends of itself (R489, R490). -/

theorem State.sendCap_eq {s : State} (hl : s.pair.link = true) (hr : s.role ≠ 0) :
    s.sendCap.pair.lastCap = s.dt ∧ s.sendCap.tx = s.tx ++ [.peer (framed (peerMessage 1 s.pair.seq s.dt s.capPayload))] := by
  obtain ⟨_, _, hp⟩ := (State.peerSend_said 1 s.capPayload (s.setPair fun x => { x with lastCap := s.dt })).pair_eq
  exact ⟨congrArg (·.lastCap) hp, State.peerSend_tx (s := s.setPair fun x => { x with lastCap := s.dt }) hl hr⟩

theorem pairCapRetry_reaches {t : Nat} {s : State} (hup : s.up = true) (hl : s.pair.link = true) (hr : s.role ≠ 0) (hm : s.pair.mode = .linking)
    (hc : s.pair.capOk = false) (hd : s.pair.lastCap + 1600000000 ≤ max s.dt t) : Reaches (.pairCapRetry t) s fun u =>
      u.pair.lastCap = max s.dt t ∧ u.tx = [.peer (framed (peerMessage 1 s.pair.seq (max s.dt t) s.capPayload))] := by
  have due : (s.at t).pair.mode = .linking ∧ (s.at t).pair.link = true ∧ (!(s.at t).pair.capOk) = true ∧ (s.at t).pair.lastCap + 1600000000 ≤ (s.at t).dt := by
    refine ⟨hm, hl, ?_, hd⟩
    rw [State.at_pair, hc]
    rfl
  exact up_reaches (rfl : _ = execPairCapRetry t s) hup (if_pos due) (State.sendCap_eq (s := s.at t) hl hr)

theorem peerOffsetEchoTimer_reaches {t : Nat} {s : State} (hup : s.up = true) (hl : s.pair.link = true) (hr : s.role ≠ 0) (hm : s.pair.mode = .paired)
    (h2 : s.role = 2) (hd : s.pair.lastEcho + 16000000 ≤ max s.dt t) : Reaches (.peerOffsetEchoTimer t) s fun u =>
      u.pair.lastEcho = max s.dt t ∧ u.tx = [.peer (framed (peerMessage 2 s.pair.seq (max s.dt t) (leBytes 8 (max s.dt t) ++ zeros 16)))] := by
  have due : (s.at t).isPaired = true ∧ (s.at t).role = 2 ∧ (s.at t).pair.lastEcho + 16000000 ≤ (s.at t).dt := ⟨beq_iff_eq.mpr hm, h2, hd⟩
  obtain ⟨_, _, hp⟩ := (s.at t).sendEcho_pair
  have sent := State.peerSend_tx (type := 2) (payload := leBytes 8 (max s.dt t) ++ zeros 16)
    (s := (s.at t).setPair fun x => { x with lastEcho := max s.dt t }) hl hr
  exact up_reaches (rfl : _ = execPeerOffsetEchoTimer t s) hup (if_pos due) ⟨congrArg (·.lastEcho) hp, sent⟩

theorem messageResend_reaches {t : Nat} {m : PeerMsg} {s : State} (hup : s.up = true)
    (hf : (s.pair.unacked.find? fun m => m.sent + 320000 ≤ max s.dt t) = some m) (hone : ∀ n ∈ s.pair.unacked, n.seq = m.seq → n = m) :
    Reaches (.messageResend t m.seq) s fun u => u.tx = [.peer m.bytes] ∧ u.pair.resent = inc32 s.pair.resent := by
  have overdue := List.find?_some hf
  have found : ((s.at t).pair.unacked.find? fun n => n.seq == m.seq && decide (n.sent + 320000 ≤ (s.at t).dt)) = some m := by
    obtain ⟨n, hn⟩ : ∃ n, (s.pair.unacked.find? fun n => n.seq == m.seq && decide (n.sent + 320000 ≤ max s.dt t)) = some n := by
      refine Option.isSome_iff_exists.mp (List.find?_isSome.mpr ⟨m, List.mem_of_find?_eq_some hf, ?_⟩)
      rw [beq_self_eq_true, overdue]
      rfl
    have both := List.find?_some hn
    have seq : n.seq = m.seq := beq_iff_eq.mp (Bool.and_eq_true_iff.mp both).1
    exact hn.trans (congrArg some (hone n (List.mem_of_find?_eq_some hn) seq))
  have resent : (s.at t).peerResend m.seq = ((s.at t).setPair fun x => { x with
      resent := inc32 x.resent, unacked := x.unacked.map fun n => if n.seq = m.seq then { n with sent := (s.at t).dt } else n }).send (.peer m.bytes) := by
    unfold State.peerResend
    simp only [found]
  exact up_reaches (rfl : _ = exec (.messageResend t m.seq) s) hup resent ⟨rfl, rfl⟩

/-! The pair as its link comes and goes (R487, R498, Table 18.7). -/

theorem State.splitLayer_written (s : State) : LayWritten s s.splitLayer := by
  unfold State.splitLayer
  dsimp only
  split
  · exact s.setLay_written _
  · exact .refl s

/-- The peer link as its loss leaves it. -/
def State.unlinked (s : State) : State :=
  s.setPair fun x => { x with link := false, downs := inc32 x.downs, capOk := false, offsetOk := false, echoes := [], unacked := [] }

theorem State.peerDown_unpaired {s : State} (hl : s.pair.link = true) (hm : s.pair.mode ≠ .paired) : s.peerDown = s.unlinked := by
  have alone : (!s.unlinked.isPaired) = true := by
    have hp : s.unlinked.isPaired = false := beq_eq_false_iff_ne.mpr hm
    rw [hp]
    rfl
  exact (if_neg (by rw [hl]; decide)).trans (if_pos alone)

/-- The relation of a pair that has lost its link holds over (R491). -/
def State.freed (s : State) : State :=
  if s.net.rel.state = .peer then s.setNet fun x => { x with rel := { x.rel with state := .holdover } } else s

theorem State.freed_eq (s : State) : ∃ n, s.freed = { s with net := n } := by
  unfold State.freed
  split <;> exact ⟨_, rfl⟩

/-- A pair whose link is lost moves with the device's state (Table 18.7). -/
def State.pairLost (s : State) : State :=
  match s.cyc.state with
  | .standby => s.freed.pairLink
  | .ready => s.freed.enterStandby causePeer
  | .armed | .hold =>
    ((s.freed.splitLayer.setPair fun x => { x with
      mode := .split, splitAt := s.dt, expired := false, points := [], requests := [], early := [], start := none, resumeWait := false }).setCyc
        fun c => { c with holdAtFence := some causePeer }).logEvent 0xC081 255 4 0
  | _ => s.freed

theorem State.peerDown_paired {s : State} (hl : s.pair.link = true) (hm : s.pair.mode = .paired) : s.peerDown = s.unlinked.pairLost := by
  have paired : ¬ (!s.unlinked.isPaired) = true := by
    have hp : s.unlinked.isPaired = true := beq_iff_eq.mpr hm
    rw [hp]
    decide
  exact (if_neg (by rw [hl]; decide)).trans (if_neg paired)

theorem State.pairLost_ready {s : State} (h : s.cyc.state = .ready) : s.pairLost = s.freed.enterStandby causePeer := by
  unfold State.pairLost
  rw [h]

theorem State.pairLost_split {s : State} (h : s.cyc.state = .armed ∨ s.cyc.state = .hold) :
    s.pairLost.pair.mode = .split ∧ s.pairLost.pair.splitAt = s.dt ∧ s.pairLost.cyc = { s.cyc with holdAtFence := some causePeer } := by
  obtain ⟨_, hf⟩ := s.freed_eq
  obtain ⟨_, _, _, _, _, _, _, hw⟩ := s.freed.splitLayer_written
  unfold State.pairLost
  rcases h with h | h
  · rw [h]
    dsimp only
    rw [hw, hf]
    exact ⟨rfl, rfl, rfl⟩
  · rw [h]
    dsimp only
    rw [hw, hf]
    exact ⟨rfl, rfl, rfl⟩

/-- Whatever a pair does without its link, the link stays down, and the loss is counted once. -/
theorem State.pairLost_link (s : State) : s.pairLost.pair.link = s.pair.link ∧ s.pairLost.pair.downs = s.pair.downs := by
  obtain ⟨_, hf⟩ := s.freed_eq
  obtain ⟨_, _, _, _, _, _, _, hw⟩ := s.freed.splitLayer_written
  unfold State.pairLost
  split
  · obtain ⟨-, hl, hd, -⟩ := s.freed.pairLink_pair
    rw [hl, hd, hf]
    exact ⟨rfl, rfl⟩
  · obtain ⟨_, _, _, _, _, _, _, _, _, he, hl, hd⟩ := s.freed.enterStandby_entered causePeer
    rw [hf] at hl hd
    rw [he]
    exact ⟨hl, hd⟩
  · rw [hw, hf]
    exact ⟨rfl, rfl⟩
  · rw [hw, hf]
    exact ⟨rfl, rfl⟩
  · rw [hf]
    exact ⟨rfl, rfl⟩

theorem peerLinkDown_reaches {t : Nat} {s : State} (hup : s.up = true) (hl : s.pair.link = true) :
    Reaches (.peerLinkDown t) s fun u => u.pair.link = false ∧ u.pair.downs = inc32 s.pair.downs ∧
      (s.pair.mode = .paired → s.cyc.state = .armed ∨ s.cyc.state = .hold →
        u.pair.mode = .split ∧ u.pair.splitAt = max s.dt t ∧ u.cyc = { s.cyc with holdAtFence := some causePeer }) ∧
      (s.pair.mode = .paired → s.cyc.state = .ready → u.cyc.state = .standby ∧ u.cyc.cause = causePeer) ∧
      (s.pair.mode ≠ .paired → u.cyc = s.cyc ∧ u.pair.mode = s.pair.mode) := by
  by_cases hm : s.pair.mode = .paired
  · obtain ⟨hlink, hdowns⟩ := (s.at t).unlinked.pairLost_link
    refine up_reaches (rfl : _ = execPeerLinkDown t s) hup (State.peerDown_paired (s := s.at t) hl hm)
      ⟨hlink, hdowns, fun _ hs => State.pairLost_split (s := (s.at t).unlinked) hs, fun _ hs => ?_, fun h => absurd hm h⟩
    have standby := State.pairLost_ready (s := (s.at t).unlinked) hs
    obtain ⟨_, _, _, _, _, _, _, _, _, he, -⟩ := (s.at t).unlinked.freed.enterStandby_entered causePeer
    rw [standby, he]
    exact ⟨rfl, rfl⟩
  · exact up_reaches (rfl : _ = execPeerLinkDown t s) hup (State.peerDown_unpaired (s := s.at t) hl hm)
      ⟨rfl, rfl, fun h => absurd h hm, fun h => absurd h hm, fun _ => ⟨rfl, rfl⟩⟩

theorem State.peerUp_links {s : State} (hl : s.pair.link = false) (hr : s.role ≠ 0) (hloop : s.looped 1 0 = false) :
    s.peerUp.pair.link = true ∧ s.peerUp.cyc = s.cyc ∧ (s.pair.mode = .linking → s.peerUp.pair.lastCap = s.dt) := by
  obtain ⟨v, hv⟩ : ∃ v, v = s.setPair fun x => { x with link := true, slotSeq := none, lostRun := 0 } := ⟨_, rfl⟩
  have open_ : ¬ (s.role = 0 ∨ s.pair.link = true ∨ s.looped 1 0 = true) := by
    rw [hl, hloop]
    exact fun h => h.elim hr fun h => h.elim Bool.false_ne_true Bool.false_ne_true
  have comes : s.peerUp = if (s.pair.mode == .split || s.pair.mode == .granted) && s.cyc.state == .standby then v.pairLink
      else if s.pair.mode = .linking then v.sendCap else v := by
    rw [hv]
    exact if_neg open_
  have link : v.pair.link = true := by rw [hv]; rfl
  have cyc : v.cyc = s.cyc := by rw [hv]; rfl
  rw [comes]
  split
  · next hc =>
    obtain ⟨-, hlink, -, hcap⟩ := v.pairLink_pair
    refine ⟨hlink.trans link, v.pairLink_told.cyc_eq.trans cyc, fun _ => (hcap link).trans ?_⟩
    rw [hv]
    rfl
  · split
    · obtain ⟨_, _, hp⟩ := (State.peerSend_said 1 v.capPayload (v.setPair fun x => { x with lastCap := v.dt })).pair_eq
      refine ⟨(congrArg (·.link) hp).trans link, v.sendCap_told.cyc_eq.trans cyc, fun _ => (congrArg (·.lastCap) hp).trans ?_⟩
      rw [hv]
      rfl
    · next hm => exact ⟨link, cyc, fun h => absurd h hm⟩

theorem peerLinkUp_reaches {t : Nat} {s : State} (hup : s.up = true) (hl : s.pair.link = false) (hr : s.role ≠ 0) (hloop : s.looped 1 0 = false) :
    Reaches (.peerLinkUp t) s fun u => u.pair.link = true ∧ u.cyc = s.cyc ∧ (s.pair.mode = .linking → u.pair.lastCap = max s.dt t) :=
  up_reaches (rfl : _ = execPeerLinkUp t s) hup rfl (State.peerUp_links (s := s.at t) hl hr hloop)

/-! The witness (R499). -/

theorem witnessPin_reaches {t : Nat} {s : State} (hup : s.up = true) (hm : s.pair.mode = .split) (he : s.pair.expired = false)
    (hd : max s.dt t ≤ s.witnessEnds) : Reaches (.witnessPin t) s fun u =>
      u = { s with dt := max s.dt t, tx := [], pair := { s.pair with mode := .granted } } := by
  have waits : (s.at t).pair.mode = .split ∧ (!(s.at t).witnessOver) = true := by
    refine ⟨hm, ?_⟩
    have early : (s.at t).witnessOver = false := by
      unfold State.witnessOver
      rw [State.at_pair, he]
      exact decide_eq_false (Nat.not_lt.mpr hd)
    rw [early]
    rfl
  exact up_reaches (rfl : _ = execWitnessPin t s) hup (if_pos waits) rfl

theorem witnessTimeout_reaches {t : Nat} {s : State} (hup : s.up = true) (hm : s.pair.mode = .split) (hd : s.witnessEnds ≤ max s.dt t) :
    Reaches (.witnessTimeout t) s fun u => u = { s with dt := max s.dt t, tx := [], pair := { s.pair with expired := true } } :=
  up_reaches (rfl : _ = execWitnessTimeout t s) hup (if_pos (c := (s.at t).pair.mode = .split ∧ (s.at t).witnessEnds ≤ (s.at t).dt) ⟨hm, hd⟩) rfl

theorem pairWitnessGrant_reaches {p : Packet} {s : State} (h : startsNow pairWitnessGrantSpec p s = true) :
    Reaches (.pairWitnessGrant p) s (Served p s { s with pair := { s.pair with mode := .granted } }) := by
  refine served_ran rfl h fun t ht => ?_
  obtain ⟨_, _, _, _, _, hr⟩ := running_host pairWitnessGrantSpec p s
  rw [hr] at ht
  obtain ⟨_, _, _, _, _, rfl⟩ := ht
  exact ⟨_, _, _, rfl⟩

/-- Settles O48. -/
theorem pairLinkActs : Obligations.PairLinkActs :=
  ⟨fun _ _ hup hl hr => ⟨fun _ _ _ _ hf hn hm h0 hn32 hm32 hlen => peerSlot_good hup hl hr hf hn hm h0 hn32 hm32 hlen,
      fun _ hf hrun => peerSlot_bad hup hl hr hf hrun, pairCapRetry_reaches hup hl hr, peerOffsetEchoTimer_reaches hup hl hr,
      fun _ hf hone => messageResend_reaches hup hf hone⟩,
    fun _ _ hup => ⟨peerLinkDown_reaches hup, peerLinkUp_reaches hup, witnessPin_reaches hup, witnessTimeout_reaches hup,
      fun _ => pairWitnessGrant_reaches⟩⟩

end Sys2Proof.Machine
end

section
/-! PROOFS. The service commands (20): O51. -/

namespace Sys2Proof.Machine

/-- What the run of a service command reads of the state is as it was. -/
theorem running_svc (c : CmdSpec) (p : Packet) (s : State) : (running c p s).svc = s.svc ∧ (running c p s).dt = max s.dt p.t ∧
    (running c p s).par = s.par ∧ (∀ fe, (running c p s).trimInPlace fe = s.trimInPlace fe) ∧ (∀ fe, (running c p s).fbkValid fe = s.fbkValid fe) ∧
    (running c p s).modesNow = s.modesNow ∧ (running c p s).modesWith p = s.modesWith p := by
  obtain ⟨_, _, _, _, _, hr⟩ := running_host c p s
  rw [hr]
  exact ⟨rfl, rfl, rfl, fun _ => rfl, fun _ => rfl, rfl, rfl⟩

theorem Replied.svc_eq {s t : State} (h : Replied s t) : t.svc = s.svc := by
  obtain ⟨_, _, rfl⟩ := h.exists_eq
  rfl

/-- A command that starts leaves the service state as its run does. -/
theorem served_ran_svc {c : CmdSpec} {p : Packet} {s u : State} {i : Instr} {P : Service → Prop} (hx : exec i s = serve c p s)
    (h : startsNow c p s = true) (hr : (c.run s.host.nextAcc p (running c p s)).1 = u) (hP : P u.svc) : Reaches i s fun t => P t.svc :=
  served_ran hx h fun _ ht => Eq.subst (motive := P) ((ht.svc_eq.trans (congrArg State.svc hr))).symm hP

/-! Firmware (R531 to R533). -/

theorem svcFwLoad_reaches {p : Packet} {s : State} (h : startsNow svcFwLoadSpec p s = true) : Reaches (.svcFwLoad p) s fun t =>
    t.fw.standby = .loading ∧ t.fw.loading = some (s.host.nextAcc, fwImageOf (s.dramRead (p.fld 0 8) (p.fld 8 4))) ∧ t.fw.active = s.fw.active := by
  have loads : (svcFwLoadSpec.run s.host.nextAcc p (running svcFwLoadSpec p s)).1 = (running svcFwLoadSpec p s).setFw fun x =>
      { x with standby := .loading, loading := some (s.host.nextAcc, fwImageOf (s.dramRead (p.fld 0 8) (p.fld 8 4))) } := by
    rw [← running_dramRead svcFwLoadSpec p s]
    rfl
  exact served_ran_svc (P := fun v => v.fw.standby = .loading ∧
    v.fw.loading = some (s.host.nextAcc, fwImageOf (s.dramRead (p.fld 0 8) (p.fld 8 4))) ∧ v.fw.active = s.svc.fw.active) rfl h loads
    ⟨rfl, rfl, congrArg (·.fw.active) (running_svc svcFwLoadSpec p s).1⟩

theorem svcFwSwitch_reaches {p : Packet} {s : State} (h : startsNow svcFwSwitchSpec p s = true) :
    Reaches (.svcFwSwitch p) s fun t => t.fw = { s.fw with switching := some s.host.nextAcc } :=
  served_ran_svc (P := fun v => v.fw = { s.svc.fw with switching := some s.host.nextAcc }) rfl h rfl
    (congrArg (fun v : Service => { v.fw with switching := some s.host.nextAcc }) (running_svc svcFwSwitchSpec p s).1)

theorem svcFwCommit_reaches {p : Packet} {s : State} (h : startsNow svcFwCommitSpec p s = true) : Reaches (.svcFwCommit p) s fun t =>
    t.fw.standby = .loading ∧ t.fw.committing = some (s.host.nextAcc, p.fld 0 1 == 1) ∧ t.fw.active = s.fw.active :=
  served_ran_svc (P := fun v => v.fw.standby = .loading ∧ v.fw.committing = some (s.host.nextAcc, p.fld 0 1 == 1) ∧ v.fw.active = s.svc.fw.active)
    rfl h rfl ⟨rfl, rfl, congrArg (·.fw.active) (running_svc svcFwCommitSpec p s).1⟩

/-! Modes (R535). -/

theorem State.ledgerSwitched_svc (b : Bool) (s : State) : (s.ledgerSwitched b).svc = s.svc := by
  unfold State.ledgerSwitched
  split <;> rfl

theorem State.switchModes_modes (m : Nat) (s : State) : (s.switchModes m).svc.modes = m := by
  unfold State.switchModes
  split
  · next hm => exact hm.symm
  · dsimp only
    split
    · rfl
    · exact congrArg Service.modes (State.ledgerSwitched_svc _ _)

theorem svcModeSet_now {p : Packet} {s : State} (h : startsNow svcModeSetSpec p s = true) (hn : s.modesNow = true) :
    Reaches (.svcModeSet p) s fun t => t.svc.modes = s.modesWith p := by
  obtain ⟨-, -, -, -, -, hnow, hwith⟩ := running_svc svcModeSetSpec p s
  have ran : svcModeSetSpec.run s.host.nextAcc p (running svcModeSetSpec p s) = _ := if_pos (hnow.trans hn)
  refine served_ran_svc (P := fun v => v.modes = s.modesWith p) rfl h (congrArg Prod.fst ran) ?_
  rw [hwith]
  exact State.switchModes_modes _ _

theorem svcModeSet_waits {p : Packet} {s : State} (h : startsNow svcModeSetSpec p s = true) (hn : s.modesNow = false) :
    Reaches (.svcModeSet p) s (Served p s { s with svc := { s.svc with
      modeReq := joinModes s.svc.modes s.host.nextAcc (modeBits (p.fld 0 4) (p.fld 4 4)) s.svc.modeReq } }) := by
  obtain ⟨-, -, -, -, -, hnow, -⟩ := running_svc svcModeSetSpec p s
  have ran : svcModeSetSpec.run s.host.nextAcc p (running svcModeSetSpec p s) = _ := if_neg (by rw [hnow, hn]; decide)
  refine served_ran rfl h fun t ht => ?_
  obtain ⟨_, _, _, _, _, hr⟩ := running_host svcModeSetSpec p s
  rw [ran, hr] at ht
  obtain ⟨_, _, _, _, _, rfl⟩ := ht
  exact ⟨_, _, _, rfl⟩

/-! Self-trim (R539, R545). -/

/-- The first trim that waits begins where the spare is free for it and its channel is VALID. -/
theorem State.nextTrims_begins {n : Nat} {q : Nat × TrimKind} {rest : List (Nat × TrimKind)} {s v : State} (h : s.svc.trimQueue = q :: rest)
    (hv : v = { s with svc := { s.svc with trimQueue := rest } }) (hs : s.spareTaken q.1 = false) (hb : (v.beginTrim q.1 q.2).2 = true) :
    s.nextTrims (n + 1) = (v.beginTrim q.1 q.2).1 := by
  unfold State.nextTrims
  rw [h]
  dsimp only
  rw [← hv]
  exact (if_neg (Bool.eq_false_iff.mp hs)).trans (if_pos hb)

/-- A trim that no other precedes begins where its front end can be trimmed (R539). -/
theorem State.askTrim_begins {fe : Nat} {kind : TrimKind} {s : State} (ht : s.svc.trim = none) (hq : s.svc.trimQueue = [])
    (hs : s.spareTaken fe = false) (hv : s.trimInPlace fe = true ∨ s.fbkValid fe = true) :
    ∃ x, (s.askTrim fe kind).svc.trim = some x ∧ x.fe = fe ∧ x.kind = kind := by
  obtain ⟨v, hv'⟩ : ∃ v : State, v = { s with svc := { s.svc with trimQueue := [] } } := ⟨_, rfl⟩
  obtain ⟨hvs, hvv⟩ : v.trimInPlace fe = s.trimInPlace fe ∧ v.fbkValid fe = s.fbkValid fe := by
    rw [hv']
    exact ⟨rfl, rfl⟩
  have begins : (v.beginTrim fe kind).2 = true ∧ ∃ x, (v.beginTrim fe kind).1.svc.trim = some x ∧ x.fe = fe ∧ x.kind = kind := by
    unfold State.beginTrim
    dsimp only
    split
    · exact ⟨rfl, _, rfl, rfl, rfl⟩
    · next hi =>
      rw [hvs] at hi
      rw [hvv, hv.resolve_left hi, if_pos rfl]
      exact ⟨rfl, _, rfl, rfl, rfl⟩
  have asked : s.askTrim fe kind = (v.beginTrim fe kind).1 := by
    unfold State.askTrim
    refine (if_pos (Option.isNone_iff_eq_none.mpr ht)).trans ?_
    exact State.nextTrims_begins (q := (fe, kind)) (congrArg (· ++ [(fe, kind)]) hq) hv' hs begins.1
  rw [asked]
  exact begins.2

/-- A trim asked for while one runs waits for it (R539). -/
theorem State.askTrim_waits {fe : Nat} {kind : TrimKind} {s : State} (ht : s.svc.trim.isSome) :
    s.askTrim fe kind = { s with svc := { s.svc with trimQueue := s.svc.trimQueue ++ [(fe, kind)] } } := by
  unfold State.askTrim
  exact if_neg (by rw [Option.isNone_eq_false_iff.mpr ht]; decide)

/-- A trim command asks for its trim once it is accepted. -/
theorem served_trim {c : CmdSpec} {p : Packet} {s u : State} {i : Instr} {fe : Nat} {kind : TrimKind} (hx : exec i s = serve c p s)
    (h : startsNow c p s = true) (hu : Replied (running c p s) u) (hr : (c.run s.host.nextAcc p (running c p s)).1 = u.askTrim fe kind)
    (hs : (running c p s).spareTaken fe = false) :
    (s.svc.trim = none → s.svc.trimQueue = [] → s.trimInPlace fe = true ∨ s.fbkValid fe = true →
      Reaches i s fun t => ∃ x, t.svc.trim = some x ∧ x.fe = fe ∧ x.kind = kind) ∧
    (s.svc.trim.isSome → Reaches i s fun t => t.svc.trim = s.svc.trim ∧ t.svc.trimQueue = s.svc.trimQueue ++ [(fe, kind)]) := by
  obtain ⟨hsvc, -, -, hi, hf, -, -⟩ := running_svc c p s
  have svc : u.svc = s.svc := hu.svc_eq.trans hsvc
  obtain ⟨hus, hui, huf⟩ : u.spareTaken fe = false ∧ u.trimInPlace fe = s.trimInPlace fe ∧ u.fbkValid fe = s.fbkValid fe := by
    rw [← hi, ← hf, ← hs]
    obtain ⟨_, _, _, _, _, rfl⟩ := hu
    exact ⟨rfl, rfl, rfl⟩
  refine ⟨fun ht hq hv => ?_, fun ht => ?_⟩
  · refine served_ran_svc (P := fun v => ∃ x, v.trim = some x ∧ x.fe = fe ∧ x.kind = kind) hx h hr ?_
    exact State.askTrim_begins (svc ▸ ht) (svc ▸ hq) hus (hui ▸ huf ▸ hv)
  · refine served_ran_svc (P := fun v => v.trim = s.svc.trim ∧ v.trimQueue = s.svc.trimQueue ++ [(fe, kind)]) hx h hr ?_
    rw [State.askTrim_waits (svc ▸ ht), svc]
    exact ⟨rfl, rfl⟩

theorem spareFree {c : CmdSpec} {p : Packet} {s : State} {fe : Nat} {b : Bool} (h : startsNow c p s = true)
    (hm : (b || (taken p s).spareTaken fe, stTrimState) ∈ c.checks p (taken p s)) : (running c p s).spareTaken fe = false := by
  have free := (Bool.or_eq_false_iff.mp (firstFail_none (checks_of h).2.1 _ hm)).2
  obtain ⟨_, ht⟩ := taken_eq p s
  obtain ⟨_, _, _, _, _, hr⟩ := running_host c p s
  rw [ht] at free
  rw [hr]
  exact free

theorem svcTrimRun_reaches {p : Packet} {s : State} (h : startsNow svcTrimRunSpec p s = true) :
    (s.svc.trim = none → s.svc.trimQueue = [] → s.trimInPlace (p.fld 0 1) = true ∨ s.fbkValid (p.fld 0 1) = true →
      Reaches (.svcTrimRun p) s fun t => ∃ x, t.svc.trim = some x ∧ x.fe = p.fld 0 1 ∧ x.kind = .run s.host.nextAcc) ∧
    (s.svc.trim.isSome → Reaches (.svcTrimRun p) s fun t => t.svc.trim = s.svc.trim ∧
      t.svc.trimQueue = s.svc.trimQueue ++ [(p.fld 0 1, .run s.host.nextAcc)]) :=
  served_trim rfl h (State.answer_replied p 0xF004 false stAccepted [] _) rfl
    (spareFree h (List.mem_cons_of_mem _ (List.mem_cons_of_mem _ (List.mem_cons_self ..))))

theorem svcTrimCapture_reaches {p : Packet} {s : State} (h : startsNow svcTrimCaptureSpec p s = true) :
    (s.svc.trim = none → s.svc.trimQueue = [] → s.trimInPlace (p.fld 8 1) = true ∨ s.fbkValid (p.fld 8 1) = true →
      Reaches (.svcTrimCapture p) s fun t => ∃ x, t.svc.trim = some x ∧ x.fe = p.fld 8 1 ∧ x.kind = .capture s.host.nextAcc (p.fld 0 8)) ∧
    (s.svc.trim.isSome → Reaches (.svcTrimCapture p) s fun t => t.svc.trim = s.svc.trim) := by
  obtain ⟨begins, waits⟩ := served_trim (s := s) (i := .svcTrimCapture p) rfl h (State.answer_replied p 0xF005 false stAccepted [] _) rfl
    (spareFree h (List.mem_cons_of_mem _ (List.mem_cons_of_mem _ (List.mem_cons_self ..))))
  exact ⟨begins, fun ht => (waits ht).imp fun _ hu => hu.1⟩

theorem State.setFront_frontEnd_same {fe : Nat} (f : FrontEnd → FrontEnd) {s : State} (hl : fe < s.svc.frontEnds.length) :
    (s.setFront fe f).frontEnd fe = f (s.frontEnd fe) :=
  (updAt_getD ..).trans (if_pos ⟨rfl, hl⟩)

/-- A front end whose delta is the given one, slewing from its start. -/
def State.SlewsTo (fe : Nat) (d : List Int) (s : State) : Prop :=
  fe < s.svc.frontEnds.length ∧ (s.frontEnd fe).delta = d ∧ (s.frontEnd fe).slewDone = 0

/-- A change of a front end that leaves its delta and slew leaves what it slews to. -/
theorem State.SlewsTo.setFront {fe : Nat} {d : List Int} {s : State} (h : s.SlewsTo fe d) (f : FrontEnd → FrontEnd)
    (hf : ∀ x, (f x).delta = x.delta ∧ (f x).slewDone = x.slewDone) : (s.setFront fe f).SlewsTo fe d := by
  obtain ⟨hl, hd, hs⟩ := h
  refine ⟨(updAt_length ..).symm ▸ hl, ?_⟩
  rw [State.setFront_frontEnd_same f hl, (hf _).1, (hf _).2]
  exact ⟨hd, hs⟩

theorem State.applyDelta_slews {fe : Nat} (d : List Int) {s : State} (hl : fe < s.svc.frontEnds.length) : (s.applyDelta fe d).SlewsTo fe d := by
  refine ⟨(updAt_length ..).symm ▸ hl, ?_⟩
  unfold State.applyDelta
  rw [State.setFront_frontEnd_same _ hl]
  exact ⟨rfl, rfl⟩

/-- Host-computed deltas are in use from the next conversion (R543, R545). -/
theorem svcTrimSet_reaches {p : Packet} {s : State} (h : startsNow svcTrimSetSpec p s = true) (hl : p.fld 0 1 < s.svc.frontEnds.length) :
    Reaches (.svcTrimSet p) s fun t => (t.frontEnd (p.fld 0 1)).delta = deltaOf (slice p.params 8 10) ∧ (t.frontEnd (p.fld 0 1)).slewDone = 0 := by
  obtain ⟨d, hd⟩ : ∃ d, d = deltaOf (slice p.params 8 10) := ⟨_, rfl⟩
  have slews : (svcTrimSetSpec.run s.host.nextAcc p (running svcTrimSetSpec p s)).1.SlewsTo (p.fld 0 1) d := by
    have noted : (((running svcTrimSetSpec p s).applyDelta (p.fld 0 1) d).noteTrim (p.fld 0 1) 1 0 d).SlewsTo (p.fld 0 1) d :=
      (State.applyDelta_slews d ((running_svc svcTrimSetSpec p s).1.symm ▸ hl)).setFront _ fun _ => ⟨rfl, rfl⟩
    unfold svcTrimSetSpec
    dsimp only
    rw [← hd]
    split
    · exact noted.setFront _ fun _ => ⟨rfl, rfl⟩
    · exact noted
  rw [← hd]
  exact served_ran_svc (i := .svcTrimSet p)
    (P := fun v => (v.frontEnds.getD (p.fld 0 1) {}).delta = d ∧ (v.frontEnds.getD (p.fld 0 1) {}).slewDone = 0) rfl h rfl slews.2

/-! Loopback and self-test (R546, R547). -/

theorem svcLoopback_reaches {p : Packet} {s : State} (h : startsNow svcLoopbackSpec p s = true) : Reaches (.svcLoopback p) s fun t =>
    ∃ l, t.svc.loopback = s.svc.loopback ++ [l] ∧ l.acc = s.host.nextAcc ∧ l.iface = p.fld 0 1 ∧ l.index = p.fld 1 1 ∧
      l.endsAt = max s.dt p.t + 16000000 * p.fld 4 4 := by
  obtain ⟨hsvc, hdt, -⟩ := running_svc svcLoopbackSpec p s
  refine served_ran_svc (i := .svcLoopback p) (P := fun v => ∃ l, v.loopback = s.svc.loopback ++ [l] ∧ l.acc = s.host.nextAcc ∧ l.iface = p.fld 0 1 ∧ l.index = p.fld 1 1 ∧
    l.endsAt = max s.dt p.t + 16000000 * p.fld 4 4) rfl h rfl ⟨_, congrArg (fun v : Service => v.loopback ++ [_]) hsvc, rfl, rfl, rfl, ?_⟩
  rw [← hdt]

theorem svcSelfTest_reaches {p : Packet} {s : State} (h : startsNow svcSelfTestSpec p s = true) :
    Reaches (.svcSelfTest p) s (Served p s { s with svc := { s.svc with selfTest := some (s.host.nextAcc, p.fld 0 1) } }) := by
  refine served_ran rfl h fun t ht => ?_
  obtain ⟨_, _, _, _, _, hr⟩ := running_host svcSelfTestSpec p s
  rw [hr] at ht
  obtain ⟨_, _, _, _, _, rfl⟩ := ht
  exact ⟨_, _, _, rfl⟩

/-- Settles O51. That a trim asked for while one runs waits for it is the model's choice (log entry 30). -/
theorem serviceCommandsAct : Obligations.ServiceCommandsAct := fun _ _ =>
  ⟨svcFwLoad_reaches, svcFwSwitch_reaches, svcFwCommit_reaches, fun h => ⟨svcModeSet_now h, svcModeSet_waits h⟩, svcTrimRun_reaches,
    svcTrimCapture_reaches, svcTrimSet_reaches, svcLoopback_reaches, svcSelfTest_reaches⟩

end Sys2Proof.Machine
end

section
/-! PROOFS. What SAFE leaves of the cycle, the supplies and the islands; the resets and the supplies (21): O54, O55. -/

namespace Sys2Proof.Machine

/-- `t` has the cycle, the supplies and the islands of `s`. -/
def Steady (s t : State) : Prop := t.cyc = s.cyc ∧ t.power = s.power ∧ t.svc.islands = s.svc.islands

/-- `t` has the supplies and the islands of `s`. -/
def Supported (s t : State) : Prop := t.power = s.power ∧ t.svc.islands = s.svc.islands

theorem Supported.refl (s : State) : Supported s s := ⟨rfl, rfl⟩

theorem Supported.trans {s t u : State} (h : Supported s t) (g : Supported t u) : Supported s u := ⟨g.1.trans h.1, g.2.trans h.2⟩

namespace Steady

theorem refl (s : State) : Steady s s := ⟨rfl, rfl, rfl⟩

theorem trans {s t u : State} (h : Steady s t) (g : Steady t u) : Steady s u := ⟨g.1.trans h.1, g.2.1.trans h.2.1, g.2.2.trans h.2.2⟩

theorem supported {s t : State} (h : Steady s t) : Supported s t := h.2

theorem ite {s t u : State} {c : Prop} [Decidable c] (ht : Steady s t) (hu : Steady s u) : Steady s (if c then t else u) := by
  split
  · exact ht
  · exact hu

theorem of_replied {s t : State} (h : Replied s t) : Steady s t := by
  obtain ⟨_, _, rfl⟩ := h.exists_eq
  exact refl s

theorem of_written {s t : State} (h : LayWritten s t) : Steady s t := by
  obtain ⟨_, _, _, _, _, _, _, rfl⟩ := h
  exact refl s

theorem of_driven {s t : State} (h : Driven s t) : Steady s t := by
  obtain ⟨_, _, _, _, rfl, _⟩ := h
  exact refl s

theorem of_banksDropped {s t : State} (h : BanksDropped s t) : Steady s t := by
  obtain ⟨_, _, _, rfl⟩ := h
  exact refl s

theorem of_told {s t : State} (h : PeerTold s t) : Steady s t := by
  obtain ⟨_, _, rfl⟩ := h
  exact refl s

theorem of_recorded {s t : State} (h : Recorded s t) : Steady s t := by
  obtain ⟨_, rfl⟩ := h
  exact refl s

variable {s t : State}

/-- A change of other fields. -/
theorem update {pending dt fresh tx par parPending deferred otp host fw modes modeReq frontEnds trim trimQueue nextTrim lastPeriod spareWrite loopback
    selfTest rowsTested rowsRepaired margin recorder streams sig lay mps loop ledger img mot fbk emd dma int mem head las gut net pair dram flash}
    (h : Steady s t) : Steady s ⟨pending, dt, fresh, tx, par, parPending, deferred, otp, t.cyc, host, t.power,
      ⟨t.svc.islands, fw, modes, modeReq, frontEnds, trim, trimQueue, nextTrim, lastPeriod, spareWrite, loopback, selfTest, rowsTested, rowsRepaired,
        margin⟩, recorder, streams, sig, lay, mps, loop, ledger, img, mot, fbk, emd, dma, int, mem, head, las, gut, net, pair, dram, flash⟩ := h

/-- A fold of steps each of which leaves the cycle, the supplies and the islands. -/
theorem foldl {α : Type} {f : State → α → State} (hf : ∀ {t : State} (a : α), Steady s t → Steady s (f t a)) {l : List α} (h : Steady s t) :
    Steady s (l.foldl f t) := by
  induction l generalizing t with
  | nil => exact h
  | cons a l ih => exact ih (hf a h)

theorem complete {a st : Nat} {r : List Byte} (h : Steady s t) : Steady s (t.complete a st r) := h.trans (.of_replied (State.complete_replied ..))
theorem completeAll {l : List Nat} {st : Nat} (h : Steady s t) : Steady s (t.completeAll l st) := h.trans (.of_replied (State.completeAll_replied ..))

/-! The layer and its record. -/

theorem listUnexposed (h : Steady s t) : Steady s t.listUnexposed :=
  foldl (fun _ h' => h'.trans (.of_written (State.layOut_written ..))) (update h)

theorem append {i : Nat} {gap : Gap → List Byte} {keep : Bool} {bs : List Byte} (h : Steady s t) : Steady s (t.append i gap keep bs).1 :=
  h.trans (.of_written (State.append_written ..))

theorem buildEntry {type : Nat} {payload : List Byte} (h : Steady s t) : Steady s (t.buildEntry type payload) :=
  h.trans (.of_written (State.buildEntry_written ..))

theorem closeGap (h : Steady s t) : Steady s t.closeGap := by
  unfold State.closeGap
  split
  · exact h
  · exact update (update (append (update h)))

theorem endBuild {slot counter : Nat} (h : Steady s t) : Steady s (t.endBuild slot counter).1 := by
  unfold State.endBuild
  dsimp only
  split
  · exact closeGap h
  · exact update (buildEntry (closeGap h))

theorem layerSummary {outcome : Nat} (h : Steady s t) : Steady s (t.layerSummary outcome) := by
  unfold State.layerSummary
  dsimp only
  refine ite h ?_
  have summed {type : Nat} {payload : List Byte} : Steady s (t.closeGap.buildEntry type payload) := buildEntry (closeGap h)
  split
  · exact update summed
  · exact complete (endBuild (update summed))

theorem clearLay (h : Steady s t) : Steady s t.clearLay := update (foldl (fun _ h' => update h') h)

/-! What waited. -/

theorem abortPending (h : Steady s t) : Steady s t.abortPending := foldl (fun _ h' => complete h') (update h)
theorem abortModes (h : Steady s t) : Steady s t.abortModes := completeAll (update h)
theorem dropLoads (h : Steady s t) : Steady s t.dropLoads := foldl (fun _ h' => completeAll (update (update h'))) h
theorem dropRestores (h : Steady s t) : Steady s t.dropRestores := foldl (fun _ h' => completeAll (update h')) h
theorem abortQuire (h : Steady s t) : Steady s t.abortQuire := foldl (fun _ h' => ite h' (complete (update h'))) h

/-! Axes and emitters. -/

theorem stopAllAxes (h : Steady s t) : Steady s t.stopAllAxes :=
  .trans (foldl (fun _ h' => h'.trans (.of_driven (State.quickStop_driven ..))) (update h)) (.of_replied (State.endMove_replied ..))

theorem endLatch {b st : Nat} {r : List Byte} (h : Steady s t) : Steady s (t.endLatch b st r) := by
  unfold State.endLatch
  split
  · exact complete (update h)
  · exact h

theorem emdDark {b : Nat} (h : Steady s t) : Steady s (t.emdDark b) :=
  ite (ite (update (endLatch h)) (update (update (endLatch h)))) (update (endLatch h))
theorem emdSafe (h : Steady s t) : Steady s t.emdSafe := foldl (fun _ h' => update (emdDark h')) h

/-! Trims. -/

theorem trimDone {kind : TrimKind} {st : Nat} (h : Steady s t) : Steady s (t.trimDone kind st) := by
  unfold State.trimDone
  split
  · exact complete h
  · exact h

theorem noteTrim {fe result residual : Nat} {candidate : List Int} (h : Steady s t) : Steady s (t.noteTrim fe result residual candidate) :=
  update (update h)

theorem restartTrack {c : Nat} (h : Steady s t) : Steady s (t.restartTrack c) := update (foldl (fun _ h' => update h') (update h))

theorem setSpare {v : Nat} (h : Steady s t) : Steady s (t.setSpare v) := ite h (restartTrack (update h))

theorem beginTrim {fe : Nat} {kind : TrimKind} (h : Steady s t) : Steady s (t.beginTrim fe kind).1 := by
  unfold State.beginTrim
  split
  · exact update h
  · split
    · exact update h
    · exact noteTrim h

theorem nextTrims {n : Nat} (h : Steady s t) : Steady s (t.nextTrims n) := by
  induction n generalizing t with
  | zero => exact h
  | succ n ih =>
    unfold State.nextTrims
    dsimp only
    split
    · exact h
    · exact ite (ih (trimDone (update h))) (ite (beginTrim (update h)) (ih (trimDone (beginTrim (update h)))))

theorem trimOver (h : Steady s t) : Steady s t.trimOver := nextTrims (foldl (fun _ h' => complete (setSpare h')) (update h))

theorem abandonCommandTrims (h : Steady s t) : Steady s t.abandonCommandTrims := by
  unfold State.abandonCommandTrims
  dsimp only
  split
  · exact ite (update h) (trimOver (trimDone (noteTrim (update h))))
  · exact update h

theorem safeCapture (h : Steady s t) : Steady s t.safeCapture := update h
theorem abortService (h : Steady s t) : Steady s t.abortService := update (completeAll (abandonCommandTrims h))

/-! BOOT and the sets of cores. -/

theorem writeEntries {a seq : Nat} {es : List JEntry} (h : Steady s t) : Steady s (writeEntries a seq es t).1 := by
  induction es generalizing a seq t with
  | nil => exact h
  | cons e es ih => exact ih (update h)

theorem compact (h : Steady s t) : Steady s t.compact := update (update (writeEntries (update h)))

theorem recoverJournal (h : Steady s t) : Steady s t.recoverJournal.1 := by
  have fixed {x : JScan} : Steady s (x.fixes.foldl (fun (s : State) (f : Nat × Nat) => (s.flashWrite f.1 [0#8]).logEvent 0xE003 255 1 f.2) t) :=
    foldl (fun _ h' => update (update h')) h
  have torn {x : JScan} {next : Nat} : Steady s (if x.torn then
      (x.fixes.foldl (fun (s : State) (f : Nat × Nat) => (s.flashWrite f.1 [0#8]).logEvent 0xE003 255 1 f.2) t).logEvent 0xE003 255 1 next
      else x.fixes.foldl (fun (s : State) (f : Nat × Nat) => (s.flashWrite f.1 [0#8]).logEvent 0xE003 255 1 f.2) t) :=
    ite (update fixed) fixed
  unfold State.recoverJournal
  extract_lets size scan a0 a1 gen valid done v0 v1 c0 c1 erased
  split
  · exact update (update h)
  · split
    · exact update (update h)
    · exact ite (compact (update (update torn))) (update torn)

theorem bootKeys {es : List JEntry} (h : Steady s t) : Steady s (t.bootKeys es) := by
  unfold State.bootKeys
  refine foldl (fun _ h' => ?_) h
  split
  · split
    · exact update h'
    · split
      · exact update h'
      · split
        · exact update (update h')
        · exact update (update h')
        · exact update h'
  · split
    · exact update h'
    · split
      · exact update h'
      · split
        · exact update (update h')
        · exact update (update h')
        · exact update h'

theorem coreWrite {c fallback : Nat} {online : Bool} (h : Steady s t) : Steady s (t.coreWrite c fallback online) :=
  ite (update h) (foldl (fun _ h' => update h') (update h))

theorem setOnline {set : Nat} (h : Steady s t) : Steady s (t.setOnline set) := foldl (fun _ h' => coreWrite h') h
theorem setOffline {set : Nat} (h : Steady s t) : Steady s (t.setOffline set) := foldl (fun _ h' => coreWrite h') h

end Steady

/-! SAFE (R36 to R38). -/

/-- A transition leaves the supplies and the islands. -/
theorem State.setState_supported (new : DevState) (cause : Nat) (s : State) : Supported s (s.setState new cause) := by
  obtain ⟨_, _, hs⟩ := s.setState_eq new cause
  rw [hs]
  exact .refl s

/-- SAFE is entered with its cause and no layers left; the supplies and the islands stand as they were. -/
theorem State.enterSafe_acts {s : State} (cause : Nat) (self : Option Nat) (hs : s.cyc.state ≠ .safe) : Supported s (s.enterSafe cause self) ∧
    (s.enterSafe cause self).cyc.state = .safe ∧ (s.enterSafe cause self).cyc.cause = cause ∧ (s.enterSafe cause self).cyc.layersLeft = 0 := by
  unfold State.enterSafe
  rw [if_neg hs]
  extract_lets s1 s2 s3 s4 head gut mot s5 accs
  have before : Steady s s1.stopAllAxes := .stopAllAxes (.ite (.layerSummary (.listUnexposed (.refl s))) (.refl s))
  obtain ⟨_, _, stated⟩ := s1.stopAllAxes.setState_eq .safe cause
  have waited : Steady (s1.stopAllAxes.setState .safe cause) s3.clearLay :=
    .clearLay (.abortService (.abortQuire (.trans (.dropRestores (.dropLoads (.abortModes (.abortPending (.update (.emdSafe (.refl _)))))))
      (.of_banksDropped (State.dropBanks_dropped _)))))
  have ended : Steady s5 (((s5.completeAll accs stAborted).safeCapture).tellPeer evHold cause) :=
    .trans (.safeCapture (.completeAll (.refl s5))) (.of_told (State.tellPeer_told ..))
  have entered : s3.clearLay.cyc.state = .safe ∧ s3.clearLay.cyc.cause = cause := by
    rw [waited.1, stated]
    exact ⟨rfl, rfl⟩
  clear_value s3
  have idled : s5.cyc.state = s3.clearLay.cyc.state ∧ s5.cyc.cause = s3.clearLay.cyc.cause ∧ s5.cyc.layersLeft = 0 := ⟨rfl, rfl, rfl⟩
  have idle : Supported s3.clearLay s5 := ⟨rfl, rfl⟩
  clear_value s5
  rw [ended.1, idled.1, idled.2.1]
  exact ⟨before.supported.trans ((State.setState_supported ..).trans (waited.supported.trans (idle.trans ended.supported))), entered.1, entered.2,
    idled.2.2⟩

theorem State.enterSafe_state (cause : Nat) (self : Option Nat) (s : State) : (s.enterSafe cause self).cyc.state = .safe := by
  by_cases h : s.cyc.state = .safe
  · rw [show s.enterSafe cause self = s from if_pos h, h]
  · exact (State.enterSafe_acts cause self h).2.1

theorem State.enterSafe_supported (cause : Nat) (self : Option Nat) (s : State) : Supported s (s.enterSafe cause self) := by
  by_cases h : s.cyc.state = .safe
  · rw [show s.enterSafe cause self = s from if_pos h]
    exact .refl s
  · exact (State.enterSafe_acts cause self h).1

/-! Resets (R554 to R557). -/

/-- What a reset tears of the journal entry being written lies in the flash; nothing tears where none is written (Table 21.4). -/
theorem State.tornJournal_eq (s : State) : ∃ fl n, s.tornJournal = { s with flash := fl, fresh := n } ∧
    (s.recorder.journal.queue = [] → fl = s.flash) := by
  unfold State.tornJournal
  split
  · exact ⟨_, _, rfl, fun _ => rfl⟩
  · next hq =>
    have busy {fl : Mem} : s.recorder.journal.queue = [] → fl = s.flash := fun h => nomatch hq.symm.trans h
    dsimp only
    split
    · exact ⟨_, _, rfl, fun _ => rfl⟩
    · split <;> exact ⟨_, _, rfl, busy⟩

/-- A log that is not frozen is kept as it stands (R504). -/
theorem State.keptLog_log {s : State} (h : s.recorder.frozen = none) : s.keptLog.log = s.recorder.log :=
  congrArg (fun v : State => v.recorder.log) (if_pos (Option.isNone_iff_eq_none.mpr h) : s.unfreeze = s)

/-- `u` is in RESET with `cause`, restarted from `s` (R557). -/
def Restarted (cause : Nat) (s u : State) : Prop :=
  u.cyc.state = .reset ∧ u.dt = 0 ∧ u.power.resetCause = cause ∧ u.otp = s.otp ∧ u.par = [] ∧ u.host = {} ∧ u.dram = [] ∧
    (s.recorder.journal.queue = [] → u.flash = s.flash) ∧ (s.recorder.frozen = none → u.recorder.log = s.recorder.log)

theorem State.resetBy_restarted (cause : Nat) (s : State) : Restarted cause s (s.resetBy cause) := by
  obtain ⟨fl, n, ht, hfl⟩ := s.tornJournal_eq
  unfold State.resetBy
  rw [ht]
  exact ⟨rfl, rfl, rfl, rfl, rfl, rfl, rfl, hfl, fun hf => State.keptLog_log (s := { s with flash := fl, fresh := n }) hf⟩

theorem State.resetFrom_restarted (cause : Nat) {s : State} (hup : s.up = true) : Restarted cause s (s.resetFrom cause) := by
  rw [show s.resetFrom cause = _ from if_pos hup]
  exact s.resetBy_restarted cause

/-- An event of the reset inputs that restarts the device leaves what commands wait for. -/
theorem restart_reaches {i : Instr} {s u v : State} {t cause : Nat} {f : State → State} (hx : exec i s = s.eventReset t f) (hf : f (s.at t) = u)
    (hv : Restarted cause v u) (ho : v.otp = s.otp) (hl : v.flash = s.flash) (hr : v.recorder = s.recorder) :
    Reaches i s fun u => u.cyc.state = .reset ∧ u.dt = 0 ∧ u.power.resetCause = cause ∧ u.otp = s.otp ∧ u.par = [] ∧ u.host = {} ∧ u.dram = [] ∧
      u.pending = s.pending ∧ (s.recorder.journal.queue = [] → u.flash = s.flash) ∧ (s.recorder.frozen = none → u.recorder.log = s.recorder.log) := by
  obtain ⟨hs, hd, hc, hotp, hp, hh, hm, hfl, hlog⟩ := hv
  rw [hr, hl] at hfl
  rw [hr] at hlog
  exact ⟨_, hx, hf.symm ▸ ⟨hs, hd, hc, hotp.trans ho, hp, hh, hm, rfl, hfl, hlog⟩⟩

theorem on_of_up {s : State} (hup : s.up = true) : s.cyc.state ≠ .off := fun h => absurd hup (by simp [State.up, h])

theorem resetPin_restarts {t n : Nat} {s : State} (hup : s.up = true) (hn : 1000 ≤ n) : Reaches (.resetPin t n) s fun u =>
    u.cyc.state = .reset ∧ u.dt = 0 ∧ u.power.resetCause = 1 ∧ u.otp = s.otp ∧ u.par = [] ∧ u.host = {} ∧ u.dram = [] ∧ u.pending = s.pending ∧
      (s.recorder.journal.queue = [] → u.flash = s.flash) ∧ (s.recorder.frozen = none → u.recorder.log = s.recorder.log) := by
  obtain ⟨v, hv⟩ : ∃ v : State, v = { s.at t with power := { (s.at t).power with
    pinUntil := max (s.at t).power.pinUntil ((s.at t).dt + nsDt * n) } } := ⟨_, rfl⟩
  have acts : State.resetPin n (s.at t) = v.resetFrom 1 := by
    unfold State.resetPin
    extract_lets f act s1
    have h1 : s1 = s.at t := if_pos (.inr hn)
    have ha : act = true := (if_neg (by omega)).trans (if_pos hn)
    rw [if_neg (by rw [ha]; exact fun h => h.elim (on_of_up hup) (by decide)), hv]
    exact congrArg (fun x : State => State.resetFrom 1 { x with power := { x.power with
      pinUntil := max x.power.pinUntil (x.dt + nsDt * n) } }) h1
  have hvup : v.up = true := by rw [hv]; exact hup
  exact restart_reaches (rfl : exec (.resetPin t n) s = _) acts (State.resetFrom_restarted 1 hvup) (by rw [hv]; rfl) (by rw [hv]; rfl) (by rw [hv]; rfl)

/-- Settles O54. That DRAM reads as nothing after a reset, and that the log stands through one, are the model's choices (log entries 3 and 24). -/
theorem resetsRestart : Obligations.ResetsRestart := by
  rintro t s i cause hup (⟨n, rfl, hn, rfl⟩ | ⟨⟨r, hr, hd⟩, rfl, rfl⟩ | ⟨rfl, rfl⟩ | ⟨die, temp, rfl, hdie, htemp, rfl⟩)
  · exact resetPin_restarts hup hn
  · have due : State.resetDue (s.at t) = (s.at t).resetFrom 2 := by
      unfold State.resetDue
      rw [show (s.at t).host.resetAt = some r from hr]
      exact if_pos hd
    exact restart_reaches (rfl : exec (.deviceResetDelayEnd t) s = _) due (State.resetFrom_restarted (s := s.at t) 2 hup) rfl rfl rfl
  · exact restart_reaches (rfl : exec (.watchdogReset t) s = _) rfl (State.resetFrom_restarted (s := s.at t) 3 hup) rfl rfl rfl
  · exact restart_reaches (rfl : exec (.junctionOver125 t die temp) s = _) (if_pos ⟨hdie, htemp, on_of_up hup⟩)
      (State.resetFrom_restarted (s := (s.at t).heatUp die temp) 4 hup) rfl rfl rfl

/-! BOOT (R561). -/

theorem State.bootEnd_state (es : List JEntry) (pass : Bool) (s : State) :
    (s.bootEnd es pass).cyc.state = .standby ∨ (s.bootEnd es pass).cyc.state = .safe := by
  unfold State.bootEnd
  split
  · exact .inr (State.enterSafe_state ..)
  · obtain ⟨_, _, _, _, _, _, _, _, _, he, -⟩ := State.enterStandby_entered 0
      ((((s.checkLog).importCapture es).bootTrims es).clearLedger 0 |>.setBoot fun (b : BootStatus) => { b with result := 1, standbyDt := s.dt })
    exact .inl (congrArg (fun v : State => v.cyc.state) he)

theorem State.bootFrom_state (es : List JEntry) (b : BootInputs) (s : State) (h : s.cyc.state = .boot) :
    (s.bootFrom es b).cyc.state = .boot ∨ (s.bootFrom es b).cyc.state = .standby ∨ (s.bootFrom es b).cyc.state = .safe := by
  have booted : (s.bootKeys es).cyc.state = .boot := (congrArg Cycle.state (Steady.bootKeys (.refl s)).1).trans h
  unfold State.bootFrom
  dsimp only
  split
  · exact .inl booted
  · split
    · exact .inl booted
    · exact .inr (State.bootEnd_state ..)

/-- BOOT ends in BOOT, STANDBY or SAFE. -/
theorem State.boot_state (b : BootInputs) (s : State) :
    (s.boot b).cyc.state = .boot ∨ (s.boot b).cyc.state = .standby ∨ (s.boot b).cyc.state = .safe := by
  unfold State.boot
  dsimp only
  split
  · exact .inl rfl
  · split
    · exact .inl rfl
    · refine State.bootFrom_state _ b _ ?_
      exact (congrArg Cycle.state (Steady.recoverJournal (.refl _)).1).trans rfl

/-! Supplies and warnings (R549 to R551). -/

theorem powered_reaches {i : Instr} {s u : State} {t : Nat} {f : State → State} {P : State → Prop} (hx : exec i s = s.eventPowered t f)
    (hon : s.cyc.state ≠ .off) (hf : f (s.at t) = u) (h : P { u with dt := max s.dt t, pending := s.pending }) : Reaches i s P :=
  ⟨_, hx.trans (if_neg hon), hf.symm ▸ h⟩

/-- A state that permits SAFE is left for it with the cause; the supplies stand as they were. -/
theorem State.safeFrom_acts {s : State} (cause : Nat) (hs : s.cyc.state ∈ safeStates) :
    (s.safeFrom cause).cyc.state = .safe ∧ (s.safeFrom cause).cyc.cause = cause ∧ (s.safeFrom cause).power = s.power := by
  have elsewhere : s.cyc.state ≠ .safe := fun h => absurd (h ▸ hs) (by decide)
  obtain ⟨⟨power, -⟩, state, because, -⟩ := State.enterSafe_acts cause none elsewhere
  rw [show s.safeFrom cause = _ from if_pos (List.contains_iff_mem.mpr hs)]
  exact ⟨state, because, power⟩

theorem on_of_safeStates {s : State} (hs : s.cyc.state ∈ safeStates) : s.cyc.state ≠ .off := fun h => absurd (h ▸ hs) (by decide)

theorem railsIn_reaches {t : Nat} {s : State} (h : s.cyc.state = .off) : Reaches (.railsInWindow t) s fun u =>
    u.cyc.state = .reset ∧ u.dt = 0 ∧ u.power.resetCause = 0 ∧ u.recorder.log = [] ∧ u.flash = s.flash ∧ u.otp = s.otp := by
  have began : State.railsIn (s.at t) = _ := if_pos h
  exact ⟨_, rfl, began ▸ ⟨rfl, rfl, rfl, rfl, rfl, rfl⟩⟩

theorem railOut_reaches {t rail : Nat} {s : State} (h : s.cyc.state ≠ .off) (hr : rail < 8) : Reaches (.railOutOfWindow t rail) s fun u =>
    u.cyc.state = .off ∧ u.dram = [] ∧ u.otp = s.otp := by
  have ends : (s.at t).railOut = _ := if_neg h
  obtain ⟨fl, n, ht, -⟩ := (s.at t).tornJournal_eq
  refine ⟨_, rfl, ?_⟩
  dsimp only
  rw [if_pos hr, ends, ht]
  exact ⟨rfl, rfl, rfl⟩

theorem supplyWarning_reaches {t rail : Nat} {s : State} (hs : s.cyc.state ∈ safeStates) (hr : rail < 8) : Reaches (.supplyWarning t rail) s fun u =>
    u.cyc.state = .safe ∧ u.cyc.cause = causeSupply ∧ u.power.warn = putBit s.power.warn rail true := by
  obtain ⟨state, cause, power⟩ := State.safeFrom_acts (s := { s.at t with power := { (s.at t).power with
    warn := putBit (s.at t).power.warn rail true, warnSeen := putBit (s.at t).power.warnSeen rail true } }) causeSupply hs
  exact powered_reaches (rfl : _ = execSupplyWarning t rail s) (on_of_safeStates hs) (if_pos hr) ⟨state, cause, congrArg (·.warn) power⟩

theorem pwrfail_safe {t n : Nat} {s : State} (hs : s.cyc.state ∈ safeStates) (hn : 1000 ≤ n) : Reaches (.pwrfailAssert t n) s fun u =>
    u.cyc.state = .safe ∧ u.cyc.cause = causeSupply := by
  obtain ⟨state, cause, -⟩ := State.safeFrom_acts (s := { s.at t with power := { (s.at t).power with
    pwrfailUntil := max (s.at t).power.pwrfailUntil ((s.at t).dt + nsDt * n) } }) causeSupply hs
  exact powered_reaches (rfl : _ = execPwrfailAssert t n s) (on_of_safeStates hs) (if_pos hn) ⟨state, cause⟩

theorem pwrfail_short {t n : Nat} {s : State} (hs : s.cyc.state ≠ .off) (hn : n < 1000) : Reaches (.pwrfailAssert t n) s fun u => u.cyc = s.cyc :=
  powered_reaches (rfl : _ = execPwrfailAssert t n s) hs (if_neg (Nat.not_le.mpr hn)) rfl

theorem junctionOver115_safe {t die : Nat} {temp : Int} {s : State} (hs : s.cyc.state ∈ safeStates) (hd : die < 3) (ht : 920 < temp) :
    Reaches (.junctionOver115 t die temp) s fun u => u.cyc.state = .safe ∧ u.cyc.cause = causeThermal := by
  obtain ⟨state, cause, -⟩ := State.safeFrom_acts (s := (s.at t).heatUp die temp) causeThermal hs
  exact powered_reaches (rfl : _ = execJunctionOver115 t die temp s) (on_of_safeStates hs) (if_pos ⟨hd, ht⟩) ⟨state, cause⟩

/-! The release from reset (R554, R561). -/

/-- The state in which BOOT begins: what a programmer wrote stands in the flash, and device time has come to BOOT's end (R558). -/
theorem State.releaseReset_boots {b : BootInputs} {s : State} (hm : s.mayRelease b = true) : ∃ v : State, s.releaseReset b = v.boot b ∧
    v.dt = max s.dt b.tEnd ∧ (b.programmed = [] → v.flash = s.flash) := by
  have wrote : (b.programmed.foldl (fun (s : State) (w : Nat × List Byte) => s.flashWrite w.1 w.2) s).dt = s.dt :=
    foldl_related (R := fun s t : State => t.dt = s.dt) (fun _ => rfl) (fun h g => g.trans h) (f := fun s (w : Nat × List Byte) => s.flashWrite w.1 w.2)
      (fun _ _ => rfl) _ s
  have released : s.releaseReset b = _ := if_neg (by rw [hm]; decide)
  refine ⟨_, released, congrArg (max · b.tEnd) wrote, fun hp => ?_⟩
  rw [hp]
  rfl

theorem resetRelease_reaches {t : Nat} {b : BootInputs} {s : State} (hm : (s.at t).mayRelease b = true) : Reaches (.resetRelease t b) s fun u =>
    u.dt = max (max s.dt t) b.tEnd ∧ (u.cyc.state = .boot ∨ u.cyc.state = .standby ∨ u.cyc.state = .safe) := by
  obtain ⟨v, hv, hd, -⟩ := State.releaseReset_boots hm
  refine ⟨_, rfl, ?_⟩
  rw [hv]
  obtain ⟨-, time, -⟩ := (Intact.refl v).boot (b := b)
  exact ⟨time.trans hd, v.boot_state b⟩

/-- A device without a valid board record stays in BOOT (Table 21.10). -/
theorem resetRelease_unconfigured {t : Nat} {b : BootInputs} {s : State} (hm : (s.at t).mayRelease b = true) (hp : b.programmed = [])
    (hn : s.boardRecord = none) : Reaches (.resetRelease t b) s fun u => u.cyc.state = .boot ∧ u.power.boot.result = 2 := by
  obtain ⟨v, hv, -, hfl⟩ := State.releaseReset_boots hm
  have read : ∀ a n, State.flashRead { v with cyc := { v.cyc with state := .boot }, host := { v.host with ready := true } } a n = s.flashRead a n :=
    fun a n => congrArg (fun m : Mem => State.flashRead { s with flash := m } a n) (hfl hp)
  refine ⟨_, rfl, ?_⟩
  rw [hv]
  unfold State.boot State.boardRecord
  unfold State.boardRecord at hn
  dsimp only at hn ⊢
  rw [read, read, hn]
  exact ⟨rfl, rfl⟩

/-- Settles O55. BOOT in one step, DRAM that reads as nothing, the empty log, and the details of supplies and temperatures are the model's choices
(log entries 3, 10, 24 and 25). -/
theorem powerEventsAct : Obligations.PowerEventsAct := fun _ _ =>
  ⟨railsIn_reaches, fun h _ hr => railOut_reaches h hr,
    fun hs => ⟨fun _ hr => supplyWarning_reaches hs hr, fun _ hn => pwrfail_safe hs hn, fun _ _ hd ht => junctionOver115_safe hs hd ht⟩,
    fun h _ hn => pwrfail_short h hn, fun _ hm => ⟨resetRelease_reaches hm, resetRelease_unconfigured hm⟩⟩

end Sys2Proof.Machine
end

section
/-! PROOFS. The version-2 opcodes of the layer cycle and of the quire (15): O38. -/

namespace Sys2Proof.Machine

/-- What the run of a command reads of the cycle is as it was. -/
theorem running_cyc (c : CmdSpec) (p : Packet) (s : State) : (running c p s).cyc = s.cyc ∧ (running c p s).dt = max s.dt p.t ∧
    (running c p s).sig = s.sig ∧ (running c p s).exposing = s.exposing ∧ (running c p s).host.fenceNumber = s.host.fenceNumber := by
  obtain ⟨_, _, _, _, _, hr⟩ := running_host c p s
  rw [hr]
  exact ⟨rfl, rfl, rfl, rfl, rfl⟩

theorem Replied.cyc_eq {s t : State} (h : Replied s t) : t.cyc = s.cyc := by
  obtain ⟨_, _, rfl⟩ := h.exists_eq
  rfl

/-- A command that starts leaves the cycle as its run does. -/
theorem served_ran_cyc {c : CmdSpec} {p : Packet} {s u : State} {i : Instr} {P : Cycle → Prop} (hx : exec i s = serve c p s)
    (h : startsNow c p s = true) (hr : (c.run s.host.nextAcc p (running c p s)).1 = u) (hP : P u.cyc) : Reaches i s fun t => P t.cyc :=
  served_ran hx h fun _ ht => Eq.subst (motive := P) ((ht.cyc_eq.trans (congrArg State.cyc hr))).symm hP

/-- A command that starts is permitted in the device's state. -/
theorem state_mem_of_permitIn {c : CmdSpec} {p : Packet} {s : State} {l : List DevState} (h : startsNow c p s = true)
    (hp : c.stateFail p (taken p s) = permitIn l (taken p s)) : s.cyc.state ∈ l := by
  have permitted := hp.symm.trans (checks_of h).1
  obtain ⟨_, ht⟩ := taken_eq p s
  rw [ht] at permitted
  unfold permitIn at permitted
  split at permitted
  · next hc => exact List.contains_iff_mem.mp hc
  · cases permitted

/-! READY (Table 01.10). -/

theorem Steady.loopsReady {s t : State} (h : Steady s t) : Steady s t.loopsReady := by
  unfold State.loopsReady
  extract_lets s1 s2
  have restarted : Steady s s1 := .foldl (fun _ h' => .ite h' (.update h')) h
  have placed : Steady s s2 := by
    unfold s2
    clear_value s1
    split
    · exact .update restarted
    · exact restarted
  clear_value s2
  exact .update placed

theorem State.enterReady_cyc (s : State) : s.enterReady.cyc = { s.cyc with state := .ready, cause := causeCommand } := by
  obtain ⟨_, _, stated⟩ := s.setState_eq .ready causeCommand
  have entered : Steady (s.setState .ready causeCommand) s.enterReady := by
    unfold State.enterReady
    extract_lets s1 s2
    have heads : Steady s1 s2 := .foldl (fun _ h' => .ite (.update (.update h')) (.update h')) (.refl s1)
    have loops : Steady (s.setState .ready causeCommand) s1 := .loopsReady (.refl _)
    clear_value s2
    exact .update (loops.trans heads)
  rw [entered.1, stated]

/-- A device that leaves ARMED or HOLD for READY is idle (Table 01.10). -/
theorem State.disarmNow_state (s : State) : s.disarmNow.cyc.state = .ready ∧ s.disarmNow.cyc.phase = .idle := by
  unfold State.disarmNow
  extract_lets held acc s1 s2 s3 gut mot s4 s5
  have idle : s4.cyc.phase = .idle := rfl
  have ready : s5.cyc.state = .ready ∧ s5.cyc.phase = .idle := by
    rw [State.enterReady_cyc]
    refine ⟨rfl, ?_⟩
    clear_value s4
    dsimp only
    split
    · exact (congrArg Cycle.phase (State.complete_replied _ _ _ _).cyc_eq).trans idle
    · exact idle
  clear_value s5 acc
  split
  · rw [(State.complete_replied _ _ _ _).cyc_eq]
    exact ready
  · exact ready

/-! The opcodes. -/

theorem opStatus_reaches {p : Packet} {s : State} (h : startsNow opStatusSpec p s = true) : Reaches (.opStatus p) s fun t => Served p s s t ∧
    (p.flags.testBit 3 = false → Answered p (statusOf opStatusSpec p s stOk (leBytes 1 s.cyc.state.code ++ leBytes 1 s.cyc.phase.code ++
      leBytes 1 s.waitCode ++ zeros 1 ++ leBytes 4 s.cyc.layersLeft ++ leBytes 8 (max s.dt p.t))) t) := by
  refine query_reaches rfl h ?_
  obtain ⟨_, _, _, _, _, hr⟩ := running_host opStatusSpec p s
  rw [hr]
  rfl

theorem opArm_reaches {p : Packet} {s : State} (h : startsNow opArmSpec p s = true) : Reaches (.opArm p) s fun t =>
    t.cyc.state = .armed ∧ t.cyc.phase = .idle ∧ t.cyc.armedAt = max s.dt p.t ∧ t.las.trip = false := by
  refine served_ran rfl h fun t ht => ?_
  obtain ⟨_, _, rfl⟩ := ht.exists_eq
  obtain ⟨_, _, armed⟩ := State.setState_eq .armed causeCommand (State.setCyc (fun (c : Cycle) =>
    { c with armedAt := (running opArmSpec p s).dt, phase := .idle, phaseDone := false })
      { running opArmSpec p s with las := { (running opArmSpec p s).las with trip := false } })
  have ran : (opArmSpec.run s.host.nextAcc p (running opArmSpec p s)).1 = _ := armed
  rw [ran]
  exact ⟨rfl, rfl, (running_cyc opArmSpec p s).2.1, rfl⟩

theorem opDisarm_now {p : Packet} {s : State} (h : startsNow opDisarmSpec p s = true) (hs : s.cyc.state = .hold ∨ s.cyc.phase = .idle) :
    Reaches (.opDisarm p) s fun t => t.cyc.state = .ready := by
  obtain ⟨v, hv⟩ : ∃ v, v = running opDisarmSpec p s := ⟨_, rfl⟩
  have idle : v.cyc.state = .hold ∨ v.cyc.phase = .idle := by
    rw [hv, (running_cyc opDisarmSpec p s).1]
    exact hs
  refine served_ran_cyc (P := fun c => c.state = .ready) rfl h rfl ?_
  rw [← hv]
  have ran : disarmSpec.run s.host.nextAcc p v = _ := if_pos idle
  refine (congrArg (fun r : State × Answer => r.1.cyc.state) ran).trans ?_
  dsimp only
  split
  · exact (congrArg Cycle.state (State.complete_replied _ _ _ _).cyc_eq).trans (State.disarmNow_state _).1
  · exact (State.disarmNow_state _).1

theorem opDisarm_waits {p : Packet} {s : State} (h : startsNow opDisarmSpec p s = true) (hs : s.cyc.state = .armed) (hp : s.cyc.phase ≠ .idle)
    (hd : s.cyc.disarm = none) : Reaches (.opDisarm p) s fun t => t.cyc = { s.cyc with disarm := some s.host.nextAcc } := by
  obtain ⟨v, hv⟩ : ∃ v, v = running opDisarmSpec p s := ⟨_, rfl⟩
  have cyc : v.cyc = s.cyc := by
    rw [hv]
    exact (running_cyc opDisarmSpec p s).1
  have busy : ¬ (v.cyc.state = .hold ∨ v.cyc.phase = .idle) := by
    rw [cyc, hs]
    exact fun h => h.elim (fun h => by cases h) hp
  have told := (v.tellPeer_told evDisarm 0).cyc_eq
  have ran : disarmSpec.run s.host.nextAcc p v = _ := if_neg busy
  have ran' : (disarmSpec.run s.host.nextAcc p v).1 = (v.tellPeer evDisarm 0).disarm s.host.nextAcc := by
    rw [ran, cyc, hd]
  refine served_ran_cyc (u := (v.tellPeer evDisarm 0).disarm s.host.nextAcc) (P := fun c => c = { s.cyc with disarm := some s.host.nextAcc }) rfl h
    (by rw [← hv]; exact ran') ?_
  have waits : (v.tellPeer evDisarm 0).disarm s.host.nextAcc = _ := if_neg (told.symm ▸ busy)
  rw [waits]
  exact congrArg (fun c : Cycle => { c with disarm := some s.host.nextAcc }) (told.trans cyc)

theorem opPause_reaches {p : Packet} {s : State} (h : startsNow opPauseSpec p s = true) :
    Reaches (.opPause p) s fun t => t.cyc.state = .hold ∧ t.cyc.cause = 1 := by
  have armed : s.cyc.state = .armed := List.mem_singleton.mp (state_mem_of_permitIn h rfl)
  obtain ⟨-, held, -⟩ := (running opPauseSpec p s).enterHold_acts causeCommand
  exact served_ran_cyc (u := (running opPauseSpec p s).enterHold causeCommand) (P := fun c => c.state = .hold ∧ c.cause = 1) rfl h rfl (held ((running_cyc opPauseSpec p s).1.symm ▸ armed))

theorem State.resumeMotion_steady (s : State) : Steady s s.resumeMotion := by
  unfold State.resumeMotion
  extract_lets s1 st tick
  have axes : Steady s s1 := by
    refine .foldl (fun a h => .ite ?_ h) (.refl s)
    split
    · exact .trans (.update h) (.of_driven (State.startStep_driven ..))
    · exact .update h
  clear_value s1
  exact .ite (.update axes) axes

theorem State.resumeNow_acts (s : State) : s.resumeNow.cyc.state = .armed ∧ s.resumeNow.cyc.armedAt = s.dt := by
  unfold State.resumeNow
  extract_lets las gut s1 s2 wait
  obtain ⟨_, _, stated⟩ := s1.setState_eq .armed causeCommand
  have cyc : s2.cyc = (s1.setState .armed causeCommand).cyc := (State.resumeMotion_steady _).1
  have told := (State.tellPeer_told evResumed 0 (s2.setPair fun (x : PairState) => { x with resumeWait := wait, resumedGot := false })).cyc_eq
  rw [told, State.setPair_cyc, cyc, stated]
  exact ⟨rfl, rfl⟩

theorem opContinue_reaches {p : Packet} {s : State} (h : startsNow opContinueSpec p s = true) :
    Reaches (.opContinue p) s fun t => t.cyc.state = .armed ∧ t.cyc.armedAt = max s.dt p.t := by
  have ran (v : State) : opContinueSpec.run s.host.nextAcc p v = (v.resumeNow, .done stOk []) := rfl
  have resumed := (running opContinueSpec p s).resumeNow_acts
  rw [(running_cyc opContinueSpec p s).2.1] at resumed
  exact served_ran_cyc (u := (running opContinueSpec p s).resumeNow) (P := fun c => c.state = .armed ∧ c.armedAt = max s.dt p.t) rfl h
    (by rw [ran]) resumed

theorem opAbort_reaches {p : Packet} {s : State} (h : startsNow opAbortSpec p s = true) :
    Reaches (.opAbort p) s fun t => t.cyc.state = .safe ∧ t.cyc.cause = 1 ∧ t.cyc.layersLeft = 0 := by
  have elsewhere : (running opAbortSpec p s).cyc.state ≠ .safe := by
    rw [(running_cyc opAbortSpec p s).1]
    exact fun hs => absurd (hs ▸ state_mem_of_permitIn h rfl : DevState.safe ∈ _) (by decide)
  obtain ⟨-, safe⟩ := State.enterSafe_acts causeCommand (some s.host.nextAcc) elsewhere
  exact served_ran_cyc (u := (running opAbortSpec p s).enterSafe causeCommand (some s.host.nextAcc))
    (P := fun c => c.state = .safe ∧ c.cause = 1 ∧ c.layersLeft = 0) rfl h rfl safe

theorem opRun_reaches {p : Packet} {s : State} (h : startsNow opRunSpec p s = true) : Reaches (.opRun p) s fun t =>
    t.cyc.layersLeft = p.fld 0 4 ∧ (s.cyc.phase = .idle → 0 < p.fld 0 4 → t.cyc.phase = .load) := by
  obtain ⟨count, begins⟩ := (running opRunSpec p s).cycleRun_counts (p.fld 0 4)
  rw [(running_cyc opRunSpec p s).1] at begins
  exact served_ran_cyc (u := (running opRunSpec p s).cycleRun (p.fld 0 4))
    (P := fun c => c.layersLeft = p.fld 0 4 ∧ (s.cyc.phase = .idle → 0 < p.fld 0 4 → c.phase = .load)) rfl h rfl ⟨count, begins⟩

theorem opFence_reaches {p : Packet} {s : State} (h : startsNow opFenceSpec p s = true) (he : s.exposing = false) :
    Reaches (.opFence p) s fun t => t.host.fenceNumber = s.host.fenceNumber + 1 := by
  obtain ⟨-, -, -, exposing, number⟩ := running_cyc opFenceSpec p s
  refine served_ran rfl h fun t ht => ?_
  have ran : opFenceSpec.run s.host.nextAcc p (running opFenceSpec p s) = _ := fenceRun_now (exposing.trans he)
  rw [ran] at ht
  exact (ht.fenceNumber_eq.trans (State.fenceAt_fenceNumber _ _ _)).trans (congrArg (· + 1) number)

/-- The converted packet carries the address, and the length rounded up to a multiple of 64 (R79). -/
theorem loadLayerOf_fld {p : Packet} (hl : p.params.length = 16) (hb : loadLayerBad p = false) :
    (loadLayerOf p).fld 0 8 = p.fld 0 8 ∧ (loadLayerOf p).fld 8 4 = up64 (p.fld 8 4) := by
  have fits : up64 (p.fld 8 4) < 256 ^ 4 := by
    simp only [loadLayerBad, Bool.or_eq_false_iff, decide_eq_false_iff_not] at hb
    omega
  have head : (slice p.params 0 8).length = 8 := by simp [slice, hl]
  refine ⟨?_, ?_⟩
  · simp [Packet.fld, field, loadLayerOf, Packet.withParams, slice, hl]
  · have tail : (slice p.params 0 8 ++ leBytes 4 (up64 (p.fld 8 4)) ++ slice p.params 12 4).drop 8 =
        leBytes 4 (up64 (p.fld 8 4)) ++ slice p.params 12 4 := by
      rw [List.append_assoc, List.drop_append_of_le_length (Nat.le_of_eq head.symm), List.drop_of_length_le (Nat.le_of_eq head), List.nil_append]
    refine (congrArg (fun l : List Byte => leNat (l.take 4)) tail).trans ?_
    rw [List.take_append_of_le_length (Nat.le_of_eq (leBytes_length ..).symm), List.take_of_length_le (Nat.le_of_eq (leBytes_length ..)),
      leNat_leBytes _ _ fits]

theorem opLoadLayer_reaches {p : Packet} {s : State} (h : startsNow opLoadLayerSpec p s = true) :
    Reaches (.opLoadLayer p) s (Served p s { s with sig := { s.sig with
      quire := s.sig.quire ++ [{ id := s.sig.nextQuire, acc := s.host.nextAcc, addr := p.fld 0 8, len := up64 (p.fld 8 4) }]
      nextQuire := s.sig.nextQuire + 1 } }) := by
  obtain ⟨-, checks, length⟩ := checks_of h
  have fits : loadLayerBad p = false := firstFail_none checks (loadLayerBad p, stRange) (List.mem_cons_self ..)
  have length16 : p.params.length = 16 := by
    simp only [lengthOk, Bool.and_eq_true] at length
    obtain ⟨⟨-, ok⟩, -⟩ := length
    exact beq_iff_eq.mp ok
  obtain ⟨addr, len⟩ := loadLayerOf_fld length16 fits
  refine served_ran rfl h fun t ht => ?_
  obtain ⟨_, _, _, _, _, hr⟩ := running_host opLoadLayerSpec p s
  have ran : (opLoadLayerSpec.run s.host.nextAcc p (running opLoadLayerSpec p s)).1 =
      (quireAppendSpec.run s.host.nextAcc (loadLayerOf p) (running opLoadLayerSpec p s)).1 := rfl
  rw [ran, hr] at ht
  obtain ⟨_, _, _, _, _, rfl⟩ := ht
  rw [← addr, ← len]
  exact ⟨_, _, _, rfl⟩

theorem opFlush_reaches {p : Packet} {s : State} (h : startsNow opFlushSpec p s = true) : Reaches (.opFlush p) s fun t => t.sig.quire = [] := by
  refine served_ran rfl h fun t ht => ?_
  obtain ⟨_, _, rfl⟩ := ht.exists_eq
  rfl

/-- Settles O38: each opcode runs what its native command runs (R416, Table 15.7). -/
theorem forerunnerCommandsAct : Obligations.ForerunnerCommandsAct := fun _ _ =>
  ⟨opStatus_reaches, opArm_reaches, fun h => ⟨opDisarm_now h, opDisarm_waits h⟩, opPause_reaches, opContinue_reaches, opAbort_reaches, opRun_reaches,
    opFence_reaches, opLoadLayer_reaches, opFlush_reaches⟩

end Sys2Proof.Machine
end

section
/-! PROOFS. Head links (13): the refutation of O22; O23. -/

namespace Sys2Proof.Machine

/-! HLK_RETRAIN of every port (R369) trains the ports of the grade, and no port beyond them. -/

/-- Every head port of the device trains again. -/
def retrainAll : Packet :=
  { t := 0, origin := .qp 0, resultSize := 4096, resultAddr := 0, version := 0x30, flags := 0, length := 2, tag := 0, scope := 0xFFFF, zero := 0
    params := [], trailer := none }

/-- A device in STANDBY with queue pair 0 and these head ports. -/
def withPorts (ports : List HlkPort) : State :=
  { cyc := { state := .standby }
    host := { qps := [{ enabled := true, sizeExp := 8 }], busMaster := true, ready := true }
    head := { hlk := ports } }

/-- 65,536 ports, of which the last alone is UP: the scope 0xFFFF of `HLK_RETRAIN`, which stands for all, is also its index. -/
def portsBeyond : List HlkPort := List.replicate 65535 ({} : HlkPort) ++ [{ link := .up }]

theorem retrainAll_starts : startsNow hlkRetrainSpec retrainAll (withPorts portsBeyond) = true := by decide

/-- A port that is not trained and not UP stays as it is. -/
theorem State.portRetrain_idle {h : Nat} {s : State} (hl : s.hlk h = {}) : s.portRetrain h = s := by
  unfold State.portRetrain State.linkUp State.retrain
  rw [hl]
  rfl

theorem portsBeyond_idle {h : Nat} (hh : h < 65535) : portsBeyond.getD h {} = {} := by
  unfold portsBeyond
  rw [List.getD_eq_getElem?_getD, List.getElem?_append_left (by rw [List.length_replicate]; exact hh), List.getElem?_replicate, if_pos hh,
    Option.getD_some]

theorem portsBeyond_up : (portsBeyond.getD 65535 {}).link = .up := by
  unfold portsBeyond
  rw [List.getD_eq_getElem?_getD, List.getElem?_append_right (Nat.le_of_eq (List.length_replicate ..)), List.length_replicate]
  rfl

/-- Ports that are not trained and not UP stay as they are. -/
theorem State.portRetrains_idle {l : List Nat} {s : State} (hl : ∀ h ∈ l, s.hlk h = {}) :
    l.foldl (fun (s : State) (h : Nat) => s.portRetrain h) s = s := by
  induction l with
  | nil => rfl
  | cons h l ih =>
    rw [List.foldl_cons, State.portRetrain_idle (hl h (List.mem_cons_self ..))]
    exact ih fun k hk => hl k (List.mem_cons_of_mem _ hk)

theorem retrainAll_keeps : Reaches (.hlkRetrain retrainAll) (withPorts portsBeyond) fun t => t.head.hlk = portsBeyond := by
  refine served_ran rfl retrainAll_starts fun t ht => ?_
  obtain ⟨_, _, _, _, _, hr⟩ := running_host hlkRetrainSpec retrainAll (withPorts portsBeyond)
  have head : (running hlkRetrainSpec retrainAll (withPorts portsBeyond)).head.hlk = portsBeyond := by rw [hr]; rfl
  have heads : (running hlkRetrainSpec retrainAll (withPorts portsBeyond)).heads = 32 := by rw [hr]; rfl
  generalize running hlkRetrainSpec retrainAll (withPorts portsBeyond) = v at ht head heads
  have ran : hlkRetrainSpec.run (withPorts portsBeyond).host.nextAcc retrainAll v =
      ((List.range v.heads).foldl (fun (s : State) (h : Nat) => s.portRetrain h) v, .done stOk []) := rfl
  have idle : ∀ h ∈ List.range v.heads, v.hlk h = {} := by
    intro h hh
    have inGrade := List.mem_range.mp hh
    unfold State.hlk
    rw [head]
    exact portsBeyond_idle (by omega)
  rw [ran, State.portRetrains_idle idle] at ht
  obtain ⟨_, _, rfl⟩ := ht.exists_eq
  exact head

/-- Refutes O22: its scope 0xFFFF stands for every port of the grade, but as `h = p.scope` it also names port 65,535. In a state that lists 65,536
ports with the last one UP, `HLK_RETRAIN` trains the ports of the grade and leaves port 65,535 UP. -/
theorem not_linksRetrain : ¬ Obligations.LinksRetrain := by
  rintro ⟨-, link⟩
  obtain ⟨retrains, -⟩ := link retrainAll (withPorts portsBeyond)
  obtain ⟨t, ht, -, trained⟩ := retrains retrainAll_starts (fun h => nomatch h)
  obtain ⟨u, hu, keeps⟩ := retrainAll_keeps
  cases ht.symm.trans hu
  have length : (withPorts portsBeyond).head.hlk.length = 65536 := by
    show portsBeyond.length = 65536
    unfold portsBeyond
    rw [List.length_append, List.length_replicate]
    rfl
  have acquire := trained 65535 (.inl rfl) (by rw [length]; decide) (beq_iff_eq.mpr portsBeyond_up)
  have up : (t.hlk 65535).link = .up := by
    unfold State.hlk
    rw [keeps]
    exact portsBeyond_up
  rw [up] at acquire
  cases acquire

/-! Ports. -/

theorem State.setHlk_hlk_same {h : Nat} (f : HlkPort → HlkPort) {s : State} (hl : h < s.head.hlk.length) : (s.setHlk h f).hlk h = f (s.hlk h) :=
  (updAt_getD ..).trans (if_pos ⟨rfl, hl⟩)

theorem State.setHlk_length (h : Nat) (f : HlkPort → HlkPort) (s : State) : (s.setHlk h f).head.hlk.length = s.head.hlk.length :=
  updAt_length ..

theorem State.startTracks_eq (h : Nat) (declared : Nat → Bool) (s : State) : ∃ f, s.startTracks h declared = { s with fbk := f } :=
  foldl_related (R := fun s t : State => ∃ f, t = { s with fbk := f }) (fun _ => ⟨_, rfl⟩)
    (fun h g => by obtain ⟨_, rfl⟩ := h; obtain ⟨_, rfl⟩ := g; exact ⟨_, rfl⟩) (fun _ _ => ⟨_, rfl⟩) _ _

/-- A port that leaves its training state is set anew; its counts stand. -/
theorem State.portLeaves_port {h : Nat} {s : State} (hl : h < s.head.hlk.length) : (s.portLeaves h).head.hlk.length = s.head.hlk.length ∧
    ((s.portLeaves h).hlk h).trainings = (s.hlk h).trainings := by
  obtain ⟨_, started⟩ := s.startTracks_eq h fun _ => false
  unfold State.portLeaves
  rw [started]
  exact ⟨State.setHlk_length .., (congrArg HlkPort.trainings (State.setHlk_hlk_same (s := { s with fbk := _ }) _ hl)).trans rfl⟩

/-- A port that trains again is in ACQUIRE, and its training is counted (Table 13.10). -/
theorem State.toAcquire_port {h : Nat} {s : State} (hl : h < s.head.hlk.length) : (s.toAcquire h).head.hlk.length = s.head.hlk.length ∧
    ((s.toAcquire h).hlk h).link = .acquire ∧ ((s.toAcquire h).hlk h).trainings = inc32 (s.hlk h).trainings := by
  obtain ⟨length, trainings⟩ := State.portLeaves_port hl
  unfold State.toAcquire
  rw [State.setHlk_hlk_same _ (length.symm ▸ hl), ← trainings]
  exact ⟨(State.setHlk_length ..).trans length, rfl, rfl⟩

/-! Block lock and the time of training (R363, Table 13.10). -/

theorem blockLockHeld_reaches {t h : Nat} {s : State} (hup : s.up = true) (hl : h < s.head.hlk.length) (hk : (s.hlk h).link = .acquire)
    (hs : (s.hlk h).since + 16000000 ≤ max s.dt t) : Reaches (.blockLockHeld t h) s fun u =>
      (u.hlk h).link = .capability ∧ (u.hlk h).lock = true ∧ (u.hlk h).since = max s.dt t ∧ u.cyc = s.cyc := by
  have held (f : HlkPort → HlkPort) : ((s.at t).setHlk h f).hlk h = f ((s.at t).hlk h) := State.setHlk_hlk_same f hl
  exact up_reaches (rfl : _ = execBlockLockHeld t h s) hup (if_pos ⟨hk, hs⟩)
    ⟨congrArg HlkPort.link (held _), congrArg HlkPort.lock (held _), congrArg HlkPort.since (held _), rfl⟩

theorem blockLockLost_reaches {t h : Nat} {s : State} (hup : s.up = true) (hl : h < s.head.hlk.length)
    (hk : (s.hlk h).link = .capability ∨ (s.hlk h).link = .calibrate ∨ (s.hlk h).link = .fault) : Reaches (.blockLockLost t h) s fun u =>
      (u.hlk h).link = .acquire ∧ (u.hlk h).lock = false ∧ (u.hlk h).trainings = inc32 (s.hlk h).trainings := by
  obtain ⟨length, acquire, trainings⟩ := State.toAcquire_port (s := s.at t) hl
  have lost : (((s.at t).toAcquire h).setHlk h fun (x : HlkPort) => { x with lock := false }).hlk h = _ :=
    State.setHlk_hlk_same _ (length.symm ▸ hl)
  refine up_reaches (u := ((s.at t).toAcquire h).setHlk h fun (x : HlkPort) => { x with lock := false }) (rfl : _ = execBlockLockLost t h s) hup ?_
    ⟨(congrArg HlkPort.link lost).trans acquire, congrArg HlkPort.lock lost, (congrArg HlkPort.trainings lost).trans trainings⟩
  have link : ((s.at t).hlk h).link = (s.hlk h).link := rfl
  rcases hk with hk | hk | hk <;> rw [link, hk]

theorem trainingTimeout_reaches {t h : Nat} {s : State} (hup : s.up = true) (hl : h < s.head.hlk.length)
    (hk : (s.hlk h).link = .capability ∨ (s.hlk h).link = .calibrate) (hs : (s.hlk h).since + 160000000 ≤ max s.dt t) :
    Reaches (.trainingTimeout t h) s fun u => (u.hlk h).link = .acquire ∧ (u.hlk h).trainings = inc32 (s.hlk h).trainings := by
  obtain ⟨-, acquire, trainings⟩ := State.toAcquire_port (s := s.at t) hl
  exact up_reaches (rfl : _ = execTrainingTimeout t h s) hup (if_pos ⟨hk, hs⟩) ⟨acquire, trainings⟩

/-! Capability blocks and echoes (R356 to R359). -/

/-- A whole CAP_UP of a port in CAPABILITY is judged by its block. -/
theorem State.capUp_judged {h : Nat} {frame c : List Byte} {s : State} (hu : unframe frame = some c) (h0 : field c 0 1 = 0x82)
    (hz : allZero (slice c 1 7) = true) (hc : c.length = 72 ∨ c.length = 136) (hk : (s.hlk h).link = .capability) :
    s.capUp h frame =
      let b := padTo 128 (c.drop 8)
      let s1 := s.setHlk h fun (x : HlkPort) => { x with cap := b }
      match capFail (s.versionCap h) s.cyc.profile.ts b with
      | some cause => s1.portFault h cause
      | none =>
        let v := (chooseVersion (s.versionCap h) b).getD 0
        let b' := if v / 16 = 1 then padTo 128 (slice b 0 64) else b
        ((s1.setHlk h fun (x : HlkPort) => { x with link := .calibrate, since := s.dt, version := v, cap := b', echoes := [], apply := false }).setTrj h
          fun (x : TrjHead) => { x with scale := field b' 12 12 }).send (.headFrame h (framed (leBytes 1 3 ++ leBytes 1 v ++ zeros 14))) := by
  have whole : ¬ (field c 0 1 ≠ 0x82 ∨ !allZero (slice c 1 7) ∨ (c.length ≠ 72 ∧ c.length ≠ 136)) := by
    rw [h0, hz]
    rcases hc with hc | hc <;> rw [hc] <;> decide
  have able : ¬ ((s.hlk h).link != .capability) = true := by rw [hk]; decide
  unfold State.capUp
  rw [hu]
  exact (if_neg whole).trans (if_neg able)

theorem capUp_good {t h : Nat} {frame c : List Byte} {s : State} (hup : s.up = true) (hl : h < s.head.hlk.length) (hu : unframe frame = some c)
    (h0 : field c 0 1 = 0x82) (hz : allZero (slice c 1 7) = true) (hc : c.length = 72 ∨ c.length = 136) (hk : (s.hlk h).link = .capability)
    (hf : capFail (s.versionCap h) s.cyc.profile.ts (padTo 128 (c.drop 8)) = none) : Reaches (.capUp t h frame) s fun u =>
      (u.hlk h).link = .calibrate ∧ (u.hlk h).version = (chooseVersion (s.versionCap h) (padTo 128 (c.drop 8))).getD 0 := by
  have judged := State.capUp_judged (s := s.at t) hu h0 hz hc hk
  have good : capFail ((s.at t).versionCap h) (s.at t).cyc.profile.ts (padTo 128 (c.drop 8)) = none := hf
  dsimp only at judged
  rw [good] at judged
  obtain ⟨v, hv⟩ : ∃ v : State, v = (s.at t).setHlk h fun (x : HlkPort) => { x with cap := padTo 128 (c.drop 8) } := ⟨_, rfl⟩
  have length : h < v.head.hlk.length := by
    rw [hv]
    exact (State.setHlk_length ..).symm ▸ hl
  rw [← hv] at judged
  have chosen (f : HlkPort → HlkPort) : (v.setHlk h f).hlk h = f (v.hlk h) := State.setHlk_hlk_same f length
  exact up_reaches (rfl : _ = execCapUp t h frame s) hup judged ⟨congrArg HlkPort.link (chosen _), congrArg HlkPort.version (chosen _)⟩

theorem capUp_bad {t h cause : Nat} {frame c : List Byte} {s : State} (hup : s.up = true) (hl : h < s.head.hlk.length) (hu : unframe frame = some c)
    (h0 : field c 0 1 = 0x82) (hz : allZero (slice c 1 7) = true) (hc : c.length = 72 ∨ c.length = 136) (hk : (s.hlk h).link = .capability)
    (hf : capFail (s.versionCap h) s.cyc.profile.ts (padTo 128 (c.drop 8)) = some cause) :
    Reaches (.capUp t h frame) s fun u => (u.hlk h).link = .fault ∧ (u.hlk h).cause = cause := by
  have judged := State.capUp_judged (s := s.at t) hu h0 hz hc hk
  have bad : capFail ((s.at t).versionCap h) (s.at t).cyc.profile.ts (padTo 128 (c.drop 8)) = some cause := hf
  dsimp only at judged
  rw [bad] at judged
  obtain ⟨v, hv⟩ : ∃ v : State, v = (s.at t).setHlk h fun (x : HlkPort) => { x with cap := padTo 128 (c.drop 8) } := ⟨_, rfl⟩
  have length : h < v.head.hlk.length := by
    rw [hv]
    exact (State.setHlk_length ..).symm ▸ hl
  rw [← hv] at judged
  obtain ⟨left, -⟩ := State.portLeaves_port length
  have faulted (f : HlkPort → HlkPort) : ((v.portLeaves h).setHlk h f).hlk h = f ((v.portLeaves h).hlk h) :=
    State.setHlk_hlk_same f (left.symm ▸ length)
  exact up_reaches (rfl : _ = execCapUp t h frame s) hup judged ⟨congrArg HlkPort.link (faulted _), congrArg HlkPort.cause (faulted _)⟩

/-- A whole ECHO_UP of a port in CALIBRATE that does not yet apply its link's F joins the values kept. -/
theorem State.echoUp_kept {h t4 : Nat} {frame c : List Byte} {s : State} (hu : unframe frame = some c) (h0 : field c 0 1 = 0x84)
    (hc : c.length = 32) (hk : (s.hlk h).link = .calibrate) (ha : (s.hlk h).apply = false) {r : Int}
    (hr : r = ((t4 : Int) - field c 8 8) - ((field c 24 8 : Int) - field c 16 8)) :
    s.echoUp h t4 frame =
      if (r :: (s.hlk h).echoes).length < 256 then s.setHlk h fun (y : HlkPort) => { y with echoes := r :: (s.hlk h).echoes }
      else match calibration (r :: (s.hlk h).echoes) with
        | some f => s.setHlk h fun (y : HlkPort) => { y with echoes := [], apply := true, f := f }
        | none => s.portFault h 6 := by
  have whole : ¬ (field c 0 1 ≠ 0x84 ∨ c.length ≠ 32) := by
    rw [h0, hc]
    decide
  have able : ¬ ((s.hlk h).link != .calibrate) = true := by rw [hk]; decide
  unfold State.echoUp
  rw [hu, hr]
  exact ((if_neg whole).trans (if_neg able)).trans (if_neg (Bool.eq_false_iff.mp ha))

theorem intCast_max (a b : Nat) : ((max a b : Nat) : Int) = max (a : Int) (b : Int) := by omega

theorem echoUp_few {t h : Nat} {frame c : List Byte} {s : State} (hup : s.up = true) (hl : h < s.head.hlk.length) (hu : unframe frame = some c)
    (h0 : field c 0 1 = 0x84) (hc : c.length = 32) (hk : (s.hlk h).link = .calibrate) (ha : (s.hlk h).apply = false) {r : Int}
    (hr : r = ((max s.dt t : Int) - field c 8 8) - ((field c 24 8 : Int) - field c 16 8)) (hn : (s.hlk h).echoes.length < 255) :
    Reaches (.echoUp t h frame) s fun u => (u.hlk h).echoes = r :: (s.hlk h).echoes := by
  have kept := State.echoUp_kept (s := s.at t) (t4 := (s.at t).dt) hu h0 hc hk ha (hr.trans (by rw [← intCast_max]; rfl))
  have few : (r :: ((s.at t).hlk h).echoes).length < 256 := Nat.succ_lt_succ hn
  have port : ((s.at t).setHlk h fun (y : HlkPort) => { y with echoes := r :: ((s.at t).hlk h).echoes }).hlk h = _ := State.setHlk_hlk_same _ hl
  exact up_reaches (rfl : _ = execEchoUp t h frame s) hup (kept.trans (if_pos few)) (congrArg HlkPort.echoes port)

theorem echoUp_last {t h f : Nat} {frame c : List Byte} {s : State} (hup : s.up = true) (hl : h < s.head.hlk.length) (hu : unframe frame = some c)
    (h0 : field c 0 1 = 0x84) (hc : c.length = 32) (hk : (s.hlk h).link = .calibrate) (ha : (s.hlk h).apply = false) {r : Int}
    (hr : r = ((max s.dt t : Int) - field c 8 8) - ((field c 24 8 : Int) - field c 16 8)) (hn : 255 ≤ (s.hlk h).echoes.length)
    (hf : calibration (r :: (s.hlk h).echoes) = some f) :
    Reaches (.echoUp t h frame) s fun u => (u.hlk h).apply = true ∧ (u.hlk h).f = f ∧ (u.hlk h).echoes = [] := by
  have kept := State.echoUp_kept (s := s.at t) (t4 := (s.at t).dt) hu h0 hc hk ha (hr.trans (by rw [← intCast_max]; rfl))
  have many : ¬ (r :: ((s.at t).hlk h).echoes).length < 256 := Nat.not_lt.mpr (Nat.succ_le_succ hn)
  have found : calibration (r :: ((s.at t).hlk h).echoes) = some f := hf
  rw [if_neg many, found] at kept
  have port : ((s.at t).setHlk h fun (y : HlkPort) => { y with echoes := [], apply := true, f := f }).hlk h = _ := State.setHlk_hlk_same _ hl
  exact up_reaches (rfl : _ = execEchoUp t h frame s) hup kept
    ⟨congrArg HlkPort.apply port, congrArg HlkPort.f port, congrArg HlkPort.echoes port⟩

/-- Settles O23, state by state of Table 13.10 and frame by frame (R356 to R359). -/
theorem linksTrain : Obligations.LinksTrain :=
  ⟨fun t h s hup hl => ⟨blockLockHeld_reaches hup hl, blockLockLost_reaches hup hl, trainingTimeout_reaches hup hl,
      fun hk => up_reaches (rfl : _ = execCapDownSend t h s) hup (if_pos hk) rfl,
      fun hk => up_reaches (rfl : _ = execEchoDownSend t h s) hup (if_pos hk) rfl⟩,
    fun _ _ _ _ _ hup hl hu =>
      ⟨fun h0 hz hc hk => ⟨capUp_good hup hl hu h0 hz hc hk, fun _ => capUp_bad hup hl hu h0 hz hc hk⟩,
        fun h0 hc hk ha _ hr => ⟨echoUp_few hup hl hu h0 hc hk ha hr, fun hn _ => echoUp_last hup hl hu h0 hc hk ha hr hn⟩⟩⟩

end Sys2Proof.Machine
end

section
/-! PROOFS. Firmware and islands (20): O52. -/

namespace Sys2Proof.Machine

/-! Firmware (R531 to R534). -/

/-- What a change of core registers leaves: everything but the interrupt controller. -/
def CoresSet (s t : State) : Prop := ∃ n, t = { s with int := n }

theorem CoresSet.refl (s : State) : CoresSet s s := ⟨_, rfl⟩

theorem CoresSet.trans {s t u : State} (h : CoresSet s t) (g : CoresSet t u) : CoresSet s u := by
  obtain ⟨_, rfl⟩ := h
  obtain ⟨_, rfl⟩ := g
  exact ⟨_, rfl⟩

theorem CoresSet.svc_eq {s t : State} (h : CoresSet s t) : t.svc = s.svc := by
  obtain ⟨_, rfl⟩ := h
  rfl

theorem State.coreWrite_set (c fallback : Nat) (online : Bool) (s : State) : CoresSet s (s.coreWrite c fallback online) := by
  unfold State.coreWrite
  dsimp only
  split
  · exact ⟨_, rfl⟩
  · exact .trans ⟨_, rfl⟩ (foldl_related CoresSet.refl CoresSet.trans (fun _ _ => ⟨_, rfl⟩) _ _)

theorem State.setOffline_set (set : Nat) (s : State) : CoresSet s (s.setOffline set) :=
  foldl_related CoresSet.refl CoresSet.trans (fun _ _ => State.coreWrite_set ..) _ _

theorem State.setOnline_set (set : Nat) (s : State) : CoresSet s (s.setOnline set) :=
  foldl_related CoresSet.refl CoresSet.trans (fun _ _ => State.coreWrite_set ..) _ _

/-- The sets change places, and the images with them (R532). -/
theorem State.swapSets_fw (kind : Nat) (s : State) : (s.swapSets kind).svc.fw.activeSet = 1 - s.fw.activeSet ∧
    (s.swapSets kind).svc.fw.active = s.fw.other ∧ (s.swapSets kind).svc.fw.other = s.fw.active := by
  have svc := ((s.setOffline_set s.fw.activeSet).trans (State.setOnline_set (1 - s.fw.activeSet) _)).svc_eq
  have fw : ((s.setOffline s.fw.activeSet).setOnline (1 - s.fw.activeSet)).svc.fw = s.fw := congrArg Service.fw svc
  unfold State.swapSets
  dsimp only
  generalize (s.setOffline s.fw.activeSet).setOnline (1 - s.fw.activeSet) = v at fw
  exact ⟨congrArg (fun f : Firmware => 1 - f.activeSet) fw, congrArg Firmware.other fw, congrArg Firmware.active fw⟩

/-- A switch that ends waits no more; the sets stand as they were. -/
theorem State.endSwitch_fw (st : Nat) (r : List Byte) (s : State) : (s.endSwitch st r).svc.fw = { s.svc.fw with switching := none } := by
  unfold State.endSwitch
  split
  · exact congrArg Service.fw (State.complete_replied ..).svc_eq
  · next hn =>
    have ended : s.svc.fw.switching = none := hn
    rw [← ended]

theorem State.dropLoad_fw (st : Nat) (s : State) : (s.dropLoad st).svc.fw = { s.svc.fw with loading := none } := by
  unfold State.dropLoad
  split
  · exact congrArg Service.fw (State.complete_replied ..).svc_eq
  · next hn =>
    have ended : s.svc.fw.loading = none := hn
    rw [← ended]

theorem State.standbyFault_fw (s : State) : s.standbyFault.svc.fw = { s.svc.fw with switching := none, standby := .loading, loading := none } := by
  have dropped : ((s.endSwitch stHwFault []).dropLoad stHwFault).svc.fw = { s.svc.fw with switching := none, loading := none } := by
    rw [State.dropLoad_fw, State.endSwitch_fw]
  exact congrArg (fun f : Firmware => { f with standby := .loading, loading := none }) dropped

/-- A standby set whose load ends holds what it loaded. -/
theorem State.standbyReady_loads {s : State} (hs : s.fw.standby = .loading) (hr : s.fw.setRetired = false) (hc : s.fw.committing = none)
    (hi : (s.svc.islands.getD 44 {}).status ≠ .testing) : s.standbyReady = match s.fw.loading with
      | some (acc, im) => (s.setFw fun (x : Firmware) => { x with standby := .staged, loading := none, other := im }).complete acc stOk []
      | none =>
        if s.fw.takeoverWait then ((s.setFw fun (x : Firmware) => { x with other := x.active, takeoverWait := false }).swapSets 1).reload
        else s.setFw fun (x : Firmware) => { x with standby := .mirror, other := x.active } := by
  have loads : ¬ (s.fw.standby != .loading || s.fw.setRetired || s.fw.committing.isSome || (s.svc.islands.getD 44 {}).status == .testing) = true := by
    rw [hs, hr, hc, beq_eq_false_iff_ne.mpr hi]
    decide
  exact if_neg loads

theorem fwStandbyReady_staged {t acc : Nat} {im : FwImage} {s : State} (hup : s.up = true) (hs : s.fw.standby = .loading)
    (hr : s.fw.setRetired = false) (hc : s.fw.committing = none) (hi : (s.svc.islands.getD 44 {}).status ≠ .testing)
    (hl : s.fw.loading = some (acc, im)) : Reaches (.fwStandbyReady t) s fun u =>
      u.fw = { s.fw with standby := .staged, loading := none, other := im } := by
  have staged := State.standbyReady_loads (s := s.at t) hs hr hc hi
  rw [show (s.at t).fw.loading = some (acc, im) from hl] at staged
  exact up_reaches (rfl : _ = execFwStandbyReady t s) hup staged (congrArg Service.fw (State.complete_replied ..).svc_eq)

theorem fwStandbyReady_mirrors {t : Nat} {s : State} (hup : s.up = true) (hs : s.fw.standby = .loading) (hr : s.fw.setRetired = false)
    (hc : s.fw.committing = none) (hi : (s.svc.islands.getD 44 {}).status ≠ .testing) (hl : s.fw.loading = none) (hw : s.fw.takeoverWait = false) :
    Reaches (.fwStandbyReady t) s fun u => u.fw = { s.fw with standby := .mirror, other := s.fw.active } := by
  have mirrors := State.standbyReady_loads (s := s.at t) hs hr hc hi
  rw [show (s.at t).fw.loading = none from hl] at mirrors
  exact up_reaches (rfl : _ = execFwStandbyReady t s) hup (mirrors.trans (if_neg (Bool.eq_false_iff.mp hw))) rfl

theorem fwQuiescentPoint_switches {t : Nat} {s : State} (hup : s.up = true) (hs : s.fw.switching.isSome) :
    Reaches (.fwQuiescentPoint t false) s fun u => u.fw.activeSet = 1 - s.fw.activeSet ∧ u.fw.active = s.fw.other ∧
      u.fw.other = s.fw.active ∧ u.fw.standby = .trial ∧ u.fw.switching = none := by
  have waits : ¬ (s.at t).fw.switching.isNone = true := by
    rw [show (s.at t).fw.switching.isNone = false from Option.isNone_eq_false_iff.mpr hs]
    decide
  obtain ⟨v, hv⟩ : ∃ v, v = (s.at t).swapSets (if (s.at t).fw.standby = .trial then 2 else 0) := ⟨_, rfl⟩
  obtain ⟨set, active, other⟩ := State.swapSets_fw (if (s.at t).fw.standby = .trial then 2 else 0) (s.at t)
  obtain ⟨r, switched⟩ : ∃ r, State.quiescent false (s.at t) = (v.setFw fun (x : Firmware) => { x with standby := .trial }).endSwitch stOk r := by
    rw [hv]
    exact ⟨_, (if_neg waits).trans (if_neg (by decide))⟩
  rw [← hv] at set active other
  refine up_reaches (rfl : _ = execFwQuiescentPoint t false s) hup switched ?_
  unfold State.fw
  dsimp only
  rw [State.endSwitch_fw]
  exact ⟨set, active, other, rfl, rfl⟩

theorem fwQuiescentPoint_faults {t : Nat} {s : State} (hup : s.up = true) (hs : s.fw.switching.isSome) :
    Reaches (.fwQuiescentPoint t true) s fun u => u.fw.activeSet = s.fw.activeSet ∧ u.fw.active = s.fw.active ∧
      u.fw.standby = .loading ∧ u.fw.switching = none := by
  have waits : ¬ (s.at t).fw.switching.isNone = true := by
    rw [show (s.at t).fw.switching.isNone = false from Option.isNone_eq_false_iff.mpr hs]
    decide
  have faulted : State.quiescent true (s.at t) = _ := (if_neg waits).trans (if_pos rfl)
  refine up_reaches (rfl : _ = execFwQuiescentPoint t true s) hup faulted ?_
  unfold State.fw
  dsimp only
  rw [State.standbyFault_fw]
  exact ⟨rfl, rfl, rfl, rfl⟩

theorem Replied.flash_eq {s t : State} (h : Replied s t) : t.flash = s.flash := by
  obtain ⟨_, _, rfl⟩ := h.exists_eq
  rfl

theorem fwCommitDone_mirrors {t acc : Nat} {s : State} (hup : s.up = true) (hc : s.fw.committing = some (acc, false))
    (hi : (s.svc.islands.getD 44 {}).status ≠ .testing) : Reaches (.fwCommitDone t true) s fun u =>
      u.fw = { s.fw with standby := .mirror, other := s.fw.active, committing := none } ∧ u.flash = s.flash := by
  have done : State.commitDone true (s.at t) =
      ((s.at t).setFw fun (x : Firmware) => { x with standby := .mirror, other := x.active, committing := none }).complete acc stOk [] := by
    unfold State.commitDone
    rw [show (s.at t).fw.committing = some (acc, false) from hc]
    exact (if_neg fun h => hi (beq_iff_eq.mp h)).trans (if_pos rfl)
  exact up_reaches (rfl : _ = execFwCommitDone t true s) hup done
    ⟨congrArg Service.fw (State.complete_replied ..).svc_eq, (State.complete_replied ..).flash_eq⟩

/-! Islands (R528 to R530). -/

theorem State.setIsland_island_same {i : Nat} (f : Island → Island) {s : State} (hl : i < s.svc.islands.length) :
    (s.setIsland i f).island i = f (s.island i) := (updAt_getD ..).trans (if_pos ⟨rfl, hl⟩)

theorem Island.count_acts (dt : Nat) (x : Island) : (x.count dt).faults = inc32 x.faults ∧ (x.count dt).status ≠ .inService := by
  unfold Island.count
  dsimp only
  refine ⟨rfl, ?_⟩
  split <;> decide

theorem Supported.island_eq {s t : State} (h : Supported s t) (i : Nat) : t.island i = s.island i := congrArg (fun l : List Island => l.getD i {}) h.2

namespace Steady

variable {s t : State}

theorem noteEmit (h : Steady s t) : Steady s t.noteEmit := by
  obtain ⟨_, he⟩ := t.noteEmit_noted
  rw [he]
  exact update h

theorem relinked {u : State} (h : Steady s t) (g : Relinked t u) : Steady s u := by
  obtain ⟨_, _, rfl⟩ := g
  exact update h

theorem loseHead {head : Nat} (h : Steady s t) : Steady s (t.loseHead head) := by
  have done {v : State} (h : Steady s v) : Steady s v.noteDone := ite h (ite (update h) h)
  have lost : Steady s ((t.setLas head fun (x : LasHead) => { x with cut := true }).setLay (t.lay.loseHead t.layEnv head)) :=
    trans (update h) (.of_written (State.setLay_written ..))
  exact ite h (done (ite (buildEntry lost) lost))

theorem sourceLevel {n : Nat} {b : Bool} (h : Steady s t) : Steady s (t.sourceLevel n b) := by
  obtain ⟨_, _, _, _, hs⟩ := t.sourceLevel_moved n b
  rw [hs]
  exact update h

theorem functionReset (h : Steady s t) : Steady s t.functionReset := by
  have disabled (c : Nat) {v : State} (h : Steady s v) : Steady s (v.dmaDisable c) :=
    ite h (completeAll (update (sourceLevel (update h))))
  exact foldl (fun c h' => disabled c h') (update (update h))

theorem networkFault (h : Steady s t) : Steady s t.networkFault := update (update (ite (update h) h))

theorem loopIslandFault {i : Nat} (h : Steady s t) : Steady s (t.loopIslandFault i).1 := by
  unfold State.loopIslandFault
  dsimp only
  split
  · exact foldl (fun _ h' => update h') (update h)
  · exact update h

/-! Firmware. -/

theorem endSwitch {st : Nat} {r : List Byte} (h : Steady s t) : Steady s (t.endSwitch st r) := by
  unfold State.endSwitch
  split
  · exact complete (update h)
  · exact h

theorem dropLoad {st : Nat} (h : Steady s t) : Steady s (t.dropLoad st) := by
  unfold State.dropLoad
  split
  · exact complete (update h)
  · exact h

theorem dropCommit {st : Nat} (h : Steady s t) : Steady s (t.dropCommit st) := by
  unfold State.dropCommit
  split
  · exact complete (update h)
  · exact h

theorem swapSets {kind : Nat} (h : Steady s t) : Steady s (t.swapSets kind) := by
  have cores := setOnline (set := 1 - t.fw.activeSet) (setOffline (set := t.fw.activeSet) h)
  unfold State.swapSets
  dsimp only
  generalize (t.setOffline t.fw.activeSet).setOnline (1 - t.fw.activeSet) = v at cores
  exact update cores

theorem fwFault {set : Nat} (h : Steady s t) : Steady s (t.fwFault set) :=
  ite (ite (update (dropCommit (dropLoad (endSwitch (setOffline h))))) (update (endSwitch (swapSets h)))) (update (dropLoad (endSwitch h)))

end Steady

/-! The response to a fault (Table 01.2). -/

/-- The response to a fault that a head's engine shows leaves the supplies and the islands (R112, R365). -/
theorem State.headFault_supported (i : Nat) (s : State) : Supported s (s.headFault i) := by
  unfold State.headFault
  extract_lets acc was s1 s2 s3
  have followed : Steady s s1 := .relinked (.refl s) (s.portFollow_relinked i)
  have answered : Steady s s2 := by
    unfold s2
    clear_value s1 acc
    split
    · exact .complete followed
    · exact followed
  have gone : Supported s s3 := by
    unfold s3 State.linkGone
    clear_value s2
    split
    · split
      · exact (Steady.loseHead (.noteEmit answered)).supported
      · split
        · obtain ⟨_, _, _, _, _, _, _, _, _, he, -⟩ := State.enterStandby_entered causeLink s2
          rw [he]
          exact answered.supported
        · exact answered.supported
    · exact answered.supported
  clear_value s3
  have lost (h : Nat) : Supported s (s3.noteEmit.loseHead h) := gone.trans (Steady.loseHead (.noteEmit (.refl s3))).supported
  split <;> exact lost _

theorem State.imagingFault_supported (s : State) : Supported s s.imagingFault := by
  have failed : Steady s (s.imgFault.completeAll (s.img.ports.flatMap fun (x : ImgPort) => x.queue.filterMap fun (c : CamCtl) => c.acc) stHwFault) :=
    .completeAll (.update (.refl s))
  unfold State.imagingFault
  dsimp only
  split
  · exact failed.supported
  · exact failed.supported

/-- The response to a fault leaves the supplies and the islands. -/
theorem State.islandResponse_supported (i set : Nat) (s : State) : Supported s (s.islandResponse i set) := by
  have looped := (Steady.loopIslandFault (i := i - 32) (.refl s)).supported
  unfold State.islandResponse
  split
  · exact s.headFault_supported i
  · split
    · dsimp only
      split
      · exact looped
      · exact looped.trans (State.enterSafe_supported ..)
    · split
      · exact s.imagingFault_supported
      · split
        · exact (Steady.functionReset (.update (.refl s))).supported
        · split
          · exact (Steady.networkFault (.refl s)).supported
          · split
            · exact .trans (Steady.update (.refl s)).supported (State.enterSafe_supported ..)
            · split
              · exact (Steady.fwFault (.refl s)).supported
              · exact State.enterSafe_supported ..

theorem State.islandFault_island {i set : Nat} {s : State} (hm : s.mayFault i set = true) (hl : i < s.svc.islands.length) :
    ((s.islandFault i set).island i).faults = inc32 (s.island i).faults ∧ ((s.islandFault i set).island i).status ≠ .inService := by
  unfold State.islandFault
  rw [if_neg (by rw [hm]; decide)]
  extract_lets s1 retired s2 s3
  have counted : s1.island i = (s.island i).count s.dt := State.setIsland_island_same (Island.count s.dt) hl
  have recorded : Supported s1 s2 := by
    unfold s2
    split <;> exact .refl s1
  have responded : s3.island i = (s.island i).count s.dt :=
    ((State.islandResponse_supported i set s2).island_eq i).trans ((recorded.island_eq i).trans counted)
  clear_value s3
  have acts := Island.count_acts s.dt (s.island i)
  rw [← responded] at acts
  split <;> exact acts

/-! The end of a self-test (R530). -/

theorem State.islandBack_island {i : Nat} {s : State} (hl : i < s.svc.islands.length) : ((s.islandBack i).island i).status = .inService := by
  have back := State.setIsland_island_same (fun (x : Island) => { x with status := .inService, passed := false }) hl
  unfold State.islandBack
  generalize s.setIsland i (fun (x : Island) => { x with status := .inService, passed := false }) = v at back
  have served {u : State} (h : Supported v u) : (u.island i).status = .inService := congrArg Island.status ((h.island_eq i).trans back)
  dsimp only
  split
  · exact served (Steady.relinked (.refl v) (v.portFollow_relinked i)).supported
  · split
    · exact served (Steady.ite (.refl v) (.update (.refl v))).supported
    · split
      · exact served (Steady.update (.refl v)).supported
      · split
        · exact served (Steady.update (.refl v)).supported
        · exact served (.refl v)

theorem State.islandTested_where {i : Nat} {pass : Bool} {s : State} (ht : (s.island i).status = .testing) : s.islandTested i pass =
    if !pass then
      let s1 := (s.setIsland i fun (x : Island) => { x with status := .retired }).logEvent 0xF002 i 0 0
      if i = islandFirmware then s1.setFw fun (x : Firmware) => { x with setRetired := true } else s1
    else if (i == islandGuard || i == islandMotion || i == islandMemory) && s.cyc.state != .recovery then
      s.setIsland i fun (x : Island) => { x with status := .faulted, passed := true }
    else s.islandBack i := by
  exact if_neg (by rw [ht]; decide)

theorem islandSelfTestEnd_fails {t i : Nat} {s : State} (hup : s.up = true) (ht : (s.island i).status = .testing) (hl : i < s.svc.islands.length) :
    Reaches (.islandSelfTestEnd t i false) s fun u => (u.island i).status = .retired := by
  have tested := (State.islandTested_where (pass := false) (s := s.at t) ht).trans (if_pos rfl)
  have retired := State.setIsland_island_same (s := s.at t) (fun (x : Island) => { x with status := .retired }) hl
  refine up_reaches (rfl : _ = execIslandSelfTestEnd t i false s) hup tested ?_
  dsimp only
  split <;> exact congrArg Island.status retired

theorem islandSelfTestEnd_holds {t i : Nat} {s : State} (hup : s.up = true) (ht : (s.island i).status = .testing) (hl : i < s.svc.islands.length)
    (hi : i = islandGuard ∨ i = islandMotion ∨ i = islandMemory) (hs : s.cyc.state ≠ .recovery) :
    Reaches (.islandSelfTestEnd t i true) s fun u => (u.island i).status = .faulted ∧ (u.island i).passed = true := by
  have waits : ((i == islandGuard || i == islandMotion || i == islandMemory) && (s.at t).cyc.state != .recovery) = true := by
    rw [show ((s.at t).cyc.state != .recovery) = true from bne_iff_ne.mpr hs]
    rcases hi with rfl | rfl | rfl <;> rfl
  have tested := (State.islandTested_where (pass := true) (s := s.at t) ht).trans ((if_neg (by decide)).trans (if_pos waits))
  have kept := State.setIsland_island_same (s := s.at t) (fun (x : Island) => { x with status := .faulted, passed := true }) hl
  exact up_reaches (rfl : _ = execIslandSelfTestEnd t i true s) hup tested ⟨congrArg Island.status kept, congrArg Island.passed kept⟩

theorem islandSelfTestEnd_returns {t i : Nat} {s : State} (hup : s.up = true) (ht : (s.island i).status = .testing) (hl : i < s.svc.islands.length)
    (hg : i ≠ islandGuard) (hm : i ≠ islandMotion) (hm' : i ≠ islandMemory) :
    Reaches (.islandSelfTestEnd t i true) s fun u => (u.island i).status = .inService := by
  have returns : ¬ ((i == islandGuard || i == islandMotion || i == islandMemory) && (s.at t).cyc.state != .recovery) = true := by
    rw [beq_eq_false_iff_ne.mpr hg, beq_eq_false_iff_ne.mpr hm, beq_eq_false_iff_ne.mpr hm']
    exact Bool.false_ne_true
  have tested := (State.islandTested_where (pass := true) (s := s.at t) ht).trans ((if_neg (by decide)).trans (if_neg returns))
  exact up_reaches (rfl : _ = execIslandSelfTestEnd t i true s) hup tested (State.islandBack_island (s := s.at t) hl)

/-- Settles O52: firmware moves as R531 to R534 have it; the response to a fault leaves the islands, so the count stands (R528 to R530). -/
theorem serviceEventsAct : Obligations.ServiceEventsAct := fun t s hup =>
  ⟨fun hs hr hc hi => ⟨fun _ _ => fwStandbyReady_staged hup hs hr hc hi, fwStandbyReady_mirrors hup hs hr hc hi⟩,
    fun hs => ⟨fwQuiescentPoint_switches hup hs, fwQuiescentPoint_faults hup hs⟩, fun _ => fwCommitDone_mirrors hup,
    fun i set hm hl => up_reaches (rfl : _ = execIslandFault t i set s) hup rfl (State.islandFault_island (s := s.at t) hm hl),
    fun _ ht hl => ⟨islandSelfTestEnd_fails hup ht hl, islandSelfTestEnd_holds hup ht hl, islandSelfTestEnd_returns hup ht hl⟩⟩

end Sys2Proof.Machine
end

section
/-! PROOFS. Completion entries, sessions and the PCI Express function (14): O35. -/

namespace Sys2Proof.Machine

/-! Messages (R398 to R400). -/

/-- `t` is `s` but for what the messages of its vectors change: counts and pending bits, the link's power state, and what is sent. -/
def Messaged (s t : State) : Prop :=
  ∃ vs l more, t = { s with host := { s.host with vectors := vs, linkL1 := l }, tx := s.tx ++ more } ∧ ∀ v,
    (vs.getD v {}).addr = (s.host.vectors.getD v {}).addr ∧ (vs.getD v {}).data = (s.host.vectors.getD v {}).data ∧
      (vs.getD v {}).masked = (s.host.vectors.getD v {}).masked

theorem Messaged.refl (s : State) : Messaged s s := ⟨_, _, [], by rw [List.append_nil], fun _ => ⟨rfl, rfl, rfl⟩⟩

theorem Messaged.trans {s t u : State} (h : Messaged s t) (g : Messaged t u) : Messaged s u := by
  obtain ⟨_, _, _, rfl, hv⟩ := h
  obtain ⟨_, _, _, rfl, gv⟩ := g
  refine ⟨_, _, _, by rw [List.append_assoc], fun v => ?_⟩
  obtain ⟨ha, hd, hm⟩ := hv v
  obtain ⟨ga, gd, gm⟩ := gv v
  exact ⟨ga.trans ha, gd.trans hd, gm.trans hm⟩

/-- A change of a vector's count or pending bits leaves what its entry holds. -/
theorem Messaged.vector {s : State} (v : Nat) {f : Vector64 → Vector64} {l : Bool} (more : List Tx)
    (hf : ∀ x, (f x).addr = x.addr ∧ (f x).data = x.data ∧ (f x).masked = x.masked) :
    Messaged s { s with host := { s.host with vectors := updAt s.host.vectors v f, linkL1 := l }, tx := s.tx ++ more } := by
  refine ⟨_, _, _, rfl, fun w => ?_⟩
  rw [updAt_getD]
  split
  · next hw =>
    obtain ⟨rfl, -⟩ := hw
    exact hf _
  · exact ⟨rfl, rfl, rfl⟩

theorem State.messageDue_messaged (v : Nat) (s : State) : Messaged s (s.messageDue v) := by
  unfold State.messageDue
  extract_lets x host s1
  split
  · exact .vector v _ fun _ => ⟨rfl, rfl, rfl⟩
  · have due : Messaged s s1 := by
      have noted := Messaged.vector (s := s) (f := fun x => { x with due := true, pba := true }) (l := s.host.linkL1) v [] fun _ => ⟨rfl, rfl, rfl⟩
      rw [List.append_nil] at noted
      exact noted
    clear_value s1
    split
    · exact due.trans ⟨_, _, [.pme], rfl, fun _ => ⟨rfl, rfl, rfl⟩⟩
    · exact due

theorem State.countEntry_messaged (v : Nat) (s : State) : Messaged s (s.countEntry v) := by
  unfold State.countEntry
  extract_lets host s1 x
  have counted : Messaged s s1 := by
    have noted := Messaged.vector (s := s) (f := fun x => { x with entries := x.entries + 1, first := if x.entries = 0 then s.dt else x.first })
      (l := s.host.linkL1) v [] fun _ => ⟨rfl, rfl, rfl⟩
    rw [List.append_nil] at noted
    exact noted
  split
  · exact counted.trans (State.messageDue_messaged v s1)
  · exact counted

theorem State.flushMessages_messaged (s : State) : Messaged s s.flushMessages :=
  foldl_related Messaged.refl Messaged.trans (fun s v => by
    split
    · exact s.messageDue_messaged v
    · exact .refl s) _ _

/-! Completion entries (R379). -/

/-- An entry into host memory leaves the queues; it goes out at once where the function may write and nothing waits (R400). -/
theorem State.hostEntry_acts (v : Nat) (writes : List (Nat × List Byte)) (s : State) : (s.hostEntry v writes).host.qps = s.host.qps ∧
    (s.hostEntry v writes).host.cqWait = s.host.cqWait ∧
    (s.mayWrite = true → s.host.held = [] → ∀ w ∈ writes, Tx.hostWrite w.1 w.2 ∈ (s.hostEntry v writes).tx) := by
  unfold State.hostEntry
  split
  · obtain ⟨_, _, _, he, -⟩ := State.countEntry_messaged v { s with tx := s.tx ++ writes.map fun (w : Nat × List Byte) => Tx.hostWrite w.1 w.2 }
    rw [he]
    exact ⟨rfl, rfl, fun _ _ w hw => List.mem_append_left _ (List.mem_append_right _ (List.mem_map_of_mem hw))⟩
  · next hn => exact ⟨rfl, rfl, fun hm hh => absurd (by rw [hm, hh]; rfl) hn⟩

theorem cqEntryWrite_reaches {t q : Nat} {c : CqItem} {s : State} (hup : s.up = true) (hl : q < s.host.qps.length)
    (hc : (s.host.cqWait.find? fun c => c.qp == q) = some c) (he : (s.qp q).enabled = true) (hs : (s.qp q).cqUsed < (s.qp q).slots) :
    Reaches (.cqEntryWrite t q) s fun u => (u.qp q).cqUsed = (s.qp q).cqUsed + 1 ∧ (u.qp q).cqTail = ((s.qp q).cqTail + 1) % (s.qp q).slots ∧
      u.host.cqWait = s.host.cqWait.eraseP (fun c => c.qp == q) ∧
      (s.mayWrite = true → s.host.held = [] → Tx.hostWrite ((s.qp q).cqBase + 64 * (s.qp q).cqTail) (cqEntry q (s.qp q) c.packet) ∈ u.tx) := by
  obtain ⟨v, hv⟩ : ∃ v : State, v = State.setQp q (fun (y : QueuePair) => { y with
      cqTail := ((s.qp q).cqTail + 1) % (s.qp q).slots
      cqUsed := y.cqUsed + 1
      phase := if ((s.qp q).cqTail + 1) % (s.qp q).slots = 0 then !y.phase else y.phase })
      { s.at t with host := { (s.at t).host with cqWait := (s.at t).host.cqWait.eraseP fun (c : CqItem) => c.qp == q } } := ⟨_, rfl⟩
  obtain ⟨writes, hw, hin⟩ : ∃ writes, (s.at t).writeEntry q = v.hostEntry (s.qp q).vector writes ∧
      ((s.qp q).cqBase + 64 * (s.qp q).cqTail, cqEntry q (s.qp q) c.packet) ∈ writes := by
    have room : ¬ (!((s.at t).qp q).enabled || decide (((s.at t).qp q).slots ≤ ((s.at t).qp q).cqUsed)) = true := by
      rw [show (s.at t).qp q = s.qp q from rfl, he, decide_eq_false (Nat.not_le.mpr hs)]
      decide
    have found : ((s.at t).host.cqWait.find? fun (c : CqItem) => c.qp == q) = some c := hc
    refine ⟨if 48 < c.packet.length then [(c.resultAddr, c.packet), ((s.qp q).cqBase + 64 * (s.qp q).cqTail, cqEntry q (s.qp q) c.packet)]
      else [((s.qp q).cqBase + 64 * (s.qp q).cqTail, cqEntry q (s.qp q) c.packet)], ?_, ?_⟩
    · unfold State.writeEntry
      dsimp only
      rw [found, hv]
      exact if_neg room
    · split
      · exact List.mem_cons_of_mem _ (List.mem_cons_self ..)
      · exact List.mem_cons_self ..
  obtain ⟨queues, waits, sends⟩ := v.hostEntry_acts (s.qp q).vector writes
  have entered : v.qp q = { s.qp q with
      cqTail := ((s.qp q).cqTail + 1) % (s.qp q).slots
      cqUsed := (s.qp q).cqUsed + 1
      phase := if ((s.qp q).cqTail + 1) % (s.qp q).slots = 0 then !(s.qp q).phase else (s.qp q).phase } := by
    rw [hv]
    exact (updAt_getD ..).trans (if_pos ⟨rfl, hl⟩)
  have port : (v.hostEntry (s.qp q).vector writes).qp q = v.qp q := congrArg (fun l : List QueuePair => l.getD q {}) queues
  refine up_reaches (rfl : _ = execCqEntryWrite t q s) hup hw ⟨?_, ?_, waits.trans (by rw [hv]; rfl), fun hm hh => ?_⟩
  · exact congrArg QueuePair.cqUsed (port.trans entered)
  · exact congrArg QueuePair.cqTail (port.trans entered)
  · exact sends (by rw [hv]; exact hm) (by rw [hv]; exact hh) _ hin

/-! Sessions (R386). -/

theorem sessionTimeout_reaches {t i : Nat} {x : Session} {s : State} (hup : s.up = true) (hx : s.host.sessions.getD i none = some x)
    (hd : x.lastDt + 16000000000 * s.dparam 0x0018 ≤ max s.dt t) :
    Reaches (.sessionTimeout t i) s fun u => u.host.sessions.getD i none = none ∧ u.cyc = s.cyc := by
  have ends : (s.at t).sessionTimeout i = (s.at t).endSession i := by
    unfold State.sessionTimeout
    rw [show (s.at t).host.sessions.getD i none = some x from hx]
    exact if_pos hd
  refine up_reaches (rfl : _ = execSessionTimeout t i s) hup ends ⟨(updAt_getD ..).trans ?_, rfl⟩
  split
  · rfl
  · next hn => exact getD_default _ fun h => hn ⟨rfl, h⟩

/-! The PCI Express function (R371, R372, R398 to R400). -/

theorem moderationTimerExpire_due {t v : Nat} {s : State} (hv : v < 64) (he : 0 < (s.host.vectors.getD v {}).entries)
    (hd : (s.host.vectors.getD v {}).due = false)
    (ht : (s.host.vectors.getD v {}).first + 16000 * (s.host.vectors.getD v {}).timer ≤ max s.dt t) :
    v < 64 ∧ 0 < ((s.at t).host.vectors.getD v {}).entries ∧ !((s.at t).host.vectors.getD v {}).due ∧
      ((s.at t).host.vectors.getD v {}).first + 16000 * ((s.at t).host.vectors.getD v {}).timer ≤ (s.at t).dt :=
  ⟨hv, he, by rw [show (s.at t).host.vectors = s.host.vectors from rfl, hd]; rfl, ht⟩

theorem moderationTimerExpire_sends {t v : Nat} {s : State} (hup : s.up = true) (hv : v < 64) (hl : v < s.host.vectors.length)
    (he : 0 < (s.host.vectors.getD v {}).entries) (hd : (s.host.vectors.getD v {}).due = false)
    (ht : (s.host.vectors.getD v {}).first + 16000 * (s.host.vectors.getD v {}).timer ≤ max s.dt t) (hm : s.maySend v = true) :
    Reaches (.moderationTimerExpire t v) s fun u => u.tx = [.msix v (s.host.vectors.getD v {}).addr (s.host.vectors.getD v {}).data] ∧
      (u.host.vectors.getD v {}).entries = 0 := by
  have sent : (s.at t).messageDue v = _ := if_pos hm
  have vector : ((updAt (s.at t).host.vectors v fun x => { x with entries := 0, due := false, pba := false }).getD v {}) = _ :=
    (updAt_getD ..).trans (if_pos ⟨rfl, hl⟩)
  exact up_reaches (rfl : _ = execModerationTimerExpire t v s) hup ((if_pos (moderationTimerExpire_due hv he hd ht)).trans sent)
    ⟨rfl, congrArg Vector64.entries vector⟩

theorem moderationTimerExpire_pends {t v : Nat} {s : State} (hup : s.up = true) (hv : v < 64) (hl : v < s.host.vectors.length)
    (he : 0 < (s.host.vectors.getD v {}).entries) (hd : (s.host.vectors.getD v {}).due = false)
    (ht : (s.host.vectors.getD v {}).first + 16000 * (s.host.vectors.getD v {}).timer ≤ max s.dt t) (hm : s.maySend v = false) :
    Reaches (.moderationTimerExpire t v) s fun u => (u.host.vectors.getD v {}).pba = true ∧ (u.host.vectors.getD v {}).due = true ∧
      (u.host.vectors.getD v {}).entries = (s.host.vectors.getD v {}).entries := by
  have pends : ((s.at t).messageDue v).host.vectors = updAt s.host.vectors v fun x => { x with due := true, pba := true } := by
    have kept : ¬ (s.at t).maySend v = true := Bool.eq_false_iff.mp hm
    unfold State.messageDue
    dsimp only
    rw [if_neg kept]
    split <;> rfl
  have vector : (((s.at t).messageDue v).host.vectors.getD v {}) = { s.host.vectors.getD v {} with due := true, pba := true } := by
    rw [pends]
    exact (updAt_getD ..).trans (if_pos ⟨rfl, hl⟩)
  exact up_reaches (rfl : _ = execModerationTimerExpire t v s) hup (if_pos (moderationTimerExpire_due hv he hd ht))
    ⟨congrArg Vector64.pba vector, congrArg Vector64.due vector, (congrArg Vector64.entries vector).trans rfl⟩

theorem msixUnmask_entry {t v addr data : Nat} {masked : Bool} {s : State} (hup : s.up = true) (hr : s.host.ready = true)
    (hd : s.host.d3hot = false) (hl : v < s.host.vectors.length) : Reaches (.msixUnmask t (.entry v addr data masked)) s fun u =>
      (u.host.vectors.getD v {}).addr = addr ∧ (u.host.vectors.getD v {}).data = data ∧ (u.host.vectors.getD v {}).masked = masked := by
  have awake : ((s.at t).host.ready && !(s.at t).host.d3hot) = true := by
    rw [show (s.at t).host = s.host from rfl, hr, hd]
    rfl
  obtain ⟨w, hw⟩ : ∃ w : State, w = { s.at t with host := { (s.at t).host with
    vectors := updAt (s.at t).host.vectors v fun (x : Vector64) => { x with addr := addr, data := data, masked := masked } } } := ⟨_, rfl⟩
  have vector : w.host.vectors.getD v {} = { s.host.vectors.getD v {} with addr := addr, data := data, masked := masked } := by
    rw [hw]
    exact (updAt_getD ..).trans (if_pos ⟨rfl, hl⟩)
  obtain ⟨_, _, _, flushed, kept⟩ := w.flushMessages_messaged
  obtain ⟨haddr, hdata, hmasked⟩ := kept v
  rw [vector] at haddr hdata hmasked
  refine up_reaches (u := w.flushMessages) (rfl : _ = execMsixUnmask t (.entry v addr data masked) s) hup (hw ▸ if_pos awake) ?_
  rw [flushed]
  exact ⟨haddr, hdata, hmasked⟩

theorem msixUnmask_control {t : Nat} {enable mask : Bool} {s : State} (hup : s.up = true) (hr : s.host.ready = true)
    (hd : s.host.d3hot = false) : Reaches (.msixUnmask t (.control enable mask)) s fun u =>
      u.host.msixEnable = enable ∧ u.host.functionMask = mask := by
  have awake : ((s.at t).host.ready && !(s.at t).host.d3hot) = true := by
    rw [show (s.at t).host = s.host from rfl, hr, hd]
    rfl
  obtain ⟨_, _, _, flushed, -⟩ :=
    State.flushMessages_messaged { s.at t with host := { (s.at t).host with msixEnable := enable, functionMask := mask } }
  exact up_reaches (rfl : _ = execMsixUnmask t (.control enable mask) s) hup ((if_pos awake).trans flushed) ⟨rfl, rfl⟩

theorem functionD0Return_reaches {t : Nat} {s : State} (hup : s.up = true) : Reaches (.functionD0Return t) s fun u =>
    u.host.d3hot = false ∧ u.host.busMaster = true ∧ u.host.held = [] ∧ u.cyc = s.cyc := by
  obtain ⟨v, hv⟩ : ∃ v : State, v = { s.at t with host := { (s.at t).host with d3hot := false, busMaster := true, linkL1 := false } } := ⟨_, rfl⟩
  have written : Messaged { v with host := { v.host with held := [] } } v.flushHeld := by
    have may : ¬ (!v.mayWrite) = true := by rw [hv]; exact Bool.false_ne_true
    rw [show v.flushHeld = _ from if_neg may]
    refine foldl_related Messaged.refl Messaged.trans (fun u w => ?_) _ _
    have sent : Messaged u { u with tx := u.tx ++ [Tx.hostWrite w.addr w.bytes] } := ⟨_, _, _, rfl, fun _ => ⟨rfl, rfl, rfl⟩⟩
    dsimp only
    split
    · exact sent.trans (State.countEntry_messaged _ _)
    · exact sent
  obtain ⟨_, _, _, he, -⟩ := written.trans v.flushHeld.flushMessages_messaged
  refine up_reaches (u := v.flushHeld.flushMessages) (rfl : _ = execFunctionD0Return t s) hup (by rw [hv]) ?_
  rw [he, hv]
  exact ⟨rfl, rfl, rfl, rfl⟩

/-! Function resets (R372, R420). -/

/-- No queue pair waits to be deleted. -/
def State.NoneDeleting (s : State) : Prop := ∀ q, (s.qp q).deleting = none

/-- Where no queue pair waits to be deleted, `t` has the function's registers and vectors, the queue pairs, the keys and the cycle of `s`. -/
def FunctionKept (s t : State) : Prop := s.NoneDeleting → t.host.qps = s.host.qps ∧ t.host.vectors = s.host.vectors ∧
  t.host.busMaster = s.host.busMaster ∧ t.host.msixEnable = s.host.msixEnable ∧ t.host.keys = s.host.keys ∧ t.cyc = s.cyc

theorem FunctionKept.refl (s : State) : FunctionKept s s := fun _ => ⟨rfl, rfl, rfl, rfl, rfl, rfl⟩

theorem FunctionKept.trans {s t u : State} (h : FunctionKept s t) (g : FunctionKept t u) : FunctionKept s u := by
  intro hs
  obtain ⟨hq, hv, hb, hm, hk, hc⟩ := h hs
  obtain ⟨gq, gv, gb, gm, gk, gc⟩ := g fun q => (congrArg (fun l : List QueuePair => (l.getD q {}).deleting) hq).trans (hs q)
  exact ⟨gq.trans hq, gv.trans hv, gb.trans hb, gm.trans hm, gk.trans hk, gc.trans hc⟩

/-- Where no queue pair waits to be deleted, a completion leaves the queue pairs. -/
theorem State.complete_function (acc st : Nat) (r : List Byte) (s : State) : FunctionKept s (s.complete acc st r) := by
  intro hs
  have finished := s.finish_qps acc st r
  have settled : State.settleDeletes 64 (s.finish acc st r) = s.finish acc st r := by
    unfold State.settleDeletes
    split
    · rfl
    · next q hq =>
      have found := List.find?_some hq
      rw [finished, show (s.host.qps.getD q {}).deleting = none from hs q] at found
      exact absurd found Bool.false_ne_true
  unfold State.complete
  rw [settled]
  refine ⟨finished, ?_⟩
  obtain ⟨_, _, _, _, _, hf⟩ := State.finish_replied acc st r s
  rw [hf]
  exact ⟨rfl, rfl, rfl, rfl, rfl⟩

theorem State.completeAll_function (l : List Nat) (st : Nat) (s : State) : FunctionKept s (s.completeAll l st) :=
  foldl_related FunctionKept.refl FunctionKept.trans (fun s a => s.complete_function a st []) l s

theorem State.dmaDisable_function (c : Nat) (s : State) : FunctionKept s (s.dmaDisable c) := by
  have level (n : Nat) (b : Bool) (v : State) : FunctionKept v (v.sourceLevel n b) := by
    unfold State.sourceLevel
    split <;> exact fun _ => ⟨rfl, rfl, rfl, rfl, rfl, rfl⟩
  unfold State.dmaDisable
  dsimp only
  split
  · exact .refl s
  · have stopped : FunctionKept s (s.setChan c fun ch => { ch with
        mode := .disabled, draining := s.inBurst c && !(s.chan c).periph, dbPending := false, held := [], stops := [] }) :=
      fun _ => ⟨rfl, rfl, rfl, rfl, rfl, rfl⟩
    refine .trans ?_ (State.completeAll_function _ _ _)
    exact .trans (stopped.trans (level _ _ _)) fun _ => ⟨rfl, rfl, rfl, rfl, rfl, rfl⟩

theorem functionReset_reaches {t : Nat} {s : State} (hup : s.up = true) : Reaches (.functionReset t) s fun u =>
    u.host.qps = List.replicate 64 {} ∧ u.host.busMaster = false ∧ u.host.msixEnable = false ∧ u.host.vectors = List.replicate 64 {} ∧
      u.host.keys = s.host.keys ∧ u.cyc = s.cyc := by
  obtain ⟨v, hv, reset⟩ : ∃ v : State, (s.at t).functionReset = v.dmaDisableHost ∧ v.host.qps = List.replicate 64 {} ∧
      v.host.busMaster = false ∧ v.host.msixEnable = false ∧ v.host.vectors = List.replicate 64 {} ∧ v.host.keys = s.host.keys ∧ v.cyc = s.cyc :=
    ⟨_, rfl, rfl, rfl, rfl, rfl, rfl, rfl⟩
  obtain ⟨qps, bus, enable, vectors, keys, cyc⟩ := reset
  have fresh : v.NoneDeleting := fun q => by
    have port : v.qp q = {} := by
      unfold State.qp
      rw [qps, List.getD_eq_getElem?_getD, List.getElem?_replicate]
      split <;> rfl
    rw [port]
  have disabled : FunctionKept v v.dmaDisableHost :=
    foldl_related FunctionKept.refl FunctionKept.trans (fun s c => State.dmaDisable_function c s) (List.range 16) v
  obtain ⟨hq, hvec, hb, hm, hk, hc⟩ := disabled fresh
  rw [qps] at hq
  rw [vectors] at hvec
  generalize v.dmaDisableHost = w at *
  exact up_reaches (rfl : _ = execFunctionReset t s) hup hv
    ⟨hq, hb.trans bus, hm.trans enable, hvec, hk.trans keys, hc.trans cyc⟩

/-- Settles O35. That the entry to D3hot takes the link to L1 is deduced (log entry 48). -/
theorem hostEventsAct : Obligations.HostEventsAct :=
  ⟨fun _ _ hup => ⟨fun _ _ => cqEntryWrite_reaches hup, fun _ _ => sessionTimeout_reaches hup⟩,
    fun t s hup => ⟨fun _ x hv hl hx he hd ht => by
        subst hx
        exact ⟨moderationTimerExpire_sends hup hv hl he hd ht, moderationTimerExpire_pends hup hv hl he hd ht⟩,
      fun hr hd => ⟨fun _ _ _ _ => msixUnmask_entry hup hr hd, fun _ _ => msixUnmask_control hup hr hd⟩,
      fun d3 pme => up_reaches (rfl : _ = execFunctionD3hotEntry t d3 pme s) hup rfl rfl, functionD0Return_reaches hup, functionReset_reaches hup,
      up_reaches (rfl : _ = execClkreqNAsserted t s) hup rfl rfl⟩⟩

end Sys2Proof.Machine
end

section
/-! PROOFS. Samples: slot boundaries, late loop executions, what the heads send up (05 to 07, 13). -/

namespace Sys2Proof.Machine

/-! What the fences of a boundary leave: the cycle and the layer. -/

/-- `t` has the cycle and the layer of `s`. -/
def Poised (s t : State) : Prop := t.cyc = s.cyc ∧ t.lay = s.lay

namespace Poised

variable {s t : State}

theorem refl (s : State) : Poised s s := ⟨rfl, rfl⟩

theorem trans {u : State} (h : Poised s t) (g : Poised t u) : Poised s u := ⟨g.1.trans h.1, g.2.trans h.2⟩

theorem ite {u : State} {c : Prop} [Decidable c] (ht : Poised s t) (hu : Poised s u) : Poised s (if c then t else u) := by
  split
  · exact ht
  · exact hu

/-- A change of other fields. -/
theorem update {pending dt fresh tx par parPending deferred otp host power svc recorder streams sig mps loop ledger img mot fbk emd dma int mem head las gut
    net pair dram flash} (h : Poised s t) : Poised s ⟨pending, dt, fresh, tx, par, parPending, deferred, otp, t.cyc, host, power, svc, recorder, streams, sig,
      t.lay, mps, loop, ledger, img, mot, fbk, emd, dma, int, mem, head, las, gut, net, pair, dram, flash⟩ := h

theorem of_replied (h : Replied s t) : Poised s t := by
  obtain ⟨_, _, rfl⟩ := h.exists_eq
  exact refl s

theorem exposing_eq (h : Poised s t) : t.exposing = s.exposing := by
  unfold State.exposing
  rw [h.1, h.2]

theorem dtOf_eq (h : Poised s t) (k : Nat) : t.layEnv.dtOf k = s.layEnv.dtOf k :=
  congrArg (fun (c : Cycle) => c.dtS + 16 * tsNs c.profile.ts * k) h.1

theorem ite_fst {α : Type} {c : Prop} [Decidable c] {a b : State × α} (ha : Poised s a.1) (hb : Poised s b.1) : Poised s (if c then a else b).1 := by
  split
  · exact ha
  · exact hb

theorem append {i : Nat} {gap : Gap → List Byte} {keep : Bool} {bs : List Byte} (h : Poised s t) : Poised s (t.append i gap keep bs).1 :=
  ite_fst (update (update h)) (ite_fst (update h) (update h))

theorem buildEntry {type : Nat} {payload : List Byte} (h : Poised s t) : Poised s (t.buildEntry type payload) :=
  ite (update h) (update (append h))

theorem closeMpsGap (h : Poised s t) : Poised s t.closeMpsGap := by
  unfold State.closeMpsGap
  split
  · exact h
  · exact buildEntry (update h)

theorem writeGroup {dt : Nat} {recs marks : List (List Byte)} (h : Poised s t) : Poised s (t.writeGroup dt recs marks) :=
  ite h (ite (update (closeMpsGap h)) (update h))

theorem writeRecords {n : Nat} (h : Poised s t) : Poised s (t.writeRecords n) := by
  induction n generalizing t with
  | zero => exact h
  | succ n ih =>
    unfold State.writeRecords
    split
    · exact update h
    · exact ite (update h) (ih (update (writeGroup (update h))))

theorem markStreams {tf tag number : Nat} (h : Poised s t) : Poised s (t.markStreams tf tag number) := by
  have entered {keep : Bool} {bs : List Byte} {v : State} (h : Poised s v) : Poised s (v.statsEntry keep bs) := ite (append h) (update h)
  exact ite (append (buildEntry (entered (writeRecords (update h))))) (buildEntry (entered (writeRecords (update h))))

theorem fenceAt {tf : Nat} {p : Packet} (h : Poised s t) : Poised s (t.fenceAt tf p).1 :=
  trans (markStreams (update h)) (of_replied (foldl_related Replied.refl Replied.trans (fun v _ => State.reply_replied _ _ _ _ v) _ _))

theorem fencesDue {tf : Nat} (h : Poised s t) : Poised s (t.fencesDue tf) := by
  have each (v : State) (f : Nat × Nat) : Poised v (match v.host.inProg.find? fun (i : InProg) => i.acc == f.1 with
      | none => v
      | some i => (v.fenceAt tf i.packet).1.complete f.1 stOk (v.fenceAt tf i.packet).2) := by
    split
    · exact refl v
    · exact trans (fenceAt (refl v)) (of_replied (State.complete_replied ..))
  exact trans (update h) (foldl_related refl trans each _ _)

end Poised

/-- The state in which slot boundary `dt` begins: its deposits made, its readouts and fences taken. -/
theorem State.boundary_poised (dt : Nat) (s : State) : Poised s (((s.depositsTo dt).fixReadouts false dt).fencesDue dt) := by
  obtain ⟨_, hd, _⟩ := s.depositsTo_deposited dt
  rw [hd]
  exact .fencesDue (.update (.refl s))

/-! The slot outside EXPOSE. -/

namespace Steady

variable {s t : State}

theorem loopsAt {n : Nat} (h : Steady s t) : Steady s (t.loopsAt n) :=
  foldl (fun _ h' => ite (ite h' (update h')) h') h

theorem rulesEval {head slot : Nat} (h : Steady s t) : Steady s (t.rulesEval head slot) := by
  have each (note : BlockNote) {v : State} (n : Nat) (h : Steady s v) : Steady s (v.ruleEval head slot note n) :=
    ite (update h) (buildEntry (ite (update h) (update h)))
  unfold State.rulesEval
  split
  · exact h
  · exact ite (foldl (fun n h' => each _ n h') h) h

theorem restCommand {head : Nat} (h : Steady s t) : Steady s (t.restCommand head) := by
  refine ite h ?_
  unfold State.command
  dsimp only
  split
  · exact h
  · exact update h

/-- One head in a slot outside EXPOSE. -/
theorem restHead {head slot gateOff : Nat} (h : Steady s t) : Steady s (
    let s' := if t.ruleLag head ≤ slot then t.rulesEval head (slot - t.ruleLag head) else t
    let s1 := if s'.partner head then s' else s'.driftStep head
    let s'' := if s1.inProfile head && !s1.partner head then s1.restCommand head else s1
    let off := s''.setLas head fun (x : LasHead) => if x.gate then { x with gate := false, gateOff := gateOff } else x
    (off.keepNote head { slot := slot, command := off.axisWords head }).sendDown head slot false false {}) := by
  have drifted {v : State} (h : Steady s v) : Steady s (v.driftStep head) := ite h (update h)
  have ruled : Steady s (if t.ruleLag head ≤ slot then t.rulesEval head (slot - t.ruleLag head) else t) := ite (rulesEval h) h
  extract_lets s' s1 s'' off
  have moved : Steady s s'' := ite (restCommand (ite ruled (drifted ruled))) (ite ruled (drifted ruled))
  have noted : Steady s (off.keepNote head { slot := slot, command := off.axisWords head }) := by
    clear_value s''
    exact update (update moved)
  generalize off.keepNote head { slot := slot, command := off.axisWords head } = v at noted
  exact ite noted (update noted)

end Steady

theorem State.restSlot_cyc (i : Nat) (s : State) : (s.restSlot i).cyc = { s.cyc with lastSlot := 16 * s.ts * i } := by
  have heads := Steady.foldl (l := List.range 32) (fun n h => Steady.restHead (head := n) (slot := i) (gateOff := 16 * s.ts * i) h)
    (Steady.loopsAt (n := i) (.refl s))
  have sent {v : State} {content : List Byte} (h : Steady s v) : Steady s (v.sendPeerSlot content) := .ite (.update h) h
  exact congrArg (fun c : Cycle => { c with lastSlot := 16 * s.ts * i }) (sent heads).1

theorem Steady.noteDone {s t : State} (h : Steady s t) : Steady s t.noteDone := .ite h (.ite (.update h) h)

/-- Slot `k` of EXPOSE ends with the next sample as the one to come (R351). -/
theorem State.exposeSlot_sample (i k : Nat) (s : State) :
    (s.exposeSlot i k).cyc.sample = k + 1 ∧ (s.exposeSlot i k).cyc.lastSlot = s.layEnv.dtOf k := by
  have noted (v : State) (dt : Nat) : (v.setCyc fun (c : Cycle) => { c with sample := k + 1, lastSlot := dt }).noteDone.cyc.sample = k + 1 ∧
      (v.setCyc fun (c : Cycle) => { c with sample := k + 1, lastSlot := dt }).noteDone.cyc.lastSlot = dt := by
    rw [(Steady.noteDone (.refl (v.setCyc fun (c : Cycle) => { c with sample := k + 1, lastSlot := dt }))).1]
    exact ⟨rfl, rfl⟩
  unfold State.exposeSlot
  extract_lets env dt before s1 r2 s2 ahead lits s3 s4 gates r5 s6 s7
  clear_value s7
  exact noted s7 dt

/-! The slot boundary (R351). -/

theorem slotBoundary_exposing {t : Nat} {s : State} (hup : s.up = true) (he : s.exposing = true) (hdt : s.layEnv.dtOf s.cyc.sample ≤ max s.dt t)
    (hf : ((s.at t).depositsTo (s.layEnv.dtOf s.cyc.sample)).fenceDue = false) : Reaches (.slotBoundary t) s fun u =>
      u.cyc.sample = s.cyc.sample + 1 ∧ u.cyc.lastSlot = s.layEnv.dtOf s.cyc.sample := by
  obtain ⟨v, hv⟩ : ∃ v, v = (((s.at t).depositsTo (s.layEnv.dtOf s.cyc.sample)).fixReadouts false (s.layEnv.dtOf s.cyc.sample)).fencesDue
    (s.layEnv.dtOf s.cyc.sample) := ⟨_, rfl⟩
  have kept : Poised s v := hv ▸ .trans (.update (.refl s)) (State.boundary_poised ..)
  obtain ⟨sample, lastSlot⟩ := State.exposeSlot_sample (s.layEnv.dtOf s.cyc.sample / (16 * v.ts)) v.cyc.sample v
  obtain ⟨w, hw⟩ : ∃ w, w = v.exposeSlot (s.layEnv.dtOf s.cyc.sample / (16 * v.ts)) v.cyc.sample := ⟨_, rfl⟩
  rw [← hw] at sample lastSlot
  refine up_reaches (u := w) (rfl : _ = execSlotBoundary t s) hup ?_
    ⟨sample.trans (congrArg (·.sample + 1) kept.1), (lastSlot.trans (kept.dtOf_eq _)).trans (congrArg (fun c : Cycle => s.layEnv.dtOf c.sample) kept.1)⟩
  have instant : (if (s.at t).exposing then (s.at t).layEnv.dtOf (s.at t).cyc.sample else (s.at t).dt / (16 * (s.at t).ts) * (16 * (s.at t).ts)) =
    s.layEnv.dtOf s.cyc.sample := if_pos he
  have now : ¬((s.at t).dt < s.layEnv.dtOf s.cyc.sample ∨ (!(s.at t).exposing ∧ s.layEnv.dtOf s.cyc.sample ≤ (s.at t).cyc.lastSlot)) := by
    rintro (h | ⟨h, -⟩)
    · exact absurd h (Nat.not_lt.2 hdt)
    · exact absurd ((congrArg not he).symm.trans h) (by decide)
  have due : ¬((s.at t).depositsTo (s.layEnv.dtOf s.cyc.sample)).fenceDue = true := by
    rw [hf]
    decide
  unfold State.slotBoundary
  rw [instant]
  dsimp only
  rw [if_neg now, if_neg due, ← hv, hw]
  exact if_pos (kept.exposing_eq.trans he)

theorem slotBoundary_rests {t : Nat} {s : State} (hup : s.up = true) (he : s.exposing = false)
    (hl : s.cyc.lastSlot < max s.dt t / (16 * s.ts) * (16 * s.ts)) : Reaches (.slotBoundary t) s fun u =>
      u.cyc = { s.cyc with lastSlot := max s.dt t / (16 * s.ts) * (16 * s.ts) } := by
  obtain ⟨d, hd⟩ : ∃ d, d = max s.dt t / (16 * s.ts) * (16 * s.ts) := ⟨_, rfl⟩
  obtain ⟨v, hv⟩ : ∃ v, v = (((s.at t).depositsTo d).fixReadouts false d).fencesDue d := ⟨_, rfl⟩
  have kept : Poised s v := hv ▸ .trans (.update (.refl s)) (State.boundary_poised ..)
  have ts : v.ts = s.ts := congrArg (fun c : Cycle => tsNs c.profile.ts) kept.1
  have slot : 16 * s.ts * (d / (16 * s.ts)) = d := hd ▸ Nat.mul_div_cancel' (Nat.dvd_mul_left ..)
  have instant : (if (s.at t).exposing then (s.at t).layEnv.dtOf (s.at t).cyc.sample else (s.at t).dt / (16 * (s.at t).ts) * (16 * (s.at t).ts)) = d :=
    (if_neg (he ▸ Bool.false_ne_true)).trans hd.symm
  have now : ¬((s.at t).dt < d ∨ (!(s.at t).exposing ∧ d ≤ (s.at t).cyc.lastSlot)) := by
    rintro (h | ⟨-, h⟩)
    · exact absurd h (Nat.not_lt.2 (hd ▸ Nat.div_mul_le_self ..))
    · exact absurd (hd ▸ h) (Nat.not_le.2 hl)
  have due : ¬ ((s.at t).depositsTo d).fenceDue = true := by
    obtain ⟨_, deposited, _⟩ := (s.at t).depositsTo_deposited d
    have rests : ((s.at t).depositsTo d).exposing = false := by
      rw [deposited]
      exact he
    unfold State.fenceDue
    rw [rests]
    exact Bool.false_ne_true
  rw [← hd]
  refine up_reaches (u := v.restSlot (d / (16 * v.ts))) (rfl : _ = execSlotBoundary t s) hup ?_ ?_
  · unfold State.slotBoundary
    rw [instant]
    dsimp only
    rw [if_neg now, if_neg due, ← hv]
    exact if_neg (by rw [kept.exposing_eq, he]; exact Bool.false_ne_true)
  · refine (State.restSlot_cyc _ v).trans ?_
    rw [ts, slot, kept.1]

/-! What a stopped head leaves: the head ports and the loops. -/

/-- `t` has the head ports and the loops of `s`. -/
def Sensed (s t : State) : Prop := t.head = s.head ∧ t.loop = s.loop

namespace Sensed

variable {s t : State}

theorem refl (s : State) : Sensed s s := ⟨rfl, rfl⟩

theorem trans {u : State} (h : Sensed s t) (g : Sensed t u) : Sensed s u := ⟨g.1.trans h.1, g.2.trans h.2⟩

theorem ite {u : State} {c : Prop} [Decidable c] (ht : Sensed s t) (hu : Sensed s u) : Sensed s (if c then t else u) := by
  split
  · exact ht
  · exact hu

/-- A change of other fields. -/
theorem update {pending dt fresh tx par parPending deferred otp cyc host power svc recorder streams sig lay mps ledger img mot fbk emd dma int mem las gut
    net pair dram flash} (h : Sensed s t) : Sensed s ⟨pending, dt, fresh, tx, par, parPending, deferred, otp, cyc, host, power, svc, recorder, streams, sig,
      lay, mps, t.loop, ledger, img, mot, fbk, emd, dma, int, mem, t.head, las, gut, net, pair, dram, flash⟩ := h

theorem of_streamed (h : Streamed s t) : Sensed s t := by
  obtain ⟨_, _, _, _, _, _, _, _, rfl⟩ := h
  exact refl s

theorem foldl {α : Type} {f : State → α → State} (hf : ∀ (t : State) (a : α), Sensed t (f t a)) (l : List α) (h : Sensed s t) :
    Sensed s (l.foldl f t) := trans h (foldl_related refl trans hf l t)

theorem buildEntry {type : Nat} {payload : List Byte} (h : Sensed s t) : Sensed s (t.buildEntry type payload) :=
  trans h (of_streamed (State.buildEntry_written ..).streamed)

theorem loseHead {head : Nat} (h : Sensed s t) : Sensed s (t.loseHead head) := by
  have done {v : State} (h : Sensed s v) : Sensed s v.noteDone := ite h (ite (update h) h)
  have lost : Sensed s ((t.setLas head fun (x : LasHead) => { x with cut := true }).setLay (t.lay.loseHead t.layEnv head)) :=
    trans (update h) (of_streamed (State.setLay_written ..).streamed)
  exact ite h (done (ite (buildEntry lost) lost))

theorem lasWarn {head cond action : Nat} (h : Sensed s t) : Sensed s (t.lasWarn head cond action) := buildEntry (update h)

theorem noteEmit (h : Sensed s t) : Sensed s t.noteEmit := by
  obtain ⟨_, he⟩ := t.noteEmit_noted
  rw [he]
  exact update h

theorem headStop {head cond : Nat} (h : Sensed s t) : Sensed s (t.headStop head cond) :=
  ite h (noteEmit (loseHead (update (lasWarn h))))

theorem putSense {head i : Nat} {x : Sense} (h : Sensed s t) : Sensed s (t.putSense head i x) :=
  ite h (trans (update h) (of_streamed (State.writeRecords_streamed ..)))

theorem trackEvents {source fresh : Nat} (h : Sensed s t) : Sensed s (t.trackEvents source fresh) :=
  foldl (fun v _ => ite (update (refl v)) (refl v)) _ h

theorem axisSample {head a slot : Nat} {pairs : List (Option (Nat × Nat))} (h : Sensed s t) : Sensed s (t.axisSample head a slot pairs) := by
  refine update (foldl (fun v p => ?_) pairs h)
  cases p with
  | some p => exact trackEvents (update (refl v))
  | none => exact trackEvents (update (refl v))

theorem putTrack {head a i : Nat} {pairs : List (Option (Nat × Nat))} (h : Sensed s t) : Sensed s (t.putTrack head a i pairs) :=
  ite (headStop (axisSample h)) (axisSample h)

theorem noTracks {head i : Nat} (h : Sensed s t) : Sensed s (t.noTracks head i) :=
  foldl (fun v _ => ite (putTrack (refl v)) (refl v)) _ h

theorem sourceWord {head word slotDt : Nat} (h : Sensed s t) : Sensed s (t.sourceWord head word slotDt) := by
  have warned {v : State} (h : Sensed s v) (acts conds old : Nat) : Sensed s (([3, 5, 6, 11] : List Nat).foldl (fun (s : State) (b : Nat) =>
      if statusAction acts b = 1 ∧ conds.testBit b ∧ !old.testBit b then s.lasWarn head b 1 else s) v) :=
    foldl (fun v _ => ite (lasWarn (refl v)) (refl v)) _ h
  unfold State.sourceWord
  dsimp only
  refine ite (ite (update h) (update h)) ?_
  split
  · exact headStop (warned (ite (update h) (update h)) _ _ _)
  · exact warned (ite (update h) (update h)) _ _ _

theorem hlk_eq (h : Sensed s t) (n : Nat) : t.hlk n = s.hlk n := congrArg (fun x : HeadState => x.hlk.getD n {}) h.1

theorem loopState_eq (h : Sensed s t) (l : Nat) : t.loopState l = s.loopState l := congrArg (fun x : LoopEngine => x.loops.getD l {}) h.2

end Sensed

/-! A late execution (R207). -/

theorem State.loopMiss_loop {l : Nat} (slot : Nat) {s : State} (hl : l < s.loop.loops.length) :
    ((s.loopMiss l slot).loopState l).missed = inc32 (s.loopState l).missed ∧
      ((s.loopMiss l slot).loopState l).missRun = (s.loopState l).missRun + 1 ∧ ((s.loopMiss l slot).loopState l).out = (s.loopState l).out := by
  unfold State.loopMiss
  extract_lets dt g starts x0 x1 engine s1 s2
  have same : s2.loopState l = x1 := (updAt_getD ..).trans (if_pos ⟨rfl, hl⟩)
  have stopped : Sensed s2 (if 32 ≤ l ∧ l < 128 ∧ x1.missRun = s.dparam 0x6020 then ((s2.logEvent 0x6001 l 0 0).headStop ((l - 32) / 3) 33) else s2) :=
    .ite (.headStop (.update (.refl s2))) (.refl s2)
  rw [stopped.loopState_eq, same]
  exact ⟨rfl, rfl, rfl⟩

theorem loopDeadlineMiss_reaches {t l : Nat} {s : State} (hup : s.up = true) (hl : l < s.loop.loops.length) {n : Nat}
    (hn : n = max s.dt t / (16 * s.ts) + 1) (hd : s.loopDelay l ≤ n) (due : (s.at t).loopDue l (n - s.loopDelay l) = true) :
    Reaches (.loopDeadlineMiss t l) s fun u =>
      (u.loopState l).missed = inc32 (s.loopState l).missed ∧ (u.loopState l).missRun = (s.loopState l).missRun + 1 ∧
        (u.loopState l).out = (s.loopState l).out := by
  subst hn
  obtain ⟨slot, hslot⟩ : ∃ slot, slot = max s.dt t / (16 * s.ts) + 1 - s.loopDelay l := ⟨_, rfl⟩
  obtain ⟨missed, run, out⟩ := State.loopMiss_loop (l := l) slot (s := s.at t) hl
  obtain ⟨v, hv⟩ : ∃ v, v = (s.at t).loopMiss l slot := ⟨_, rfl⟩
  rw [← hv] at missed run out
  exact up_reaches (rfl : _ = execLoopDeadlineMiss t l s) hup ((if_pos ⟨hd, due⟩).trans (hslot ▸ hv.symm)) ⟨missed, run, out⟩

/-! What a head sends up (R190, R350, R353, R355). -/

/-- `t` has the missing-frame run and the discards of port `h` of `s`. -/
def Heard (h : Nat) (s t : State) : Prop := (t.hlk h).missRun = (s.hlk h).missRun ∧ (t.hlk h).discarded = (s.hlk h).discarded

namespace Heard

variable {h : Nat} {s t : State}

theorem trans {u : State} (g : Heard h s t) (g' : Heard h t u) : Heard h s u := ⟨g'.1.trans g.1, g'.2.trans g.2⟩

theorem ite {u : State} {c : Prop} [Decidable c] (ht : Heard h s t) (hu : Heard h s u) : Heard h s (if c then t else u) := by
  split
  · exact ht
  · exact hu

theorem of_sensed (g : Sensed s t) : Heard h s t := ⟨congrArg HlkPort.missRun (g.hlk_eq h), congrArg HlkPort.discarded (g.hlk_eq h)⟩

theorem setHlk (g : Heard h s t) (n : Nat) (f : HlkPort → HlkPort) (hr : ∀ x, (f x).missRun = x.missRun) (hd : ∀ x, (f x).discarded = x.discarded) :
    Heard h s (t.setHlk n f) := by
  refine g.trans ?_
  unfold Heard State.setHlk State.hlk
  simp only [updAt_getD]
  split
  · next c => exact c.1 ▸ ⟨hr _, hd _⟩
  · exact ⟨rfl, rfl⟩

theorem sendCfg (g : Heard h s t) {n type : Nat} {data : List Byte} : Heard h s (t.sendCfg n type data) :=
  setHlk g n _ (fun x => by dsimp only; split <;> rfl) (fun x => by dsimp only; split <;> rfl)

theorem cfgAck (g : Heard h s t) {n ack : Nat} : Heard h s (t.cfgAck n ack) := by
  have acked : Heard h s (t.setHlk n fun (x : HlkPort) => { x with cfg := none }) := setHlk g n _ (fun _ => rfl) (fun _ => rfl)
  unfold State.cfgAck
  split
  · exact g
  · refine ite g ?_
    split
    · exact acked
    · next ws _ => exact sendCfg (setHlk acked n (fun (x : HlkPort) => { x with cfgWait := ws }) (fun _ => rfl) (fun _ => rfl))

theorem runEcho (g : Heard h s t) {n : Nat} {r : Int} : Heard h s (t.runEcho n r) := by
  have noted (rs : List Int) : Heard h s (t.setHlk n fun (y : HlkPort) => { y with rs := rs }) := setHlk g n _ (fun _ => rfl) (fun _ => rfl)
  have sent {v : State} (f : Nat) (g : Heard h s v) : Heard h s ((v.sendCfg n 2 (leBytes 4 f)).setHlk n fun (y : HlkPort) => { y with fApplied := f }) :=
    setHlk (sendCfg g) n _ (fun _ => rfl) (fun _ => rfl)
  have drifts {v : State} (key : Nat) (g : Heard h s v) :
      Heard h s ((v.setHlk n fun (y : HlkPort) => { y with drift := true }).logEvent 0xC003 n 0 key) :=
    trans (setHlk g n (fun (y : HlkPort) => { y with drift := true }) (fun _ => rfl) (fun _ => rfl)) (of_sensed (.update (.refl _)))
  exact ite (noted _) (ite (noted _) (ite (drifts _ (sent _ (noted _))) (sent _ (noted _))))

end Heard

/-- A whole SAMPLE_UP ends the run of missing frames and leaves the discards. -/
theorem State.upWhole_heard {h : Nat} (c : List Byte) {s : State} (hl : h < s.head.hlk.length) :
    ((s.upWhole h c).hlk h).missRun = 0 ∧ ((s.upWhole h c).hlk h).discarded = (s.hlk h).discarded := by
  have shown {u v : State} (begun : (u.hlk h).missRun = 0 ∧ (u.hlk h).discarded = (s.hlk h).discarded) (g : Heard h u v) :
      (v.hlk h).missRun = 0 ∧ (v.hlk h).discarded = (s.hlk h).discarded := ⟨g.1.trans begun.1, g.2.trans begun.2⟩
  unfold State.upWhole
  extract_lets i dtI v n tc mask axes trackAt st miss s1 want whole late pairs s2 tracksOk s3 s4 r s5
  have same : s1.hlk h = _ := State.setHlk_hlk_same _ hl
  have begun : (s1.hlk h).missRun = 0 ∧ (s1.hlk h).discarded = (s.hlk h).discarded := by
    rw [same]
    exact ⟨rfl, rfl⟩
  have paired : Sensed s1 s2 := .ite (.putSense (.refl s1)) (.ite (.putSense (.refl s1)) (.refl s1))
  have tracked : Sensed s1 s3 := .foldl (fun v _ => .putTrack (.refl v)) _ paired
  have sourced : Sensed s1 s4 := .sourceWord tracked
  have echoed : Heard h s1 s5 := .cfgAck (.runEcho (.of_sensed sourced))
  clear_value s5
  have filled : Sensed s5 (s5.pixelsIn h (field c (st + 28) 4) (field c (st + 32) 4) (c.drop (st + 48))) := .ite (.refl s5) (.update (.refl s5))
  exact shown begun (echoed.trans (.of_sensed filled))

theorem sampleUp_discarded {t h : Nat} {s : State} {frame : List Byte} (hup : s.up = true) (hl : h < s.head.hlk.length) (hk : s.linkUp h = true)
    (hf : unframe frame = none) : Reaches (.sampleUp t h frame) s fun u => (u.hlk h).discarded = inc32 (s.hlk h).discarded ∧
      (u.hlk h).missRun = (s.hlk h).missRun + 1 ∧ u.cyc = s.cyc ∧ u.mps = s.mps := by
  have same : ((s.at t).upDiscard h).hlk h = _ := State.setHlk_hlk_same _ hl
  refine up_reaches (u := (s.at t).upDiscard h) (rfl : _ = execSampleUp t h frame s) hup ?_
    ⟨congrArg HlkPort.discarded same, congrArg HlkPort.missRun same, rfl, rfl⟩
  unfold State.sampleUp
  rw [hf]
  exact if_neg (by rw [show (s.at t).linkUp h = true from hk]; decide)

theorem sampleUp_whole {t h : Nat} {s : State} {frame c : List Byte} (hup : s.up = true) (hl : h < s.head.hlk.length) (hk : s.linkUp h = true)
    (hf : unframe frame = some c) (kind : field c 0 1 = 0x81) (length : upLength (s.hlk h).version c = true) :
    Reaches (.sampleUp t h frame) s fun u => (u.hlk h).missRun = 0 ∧ (u.hlk h).discarded = (s.hlk h).discarded := by
  obtain ⟨run, discarded⟩ := State.upWhole_heard c (s := s.at t) hl
  obtain ⟨v, hv⟩ : ∃ v, v = (s.at t).upWhole h c := ⟨_, rfl⟩
  rw [← hv] at run discarded
  refine up_reaches (u := v) (rfl : _ = execSampleUp t h frame s) hup ?_ ⟨run, discarded⟩
  unfold State.sampleUp
  rw [hf, hv]
  refine (if_neg (by rw [show (s.at t).linkUp h = true from hk]; decide)).trans (if_neg ?_)
  rintro (h | h)
  · exact h kind
  · exact absurd ((congrArg not (length : upLength ((s.at t).hlk _).version c = true)).symm.trans h) (by decide)

theorem sampleUp_unheard {t h : Nat} {s : State} (frame : List Byte) (hup : s.up = true) (hk : s.linkUp h = false) :
    Reaches (.sampleUp t h frame) s fun u => u = { s with dt := max s.dt t, tx := [] } :=
  up_reaches (rfl : _ = execSampleUp t h frame s) hup (if_pos (by rw [show (s.at t).linkUp h = false from hk]; decide)) rfl

theorem sampleMissing_reaches {t h i : Nat} {s : State} (hup : s.up = true) (hl : h < s.head.hlk.length) (late : s.arrival h i + 32 * s.ts ≤ max s.dt t)
    (unknown : s.senseAt h i = none) (unheard : (s.hlk h).arrived.contains i = false) (hk : s.linkUp h = true) :
    Reaches (.sampleMissing t h i) s fun u => (u.hlk h).missing = inc32 (s.hlk h).missing ∧ (u.hlk h).missRun = (s.hlk h).missRun + 1 := by
  obtain ⟨v, hv⟩ : ∃ v, v = ((s.at t).putSense h i { missing := true }).noTracks h i := ⟨_, rfl⟩
  have sensed : Sensed s ((s.at t).putSense h i { missing := true }) := .putSense (.update (.refl s))
  have kept : Sensed s v := hv ▸ .noTracks sensed
  have same : (v.setHlk h fun (x : HlkPort) => { x.heard i with missing := inc32 x.missing, missRun := x.missRun + 1 }).hlk h = _ :=
    State.setHlk_hlk_same _ (by rw [kept.1]; exact hl)
  refine up_reaches (u := v.setHlk h fun (x : HlkPort) => { x.heard i with missing := inc32 x.missing, missRun := x.missRun + 1 })
    (rfl : _ = execSampleMissing t h i s) hup ?_
    ⟨(congrArg HlkPort.missing same).trans (congrArg (fun x : HlkPort => inc32 x.missing) (kept.hlk_eq h)),
      (congrArg HlkPort.missRun same).trans (congrArg (fun x : HlkPort => x.missRun + 1) (kept.hlk_eq h))⟩
  have waits : ¬((s.at t).dt < (s.at t).arrival h i + 32 * (s.at t).ts ∨ ((s.at t).senseAt h i).isSome) := by
    rintro (h | h)
    · exact absurd h (Nat.not_lt.2 late)
    · exact absurd ((congrArg Option.isSome unknown).symm.trans h) (by decide)
  unfold State.sampleMissing
  dsimp only
  rw [if_neg waits, sensed.hlk_eq, if_neg (unheard ▸ Bool.false_ne_true), ← hv]
  exact if_pos ((congrArg (fun x : HlkPort => x.link == .up) (kept.hlk_eq h)).trans hk)

/-- Settles O20: the slot ends with its own update of the cycle, which its heads, loops, rules and fences leave alone; a head that is stopped leaves the
head ports and the loops. -/
theorem samplesAct : Obligations.SamplesAct := by
  unfold Obligations.SamplesAct
  exact ⟨fun t s hup => ⟨slotBoundary_exposing hup, slotBoundary_rests hup, fun l n hn hl => loopDeadlineMiss_reaches hup hl hn⟩,
    fun t h s hup hl => ⟨fun frame => sampleUp_discarded hup hl, fun frame c => sampleUp_whole hup hl, fun frame => sampleUp_unheard frame hup,
      fun i => sampleMissing_reaches hup hl⟩⟩

end Sys2Proof.Machine
end

section
/-! PROOFS. The phases of the layer cycle (01): how each begins and ends. -/

namespace Sys2Proof.Machine

/-- `t` has the layer cycle and the service block of `s`. -/
def Settled (s t : State) : Prop := t.cyc = s.cyc ∧ t.svc = s.svc

namespace Settled

theorem refl (s : State) : Settled s s := ⟨rfl, rfl⟩

theorem trans {s t u : State} (h : Settled s t) (g : Settled t u) : Settled s u := ⟨g.1.trans h.1, g.2.trans h.2⟩

theorem ite {s t u : State} {c : Prop} [Decidable c] (ht : Settled s t) (hu : Settled s u) : Settled s (if c then t else u) := by
  split
  · exact ht
  · exact hu

theorem of_replied {s t : State} (h : Replied s t) : Settled s t := by
  obtain ⟨_, _, rfl⟩ := h.exists_eq
  exact refl s

theorem of_streamed {s t : State} (h : Streamed s t) : Settled s t := by
  obtain ⟨_, _, _, _, _, _, _, _, rfl⟩ := h
  exact refl s

theorem of_written {s t : State} (h : LayWritten s t) : Settled s t := of_streamed h.streamed

theorem of_driven {s t : State} (h : Driven s t) : Settled s t := by
  obtain ⟨_, _, _, _, rfl, _⟩ := h
  exact refl s

theorem of_told {s t : State} (h : PeerTold s t) : Settled s t := by
  obtain ⟨_, _, rfl⟩ := h
  exact refl s

theorem of_deposited {s t : State} (h : Deposited s t) : Settled s t := by
  obtain ⟨_, rfl, _⟩ := h
  exact refl s

variable {s t : State}

/-- A change of other fields. -/
theorem update {pending dt fresh tx par parPending deferred otp host power recorder streams sig lay mps loop ledger img mot fbk emd dma int mem head las gut
    net pair dram flash} (h : Settled s t) : Settled s ⟨pending, dt, fresh, tx, par, parPending, deferred, otp, t.cyc, host, power, t.svc, recorder, streams,
      sig, lay, mps, loop, ledger, img, mot, fbk, emd, dma, int, mem, head, las, gut, net, pair, dram, flash⟩ := h

/-- A fold of steps each of which leaves the cycle and the service block. -/
theorem foldl {α : Type} {f : State → α → State} (hf : ∀ (t : State) (a : α), Settled t (f t a)) (l : List α) (h : Settled s t) :
    Settled s (l.foldl f t) := trans h (foldl_related refl trans hf l t)

theorem hostCycle_eq (h : Settled s t) : t.hostCycle = s.hostCycle := congrArg (fun x : Service => x.modes.testBit fnCycle) h.2

theorem complete {a st : Nat} {r : List Byte} (h : Settled s t) : Settled s (t.complete a st r) := h.trans (.of_replied (State.complete_replied ..))

theorem completeAll {l : List Nat} {st : Nat} (h : Settled s t) : Settled s (t.completeAll l st) := h.trans (.of_replied (State.completeAll_replied ..))

theorem buildEntry {type : Nat} {payload : List Byte} (h : Settled s t) : Settled s (t.buildEntry type payload) :=
  h.trans (.of_written (State.buildEntry_written ..))

theorem setLay {l : Lay} (h : Settled s t) : Settled s (t.setLay l) := h.trans (.of_written (State.setLay_written ..))

theorem tellPeer {event cause : Nat} (h : Settled s t) : Settled s (t.tellPeer event cause) := h.trans (.of_told (State.tellPeer_told ..))

theorem noteDone (h : Settled s t) : Settled s t.noteDone := ite h (ite (update h) h)

theorem noteEmit (h : Settled s t) : Settled s t.noteEmit := by
  obtain ⟨_, he⟩ := t.noteEmit_noted
  rw [he]
  exact update h

theorem clearLay (h : Settled s t) : Settled s t.clearLay := update (foldl (fun v _ => update (refl v)) _ h)

theorem emptyBank {k : Nat} (h : Settled s t) : Settled s (t.emptyBank k) := update h

theorem retire {q : Option Nat} (h : Settled s t) : Settled s (t.retire q) := by
  unfold State.retire
  split
  · exact update h
  · exact h

theorem activate {k : Nat} (h : Settled s t) : Settled s (t.activate k) := update (retire (update h))

theorem layerSummary {outcome : Nat} (h : Settled s t) : Settled s (t.layerSummary outcome) := by
  have closed {v : State} (h : Settled s v) : Settled s v.closeGap := by
    unfold State.closeGap
    split
    · exact h
    · exact update (update (trans (update h) (of_written (State.append_written ..))))
  have ended {v : State} {slot counter : Nat} (h : Settled s v) : Settled s (v.endBuild slot counter).1 := by
    unfold State.endBuild
    dsimp only
    split
    · exact closed h
    · exact update (buildEntry (closed h))
  unfold State.layerSummary
  dsimp only
  refine ite h ?_
  have summed {type : Nat} {payload : List Byte} : Settled s (t.closeGap.buildEntry type payload) := buildEntry (closed h)
  split
  · exact update summed
  · exact complete (ended (update summed))

/-! What waits for the fence (R165, R408). -/

theorem applyOne {p : PendingPar} (h : Settled s t) : Settled s (t.applyOne p) := by
  have sent {v : State} {n type : Nat} {data : List Byte} (h : Settled s v) : Settled s (v.sendCfg n type data) := update h
  have changed {v : State} {l old : Nat} (h : Settled s v) : Settled s (v.loopCfgChanged l old) := ite (update h) (ite (update h) h)
  have effect {v : State} {id scope old : Nat} (h : Settled s v) : Settled s (v.fenceEffect id scope old) :=
    ite (ite (sent h) h) (ite (update h) (ite (noteEmit h) (ite (changed h) h)))
  exact effect (update h)

theorem applyPending (h : Settled s t) : Settled s t.applyPending := by
  have ended {v : State} {st : Nat} {ds : List Deferred} (h : Settled s v) : Settled s (v.endDeferred st ds) :=
    foldl (fun v _ => complete (refl v)) _ h
  have applied {l : List PendingPar} : Settled s (l.foldl (fun (v : State) (p : PendingPar) => v.applyOne p) { t with parPending := [], deferred := [] }) :=
    foldl (fun v _ => applyOne (refl v)) _ (update h)
  unfold State.applyPending
  refine ended (ended (ite ?_ applied))
  split
  · exact update applied
  · exact applied

theorem applyModes (h : Settled s t) (hm : s.svc.modeReq = []) : Settled s t.applyModes := by
  have none_ : t.svc.modeReq = [] := (congrArg Service.modeReq h.2).trans hm
  have cleared : { t with svc := { t.svc with modeReq := [] } } = t := by
    rw [← none_]
  have same : modesAfter t.svc.modes t.svc.modeReq = t.svc.modes := by
    rw [none_]
    rfl
  unfold State.applyModes
  dsimp only
  have kept : t.switchModes t.svc.modes = t := if_pos rfl
  rw [cleared, same, kept]
  exact completeAll h

theorem restoreHeads (h : Settled s t) : Settled s t.restoreHeads := by
  refine noteEmit (foldl (fun v n => ?_) _ h)
  dsimp only
  split
  · exact refl v
  · exact completeAll (update (refl v))

theorem handOver (h : Settled s t) : Settled s t.handOver := by
  have dropped : Settled s ((List.range 2).foldl (fun (v : State) (k : Nat) =>
      if (v.bank k).state == .valid && v.assisted fnShare && !(v.bank k).sig.fixedAssign then
        ((v.emptyBank k).retire (v.bank k).quire).logEvent 0x1001 k 2 (beside (v.bank k).sig.layer 5 1)
      else v) t) := foldl (fun v _ => ite (update (retire (emptyBank (refl v)))) (refl v)) _ h
  unfold State.handOver
  extract_lets drop s1 s2
  have emptied : Settled s s2 := by
    unfold s2
    split
    · exact emptyBank dropped
    · exact dropped
  split
  · exact activate emptied
  · exact update emptied

/-! What is read at the end of KETTLE (R105, R178). -/

theorem takeLoads (h : Settled s t) : Settled s t.takeLoads := by
  have seen {u v : State} {a n : Nat} (h : Settled u v) : Settled u (v.poisonSeen a n) := by
    unfold State.poisonSeen
    split
    · exact h
    · exact update h
  have fc (n : Nat) (v : State) : Settled v (v.takeFc n) := by
    unfold State.takeFc
    dsimp only
    split
    · exact refl v
    · split
      · exact complete (update (refl v))
      · exact ite (complete (seen (update (refl v)))) (complete (update (update (refl v))))
  have ratio (n : Nat) (v : State) : Settled v (v.takeRatio n) := by
    unfold State.takeRatio
    dsimp only
    split
    · exact refl v
    · split
      · exact complete (update (refl v))
      · exact ite (complete (seen (update (refl v)))) (complete (update (refl v)))
  exact foldl (fun v n => (fc n v).trans (ratio n _)) _ h

/-! The start of EXPOSE (R28). -/

theorem peerSend {type : Nat} {payload : List Byte} (h : Settled s t) : Settled s (t.peerSend type payload) := ite h (update h)

theorem peerTalk {before : Lay} (h : Settled s t) : Settled s (t.peerTalk before) := by
  have told {round : Nat} : Settled s (t.tellClaims before round) := by
    refine update (foldl (fun v _ => peerSend (refl v)) _ (foldl (fun v c => foldl (fun w u => ?_) _ (refl v)) _ h))
    split
    · exact peerSend (refl w)
    · exact refl w
  have tested (round : Nat) (v : State) (q : PeerReq) : Settled v (v.testRelease round q) := ite (refl v) (peerSend (update (refl v)))
  have asked (v : State) (n : Nat) : Settled v (v.askPrimary n) := by
    unfold State.askPrimary
    refine ite (peerSend (update (refl v))) ?_
    split
    · exact refl v
    · exact ite (peerSend (update (refl v))) (refl v)
  exact ite (foldl (fun v q => tested _ v q) _ told) (ite (foldl asked _ h) h)

theorem claimGranted {p : List Byte} (h : Settled s t) : Settled s (t.claimGranted p) := by
  unfold State.claimGranted
  dsimp only
  refine ite (ite (update h) h) ?_
  split
  · exact h
  · split
    · exact h
    · exact ite (setLay h) (setLay (update h))

theorem releaseGranted {p : List Byte} (h : Settled s t) : Settled s (t.releaseGranted p) := by
  unfold State.releaseGranted
  dsimp only
  split
  · exact h
  · exact ite h (setLay h)

theorem crossEarly (h : Settled s t) : Settled s t.crossEarly := by
  have message (v : State) (m : Nat × List Byte) : Settled v (v.crossMessage m.1 m.2) :=
    ite (ite (ite (peerSend (refl v)) (update (refl v))) (ite (refl v) (update (refl v))))
      (ite (ite (claimGranted (refl v)) (releaseGranted (refl v))) (refl v))
  exact foldl message _ (update h)

theorem chooseMap {total : Nat} (h : Settled s t) : Settled s (t.chooseMap total) := by
  unfold State.chooseMap
  dsimp only
  refine ite h ?_
  split
  · exact buildEntry (update h)
  · exact ite h (buildEntry (update h))

end Settled

/-- EXPOSE begins at its first sample; the device stays in its state (R28). -/
theorem State.exposeStart_cyc (dtS : Nat) (s : State) : (s.exposeStart dtS).cyc.phase = .expose ∧ (s.exposeStart dtS).cyc.dtS = dtS ∧
    (s.exposeStart dtS).cyc.sample = 0 ∧ (s.exposeStart dtS).cyc.state = s.cyc.state := by
  unfold State.exposeStart
  extract_lets s1 s2 sig s3 s4 replay fixed replays open_ recorder gut s5 s6 s7 paths l all
  have retained : Settled s s1 := .foldl (fun v _ => .ite (.emptyBank (.refl v)) (.refl v)) _ (.refl s)
  have active : Settled s s2 := by
    unfold s2
    split
    · exact .activate retained
    · exact retained
  have used (layer : Nat) (v : State) : Settled v (v.useSnapshot layer) := .ite (.refl v) (.ite (.update (.refl v)) (.buildEntry (.update (.refl v))))
  clear_value s2
  have begun : s3.cyc.phase = .expose ∧ s3.cyc.dtS = dtS ∧ s3.cyc.sample = 0 ∧ s3.cyc.state = s.cyc.state :=
    ⟨rfl, rfl, rfl, (congrArg Cycle.state active.1 : s2.cyc.state = s.cyc.state)⟩
  clear_value s3
  have fresh : Settled s3 s4 := .update (.refl s3)
  clear_value s4
  have opened : Settled s3 s5 := .update fresh
  clear_value s5
  have entered : Settled s3 s6 := .update (.buildEntry opened)
  clear_value s6
  have chosen : Settled s3 s7 := .chooseMap (entered.trans (used ..))
  clear_value l all s7
  have told : Settled s3 (((s7.setLay (s7.peerHeads l)).peerTalk all).crossEarly) := .crossEarly (.peerTalk (.setLay chosen))
  generalize ((s7.setLay (s7.peerHeads l)).peerTalk all).crossEarly = v at told
  have timed : Settled v (v.syncPhase 2) := .of_driven (State.syncEvent_driven ..)
  have latched (v : State) : Settled v (v.phaseEmd 2) := .foldl (fun v _ => .update (.refl v)) _ (.refl v)
  rw [(told.trans (.noteDone (timed.trans (latched _)))).1]
  exact begun

theorem exposeStart_reaches {t : Nat} {s : State} (hup : s.up = true) (ready : (s.at t).exposeReady = true) (alone : (s.at t).isPaired = false)
    (whole : max s.dt t % 16000 = 0) : Reaches (.exposeStart t) s fun u =>
      u.cyc.phase = .expose ∧ u.cyc.dtS = max s.dt t ∧ u.cyc.sample = 0 ∧ u.cyc.state = s.cyc.state := by
  have begun := State.exposeStart_cyc (max s.dt t) (s.at t)
  obtain ⟨v, hv⟩ : ∃ v, v = (s.at t).exposeStart (max s.dt t) := ⟨_, rfl⟩
  rw [← hv] at begun
  refine up_reaches (u := v) (rfl : _ = execExposeStart t s) hup ?_ begun
  unfold State.tryExpose
  rw [if_neg (by rw [ready]; decide), if_pos (by rw [alone]; decide), hv]
  exact if_pos whole

/-! The kettle fence and its timeout (R30, R165, R166). -/

/-- A phase that ends is done, and no CYCLE_PHASE names it any more (R34). -/
theorem State.endPhase_settled (s : State) :
    s.endPhase.cyc = { s.cyc with phaseDone := true, hostPhase := none } ∧ s.endPhase.svc = s.svc := by
  unfold State.endPhase
  extract_lets acc s1
  clear_value acc
  split
  · exact Settled.of_replied (State.complete_replied ..)
  · exact ⟨rfl, rfl⟩

/-- The fence hands the layer over and takes what waited for it (R165, R408); where no mode switch waits, KETTLE begins. -/
theorem State.kettleFence_cyc {s : State} (host : s.hostCycle = false) (modes : s.svc.modeReq = []) (hold : s.cyc.holdAtFence = none) :
    s.kettleFence.cyc = { s.cyc with phase := .kettle, phaseDone := false, hostPhase := none, asked := none } := by
  unfold State.kettleFence
  extract_lets s0 s1 s2 old sum recorder head s3 s4 loop s5 s6 s7
  have deposited : Settled s s0 := .of_deposited (State.depositsTo_deposited ..)
  clear_value s0
  have listed : Settled s s1 :=
    .foldl (fun v _ => .buildEntry (.refl v)) _ (.update (.foldl (fun v _ => .of_written (State.layOut_written ..)) _ (.update (.setLay deposited))))
  clear_value s1
  have flushed : Settled s s2 := by
    have lagged : Settled s (s1.timeEntry.writeLags.fixReadouts true s1.dt) := .update (.foldl (fun v _ => .update (.refl v)) _ (.buildEntry listed))
    have written : Settled s (s1.timeEntry.writeLags.fixReadouts true s1.dt).flushRecords := lagged.trans (.of_streamed (State.writeRecords_streamed ..))
    exact .ite (.update written) written
  clear_value s2
  have handed : Settled s s4 := .handOver (.restoreHeads (.applyModes (.applyPending (.update (.clearLay (.update flushed)))) modes))
  clear_value s4
  have lagged : Settled s s5 := .update handed
  clear_value s5
  obtain ⟨ended, svc⟩ := s5.endPhase_settled
  have told : Settled s5.endPhase s6 := .update (.tellPeer (.refl _))
  clear_value s6
  have cyc : s6.cyc = { s.cyc with phaseDone := true, hostPhase := none } := by
    rw [told.1, ended, lagged.1]
  have hardware : s6.hostCycle = false :=
    (congrArg (fun x : Service => x.modes.testBit fnCycle) (told.2.trans (svc.trans lagged.2))).trans host
  have begun : s7.cyc = { s.cyc with phase := .kettle, phaseDone := false, hostPhase := none, asked := none } := by
    unfold s7
    rw [hardware, if_neg (by decide), State.beginPhase_cyc, cyc]
  clear_value s7
  have waits : s7.cyc.holdAtFence = none := (congrArg Cycle.holdAtFence begun).trans hold
  rw [waits]
  exact begun

theorem kettleFence_reaches {t : Nat} {s : State} (hup : s.up = true) (due : (s.at t).fenceDue = true) (host : s.hostCycle = false)
    (modes : s.svc.modeReq = []) (hold : s.cyc.holdAtFence = none) : Reaches (.kettleFence t) s fun u =>
      u.cyc.phase = .kettle ∧ u.cyc.phaseDone = false ∧ u.cyc.state = .armed ∧ u.cyc.layersLeft = s.cyc.layersLeft := by
  have armed : s.cyc.state = .armed := by
    unfold State.fenceDue at due
    simp only [Bool.and_eq_true, beq_iff_eq] at due
    exact due.1.1.2
  have fenced := State.kettleFence_cyc (s := s.at t) host modes hold
  obtain ⟨v, hv⟩ : ∃ v, v = (s.at t).kettleFence := ⟨_, rfl⟩
  rw [← hv] at fenced
  refine up_reaches (u := v) (rfl : _ = execKettleFence t s) hup ((if_pos due).trans hv.symm) ?_
  refine ⟨congrArg Cycle.phase fenced, congrArg Cycle.phaseDone fenced, (congrArg Cycle.state fenced).trans armed, (congrArg Cycle.layersLeft fenced :)⟩

theorem kettleTimeout_reaches {t d : Nat} {s : State} (hup : s.up = true) (hd : s.gut.firstDone = some d) (hs : s.cyc.state = .armed)
    (he : s.exposing = true) (late : d + 16000000 * s.dparam 0x4004 ≤ max s.dt t) :
    Reaches (.kettleTimeout t) s fun u => u.cyc.state = .hold ∧ u.cyc.cause = 4 ∧ u.cyc.phase = .expose := by
  have phase : s.cyc.phase = .expose := by
    unfold State.exposing at he
    simp only [Bool.and_eq_true, beq_iff_eq] at he
    exact he.1
  have now : ¬((s.at t).cyc.state ≠ .armed ∨ !(s.at t).exposing ∨ (s.at t).dt < d + 16000000 * (s.at t).dparam 0x4004) := by
    rintro (h | h | h)
    · exact h hs
    · exact absurd ((congrArg not he).symm.trans h) (by decide)
    · exact absurd h (Nat.not_lt.2 late)
  have held (key : Nat) : (((s.at t).logEvent 0x4003 255 0 key).enterHold causeKettle).cyc = { s.cyc with state := .hold, cause := causeKettle } := by
    obtain ⟨_, _, _, _, _, _, _, _, _, _, _, _, hh⟩ := State.enterHold_entered (cause := causeKettle) (s := (s.at t).logEvent 0x4003 255 0 key) hs
    rw [hh]
    rfl
  have ended : ∃ v, (s.at t).kettleTimeout = v ∧ v.cyc = { s.cyc with state := .hold, cause := causeKettle } := by
    have first : (s.at t).gut.firstDone = some d := hd
    unfold State.kettleTimeout
    rw [first]
    exact ⟨_, if_neg now, held _⟩
  obtain ⟨v, hv, cyc⟩ := ended
  exact up_reaches (rfl : _ = execKettleTimeout t s) hup hv
    ⟨congrArg Cycle.state cyc, congrArg Cycle.cause cyc, (congrArg Cycle.phase cyc).trans phase⟩

/-- Settles O18: what EXPOSE and KETTLE begin with leaves the cycle but for the fields the start itself writes. -/
theorem exposeBeginsAndEnds : Obligations.ExposeBeginsAndEnds := by
  unfold Obligations.ExposeBeginsAndEnds
  exact fun t s hup => ⟨exposeStart_reaches hup, kettleFence_reaches hup, fun d => kettleTimeout_reaches hup⟩

end Sys2Proof.Machine
end

section
/-! PROOFS. KETTLE, RECOAT and IMAGE in their order (01). -/

namespace Sys2Proof.Machine

/-- A phase ends, and its boundary is waited at where that is asked for (R32, R34). -/
theorem State.endPhase_waitAt (b : Boundary) (go : Bool) (s : State) :
    (s.endPhase.waitAt b go).cyc = { s.cyc with phaseDone := true, hostPhase := none, boundary := if go then some b else s.cyc.boundary } ∧
      (s.endPhase.waitAt b go).svc = s.svc := by
  obtain ⟨cyc, svc⟩ := s.endPhase_settled
  refine ⟨?_, ?_⟩
  · rw [State.waitAt_cyc, cyc]
    split <;> rfl
  · refine Eq.trans ?_ svc
    unfold State.waitAt
    split <;> rfl

/-! KETTLE. -/

theorem State.kettleEnd_cyc {s : State} (hs : s.cyc.state = .armed) (hp : s.cyc.phase = .kettle) (hd : s.cyc.phaseDone = false)
    (hf : s.framesDone 1 false = true) : ∃ b, s.kettleEnd.cyc = { s.cyc with phaseDone := true, hostPhase := none, boundary := b } ∧
      (s.gate 1 = true → b = some .beforeRecoat) := by
  have now : ¬(s.cyc.phase ≠ .kettle ∨ s.cyc.phaseDone ∨ s.cyc.state ≠ .armed ∨ !s.framesDone 1 false) := by
    rintro (h | h | h | h)
    · exact h hp
    · exact absurd (hd.symm.trans h) (by decide)
    · exact h hs
    · exact absurd ((congrArg not hf).symm.trans h) (by decide)
  have taken : Settled s s.takeLoads := .takeLoads (.refl s)
  unfold State.kettleEnd
  rw [if_neg now]
  extract_lets loss s1
  have cyc : s1.cyc = _ := (State.endPhase_waitAt .beforeRecoat _ s.takeLoads).1
  rw [taken.1] at cyc
  exact ⟨_, cyc, fun h => if_pos (by rw [h]; rfl)⟩

theorem kettleEnd_reaches {t : Nat} {s : State} (hup : s.up = true) (hs : s.cyc.state = .armed) (hp : s.cyc.phase = .kettle)
    (hd : s.cyc.phaseDone = false) (hf : s.framesDone 1 false = true) : Reaches (.kettleEnd t) s fun u =>
      u.cyc.phase = .kettle ∧ u.cyc.phaseDone = true ∧ (s.gate 1 = true → u.cyc.boundary = some .beforeRecoat) := by
  obtain ⟨b, cyc, asked⟩ := State.kettleEnd_cyc (s := s.at t) hs hp hd hf
  obtain ⟨v, hv⟩ : ∃ v, v = (s.at t).kettleEnd := ⟨_, rfl⟩
  rw [← hv] at cyc
  exact up_reaches (rfl : _ = execKettleEnd t s) hup hv.symm ⟨(congrArg Cycle.phase cyc).trans hp, congrArg Cycle.phaseDone cyc, fun h =>
    (congrArg Cycle.boundary cyc).trans (asked h)⟩

/-! RECOAT. -/

theorem recoatStart_reaches {t : Nat} {s : State} (hup : s.up = true) (hs : s.cyc.state = .armed) (hp : s.cyc.phase = .kettle)
    (hd : s.cyc.phaseDone = true) (hb : s.cyc.boundary = none) (hr : s.mot.stream.running = false) (hf : s.fencesDone = true)
    (hm : s.pair.mode ≠ .split) (host : s.hostCycle = false) : Reaches (.recoatStart t) s fun u =>
      u.cyc.phase = .recoat ∧ u.cyc.phaseDone = false ∧ u.cyc.layer = s.cyc.layer := by
  have now : ¬((s.at t).cyc.phase ≠ .kettle ∨ !(s.at t).cyc.phaseDone ∨ (s.at t).cyc.state ≠ .armed ∨ (s.at t).cyc.boundary.isSome ∨
      (s.at t).mot.stream.running ∨ !(s.at t).fencesDone ∨ (s.at t).pair.mode = .split ∨
      ((s.at t).hostCycle && (s.at t).cyc.asked != some .recoat)) := by
    rintro (h | h | h | h | h | h | h | h)
    · exact h hp
    · exact absurd ((congrArg not hd).symm.trans h) (by decide)
    · exact h hs
    · exact absurd ((congrArg Option.isSome hb).symm.trans h) (by decide)
    · exact absurd (hr.symm.trans h) (by decide)
    · exact absurd ((congrArg not hf).symm.trans h) (by decide)
    · exact hm h
    · rw [show (s.at t).hostCycle = false from host, Bool.false_and] at h
      cases h
  have begun (v : State) : Settled v (if v.motAssisted then ({ v with mot := { v.mot with steps := [], recoatWait := false } }).streamStart
      (v.dt / 16000 + 1) none true else v.recoatBegin) := by
    refine .ite (.update (.refl v)) (.trans (.update (.refl v)) (.foldl (fun v i => .ite (.ite (.update (.refl v)) ?_) (.refl v)) _ (.refl _)))
    exact .of_driven (State.startStep_driven i v)
  have cyc : ∃ v, (s.at t).recoatStart = v ∧ v.cyc = { s.cyc with phase := .recoat, phaseDone := false, asked := none } :=
    ⟨_, if_neg now, (begun _).1.trans (State.beginPhase_cyc .recoat (s.at t))⟩
  obtain ⟨v, hv, cyc⟩ := cyc
  exact up_reaches (rfl : _ = execRecoatStart t s) hup hv ⟨congrArg Cycle.phase cyc, congrArg Cycle.phaseDone cyc, (congrArg Cycle.layer cyc :)⟩

theorem recoatEnd_reaches {t : Nat} {s : State} (hup : s.up = true) (hs : s.cyc.state = .armed) (hp : s.cyc.phase = .recoat)
    (hd : s.cyc.phaseDone = false) (past : s.recoatOver = true) (hb : s.cyc.boundary = none) (host : s.hostCycle = false) :
    Reaches (.recoatEnd t) s fun u =>
      (s.gate 2 = true → u.cyc.phase = .recoat ∧ u.cyc.phaseDone = true ∧ u.cyc.boundary = some .beforeImage) ∧
      (s.gate 2 = false → u.cyc.phase = .image ∧ u.cyc.phaseDone = false ∧ u.cyc.boundary = none) := by
  have now : ¬((s.at t).cyc.phase ≠ .recoat ∨ (s.at t).cyc.phaseDone ∨ (s.at t).cyc.state ≠ .armed) := by
    rintro (h | h | h)
    · exact h hp
    · exact absurd (hd.symm.trans h) (by decide)
    · exact h hs
  obtain ⟨w, hw⟩ : ∃ w, w = (s.at t).endPhase.waitAt .beforeImage (s.gate 2) := ⟨_, rfl⟩
  obtain ⟨cyc, svc⟩ := State.endPhase_waitAt .beforeImage (s.gate 2) (s.at t)
  rw [← hw] at cyc svc
  have goes : (s.at t).recoatEnd = if w.cyc.boundary.isSome || w.hostCycle then w else w.beginPhase .image := by
    rw [hw]
    exact (if_neg now).trans (if_pos past)
  have hardware : w.hostCycle = false := (congrArg (fun x : Service => x.modes.testBit fnCycle) svc).trans host
  cases gate : s.gate 2 with
  | true =>
    rw [gate] at cyc
    have waits : w.cyc.boundary = some .beforeImage := congrArg Cycle.boundary cyc
    refine up_reaches (u := w) (rfl : _ = execRecoatEnd t s) hup (goes.trans (if_pos (by rw [waits]; rfl)))
      ⟨fun _ => ⟨(congrArg Cycle.phase cyc).trans hp, congrArg Cycle.phaseDone cyc, waits⟩, fun h => (Bool.false_ne_true h.symm).elim⟩
  | false =>
    rw [gate] at cyc
    have none_ : w.cyc.boundary = none := (congrArg Cycle.boundary cyc).trans hb
    have image := State.beginPhase_cyc .image w
    obtain ⟨v, hv⟩ : ∃ v, v = w.beginPhase .image := ⟨_, rfl⟩
    rw [← hv] at image goes
    refine up_reaches (u := v) (rfl : _ = execRecoatEnd t s) hup (goes.trans (if_neg (by rw [none_, hardware]; decide)))
      ⟨fun h => (Bool.false_ne_true h).elim, fun _ => ⟨congrArg Cycle.phase image, congrArg Cycle.phaseDone image, (congrArg Cycle.boundary image).trans none_⟩⟩

/-! IMAGE. -/

theorem Settled.stitchLayer {s t : State} (h : Settled s t) : Settled s t.stitchLayer := by
  have head (layer : Nat) (es : List StitchEntry) (v : State) (n : Nat) : Settled v (v.stitchHead layer es n) :=
    .ite (.refl v) (.ite (.update (.buildEntry (.update (.refl v)))) (.buildEntry (.update (.refl v))))
  unfold State.stitchLayer
  dsimp only
  split
  · exact h
  · exact .update (.foldl (head _ _) _ h)

/-- What IMAGE's end leaves before the cycle goes on (R29): a layer less, the phase at its end. -/
theorem State.imageEnd_goes {s : State} (hp : s.cyc.phase = .image) (hd : s.cyc.phaseDone = false) (hs : s.cyc.state = .armed)
    (hf : s.framesDone 2 true = true) : ∃ v : State, s.imageEnd = (if v.cyc.disarm.isSome then v.disarmNow else v.nextLayer) ∧
      v.cyc = { s.cyc with layersLeft := s.cyc.layersLeft - 1, phaseDone := true, hostPhase := none } ∧ v.svc = s.svc := by
  have now : ¬(s.cyc.phase ≠ .image ∨ s.cyc.phaseDone ∨ s.cyc.state ≠ .armed ∨ !s.framesDone 2 true) := by
    rintro (h | h | h | h)
    · exact h hp
    · exact absurd (hd.symm.trans h) (by decide)
    · exact h hs
    · exact absurd ((congrArg not hf).symm.trans h) (by decide)
  unfold State.imageEnd
  rw [if_neg now]
  extract_lets s1 s2 img s3
  have told : Settled s s1 := .update (.tellPeer (.layerSummary (.stitchLayer (.refl s))))
  clear_value s1
  obtain ⟨cyc, svc⟩ := (s1.setCyc fun (c : Cycle) => { c with layersLeft := c.layersLeft - 1 }).endPhase_settled
  have kept : Settled s2 s3 := .update (.refl s2)
  refine ⟨s3, rfl, kept.1.trans (cyc.trans ?_), kept.2.trans (svc.trans told.2)⟩
  exact congrArg (fun c : Cycle => { c with layersLeft := c.layersLeft - 1, phaseDone := true, hostPhase := none }) told.1

theorem imageEnd_continues {t : Nat} {s : State} (hup : s.up = true) (hs : s.cyc.state = .armed) (hp : s.cyc.phase = .image)
    (hd : s.cyc.phaseDone = false) (hf : s.framesDone 2 true = true) (hn : s.cyc.disarm = none) (host : s.hostCycle = false) :
    Reaches (.imageEnd t) s fun u => u.cyc.layersLeft = s.cyc.layersLeft - 1 ∧
      (1 < s.cyc.layersLeft → u.cyc.phase = .load) ∧ (s.cyc.layersLeft ≤ 1 → u.cyc.phase = .idle) := by
  obtain ⟨v, hv, cyc, svc⟩ := State.imageEnd_goes (s := s.at t) hp hd hs hf
  have none_ : v.cyc.disarm = none := (congrArg Cycle.disarm cyc).trans hn
  have left : v.cyc.layersLeft = s.cyc.layersLeft - 1 := congrArg Cycle.layersLeft cyc
  have hardware : v.hostCycle = false := (congrArg (fun x : Service => x.modes.testBit fnCycle) svc).trans host
  have next : v.nextLayer.cyc.layersLeft = v.cyc.layersLeft ∧ v.nextLayer.cyc.phase = if 0 < v.cyc.layersLeft then .load else .idle := by
    unfold State.nextLayer
    dsimp only
    rw [State.waitAt_cyc, hardware]
    split <;> simp [State.setCyc]
  obtain ⟨u, hu⟩ : ∃ u, u = v.nextLayer := ⟨_, rfl⟩
  rw [← hu, left] at next
  refine up_reaches (u := u) (rfl : _ = execImageEnd t s) hup (hv.trans ((if_neg (by rw [none_]; decide)).trans hu.symm))
    ⟨next.1, fun h => next.2.trans (if_pos (Nat.sub_pos_of_lt h)), fun h => next.2.trans (if_neg (by omega))⟩

theorem imageEnd_disarms {t : Nat} {s : State} (hup : s.up = true) (hs : s.cyc.state = .armed) (hp : s.cyc.phase = .image)
    (hd : s.cyc.phaseDone = false) (hf : s.framesDone 2 true = true) (ha : s.cyc.disarm.isSome) :
    Reaches (.imageEnd t) s fun u => u.cyc.state = .ready ∧ u.cyc.phase = .idle := by
  obtain ⟨v, hv, cyc, -⟩ := State.imageEnd_goes (s := s.at t) hp hd hs hf
  have asked : v.cyc.disarm.isSome = true := (congrArg (fun c : Cycle => c.disarm.isSome) cyc).trans ha
  have left := v.disarmNow_state
  obtain ⟨u, hu⟩ : ∃ u, u = v.disarmNow := ⟨_, rfl⟩
  rw [← hu] at left
  exact up_reaches (u := u) (rfl : _ = execImageEnd t s) hup (hv.trans ((if_pos asked).trans hu.symm)) left

/-- Settles O19: each phase's end is its own update of the cycle, after steps that leave the cycle and the service block alone. That LAYERS_LEFT falls
at the end of IMAGE is the model's choice (log entry 38). -/
theorem phasesFollow : Obligations.PhasesFollow := by
  unfold Obligations.PhasesFollow
  exact fun t s hup hs => ⟨kettleEnd_reaches hup hs, recoatStart_reaches hup hs, recoatEnd_reaches hup hs, imageEnd_continues hup hs,
    imageEnd_disarms hup hs⟩

end Sys2Proof.Machine
end

section
/-! PROOFS. Parameter writes: the values in force and the values that wait (15). -/

namespace Sys2Proof.Machine

/-! The parameter store. -/

theorem alGet_alSet_other {j k : Nat} (h : j ≠ k) (v : Nat) (l : List (Nat × Nat)) : alGet j (alSet k v l) = alGet j l := by
  induction l with
  | nil => simp [alSet, alGet, Ne.symm h]
  | cons e l ih =>
    obtain ⟨i, w⟩ := e
    simp only [alSet]
    split
    · simp [alGet, Ne.symm h]
    · split
      · next hi => simp [alGet, ← hi, Ne.symm h]
      · simp [alGet, ih]

theorem alGet_alDrop_same (k : Nat) (l : List (Nat × Nat)) : alGet k (alDrop k l) = none := by
  induction l with
  | nil => rfl
  | cons e l ih =>
    obtain ⟨i, w⟩ := e
    by_cases hi : i = k
    · simpa [alDrop, hi] using ih
    · simpa [alDrop, alGet, hi] using ih

theorem alGet_alDrop_other {j k : Nat} (h : j ≠ k) (l : List (Nat × Nat)) : alGet j (alDrop k l) = alGet j l := by
  induction l with
  | nil => rfl
  | cons e l ih =>
    obtain ⟨i, w⟩ := e
    by_cases hi : i = k
    · simpa [alDrop, alGet, hi, Ne.symm h] using ih
    · by_cases hj : i = j
      · simp [alDrop, alGet, hj, h]
      · simpa [alDrop, alGet, hi, hj] using ih

theorem parKey_injective {id a b : Nat} (h : parKey id a = parKey id b) : a = b := Nat.add_left_cancel h

/-- A written value is in force at its scope, whether the store holds it or it is the reset value (R407). -/
theorem State.setParam_param_same (id scope v : Nat) (s : State) : (s.setParam id scope v).param id scope = v := by
  unfold State.setParam State.param
  dsimp only
  split
  · next h => rw [alGet_alDrop_same, h]; rfl
  · rw [alGet_alSet_same]; rfl

theorem State.setParam_alGet_other {id scope k : Nat} (h : k ≠ parKey id scope) (v : Nat) (s : State) :
    alGet k (s.setParam id scope v).par = alGet k s.par := by
  unfold State.setParam
  dsimp only
  split
  · exact alGet_alDrop_other h _
  · exact alGet_alSet_other h _ _

theorem State.setParam_param_other {id a b : Nat} (h : a ≠ b) (v : Nat) (s : State) : (s.setParam id b v).param id a = s.param id a :=
  congrArg (·.getD (resetOf id)) (State.setParam_alGet_other (fun e => h (parKey_injective e)) v s)

/-! What a written value does beside being in force: of the store, it can change SPARE_MODE alone. -/

/-- `t` has the layer cycle of `s`, and its parameters but for SPARE_MODE. -/
def Tuned (s t : State) : Prop := t.cyc = s.cyc ∧ ∀ k, k ≠ parKey 0xA006 devScope → alGet k t.par = alGet k s.par

namespace Tuned

theorem refl (s : State) : Tuned s s := ⟨rfl, fun _ _ => rfl⟩

theorem trans {s t u : State} (h : Tuned s t) (g : Tuned t u) : Tuned s u := ⟨g.1.trans h.1, fun k hk => (g.2 k hk).trans (h.2 k hk)⟩

theorem ite {s t u : State} {c : Prop} [Decidable c] (ht : Tuned s t) (hu : Tuned s u) : Tuned s (if c then t else u) := by
  split
  · exact ht
  · exact hu

theorem of_replied {s t : State} (h : Replied s t) : Tuned s t := by
  obtain ⟨_, _, rfl⟩ := h.exists_eq
  exact refl s

theorem of_written {s t : State} (h : LayWritten s t) : Tuned s t := by
  obtain ⟨_, _, _, _, _, _, _, rfl⟩ := h
  exact refl s

theorem of_driven {s t : State} (h : Driven s t) : Tuned s t := by
  obtain ⟨_, _, _, _, rfl, _⟩ := h
  exact refl s

theorem of_told {s t : State} (h : PeerTold s t) : Tuned s t := by
  obtain ⟨_, _, rfl⟩ := h
  exact refl s

theorem of_moved {s t : State} (h : DmaMoved s t) : Tuned s t := by
  obtain ⟨_, _, _, _, rfl⟩ := h
  exact refl s

theorem of_relinked {s t : State} (h : Relinked s t) : Tuned s t := by
  obtain ⟨_, _, rfl⟩ := h
  exact refl s

variable {s t : State}

/-- A change of other fields. -/
theorem update {pending dt fresh tx parPending deferred otp host power svc recorder streams sig lay mps loop ledger img mot fbk emd dma int mem head las gut
    net pair dram flash} (h : Tuned s t) : Tuned s ⟨pending, dt, fresh, tx, t.par, parPending, deferred, otp, t.cyc, host, power, svc, recorder, streams,
      sig, lay, mps, loop, ledger, img, mot, fbk, emd, dma, int, mem, head, las, gut, net, pair, dram, flash⟩ := h

theorem foldl {α : Type} {f : State → α → State} (hf : ∀ (t : State) (a : α), Tuned t (f t a)) (l : List α) (h : Tuned s t) : Tuned s (l.foldl f t) :=
  trans h (foldl_related refl trans hf l t)

theorem complete {a st : Nat} {r : List Byte} (h : Tuned s t) : Tuned s (t.complete a st r) := h.trans (.of_replied (State.complete_replied ..))

theorem completeAll {l : List Nat} {st : Nat} (h : Tuned s t) : Tuned s (t.completeAll l st) := h.trans (.of_replied (State.completeAll_replied ..))

theorem buildEntry {type : Nat} {payload : List Byte} (h : Tuned s t) : Tuned s (t.buildEntry type payload) :=
  h.trans (.of_written (State.buildEntry_written ..))

theorem noteEmit (h : Tuned s t) : Tuned s t.noteEmit := by
  obtain ⟨_, he⟩ := t.noteEmit_noted
  rw [he]
  exact update h

theorem headStop {head cond : Nat} (h : Tuned s t) : Tuned s (t.headStop head cond) := by
  have done {v : State} (h : Tuned s v) : Tuned s v.noteDone := ite h (ite (update h) h)
  have lost {v : State} (h : Tuned s v) : Tuned s (v.loseHead head) := by
    have cut : Tuned s ((v.setLas head fun (x : LasHead) => { x with cut := true }).setLay (v.lay.loseHead v.layEnv head)) :=
      trans (update h) (of_written (State.setLay_written ..))
    exact ite h (done (ite (buildEntry cut) cut))
  have warned : Tuned s (t.lasWarn head cond 2) := buildEntry (update h)
  exact ite h (noteEmit (lost (update warned)))

/-! Feedback channels: a restart gives its trim up, and the value that SPARE_MODE waited for is in force (R324, R540). -/

theorem restartTrack {c : Nat} (h : Tuned s t) : Tuned s (t.restartTrack c) := update (foldl (fun v _ => update (refl v)) _ (update h))

theorem setSpare {v : Nat} (h : Tuned s t) : Tuned s (t.setSpare v) := by
  have set : Tuned s (t.setParam 0xA006 devScope v) := h.trans ⟨rfl, fun _ hk => State.setParam_alGet_other hk v t⟩
  exact ite h (restartTrack set)

theorem restartChannel {c : Nat} (h : Tuned s t) : Tuned s (t.restartChannel c) := by
  have done {u v : State} {kind : TrimKind} {st : Nat} (h : Tuned u v) : Tuned u (v.trimDone kind st) := by
    unfold State.trimDone
    split
    · exact complete h
    · exact h
  have noted {u v : State} {fe result residual : Nat} {candidate : List Int} (h : Tuned u v) : Tuned u (v.noteTrim fe result residual candidate) := update h
  have begun {u v : State} {fe : Nat} {kind : TrimKind} (h : Tuned u v) : Tuned u (v.beginTrim fe kind).1 := by
    unfold State.beginTrim
    split
    · exact update h
    · split
      · exact update h
      · exact noted h
  have next {u v : State} (n : Nat) (h : Tuned u v) : Tuned u (v.nextTrims n) := by
    induction n generalizing v with
    | zero => exact h
    | succ n ih =>
      unfold State.nextTrims
      dsimp only
      split
      · exact h
      · exact ite (ih (done (update h))) (ite (begun (update h)) (ih (done (begun (update h)))))
  have ended {u v : State} (h : Tuned u v) : Tuned u v.trimOver := next _ (foldl (fun v _ => complete (setSpare (refl v))) _ (update h))
  refine restartTrack ?_
  unfold State.abandonTrim
  split
  · exact ite (ended (done (noted h))) h
  · exact h

/-! The other values (Tables 03.12 to 18.9). -/

theorem loopCfgChanged {l old : Nat} (h : Tuned s t) : Tuned s (t.loopCfgChanged l old) := ite (update h) (ite (update h) h)

theorem loopParamEntry {l id : Nat} (h : Tuned s t) : Tuned s (t.loopParamEntry l id) := ite (buildEntry h) h

theorem cfgTaken {l old : Nat} (h : Tuned s t) : Tuned s (t.cfgTaken l old) := by
  have entered : Tuned s ((t.loopCfgChanged l old).loopParamEntry l (0x6400 + l)) := loopParamEntry (loopCfgChanged h)
  unfold State.cfgTaken
  refine ite ?_ entered
  split
  · exact update entered
  · exact entered

theorem fenceEffect {id scope old : Nat} (h : Tuned s t) : Tuned s (t.fenceEffect id scope old) :=
  ite (ite (update h) h) (ite (update h) (ite (noteEmit h) (ite (loopCfgChanged h) h)))

theorem dmaConfigured {c : Nat} (h : Tuned s t) : Tuned s (t.dmaConfigured c) := trans (update h) (of_moved (State.sourceLevel_moved ..))

theorem settingsWritten {p : Nat} {cam : Bool} (h : Tuned s t) : Tuned s (t.settingsWritten p cam) := by
  have kicked {v : State} (h : Tuned s v) : Tuned s (v.camKick p) := by
    unfold State.camKick
    dsimp only
    split
    · exact ite (update h) h
    · exact h
  exact ite (kicked (update h)) (update h)

theorem axisCfgWritten {a : Nat} (h : Tuned s t) : Tuned s (t.axisCfgWritten a) :=
  ite (ite (trans (update h) (of_driven (State.axisFault_driven ..))) (update h)) (update h)

theorem decelWritten {a : Nat} (h : Tuned s t) : Tuned s (t.decelWritten a) := by
  unfold State.decelWritten
  dsimp only
  split
  · exact h
  · exact ite h (ite (update h) (update h))

theorem limitsWritten {a : Nat} (h : Tuned s t) : Tuned s (t.limitsWritten a) := by
  have failed : Tuned s (t.failStep a) := h.trans (of_driven (State.failStep_driven ..))
  unfold State.limitsWritten
  dsimp only
  split
  · exact h
  · exact ite h (ite (update failed) (update h))

theorem emdKick {b : Nat} (h : Tuned s t) : Tuned s (t.emdKick b) := by
  unfold State.emdKick
  dsimp only
  refine ite h ?_
  split
  · exact h
  · exact ite (update h) (update h)

theorem busCfgWritten {b : Nat} (h : Tuned s t) : Tuned s (t.busCfgWritten b) := by
  have sends {u v : State} {ps : List (List Byte)} (h : Tuned u v) : Tuned u (v.emdSends b ps) := ite h (update h)
  have send {u v : State} {bs : List Byte} (h : Tuned u v) : Tuned u (v.emdSend b bs) := ite h (update h)
  have finished {u v : State} {k st : Nat} (h : Tuned u v) : Tuned u (v.finishLoads b k st) := completeAll (update h)
  have unlatched {u v : State} {st : Nat} {r : List Byte} (h : Tuned u v) : Tuned u (v.endLatch b st r) := by
    unfold State.endLatch
    split
    · exact complete (update h)
    · exact h
  have dark : Tuned s (t.emdDark b) := ite (send (update (unlatched h))) (update (unlatched h))
  exact ite (emdKick (update (sends (send dark)))) (update (finished (finished dark)))

theorem levelsWritten {b old : Nat} (h : Tuned s t) : Tuned s (t.levelsWritten b old) :=
  foldl (fun v _ => ite (refl v) (emdKick (update (refl v)))) _ h

theorem linkConfigured {n : Nat} (h : Tuned s t) : Tuned s (t.linkConfigured n) := by
  have ended : Tuned s (t.loopbackOff n) := by
    unfold State.loopbackOff
    split
    · exact complete (h.trans (of_relinked (State.toAcquire_relinked ..)))
    · exact h
  have followed := ended.trans (of_relinked (State.portFollow_relinked n _))
  exact ite (followed.trans (of_relinked (State.toAcquire_relinked ..))) followed

theorem roleWritten (h : Tuned s t) : Tuned s t.roleWritten :=
  ite (ite (update h) (update h)) (ite (h.trans (of_told (State.pairLink_told _))) h)

theorem refConfigured {old : Nat} (h : Tuned s t) : Tuned s (t.refConfigured old) := ite (ite (update h) (update h)) h

theorem endSessions (h : Tuned s t) : Tuned s t.endSessions := foldl (fun v _ => ite (update (refl v)) (refl v)) _ h

end Tuned

/-- An ID whose written value the store holds: no read offset, stream tail, bit that a 1 clears, slot release or SPARE_MODE (R407). -/
def Stored (id : Nat) : Prop :=
  readStream id = none ∧ id ∉ [0x2021, 0x800D, 0x9019, 0xA006, 0xA009, 0xA012] ∧ ¬ (0x6C00 ≤ id ∧ id ≤ 0x6CFF)

theorem State.takeValue_tuned {id : Nat} (stored : Stored id) (scope v : Nat) (s : State) : Tuned (s.setParam id scope v) (s.takeValue id scope v) := by
  obtain ⟨offset, kind, flags⟩ := stored
  unfold State.takeValue
  dsimp only
  generalize s.setParam id scope v = w
  have same : Tuned w w := .refl w
  split
  · exact .update same
  · exact .update same
  · next h _ _ => exact absurd (offset.symm.trans h) (by simp)
  · refine .ite (.cfgTaken same) ?_
    rw [if_neg flags]
    refine .ite (.loopParamEntry same) (.ite (.dmaConfigured same) ?_)
    split
    · exact absurd (by decide) kind
    · exact .update same
    · exact .update same
    · exact .settingsWritten same
    · exact .settingsWritten same
    · exact .settingsWritten same
    · exact .settingsWritten same
    · exact .update same
    · exact absurd (by decide) kind
    · exact .axisCfgWritten same
    · exact .decelWritten same
    · exact .limitsWritten same
    · exact .update same
    · exact absurd (by decide) kind
    · exact .restartChannel same
    · exact .restartChannel same
    · exact .update same
    · exact absurd (by decide) kind
    · exact absurd (by decide) kind
    · exact absurd (by decide) kind
    · exact .ite same (.busCfgWritten same)
    · exact .levelsWritten same
    · exact .linkConfigured same
    · exact .roleWritten same
    · exact .update same
    · exact .endSessions same
    · exact .refConfigured same
    · exact .fenceEffect same

/-! A value that takes effect is in force at its scope, and no other scope's value changes. -/

theorem Tuned.param_eq {s t : State} (h : Tuned s t) {id scope : Nat} (hid : id ≠ 0xA006) (hs : scope < 65536) : t.param id scope = s.param id scope := by
  refine congrArg (·.getD (resetOf id)) (h.2 _ fun e => hid ?_)
  unfold parKey devScope at e
  omega

theorem Tuned.inLayer_eq {s t : State} (h : Tuned s t) : t.inLayer = s.inLayer := congrArg (fun c : Cycle => c.state == .armed || c.state == .hold) h.1

theorem Stored.ne_spare {id : Nat} (stored : Stored id) : id ≠ 0xA006 := by
  rintro rfl
  exact stored.2.1 (by decide)

theorem State.takeValue_param {id : Nat} (stored : Stored id) {scope : Nat} (v : Nat) (s : State) {sc : Nat} (hs : sc < 65536) :
    (s.takeValue id scope v).param id sc = if sc = scope then v else s.param id sc := by
  rw [(State.takeValue_tuned stored scope v s).param_eq stored.ne_spare hs]
  split
  · next h => exact h ▸ State.setParam_param_same ..
  · next h => exact State.setParam_param_other h v s

theorem State.takeValue_inLayer {id : Nat} (stored : Stored id) (scope v : Nat) (s : State) : (s.takeValue id scope v).inLayer = s.inLayer :=
  (State.takeValue_tuned stored scope v s).inLayer_eq.trans rfl

theorem State.takeValues_param {id : Nat} (stored : Stored id) (v : Nat) {sc : Nat} (hs : sc < 65536) (l : List Nat) (s : State)
    (h : sc ∈ l ∨ s.param id sc = v) : (l.foldl (fun t n => t.takeValue id n v) s).param id sc = v := by
  induction l generalizing s with
  | nil => exact h.elim (fun h => by cases h) fun h => h
  | cons n l ih =>
    refine ih _ ?_
    by_cases hl : sc ∈ l
    · exact .inl hl
    · right
      rw [State.takeValue_param stored v s hs]
      split
      · rfl
      · next hn => exact h.resolve_left (by simp [hn, hl])

/-! The run of a write. -/

/-- A write works through its scopes; what of it waits is in force nowhere yet (R408). -/
theorem State.writeParam_par (acc id : Nat) (timing : Timing) (v : Nat) (scopes : List Nat) (s : State) :
    (s.writeParam acc id timing v scopes).1.par = (scopes.foldl (fun t n => (t.writeOne id timing v n).1) s).par := by
  unfold State.writeParam
  extract_lets step r
  have folds (l : List Nat) (a : State × List Nat) : (l.foldl step a).1 = l.foldl (fun t n => (t.writeOne id timing v n).1) a.1 := by
    induction l generalizing a with
    | nil => rfl
    | cons n l ih => exact ih _
  have done : r.1 = scopes.foldl (fun t n => (t.writeOne id timing v n).1) s := folds scopes (s, [])
  rw [← done]
  split <;> rfl

/-- A write that its table defers to the fence waits with every scope, and is in force at none (R408). -/
theorem State.writeParam_fence (acc id v : Nat) (scopes : List Nat) {s : State} (hl : s.inLayer = true) :
    (s.writeParam acc id .fence v scopes).1.par = s.par ∧ ∀ sc ∈ scopes, ∃ q ∈ (s.writeParam acc id .fence v scopes).1.parPending,
      q.id = id ∧ q.scope = sc ∧ q.value = v ∧ q.acc = acc := by
  have each (n : Nat) : s.writeOne id .fence v n = (s, true) := if_pos hl
  unfold State.writeParam
  extract_lets step r
  have folds (l ws : List Nat) : l.foldl step (s, ws) = (s, ws ++ l) := by
    induction l generalizing ws with
    | nil => simp
    | cons n l ih =>
      have stepped : step (s, ws) n = (s, ws ++ [n]) := by
        unfold step
        rw [each]
        rfl
      rw [List.foldl_cons, stepped, ih]
      simp
  have all : r = (s, scopes) := folds scopes []
  rw [all]
  cases scopes with
  | nil => exact ⟨rfl, fun _ h => by cases h⟩
  | cons n l =>
    refine ⟨rfl, fun sc h => ⟨{ id := id, scope := sc, value := v, acc := acc }, ?_, rfl, rfl, rfl, rfl⟩⟩
    exact List.mem_append_right _ (List.mem_map.2 ⟨(id, sc, v), List.mem_map.2 ⟨sc, h, rfl⟩, rfl⟩)

/-- Outside ARMED and HOLD each value takes effect at once (R407); EMIT_MASK and LOOP.CFG are the device's own. -/
theorem State.writeOne_now {id : Nat} {timing : Timing} (v : Nat) {n : Nat} {s : State} (hl : s.inLayer = false)
    (own : timing = .own → id = 0x3001 ∨ isLoopCfg id → n = devScope) : (s.writeOne id timing v n).1 = s.takeValue id n v := by
  unfold State.writeOne
  cases timing with
  | now => rfl
  | fence => exact congrArg Prod.fst (if_neg (hl ▸ Bool.false_ne_true))
  | own =>
    have now : ¬ s.inLayer = true := hl ▸ Bool.false_ne_true
    dsimp only
    split
    · next h =>
      subst h
      exact congrArg Prod.fst (if_pos (by rw [hl]; rfl))
    · split
      · next h =>
        subst h
        rw [own rfl (.inl rfl)]
        exact congrArg Prod.fst (if_pos (by rw [hl]; rfl))
      · split
        · next h =>
          rw [own rfl (.inr h)]
          exact congrArg Prod.fst (if_pos (by rw [hl]; rfl))
        · rw [if_neg fun h => now h.2.2]

theorem State.writeOnes_now {id : Nat} (stored : Stored id) {timing : Timing} (v : Nat) {l : List Nat} {s : State} (hl : s.inLayer = false)
    (own : timing = .own → id = 0x3001 ∨ isLoopCfg id → ∀ n ∈ l, n = devScope) :
    l.foldl (fun t n => (t.writeOne id timing v n).1) s = l.foldl (fun t n => t.takeValue id n v) s := by
  induction l generalizing s with
  | nil => rfl
  | cons n l ih =>
    rw [List.foldl_cons, List.foldl_cons, State.writeOne_now v hl fun h h' => own h h' n (by simp)]
    exact ih ((State.takeValue_inLayer stored n v s).trans hl) fun h h' m hm => own h h' m (by simp [hm])

theorem paramSet_run {acc : Nat} {p : Packet} {s : State} {r : ParamRow} (hr : rowOf p.paramId = some r) (hs : p.paramId ≠ 0xA006) :
    (paramSetSpec.run acc p s).1 = (s.writeParam acc p.paramId r.timing (p.fld 8 r.size) (s.scopesOf r p.scope)).1 := by
  unfold paramSetSpec
  dsimp only
  rw [hr]
  dsimp only
  rw [if_neg fun h => hs h.1]
  split <;> rfl

/-! The scopes of a write that starts (R404). -/

theorem paramSet_scope {p : Packet} {s : State} {r : ParamRow} (h : startsNow paramSetSpec p s = true) (hr : rowOf p.paramId = some r) :
    s.scopeBad r p.paramId p.scope = false := by
  have checked := (checks_of h).2.1
  obtain ⟨_, ht⟩ := taken_eq p s
  rw [ht] at checked
  unfold paramSetSpec at checked
  dsimp only at checked
  rw [hr] at checked
  have passed := firstFail_none checked (x := (_, stRange)) (List.mem_cons_of_mem _ (List.mem_cons_of_mem _ (List.mem_cons_self ..)))
  simp only [Bool.or_eq_false_iff] at passed
  exact passed.1.1

/-- A scope that the row's kind allows (R404, Table 15.1). -/
theorem State.scopesOf_lt {s : State} {r : ParamRow} {id scope : Nat} (hs : s.scopeBad r id scope = false) : ∀ n ∈ s.scopesOf r scope, n < 65536 := by
  have few : s.heads ≤ 32 := by
    unfold State.heads
    cases s.otp.grade <;> decide
  have bounded : scope < 65536 := by
    cases hk : r.scope with
    | device | loop | head | axis | channel | bus =>
      simp [State.scopeBad, hk] at hs
      omega
    | port =>
      simp [State.scopeBad, hk] at hs
      split at hs <;> omega
  intro n hn
  unfold State.scopesOf at hn
  split at hn
  · have := List.mem_range.1 hn
    omega
  · exact List.mem_singleton.1 hn ▸ bounded

/-- A value of the device has its own scope alone. -/
theorem State.scopesOf_own {s : State} {r : ParamRow} {id scope : Nat} (hs : s.scopeBad r id scope = false) (own : r.scope = .device ∨ r.scope = .loop) :
    ∀ n ∈ s.scopesOf r scope, n = devScope := by
  intro n hn
  rcases own with hk | hk
  · simp [State.scopesOf, State.scopeBad, hk] at hn hs
    exact hn.trans hs
  · simp [State.scopesOf, State.scopeBad, hk] at hn hs
    exact hn.trans hs

/-- EMIT_MASK and LOOP.CFG are the device's (Tables 04.8 and 07.14). -/
theorem rowOf_own {id : Nat} {r : ParamRow} (hr : rowOf id = some r) (h : id = 0x3001 ∨ isLoopCfg id) : r.scope = .device ∨ r.scope = .loop := by
  rcases h with rfl | h
  · have row : ((rowOf 0x3001).map fun r => r.scope) = some .device := by decide
    rw [hr] at row
    exact .inl (Option.some.inj row)
  · obtain ⟨low, high⟩ := of_decide_eq_true h
    have base : id / 256 * 256 = 0x6400 := by omega
    unfold rowOf at hr
    rw [if_pos (by omega), base] at hr
    exact .inr (Option.some.inj hr ▸ rfl)

/-! The commands. -/

theorem State.param_of_par {s t : State} (h : t.par = s.par) (id scope : Nat) : t.param id scope = s.param id scope :=
  congrArg (fun l => (alGet (parKey id scope) l).getD (resetOf id)) h

theorem Replied.par_eq {s t : State} (h : Replied s t) : t.par = s.par ∧ t.parPending = s.parPending := by
  obtain ⟨_, _, rfl⟩ := h.exists_eq
  exact ⟨rfl, rfl⟩

theorem running_par (c : CmdSpec) (p : Packet) (s : State) : (running c p s).par = s.par ∧ (running c p s).inLayer = s.inLayer ∧
    ∀ r scope, (running c p s).scopesOf r scope = s.scopesOf r scope := by
  obtain ⟨_, _, _, _, _, hr⟩ := running_host c p s
  rw [hr]
  exact ⟨rfl, rfl, fun _ _ => rfl⟩

/-- A write that starts and is not of SPARE_MODE, up to the store it leaves. -/
theorem paramSet_reaches {i : Instr} {p : Packet} {s : State} {r : ParamRow} {P : List (Nat × Nat) → List PendingPar → Prop}
    (hx : exec i s = serve paramSetSpec p s) (h : startsNow paramSetSpec p s = true) (hr : rowOf p.paramId = some r) (hs : p.paramId ≠ 0xA006)
    (hP : P ((running paramSetSpec p s).writeParam s.host.nextAcc p.paramId r.timing (p.fld 8 r.size) (s.scopesOf r p.scope)).1.par
      ((running paramSetSpec p s).writeParam s.host.nextAcc p.paramId r.timing (p.fld 8 r.size) (s.scopesOf r p.scope)).1.parPending) :
    Reaches i s fun t => P t.par t.parPending := by
  refine served_ran hx h fun t ht => ?_
  rw [paramSet_run hr hs, (running_par paramSetSpec p s).2.2] at ht
  obtain ⟨par, waits⟩ := ht.par_eq
  dsimp only
  rw [par, waits]
  exact hP

theorem paramSet_now {i : Instr} {p : Packet} {s : State} {r : ParamRow} (hx : exec i s = serve paramSetSpec p s) (h : startsNow paramSetSpec p s = true)
    (hr : rowOf p.paramId = some r) (armed : s.cyc.state ≠ .armed) (hold : s.cyc.state ≠ .hold) (stored : Stored p.paramId) :
    Reaches i s fun t => ∀ sc ∈ s.scopesOf r p.scope, t.param p.paramId sc = p.fld 8 r.size := by
  have bad := paramSet_scope h hr
  have out : (running paramSetSpec p s).inLayer = false := by
    rw [(running_par paramSetSpec p s).2.1]
    simp [State.inLayer, armed, hold]
  refine paramSet_reaches (P := fun par _ => ∀ sc ∈ s.scopesOf r p.scope, (alGet (parKey p.paramId sc) par).getD (resetOf p.paramId) = p.fld 8 r.size)
    hx h hr stored.ne_spare fun sc hsc => ?_
  rw [State.writeParam_par, State.writeOnes_now stored _ out fun _ own => State.scopesOf_own bad (rowOf_own hr own)]
  exact State.takeValues_param stored _ (State.scopesOf_lt bad sc hsc) _ _ (.inl hsc)

theorem State.inLayer_of {s : State} (layer : s.cyc.state = .armed ∨ s.cyc.state = .hold) : s.inLayer = true := by
  unfold State.inLayer
  rcases layer with hs | hs <;> rw [hs] <;> rfl

/-- A write that its table defers waits in ARMED and HOLD (R408). -/
theorem paramSet_defers {p : Packet} {s : State} {r : ParamRow} (h : startsNow paramSetSpec p s = true) (hr : rowOf p.paramId = some r)
    (layer : s.cyc.state = .armed ∨ s.cyc.state = .hold) (fence : r.timing = .fence) : Reaches (.paramSet p) s fun t => t.par = s.par ∧
      ∀ sc ∈ s.scopesOf r p.scope, ∃ q ∈ t.parPending, q.id = p.paramId ∧ q.scope = sc ∧ q.value = p.fld 8 r.size ∧ q.acc = s.host.nextAcc := by
  have inside : (running paramSetSpec p s).inLayer = true := (running_par paramSetSpec p s).2.1.trans (State.inLayer_of layer)
  have spare : p.paramId ≠ 0xA006 := by
    intro e
    have row : ((rowOf 0xA006).map fun r => r.timing) = some .own := by decide
    rw [← e, hr] at row
    exact absurd (fence.symm.trans (Option.some.inj row)) (by decide)
  refine paramSet_reaches (P := fun par waits => par = s.par ∧
    ∀ sc ∈ s.scopesOf r p.scope, ∃ q ∈ waits, q.id = p.paramId ∧ q.scope = sc ∧ q.value = p.fld 8 r.size ∧ q.acc = s.host.nextAcc)
    (rfl : _ = serve paramSetSpec p s) h hr spare ?_
  obtain ⟨par, waits⟩ := State.writeParam_fence s.host.nextAcc p.paramId (p.fld 8 r.size) (s.scopesOf r p.scope) inside
  rw [fence]
  exact ⟨par.trans (running_par paramSetSpec p s).1, waits⟩

/-! The parts that act at once (R129, R589). -/

theorem State.powerMax_folds (v sc : Nat) (l : List Nat) {s : State} (hl : s.inLayer = true) :
    (l.foldl (fun t n => (t.writeOne 0x3000 .own v n).1) s).param 0x3000 sc = if sc ∈ l then min (s.param 0x3000 sc) v else s.param 0x3000 sc := by
  induction l generalizing s with
  | nil => rfl
  | cons n l ih =>
    have each : (s.writeOne 0x3000 .own v n).1 = s.setParam 0x3000 n (min (s.param 0x3000 n) v) := congrArg Prod.fst (if_neg (by rw [hl]; decide))
    have inside : (s.setParam 0x3000 n (min (s.param 0x3000 n) v)).inLayer = true := hl
    rw [List.foldl_cons, each, ih inside]
    by_cases hn : sc = n
    · subst hn
      rw [State.setParam_param_same]
      simp
    · rw [State.setParam_param_other hn]
      simp [hn]

theorem lasPowerMaxWrite_reaches {p : Packet} {s : State} {r : ParamRow} (h : startsNow paramSetSpec p s = true) (hr : rowOf p.paramId = some r)
    (layer : s.cyc.state = .armed ∨ s.cyc.state = .hold) (hid : p.paramId = 0x3000) : Reaches (.lasPowerMaxWrite p) s fun t =>
      ∀ sc ∈ s.scopesOf r p.scope, t.param 0x3000 sc = min (s.param 0x3000 sc) (p.fld 8 r.size) := by
  obtain ⟨par, inLayer, -⟩ := running_par paramSetSpec p s
  have inside : (running paramSetSpec p s).inLayer = true := inLayer.trans (State.inLayer_of layer)
  have own : r.timing = .own := by
    have row : ((rowOf 0x3000).map fun r => r.timing) = some .own := by decide
    rw [← hid, hr] at row
    exact Option.some.inj row
  refine paramSet_reaches (P := fun par _ => ∀ sc ∈ s.scopesOf r p.scope,
    (alGet (parKey 0x3000 sc) par).getD (resetOf 0x3000) = min (s.param 0x3000 sc) (p.fld 8 r.size))
    (rfl : _ = serve paramSetSpec p s) h hr (hid ▸ by decide) fun sc hsc => ?_
  rw [State.writeParam_par, own, hid, ← State.param_of_par par]
  exact (State.powerMax_folds _ sc _ inside).trans (if_pos hsc)

/-- The cleared bits of EMIT_MASK act at once; the heads they stop leave the parameters (R589). -/
theorem State.setEmitMask_mask (v : Nat) {s : State} (hl : s.inLayer = true) : (s.setEmitMask v).1.dparam 0x3001 = s.dparam 0x3001 &&& v := by
  obtain ⟨w, hw⟩ : ∃ w, w = s.setParam 0x3001 devScope (s.dparam 0x3001 &&& v) := ⟨_, rfl⟩
  have masked : w.dparam 0x3001 = s.dparam 0x3001 &&& v := hw ▸ State.setParam_param_same ..
  have cut : (s.setEmitMask v).1 = (w.stopMask (clearBits (s.dparam 0x3001) v)).noteEmit := by
    rw [hw]
    exact congrArg Prod.fst (if_neg (by rw [hl]; decide))
  have stopped : Tuned w (w.stopMask (clearBits (s.dparam 0x3001) v)).noteEmit := .noteEmit (.foldl (fun u _ => .ite (.headStop (.refl u)) (.refl u)) _ (.refl w))
  rw [cut, ← masked]
  exact stopped.param_eq (by decide) (by decide)

theorem lasEmitMaskWrite_reaches {p : Packet} {s : State} {r : ParamRow} (h : startsNow paramSetSpec p s = true) (hr : rowOf p.paramId = some r)
    (layer : s.cyc.state = .armed ∨ s.cyc.state = .hold) (hid : p.paramId = 0x3001) : Reaches (.lasEmitMaskWrite p) s fun t =>
      t.dparam 0x3001 = s.dparam 0x3001 &&& p.fld 8 r.size := by
  obtain ⟨par, inLayer, -⟩ := running_par paramSetSpec p s
  obtain ⟨own, device⟩ : r.timing = .own ∧ r.scope = .device := by
    have row : ((rowOf 0x3001).map fun r => (r.timing, r.scope)) = some (.own, .device) := by decide
    rw [← hid, hr] at row
    exact Prod.mk.inj (Option.some.inj row)
  have scopes : s.scopesOf r p.scope = [p.scope] := by
    unfold State.scopesOf
    rw [device]
    rfl
  refine paramSet_reaches (P := fun par _ => (alGet (parKey 0x3001 devScope) par).getD (resetOf 0x3001) = s.dparam 0x3001 &&& p.fld 8 r.size)
    (rfl : _ = serve paramSetSpec p s) h hr (hid ▸ by decide) ?_
  rw [State.writeParam_par, own, hid, scopes, State.dparam, ← State.param_of_par par]
  exact State.setEmitMask_mask (p.fld 8 r.size) (inLayer.trans (State.inLayer_of layer))

/-- A write that has a row of its own is a PARAM_SET. -/
theorem paramWrite_serves {i : Instr} {p : Packet}
    (hi : i ∈ [Instr.paramSet p, .sigLongWrite p, .lasPowerMaxWrite p, .lasEmitMaskWrite p, .ldgOriginWrite p, .ringParamWrite p, .motDecelWrite p,
      .motJerkWrite p, .motLimitsWrite p, .fbkChannelCfgWrite p, .fbkDividerWrite p, .imgPortCfgWrite p, .imgSettingsWrite p, .emdBusCfgWrite p,
      .emdLevelsWrite p, .hlkPortCfgWrite p, .netPortCfgWrite p, .pairRoleWrite p, .dmaChannelCfgWrite p]) (s : State) :
    exec i s = serve paramSetSpec p s := by
  simp only [List.mem_cons, List.not_mem_nil, or_false] at hi
  rcases hi with rfl | rfl | rfl | rfl | rfl | rfl | rfl | rfl | rfl | rfl | rfl | rfl | rfl | rfl | rfl | rfl | rfl | rfl | rfl <;> rfl

/-- Settles O36: outside ARMED and HOLD every scope takes the value, which what it does beside leaves in the store; in them a deferred write waits. -/
theorem parameterValuesAct : Obligations.ParameterValuesAct := by
  unfold Obligations.ParameterValuesAct
  exact ⟨fun i p s r hi h hr armed hold offset kind flags => paramSet_now (paramWrite_serves hi s) h hr armed hold ⟨offset, kind, flags⟩,
    fun p s r h hr layer => ⟨paramSet_defers h hr layer, lasPowerMaxWrite_reaches h hr layer, lasEmitMaskWrite_reaches h hr layer⟩⟩

end Sys2Proof.Machine
end
